-- ==== Sys2Proof/Word.lean ====
section
/-!
DEFINITION. The plainest data of the model: bytes, words, little-endian byte strings (R3), the place of
a register field, and the sparse table that holds every numbered family of like things.
-/
namespace Sys2Proof

abbrev Byte := BitVec 8
abbrev W64 := BitVec 64
abbrev Bytes := List Byte

/-- A bit field: its lowest bit and its width (R3: bit 0 is the least significant). -/
structure Fld where
  lo : Nat
  len : Nat
  deriving DecidableEq, Repr

/-- A sparse table: entries in rising key order, none equal to the family's default. -/
abbrev Tbl (α : Type) := List (Nat × α)

namespace Tbl
variable {α : Type}

/-- The entry of key `k`, or the default `d`. -/
def get (d : α) : Tbl α → Nat → α
  | [], _ => d
  | (k', v) :: t, k => if k' = k then v else get d t k

/-- Remove every entry of key `k`. -/
def del : Tbl α → Nat → Tbl α
  | [], _ => []
  | (k', v) :: t, k => if k' = k then del t k else (k', v) :: del t k

/-- Put an entry in rising key order, replacing the one of the same key. -/
def ins : Tbl α → Nat → α → Tbl α
  | [], k, v => [(k, v)]
  | (k', v') :: t, k, v =>
    if k' = k then (k, v) :: t
    else if k < k' then (k, v) :: (k', v') :: t
    else (k', v') :: ins t k v

/-- Set key `k` to `v`; a value equal to the default is not listed. -/
def set [DecidableEq α] (d : α) (t : Tbl α) (k : Nat) (v : α) : Tbl α :=
  if v = d then del t k else ins t k v

/-- The canonical form: keys strictly rise, and no entry equals the default. -/
def wf [DecidableEq α] (d : α) : Tbl α → Bool
  | [] => true
  | [(_, v)] => decide (v ≠ d)
  | (k, v) :: (k', v') :: t => decide (v ≠ d) && decide (k < k') && wf d ((k', v') :: t)

end Tbl

/-- Little-endian bytes of a number, `n` of them (R3). -/
def leBytes : Nat → Nat → Bytes
  | 0, _ => []
  | n + 1, v => BitVec.ofNat 8 v :: leBytes n (v / 256)

/-- The number a little-endian byte string spells (R3). -/
def ofLe : Bytes → Nat
  | [] => 0
  | b :: t => b.toNat + 256 * ofLe t

/-- Big-endian bytes of a number (R3: only where a published standard says so). -/
def beBytes (n v : Nat) : Bytes := (leBytes n v).reverse

/-- `n` bytes of `l` from offset `o`, short at its end. -/
def slice (l : Bytes) (o n : Nat) : Bytes := (l.drop o).take n

/-- The little-endian number at offset `o`, `n` bytes wide; absent bytes read zero. -/
def leAt (l : Bytes) (o n : Nat) : Nat := ofLe (slice l o n)

def zeros (n : Nat) : Bytes := List.replicate n 0

/-- `l` cut or zero-padded to `n` bytes. -/
def padTo (n : Nat) (l : Bytes) : Bytes := (l ++ zeros (n - l.length)).take n

end Sys2Proof
end

