-- ==== Sys2Proof/Machine/Crypto.lean ====
section
/-!
DEFINITION. The published algorithms the manual names, computed exactly: CRC-32C and CRC-32, Adler-32,
AES-256 with GCM and XTS, SHA-384, HMAC-SHA-384 and HKDF-SHA-384 (R35, R262, R263, R282, R319, R320).
The standards that define them are the manual's own references; the constants come from those standards.
-/
namespace Sys2Proof.Machine.Crypto
open Sys2Proof

/-- Table-free reflected CRC step of one bit. -/
def crcBit (poly c : Nat) : Nat := if c % 2 = 1 then (c / 2) ^^^ poly else c / 2

def crcByte (poly c : Nat) (b : Byte) : Nat :=
  let x := c ^^^ b.toNat
  crcBit poly (crcBit poly (crcBit poly (crcBit poly (crcBit poly (crcBit poly (crcBit poly (crcBit poly x)))))))

def crcWith (poly : Nat) (l : Bytes) : Nat := (l.foldl (crcByte poly) 0xFFFFFFFF) ^^^ 0xFFFFFFFF
/-- CRC-32C (Castagnoli), as the journal, Surex and the Resync Summary use it. Log 8 (DESIGN CHOICE). -/
def crc32c (l : Bytes) : Nat := crcWith 0x82F63B78 l
/-- CRC-32 (IEEE), as gzip and the Ethernet FCS use it. -/
def crc32 (l : Bytes) : Nat := crcWith 0xEDB88320 l
/-- Adler-32, as zlib uses it (RFC 1950). -/
def adler32 (l : Bytes) : Nat :=
  let p := l.foldl (fun (p : Nat × Nat) b => let a := (p.1 + b.toNat) % 65521; (a, (p.2 + a) % 65521)) (1, 0)
  p.2 * 65536 + p.1

/-! AES-256 (FIPS 197) -/

def xtime (b : Nat) : Nat := let x := b * 2; if x ≥ 256 then (x ^^^ 0x11B) % 256 else x
/-- Product in the AES field. -/
def gmul (a b : Nat) : Nat :=
  ((List.range 8).foldl (fun (p : Nat × Nat) i => (if b.testBit i then p.1 ^^^ p.2 else p.1, xtime p.2)) (0, a)).1

def sboxT : Array Nat := #[
  0x63,0x7c,0x77,0x7b,0xf2,0x6b,0x6f,0xc5,0x30,0x01,0x67,0x2b,0xfe,0xd7,0xab,0x76,
  0xca,0x82,0xc9,0x7d,0xfa,0x59,0x47,0xf0,0xad,0xd4,0xa2,0xaf,0x9c,0xa4,0x72,0xc0,
  0xb7,0xfd,0x93,0x26,0x36,0x3f,0xf7,0xcc,0x34,0xa5,0xe5,0xf1,0x71,0xd8,0x31,0x15,
  0x04,0xc7,0x23,0xc3,0x18,0x96,0x05,0x9a,0x07,0x12,0x80,0xe2,0xeb,0x27,0xb2,0x75,
  0x09,0x83,0x2c,0x1a,0x1b,0x6e,0x5a,0xa0,0x52,0x3b,0xd6,0xb3,0x29,0xe3,0x2f,0x84,
  0x53,0xd1,0x00,0xed,0x20,0xfc,0xb1,0x5b,0x6a,0xcb,0xbe,0x39,0x4a,0x4c,0x58,0xcf,
  0xd0,0xef,0xaa,0xfb,0x43,0x4d,0x33,0x85,0x45,0xf9,0x02,0x7f,0x50,0x3c,0x9f,0xa8,
  0x51,0xa3,0x40,0x8f,0x92,0x9d,0x38,0xf5,0xbc,0xb6,0xda,0x21,0x10,0xff,0xf3,0xd2,
  0xcd,0x0c,0x13,0xec,0x5f,0x97,0x44,0x17,0xc4,0xa7,0x7e,0x3d,0x64,0x5d,0x19,0x73,
  0x60,0x81,0x4f,0xdc,0x22,0x2a,0x90,0x88,0x46,0xee,0xb8,0x14,0xde,0x5e,0x0b,0xdb,
  0xe0,0x32,0x3a,0x0a,0x49,0x06,0x24,0x5c,0xc2,0xd3,0xac,0x62,0x91,0x95,0xe4,0x79,
  0xe7,0xc8,0x37,0x6d,0x8d,0xd5,0x4e,0xa9,0x6c,0x56,0xf4,0xea,0x65,0x7a,0xae,0x08,
  0xba,0x78,0x25,0x2e,0x1c,0xa6,0xb4,0xc6,0xe8,0xdd,0x74,0x1f,0x4b,0xbd,0x8b,0x8a,
  0x70,0x3e,0xb5,0x66,0x48,0x03,0xf6,0x0e,0x61,0x35,0x57,0xb9,0x86,0xc1,0x1d,0x9e,
  0xe1,0xf8,0x98,0x11,0x69,0xd9,0x8e,0x94,0x9b,0x1e,0x87,0xe9,0xce,0x55,0x28,0xdf,
  0x8c,0xa1,0x89,0x0d,0xbf,0xe6,0x42,0x68,0x41,0x99,0x2d,0x0f,0xb0,0x54,0xbb,0x16]

def sbox (x : Nat) : Nat := sboxT.getD x 0
/-- Inverse substitution: the index whose substitution is `y`. -/
def invSbox (y : Nat) : Nat := (sboxT.findIdx (· = y)) % 256

/-- Words of the AES-256 key schedule, each four bytes, newest first. -/
def expandStep (ws : List (List Nat)) (i : Nat) : List (List Nat) :=
  let prev := ws.headD []
  let back := ws.getD 7 []
  let t :=
    if i % 8 = 0 then
      let r := (prev.drop 1 ++ prev.take 1).map sbox
      let rcon := (List.range (i / 8 - 1)).foldl (fun c _ => xtime c) 1
      r.zipWith (· ^^^ ·) [rcon, 0, 0, 0]
    else if i % 8 = 4 then prev.map sbox else prev
  (back.zipWith (· ^^^ ·) t) :: ws

def chunk4 : List Nat → List (List Nat)
  | a :: b :: c :: d :: t => [a, b, c, d] :: chunk4 t
  | _ => []

/-- The 15 round keys of a 32-byte key, in order. -/
def keySchedule (key : List Nat) : List (List Nat) :=
  let ws := (List.range 52).foldl (fun ws i => expandStep ws (i + 8)) (chunk4 key).reverse
  let flat := ws.reverse.flatten
  (List.range 15).map (fun r => (flat.drop (16 * r)).take 16)

def xorL (a b : List Nat) : List Nat := a.zipWith (· ^^^ ·) b

def shiftRows (s : List Nat) : List Nat :=
  (List.range 16).map (fun i => s.getD ((i + 4 * (i % 4)) % 16) 0)
def invShiftRows (s : List Nat) : List Nat :=
  (List.range 16).map (fun i => s.getD ((i + 16 - 4 * (i % 4)) % 16) 0)

def mixWith (c : List Nat) (col : List Nat) : List Nat :=
  (List.range 4).map (fun r =>
    (List.range 4).foldl (fun a j => a ^^^ gmul (c.getD ((j + 4 - r) % 4) 0) (col.getD j 0)) 0)
def mixCols (c : List Nat) (s : List Nat) : List Nat := ((chunk4 s).map (mixWith c)).flatten

/-- One block of AES-256 encryption. Log 8 (DESIGN CHOICE). -/
def aesEnc (key block : List Nat) : List Nat :=
  let ks := keySchedule key
  let s0 := xorL block (ks.headD [])
  let mid := (ks.drop 1).take 13
  let s := mid.foldl (fun s k => xorL (mixCols [2, 3, 1, 1] (shiftRows (s.map sbox))) k) s0
  xorL (shiftRows (s.map sbox)) (ks.getD 14 [])

/-- One block of AES-256 decryption. -/
def aesDec (key block : List Nat) : List Nat :=
  let ks := keySchedule key
  let s0 := (invShiftRows (xorL block (ks.getD 14 []))).map invSbox
  let mid := ((ks.drop 1).take 13).reverse
  let s := mid.foldl (fun s k => (invShiftRows (mixCols [14, 11, 13, 9] (xorL s k))).map invSbox) s0
  xorL s (ks.headD [])

def toNats (l : Bytes) : List Nat := l.map (·.toNat)
def toBytes (l : List Nat) : Bytes := l.map (BitVec.ofNat 8)

/-- Pieces of `n` bytes, the last one short. -/
def pieces (n : Nat) (l : Bytes) : List Bytes :=
  (List.range ((l.length + n - 1) / n)).map (fun i => slice l (i * n) n)

def beNat (l : List Nat) : Nat := l.foldl (fun a b => a * 256 + b) 0
def natBe (n v : Nat) : List Nat := (List.range n).map (fun i => v >>> (8 * (n - 1 - i)) % 256)

/-! GCM (SP 800-38D) -/

/-- Product in GF(2^128), bit 0 the most significant. -/
def ghMul (x y : Nat) : Nat :=
  ((List.range 128).foldl (fun (p : Nat × Nat) i =>
    (if x.testBit (127 - i) then p.1 ^^^ p.2 else p.1,
     if p.2 % 2 = 1 then (p.2 / 2) ^^^ (0xE1 <<< 120) else p.2 / 2)) (0, y)).1

def ghash (h : Nat) (blocks : List Bytes) : Nat :=
  blocks.foldl (fun y b => ghMul (y ^^^ beNat (toNats (padTo 16 b))) h) 0

def ctrXor (key : Bytes) (j0 : Nat) (l : Bytes) : Bytes :=
  ((pieces 16 l).zipIdx.map (fun p =>
    let c := (j0 / 2 ^ 32) * 2 ^ 32 + (j0 + 1 + p.2) % 2 ^ 32
    toBytes (xorL (toNats p.1) (aesEnc (toNats key) (natBe 16 c))))).flatten

def gcmTag (key iv aad ct : Bytes) : Bytes :=
  let h := beNat (aesEnc (toNats key) (List.replicate 16 0))
  let j0 := beNat (toNats iv) * 2 ^ 32 + 1
  let lens := natBe 8 (8 * aad.length) ++ natBe 8 (8 * ct.length)
  let s := ghash h (pieces 16 aad ++ pieces 16 ct ++ [toBytes lens])
  toBytes (xorL (natBe 16 s) (aesEnc (toNats key) (natBe 16 j0)))

/-- AES-256-GCM with a 12-byte IV: ciphertext and 16-byte tag. Log 8 (DESIGN CHOICE). -/
def gcmEnc (key iv aad pt : Bytes) : Bytes × Bytes :=
  let ct := ctrXor key (beNat (toNats iv) * 2 ^ 32 + 1) pt
  (ct, gcmTag key iv aad ct)

/-- AES-256-GCM decryption, `none` where the tag fails. -/
def gcmDec (key iv aad ct tag : Bytes) : Option Bytes :=
  if gcmTag key iv aad ct = tag then some (ctrXor key (beNat (toNats iv) * 2 ^ 32 + 1) ct) else none

/-! XTS (IEEE 1619) -/

/-- Next tweak: doubling of a little-endian 128-bit number. -/
def xtsNext (t : Nat) : Nat :=
  let d := t * 2
  if d ≥ 2 ^ 128 then (d % 2 ^ 128) ^^^ 0x87 else d

def leNats (n v : Nat) : List Nat := (List.range n).map (fun i => v >>> (8 * i) % 256)
def natLe (l : List Nat) : Nat := l.reverse.foldl (fun a b => a * 256 + b) 0

/-- XTS over one data unit whose length is a multiple of 16 bytes; `enc` chooses the direction.
Log 8 (DESIGN CHOICE). -/
def xtsUnit (enc : Bool) (key1 key2 : Bytes) (tweak : Nat) (l : Bytes) : Bytes :=
  let t0 := natLe (aesEnc (toNats key2) (leNats 16 tweak))
  ((pieces 16 l).foldl (fun (p : Nat × List Bytes) b =>
    let t := leNats 16 p.1
    let x := xorL (toNats (padTo 16 b)) t
    let y := if enc then aesEnc (toNats key1) x else aesDec (toNats key1) x
    (xtsNext p.1, toBytes (xorL y t) :: p.2)) (t0, [])).2.reverse.flatten

/-! SHA-384 (FIPS 180-4) -/

/-- The first 64 bits of the fractional part of the `k`-th root of `p`, found bit by bit from the top. -/
def rootBits (k p : Nat) : W64 :=
  BitVec.ofNat 64 ((List.range 69).foldr (fun i r => if (r + 2 ^ i) ^ k ≤ p * 2 ^ (64 * k) then r + 2 ^ i else r) 0)

/-- The primes below `n`. -/
def primesBelow (n : Nat) : List Nat :=
  (List.range n).filter (fun p => decide (2 ≤ p) && (List.range p).all (fun d => decide (d < 2) || p % d != 0))

/-- Round constants: the cube roots of the first eighty primes. -/
def roundBits : List W64 := (primesBelow 410).map (rootBits 3)

/-- Initial value of SHA-384: the square roots of the ninth to the sixteenth prime. -/
def startBits : List W64 := ((primesBelow 54).drop 8).map (rootBits 2)

/-- The exclusive or of a word turned right by each of some distances. -/
def turned (x : W64) (by_ : List Nat) : W64 := by_.foldl (fun v n => v ^^^ x.rotateRight n) 0

/-- One round on the eight working words: each moves one place on, the fifth takes in the round's sum, and the first is that
sum with what the old first three give. -/
def mixWords (v : List W64) (addend : W64) : List W64 :=
  let x := fun i => v.getD i 0
  let pick := x 6 ^^^ (x 4 &&& (x 5 ^^^ x 6))
  let most := (x 0 &&& (x 1 ||| x 2)) ||| (x 1 &&& x 2)
  let sum := x 7 + addend + pick + turned (x 4) [14, 18, 41]
  (sum + most + turned (x 0) [28, 34, 39]) :: (v.take 7).modify 3 (· + sum)

/-- The next sixteen words of the message, one place on. -/
def slideWords (w : List W64) : List W64 :=
  let x := fun i => w.getD i 0
  w.drop 1 ++ [x 0 + x 9 + (turned (x 1) [1, 8] ^^^ x 1 >>> 7) + (turned (x 14) [19, 61] ^^^ x 14 >>> 6)]

/-- The chaining value after one block of 128 bytes. -/
def digestBlock (h : List W64) (b : Bytes) : List W64 :=
  let words := (pieces 8 b).map (fun p => BitVec.ofNat 64 (beNat (toNats p)))
  let step := fun (p : List W64 × List W64) (k : W64) => (mixWords p.1 (k + p.2.headD 0), slideWords p.2)
  h.zipWith (· + ·) (roundBits.foldl step (h, words)).1

/-- SHA-384. Log 8 (DESIGN CHOICE). -/
def sha384 (l : Bytes) : Bytes :=
  let fill := zeros ((239 - l.length % 128) % 128)
  let m := l ++ 0x80 :: fill ++ toBytes (natBe 16 (8 * l.length))
  (((pieces 128 m).foldl digestBlock startBits).flatMap (fun x => toBytes (natBe 8 x.toNat))).take 48

/-- HMAC-SHA-384 (RFC 2104). Log 8 (DESIGN CHOICE). -/
def hmac384 (key l : Bytes) : Bytes :=
  let k := padTo 128 (if key.length > 128 then sha384 key else key)
  sha384 (k.map (· ^^^ 0x5C) ++ sha384 (k.map (· ^^^ 0x36) ++ l))

/-- HKDF-SHA-384 (RFC 5869), output of at most 48 bytes. Log 8 (DESIGN CHOICE). -/
def hkdf384 (salt ikm info : Bytes) (n : Nat) : Bytes :=
  let prk := hmac384 (if salt = [] then zeros 48 else salt) ikm
  (hmac384 prk (info ++ [1])).take n

end Sys2Proof.Machine.Crypto
end

