-- ==== Sys2Proof/Config.lean ====
section
/-!
DEFINITION. What an implementation fixes: the settings of the signed configuration image, the identity of
the part, and the free values, which have no body (nothing can be proved of them). A free value stands
where the manual leaves a value open; the assumption log names each.
-/
namespace Sys2Proof

/-- The settings that the manual says the signed configuration image makes (R15, R96, R200, R216, R229,
R332, R375, R384, R422). -/
structure Image where
  moduleIndex : Nat
  /-- tables in the dedup pool, 0 to 17,425 (R96) -/
  dedupTables : Nat
  /-- clusters in split mode (R197) -/
  splitClusters : List Nat
  /-- 0 ageing, 1 message classes (R216) -/
  cohMode : Nat
  /-- modes of the channel ports 0 to 15: 0 off, 1 KR2, 2 CR2 (R330, R332) -/
  portModes : List Nat
  master : Bool
  laneEn : Bool
  laneKind : Nat
  lane : Nat
  periodMs : Nat
  windowPpm : Nat
  sgmiiEtherType : Nat
  deriving DecidableEq, Repr, Inhabited

/-- R229: one past software-visible memory, which ends below the dedup pool and the copy areas. -/
def Image.memTop (i : Image) : Nat := 0x3B0E800000 - min i.dedupTables 17425 * 2 ^ 21

namespace Config

/-- The image a module outside any complex carries here (DESIGN CHOICE, log 3). -/
def image : Image where
  moduleIndex := 0
  dedupTables := 64
  splitClusters := []
  cohMode := 0
  portModes := List.replicate 16 1
  master := true
  laneEn := false
  laneKind := 0
  lane := 0
  periodMs := 10
  windowPpm := 10
  sgmiiEtherType := 0x88B6

/-- R2: Revision ID of stepping B0. -/
def revision : Nat := 0x10

/-- Factory MAC address of a channel port (R330; no value given: log 4). -/
opaque portMac : Nat → BitVec 48
/-- Fresh output of the random generator, 32 bytes taken by counter (R318, R319). Log 7 (DESIGN CHOICE). -/
opaque randomByte : Nat → Nat → Byte
/-- A free 64-bit value, by counter: a value the manual leaves open. Log 7 (DESIGN CHOICE). -/
opaque freeWord : Nat → W64
/-- A free bit, by counter: a choice the manual leaves open. Log 7 (DESIGN CHOICE). -/
opaque freeBit : Nat → Bool

/-- ECDSA P-384 with SHA-384: whether a signature verifies (FIPS 186). Log 8 (DESIGN CHOICE). -/
opaque ecdsaVerify : Bytes → Bytes → Bytes → Bool
/-- ML-DSA-87: whether a signature verifies (FIPS 204). Log 8 (DESIGN CHOICE). -/
opaque mldsaVerify : Bytes → Bytes → Bytes → Bool
/-- Signatures with the Hallmark keys, over a message and by counter. Log 8 (DESIGN CHOICE). -/
opaque ecdsaSign : Nat → Bytes → Bytes
opaque mldsaSign : Nat → Bytes → Bytes
/-- The leaf public keys of signer chains that begin with the Yilmus root, if they verify (R424, R425).
Log 8 (DESIGN CHOICE). -/
opaque signerKeys : Bytes → Option (Bytes × Bytes)
/-- The Hallmark certificate chains of the part, root first: 0 ECDSA, 1 ML-DSA (R337, R343).
Log 4 (DESIGN CHOICE). -/
opaque hallmarkChain : Nat → Bytes
/-- R286: whether the check that the asymmetric unit makes of an operation passes, by counter. Log 139 (DESIGN CHOICE). -/
opaque asymAgrees : Nat → Bool
/-- R352: the proof of its Hallmark that Crucible shows the Crucible of a partner, and whether a partner's holds.
Log 145 (DESIGN CHOICE). -/
opaque hallmarkProof : Nat → Bytes
opaque hallmarkHolds : Nat → Bytes → Bool
/-- R335: what a byte of the store at 0x34_0000 belongs to, by offset (see `SecretCell`). Log 143 (DESIGN CHOICE). -/
opaque secretCell : Nat → Nat
/-- R336: the key that Crucible ROM derives from fuses, the IV a datum is stored under, and the private halves that stand
nowhere else: the Hallmark's, and those of the key pairs drawn. Log 144 (DESIGN CHOICE). -/
opaque fuseKey : Bytes
opaque sealedIv : Bytes → Bytes
opaque hallmarkPrivate : Bytes
opaque kemPrivate : Nat → Bytes
/-- Key decapsulation and shared secrets of key blobs (R357). Log 8 (DESIGN CHOICE). -/
opaque decapsulate : Nat → Bytes → Option Bytes
/-- The public key of a key-encapsulation key pair, by counter (R356). Log 8 (DESIGN CHOICE). -/
opaque kemPublic : Nat → Bytes
/-- Tokens that an engine's compressor chooses for a block, by history and block (R262): kind 0 literal, 1 match,
2 fill, with length and distance or value; and the DEFLATE bytes it chooses, by level, history and data (R263).
Log 84 (DESIGN CHOICE). -/
opaque swageTokens : Bytes → Bytes → List (Nat × Nat × Nat)
opaque deflateTokens : Nat → Bytes → Bytes → Bytes
/-- Bytes of Source that a DEFLATE compress has consumed when Destination is full, by level, history, data and room (R256).
Log 84 (DESIGN CHOICE). -/
opaque deflateTaken : Nat → Bytes → Bytes → Nat → Nat
/-- The answer of the SPDM responder to a request, by the sessions open and the measurements (R339).
Log 8 (DESIGN CHOICE). -/
opaque spdmAnswer : Nat → List Bytes → Bytes → Bytes
/-- What a PLDM request of a standard type is answered with, by counter, from the readings of the sensors (R423).
Log 8 (DESIGN CHOICE). -/
opaque pldmAnswer : Nat → List Nat → Bytes → Bytes
/-- Byte of the open, module and Crucible keys, 0 to 2, that Crucible loads at every start (R238, R433).
Log 115 (DEDUCED). -/
opaque keyByte : Nat → Nat → Byte
def baseKey (k : Nat) : List Byte := (List.range 64).map (keyByte k)
/-- R216: entries of the message pool of a home in ageing mode, which no rule gives. Log 122 (DEDUCED). -/
opaque poolEntries : Nat → Nat
/-- Index within its channel of the stored line of a stripe row, code lines counted: the placement that no
software addresses (R225, R251). Log 25 (DEDUCED). -/
opaque chanIndex : Nat → BitVec 28
/-- The same of a code line (R225, R230). Log 25 (DEDUCED). -/
opaque codeIndex : Nat → BitVec 28
/-- Factory measurements of the five dies and of the firmware as booted (R338, R339). Log 4 (DESIGN CHOICE). -/
opaque measurement : Nat → Bytes
/-- The settings that an image body makes: its layout is not given (R424, log 3). -/
opaque imageOf : Bytes → Image
/-- Contents of the controllers' ROMs and firmware memories as loaded, by key (R335, R429, R430).
Log 4 (DESIGN CHOICE). -/
opaque romByte : Nat → Byte

end Config
end Sys2Proof
end

