-- ==== Sys2Proof/Machine/Registers.lean ====
section
/-!
DEFINITION. The control registers of PF BAR0, of the function pages and of the controller
spaces: where each stands (R18, R19 and the register rule of its block) and the place of each of its
fields, in the manual's own names. A register is named by its key: the absolute PF BAR0 offset, or a
key above 2^32 for a VF's ring page, Crucible's space and the Anvils' space (R102, R277, R336, R428).
-/
namespace Sys2Proof.Machine

/-- R102: base key of a function's ring setup page. -/
def ringPage (f : Nat) : Nat := if f = 0 then 0x100000 else 0x100000000 + 0x4000 * f + 0x1000
/-- Key base of Crucible's controller space (R336). -/
def cruSpace : Nat := 0x200000000

/-- R53: `JNL_STATUS`, 32 bits. -/
def JNL_STATUS : Nat := 0x200000
def JNL_STATUS.STATE : Fld := ⟨12, 4⟩
def JNL_STATUS.DAMAGED : Fld := ⟨9, 1⟩
def JNL_STATUS.CLEAN_START : Fld := ⟨8, 1⟩
def JNL_STATUS.SINGLE_DIE : Fld := ⟨3, 1⟩
def JNL_STATUS.DIE1_OK : Fld := ⟨1, 1⟩
def JNL_STATUS.DIE0_OK : Fld := ⟨0, 1⟩
/-- R53: `JNL_HEAD`, 64 bits. -/
def JNL_HEAD : Nat := 0x200008
def JNL_HEAD.SEQ : Fld := ⟨0, 56⟩
/-- R53: `JNL_TAIL`, 64 bits. -/
def JNL_TAIL : Nat := 0x200010
def JNL_TAIL.SEQ : Fld := ⟨0, 56⟩
/-- R53: `JNL_CFG`, 32 bits. -/
def JNL_CFG : Nat := 0x200020
def JNL_CFG.SNAP_MS : Fld := ⟨8, 8⟩
/-- R53: `JNL_EVENT`, 32 bits. -/
def JNL_EVENT : Nat := 0x200028
def JNL_EVENT.TAKEOVER : Fld := ⟨7, 1⟩
def JNL_EVENT.MIRROR_LOST : Fld := ⟨6, 1⟩
def JNL_EVENT.WEAR_HIGH : Fld := ⟨5, 1⟩
def JNL_EVENT.SPARE_LOW : Fld := ⟨4, 1⟩
def JNL_EVENT.DAMAGED : Fld := ⟨3, 1⟩
def JNL_EVENT.DIE_FAILED : Fld := ⟨2, 1⟩
def JNL_EVENT.ROW_RETIRED : Fld := ⟨1, 1⟩
def JNL_EVENT.RECOMPUTED : Fld := ⟨0, 1⟩
/-- R53: `JNL_DIE_ROWS`, 64 bits. -/
def JNL_DIE_ROWS (n : Nat) : Nat := 0x200040 + 0x20 * n
def JNL_DIE_ROWS.SPARE_LEFT : Fld := ⟨32, 16⟩
def JNL_DIE_ROWS.ROWS_RETIRED : Fld := ⟨16, 16⟩
def JNL_DIE_ROWS.ROWS_WEAK : Fld := ⟨0, 16⟩
/-- R53: `JNL_DIE_WRITES`, 64 bits. -/
def JNL_DIE_WRITES (n : Nat) : Nat := 0x200048 + 0x20 * n
def JNL_DIE_WRITES.MAX_ROW_WRITES : Fld := ⟨32, 32⟩
def JNL_DIE_WRITES.MEAN_ROW_WRITES : Fld := ⟨0, 32⟩
/-- R53: `JNL_DIE_RECOMP`, 64 bits. -/
def JNL_DIE_RECOMP (n : Nat) : Nat := 0x200050 + 0x20 * n
def JNL_DIE_RECOMP.COUNT : Fld := ⟨0, 64⟩
/-- R53: `JNL_DIE_LIFE`, 32 bits. -/
def JNL_DIE_LIFE (n : Nat) : Nat := 0x200058 + 0x20 * n
def JNL_DIE_LIFE.LIFE_USED : Fld := ⟨0, 16⟩
/-- R53: `JNL_MIRROR`, 32 bits. -/
def JNL_MIRROR : Nat := 0x200080
def JNL_MIRROR.MODULE : Fld := ⟨24, 3⟩
def JNL_MIRROR.ADOPTED : Fld := ⟨16, 8⟩
def JNL_MIRROR.FENCED : Fld := ⟨8, 8⟩
def JNL_MIRROR.PARTNER_UP : Fld := ⟨0, 8⟩
/-- R80: `HEP_LINK_STATUS`, 32 bits. -/
def HEP_LINK_STATUS : Nat := 0
def HEP_LINK_STATUS.WIDTH : Fld := ⟨11, 5⟩
def HEP_LINK_STATUS.GEN : Fld := ⟨8, 3⟩
def HEP_LINK_STATUS.LINK_IDE : Fld := ⟨3, 1⟩
def HEP_LINK_STATUS.SRIS : Fld := ⟨2, 1⟩
def HEP_LINK_STATUS.FLIT : Fld := ⟨1, 1⟩
def HEP_LINK_STATUS.DL_UP : Fld := ⟨0, 1⟩
/-- R80: `HEP_FREEZE`, 32 bits. -/
def HEP_FREEZE : Nat := 8
def HEP_FREEZE.RELEASE : Fld := ⟨31, 1⟩
def HEP_FREEZE.REFUSED : Fld := ⟨16, 1⟩
def HEP_FREEZE.CAUSE : Fld := ⟨8, 8⟩
def HEP_FREEZE.FROZEN : Fld := ⟨0, 1⟩
/-- R80: `HEP_HELD`, 32 bits. -/
def HEP_HELD : Nat := 0xC
def HEP_HELD.COUNT : Fld := ⟨0, 17⟩
/-- R80: `HEP_EVENT`, 32 bits. -/
def HEP_EVENT : Nat := 0x10
def HEP_EVENT.TDI_ERROR : Fld := ⟨7, 1⟩
def HEP_EVENT.IDE_FAIL : Fld := ⟨6, 1⟩
def HEP_EVENT.LATE_CPL : Fld := ⟨5, 1⟩
def HEP_EVENT.MMIO_DISCARD : Fld := ⟨4, 1⟩
def HEP_EVENT.FLR_DONE : Fld := ⟨3, 1⟩
def HEP_EVENT.LINK_DOWN : Fld := ⟨2, 1⟩
def HEP_EVENT.RELEASED : Fld := ⟨1, 1⟩
def HEP_EVENT.FROZE : Fld := ⟨0, 1⟩
/-- R80: `HEP_MMIO_ERR`, 64 bits. -/
def HEP_MMIO_ERR : Nat := 0x18
def HEP_MMIO_ERR.VALID : Fld := ⟨63, 1⟩
def HEP_MMIO_ERR.FUNC : Fld := ⟨48, 11⟩
def HEP_MMIO_ERR.COUNT : Fld := ⟨32, 16⟩
def HEP_MMIO_ERR.BAR : Fld := ⟨30, 2⟩
def HEP_MMIO_ERR.OFFSET : Fld := ⟨0, 26⟩
/-- R80: `HEP_LATE_CPL`, 64 bits. -/
def HEP_LATE_CPL : Nat := 0x20
def HEP_LATE_CPL.COUNT : Fld := ⟨0, 64⟩
/-- R80: `HEP_FN_STATE`, 32 bits. -/
def HEP_FN_STATE (n : Nat) : Nat := 0x1000 + 4 * n
def HEP_FN_STATE.HELD : Fld := ⟨16, 16⟩
def HEP_FN_STATE.TDI : Fld := ⟨10, 2⟩
def HEP_FN_STATE.STATE : Fld := ⟨0, 3⟩
/-- R81: `WIN_SHADOW_CTL`, 32 bits. -/
def WIN_SHADOW_CTL (n : Nat) : Nat := 0x1400000 + 0x20 * n
def WIN_SHADOW_CTL.PARTITION : Fld := ⟨16, 10⟩
def WIN_SHADOW_CTL.SIZE : Fld := ⟨8, 6⟩
def WIN_SHADOW_CTL.READ_OK : Fld := ⟨2, 1⟩
def WIN_SHADOW_CTL.WRITE_OK : Fld := ⟨1, 1⟩
def WIN_SHADOW_CTL.EN : Fld := ⟨0, 1⟩
/-- R81: `WIN_SHADOW_TARGET`, 64 bits. -/
def WIN_SHADOW_TARGET (n : Nat) : Nat := 0x1400008 + 0x20 * n
def WIN_SHADOW_TARGET.ADDR : Fld := ⟨12, 36⟩
/-- R81: `WIN_COMMIT`, 32 bits. -/
def WIN_COMMIT : Nat := 0x1401000
def WIN_COMMIT.GO : Fld := ⟨31, 1⟩
def WIN_COMMIT.ERROR : Fld := ⟨17, 1⟩
def WIN_COMMIT.BUSY : Fld := ⟨16, 1⟩
def WIN_COMMIT.WINDOW : Fld := ⟨0, 6⟩
/-- R81: `WIN_CA_LOG`, 64 bits. -/
def WIN_CA_LOG : Nat := 0x1401008
def WIN_CA_LOG.VALID : Fld := ⟨63, 1⟩
def WIN_CA_LOG.REASON : Fld := ⟨60, 3⟩
def WIN_CA_LOG.WINDOW : Fld := ⟨54, 6⟩
def WIN_CA_LOG.OFFSET : Fld := ⟨0, 44⟩
/-- R81: `WIN_CA_COUNT`, 64 bits. -/
def WIN_CA_COUNT : Nat := 0x1401010
def WIN_CA_COUNT.COUNT : Fld := ⟨0, 64⟩
/-- R102: `RING_DBA` of function f, 64 bits. -/
def RING_DBA (f : Nat) : Nat := ringPage f + 0
def RING_DBA.ADDR : Fld := ⟨6, 58⟩
/-- R102: `RING_STA` of function f, 64 bits. -/
def RING_STA (f : Nat) : Nat := ringPage f + 8
def RING_STA.ADDR : Fld := ⟨6, 58⟩
/-- R102: `RING_POLL` of function f, 32 bits. -/
def RING_POLL (f : Nat) : Nat := ringPage f + 0x10
def RING_POLL.SLEEP_AFTER : Fld := ⟨16, 10⟩
def RING_POLL.INTERVAL_US : Fld := ⟨0, 10⟩
/-- R102: `RING_RESYNC_ADDR` of function f, 64 bits. -/
def RING_RESYNC_ADDR (f : Nat) : Nat := ringPage f + 0x18
def RING_RESYNC_ADDR.ADDR : Fld := ⟨6, 58⟩
/-- R102: `RING_RESYNC_CTL` of function f, 32 bits. -/
def RING_RESYNC_CTL (f : Nat) : Nat := ringPage f + 0x20
def RING_RESYNC_CTL.GO : Fld := ⟨31, 1⟩
def RING_RESYNC_CTL.FUNC : Fld := ⟨16, 11⟩
def RING_RESYNC_CTL.ERR : Fld := ⟨12, 4⟩
def RING_RESYNC_CTL.DONE : Fld := ⟨9, 1⟩
def RING_RESYNC_CTL.BUSY : Fld := ⟨8, 1⟩
def RING_RESYNC_CTL.LEN : Fld := ⟨0, 5⟩
/-- R102: `RING_SQ_BASE` of ring s of function f, 64 bits. -/
def RING_SQ_BASE (f s : Nat) : Nat := ringPage f + 0x100 + 0x20 * s
def RING_SQ_BASE.ADDR : Fld := ⟨12, 52⟩
/-- R102: `RING_CQ_BASE` of ring s of function f, 64 bits. -/
def RING_CQ_BASE (f s : Nat) : Nat := ringPage f + 0x400 + 0x20 * s
def RING_CQ_BASE.ADDR : Fld := ⟨12, 52⟩
/-- R102: `RING_SQ_CFG` of ring s of function f, 32 bits. -/
def RING_SQ_CFG (f s : Nat) : Nat := ringPage f + 0x108 + 0x20 * s
def RING_SQ_CFG.EN : Fld := ⟨31, 1⟩
def RING_SQ_CFG.PARTITION : Fld := ⟨16, 10⟩
def RING_SQ_CFG.CQ : Fld := ⟨8, 4⟩
def RING_SQ_CFG.SIZE : Fld := ⟨0, 5⟩
/-- R102: `RING_SQ_STATUS` of ring s of function f, 32 bits. -/
def RING_SQ_STATUS (f s : Nat) : Nat := ringPage f + 0x10C + 0x20 * s
def RING_SQ_STATUS.ERR : Fld := ⟨8, 8⟩
def RING_SQ_STATUS.STATE : Fld := ⟨0, 3⟩
/-- R102: `RING_CQ_CFG` of ring s of function f, 32 bits. -/
def RING_CQ_CFG (f s : Nat) : Nat := ringPage f + 0x408 + 0x20 * s
def RING_CQ_CFG.EN : Fld := ⟨31, 1⟩
def RING_CQ_CFG.COAL_COUNT : Fld := ⟨24, 7⟩
def RING_CQ_CFG.COAL_US : Fld := ⟨16, 8⟩
def RING_CQ_CFG.VECTOR : Fld := ⟨8, 5⟩
def RING_CQ_CFG.SIZE : Fld := ⟨0, 5⟩
/-- R102: `RING_CQ_STATUS` of ring s of function f, 32 bits. -/
def RING_CQ_STATUS (f s : Nat) : Nat := ringPage f + 0x40C + 0x20 * s
def RING_CQ_STATUS.HELD : Fld := ⟨16, 16⟩
def RING_CQ_STATUS.ERR : Fld := ⟨8, 8⟩
def RING_CQ_STATUS.STATE : Fld := ⟨0, 2⟩
/-- R102: `RING_DEDUP_POOL`, 32 bits. -/
def RING_DEDUP_POOL : Nat := 0x101000
def RING_DEDUP_POOL.FREE : Fld := ⟨16, 16⟩
def RING_DEDUP_POOL.TOTAL : Fld := ⟨0, 16⟩
/-- R134: `UOW_STATUS`, 32 bits. -/
def UOW_STATUS : Nat := 0x300000
def UOW_STATUS.EXECUTING : Fld := ⟨17, 9⟩
def UOW_STATUS.IN_FLIGHT : Fld := ⟨0, 17⟩
/-- R134: `UOW_EVENT`, 32 bits. -/
def UOW_EVENT : Nat := 0x300008
def UOW_EVENT.IN_FLIGHT_FULL : Fld := ⟨6, 1⟩
def UOW_EVENT.BIND_REFUSED : Fld := ⟨5, 1⟩
def UOW_EVENT.NOT_RUNNABLE : Fld := ⟨4, 1⟩
def UOW_EVENT.PART_STOPPED : Fld := ⟨3, 1⟩
def UOW_EVENT.PEER_REFUSED : Fld := ⟨2, 1⟩
def UOW_EVENT.BUDGET_SPENT : Fld := ⟨1, 1⟩
def UOW_EVENT.RESTART : Fld := ⟨0, 1⟩
/-- R134: `UOW_RESTARTS`, 64 bits. -/
def UOW_RESTARTS : Nat := 0x300010
def UOW_RESTARTS.COUNT : Fld := ⟨0, 64⟩
/-- R134: `UOW_BUDGET_SPENT`, 64 bits. -/
def UOW_BUDGET_SPENT : Nat := 0x300018
def UOW_BUDGET_SPENT.COUNT : Fld := ⟨0, 64⟩
/-- R134: `UOW_PAIR_BIND`, 32 bits. -/
def UOW_PAIR_BIND (n : Nat) : Nat := 0x301000 + 0x10 * n
def UOW_PAIR_BIND.EN : Fld := ⟨31, 1⟩
def UOW_PAIR_BIND.STATE : Fld := ⟨28, 3⟩
def UOW_PAIR_BIND.PARTITION : Fld := ⟨16, 10⟩
def UOW_PAIR_BIND.RING : Fld := ⟨11, 4⟩
def UOW_PAIR_BIND.FUNC : Fld := ⟨0, 11⟩
/-- R134: `UOW_PAIR_ASN`, 64 bits. -/
def UOW_PAIR_ASN (n : Nat) : Nat := 0x301008 + 0x10 * n
def UOW_PAIR_ASN.ASN : Fld := ⟨0, 64⟩
/-- R134: `UOW_PART_CFG`, 32 bits. -/
def UOW_PART_CFG (n : Nat) : Nat := 0x302000 + 0x10 * n
def UOW_PART_CFG.FUNC : Fld := ⟨20, 11⟩
def UOW_PART_CFG.RING_CONC : Fld := ⟨16, 4⟩
def UOW_PART_CFG.BUDGET : Fld := ⟨0, 3⟩
/-- R134: `UOW_PART_STATUS`, 64 bits. -/
def UOW_PART_STATUS (n : Nat) : Nat := 0x302008 + 0x10 * n
def UOW_PART_STATUS.STATE : Fld := ⟨56, 3⟩
def UOW_PART_STATUS.PAIRS : Fld := ⟨48, 8⟩
def UOW_PART_STATUS.EXECUTING : Fld := ⟨32, 9⟩
def UOW_PART_STATUS.QUEUED : Fld := ⟨0, 17⟩
/-- R200: `PAIR_STATUS`, 64 bits. -/
def PAIR_STATUS (v : Nat) : Nat := 0x1000000 + 0x2000 * v
def PAIR_STATUS.LANE_MISS : Fld := ⟨40, 10⟩
def PAIR_STATUS.CORE_B : Fld := ⟨32, 4⟩
def PAIR_STATUS.CORE_A : Fld := ⟨28, 4⟩
def PAIR_STATUS.SPARE_IN : Fld := ⟨7, 1⟩
def PAIR_STATUS.MODE : Fld := ⟨5, 2⟩
def PAIR_STATUS.STATE : Fld := ⟨0, 3⟩
/-- R200: `PAIR_EVENT`, 32 bits. -/
def PAIR_EVENT (v : Nat) : Nat := 0x1000008 + 0x2000 * v
def PAIR_EVENT.INJECT_DONE : Fld := ⟨6, 1⟩
def PAIR_EVENT.CLUSTER_LOST : Fld := ⟨5, 1⟩
def PAIR_EVENT.RETIRED : Fld := ⟨4, 1⟩
def PAIR_EVENT.SUBSTITUTED : Fld := ⟨3, 1⟩
def PAIR_EVENT.TRANSIENT : Fld := ⟨2, 1⟩
def PAIR_EVENT.RETRIED : Fld := ⟨1, 1⟩
def PAIR_EVENT.MISMATCH : Fld := ⟨0, 1⟩
/-- R200: `PAIR_COUNTS`, 64 bits. -/
def PAIR_COUNTS (v : Nat) : Nat := 0x1000010 + 0x2000 * v
def PAIR_COUNTS.MISMATCHES : Fld := ⟨32, 32⟩
def PAIR_COUNTS.RETRY_OK : Fld := ⟨16, 16⟩
def PAIR_COUNTS.TRANSIENT_24H : Fld := ⟨8, 8⟩
def PAIR_COUNTS.TRANSIENTS : Fld := ⟨0, 8⟩
/-- R200: `PAIR_LAST`, 64 bits. -/
def PAIR_LAST (v : Nat) : Nat := 0x1000018 + 0x2000 * v
def PAIR_LAST.TIME : Fld := ⟨32, 32⟩
def PAIR_LAST.LANE : Fld := ⟨20, 4⟩
def PAIR_LAST.OUTCOME : Fld := ⟨16, 4⟩
def PAIR_LAST.CONDEMNED : Fld := ⟨12, 4⟩
def PAIR_LAST.ASSAY_B : Fld := ⟨8, 4⟩
def PAIR_LAST.ASSAY_A : Fld := ⟨4, 4⟩
/-- R200: `PAIR_INJECT`, 32 bits. -/
def PAIR_INJECT (v : Nat) : Nat := 0x1000020 + 0x2000 * v
def PAIR_INJECT.GO : Fld := ⟨31, 1⟩
def PAIR_INJECT.REFUSED : Fld := ⟨1, 1⟩
def PAIR_INJECT.BUSY : Fld := ⟨0, 1⟩
/-- R200: `SPARE_STATUS`, 32 bits. -/
def SPARE_STATUS (s : Nat) : Nat := 0x1280000 + 0x4000 * s
def SPARE_STATUS.ROUTE_OK : Fld := ⟨8, 8⟩
def SPARE_STATUS.SLOT : Fld := ⟨4, 2⟩
def SPARE_STATUS.STATE : Fld := ⟨0, 3⟩
/-- R200: `SPARE_JOINED`, 64 bits. -/
def SPARE_JOINED (s : Nat) : Nat := 0x1280008 + 0x4000 * s
def SPARE_JOINED.TIME : Fld := ⟨0, 64⟩
/-- R224: `COH_STATUS`, 32 bits. -/
def COH_STATUS : Nat := 0x400000
def COH_STATUS.DEAD_DIES : Fld := ⟨16, 4⟩
def COH_STATUS.GUARDED : Fld := ⟨8, 1⟩
def COH_STATUS.MODE : Fld := ⟨0, 2⟩
/-- R224: `COH_EVENT`, 32 bits. -/
def COH_EVENT : Nat := 0x400008
def COH_EVENT.ENTRY_LOST : Fld := ⟨8, 1⟩
def COH_EVENT.SET_PINNED : Fld := ⟨7, 1⟩
def COH_EVENT.STARVED : Fld := ⟨6, 1⟩
def COH_EVENT.AGENT_DEAD : Fld := ⟨5, 1⟩
def COH_EVENT.LATE_RESPONSE : Fld := ⟨4, 1⟩
def COH_EVENT.SNOOP_TIMEOUT : Fld := ⟨3, 1⟩
def COH_EVENT.WAY_DISABLED : Fld := ⟨2, 1⟩
def COH_EVENT.LINE_POISONED : Fld := ⟨1, 1⟩
def COH_EVENT.TWIN_READ : Fld := ⟨0, 1⟩
/-- R224: `COH_NACKS`, 64 bits. -/
def COH_NACKS : Nat := 0x400010
def COH_NACKS.COUNT : Fld := ⟨0, 64⟩
/-- R224: `COH_STALE_WB`, 64 bits. -/
def COH_STALE_WB : Nat := 0x400018
def COH_STALE_WB.COUNT : Fld := ⟨0, 64⟩
/-- R224: `COH_LATE_RESP`, 64 bits. -/
def COH_LATE_RESP : Nat := 0x400020
def COH_LATE_RESP.COUNT : Fld := ⟨0, 64⟩
/-- R224: `COH_POISONED`, 64 bits. -/
def COH_POISONED : Nat := 0x400028
def COH_POISONED.COUNT : Fld := ⟨0, 64⟩
/-- R224: `COH_STARVED`, 64 bits. -/
def COH_STARVED : Nat := 0x400030
def COH_STARVED.COUNT : Fld := ⟨0, 64⟩
/-- R224: `COH_POISON_LOG`, 64 bits. -/
def COH_POISON_LOG : Nat := 0x400038
def COH_POISON_LOG.VALID : Fld := ⟨63, 1⟩
def COH_POISON_LOG.CAUSE : Fld := ⟨60, 3⟩
def COH_POISON_LOG.LINE : Fld := ⟨6, 42⟩
/-- R224: `COH_DEAD_CLUSTERS`, 64 bits. -/
def COH_DEAD_CLUSTERS : Nat := 0x400040
def COH_DEAD_CLUSTERS.DEAD : Fld := ⟨0, 40⟩
/-- R224: `COH_L2`, 64 bits. -/
def COH_L2 (n : Nat) : Nat := 0x401000 + 0x10 * n
def COH_L2.TWIN_READS : Fld := ⟨32, 32⟩
def COH_L2.WAYS_OFF : Fld := ⟨16, 16⟩
def COH_L2.STATE : Fld := ⟨0, 2⟩
/-- R224: `COH_HEARTH`, 64 bits. -/
def COH_HEARTH (d : Nat) : Nat := 0x402000 + 0x10 * d
def COH_HEARTH.TWIN_READS : Fld := ⟨32, 32⟩
def COH_HEARTH.WAYS_OFF : Fld := ⟨16, 16⟩
def COH_HEARTH.PINNED_NACKS : Fld := ⟨8, 8⟩
def COH_HEARTH.CLEAN_ONLY : Fld := ⟨2, 1⟩
def COH_HEARTH.HALF_ON : Fld := ⟨0, 2⟩
/-- R224: `COH_HOME`, 64 bits. -/
def COH_HOME (h : Nat) : Nat := 0x403000 + 0x10 * h
def COH_HOME.OCCUPIED : Fld := ⟨43, 21⟩
def COH_HOME.PINNED_NACKS : Fld := ⟨16, 8⟩
def COH_HOME.RESV_USED : Fld := ⟨0, 6⟩
/-- R239: `HA_REGION_BASE`, 64 bits. -/
def HA_REGION_BASE (n : Nat) : Nat := 0x200310000 + 0x10 * n
def HA_REGION_BASE.BASE : Fld := ⟨21, 27⟩
def HA_REGION_BASE.VALID : Fld := ⟨0, 1⟩
/-- R239: `HA_REGION_CTL`, 64 bits. -/
def HA_REGION_CTL (n : Nat) : Nat := 0x200310008 + 0x10 * n
def HA_REGION_CTL.LIMIT : Fld := ⟨21, 27⟩
def HA_REGION_CTL.KIND : Fld := ⟨12, 2⟩
def HA_REGION_CTL.OPEN_W : Fld := ⟨11, 1⟩
def HA_REGION_CTL.OPEN_R : Fld := ⟨10, 1⟩
def HA_REGION_CTL.OWNER : Fld := ⟨0, 10⟩
/-- R251: `MEM_STATUS`, 32 bits. -/
def MEM_STATUS : Nat := 0x500000
def MEM_STATUS.CAL_STATE : Fld := ⟨13, 2⟩
def MEM_STATUS.CAL_CHAN : Fld := ⟨8, 5⟩
def MEM_STATUS.REBUILDING : Fld := ⟨3, 3⟩
def MEM_STATUS.DEGRADED : Fld := ⟨0, 3⟩
/-- R251: `MEM_TOP`, 64 bits. -/
def MEM_TOP : Nat := 0x500008
def MEM_TOP.TOP : Fld := ⟨21, 27⟩
/-- R251: `MEM_EVENT`, 32 bits. -/
def MEM_EVENT : Nat := 0x500010
def MEM_EVENT.MAP_FULL : Fld := ⟨10, 1⟩
def MEM_EVENT.PLANISH_PASS : Fld := ⟨9, 1⟩
def MEM_EVENT.REFUSED : Fld := ⟨8, 1⟩
def MEM_EVENT.CAL_ABORTED : Fld := ⟨7, 1⟩
def MEM_EVENT.CAL_FAILED : Fld := ⟨6, 1⟩
def MEM_EVENT.REBUILD_DONE : Fld := ⟨5, 1⟩
def MEM_EVENT.CHAN_FAILED : Fld := ⟨4, 1⟩
def MEM_EVENT.PARITY_FIXED : Fld := ⟨3, 1⟩
def MEM_EVENT.CODE_REBUILT : Fld := ⟨2, 1⟩
def MEM_EVENT.POISONED : Fld := ⟨1, 1⟩
def MEM_EVENT.RECOMPUTED : Fld := ⟨0, 1⟩
/-- R251: `MEM_ERR_LOG`, 64 bits. -/
def MEM_ERR_LOG : Nat := 0x500018
def MEM_ERR_LOG.VALID : Fld := ⟨63, 1⟩
def MEM_ERR_LOG.KIND : Fld := ⟨60, 3⟩
def MEM_ERR_LOG.CHAN : Fld := ⟨55, 5⟩
def MEM_ERR_LOG.OFFSET : Fld := ⟨0, 28⟩
/-- R251: `MEM_REFUSE_LOG`, 64 bits. -/
def MEM_REFUSE_LOG : Nat := 0x500020
def MEM_REFUSE_LOG.VALID : Fld := ⟨63, 1⟩
def MEM_REFUSE_LOG.REQ : Fld := ⟨60, 3⟩
def MEM_REFUSE_LOG.REASON : Fld := ⟨57, 3⟩
def MEM_REFUSE_LOG.LINE : Fld := ⟨6, 42⟩
/-- R251: `MEM_RECOMPUTED`, 64 bits. -/
def MEM_RECOMPUTED : Nat := 0x500028
def MEM_RECOMPUTED.COUNT : Fld := ⟨0, 64⟩
/-- R251: `MEM_POISONED`, 64 bits. -/
def MEM_POISONED : Nat := 0x500030
def MEM_POISONED.COUNT : Fld := ⟨0, 64⟩
/-- R251: `MEM_TEMPER_CFG`, 32 bits. -/
def MEM_TEMPER_CFG : Nat := 0x500038
def MEM_TEMPER_CFG.EN : Fld := ⟨31, 1⟩
def MEM_TEMPER_CFG.PERIOD_MS : Fld := ⟨0, 10⟩
/-- R251: `MEM_TEMPER_STATUS`, 64 bits. -/
def MEM_TEMPER_STATUS : Nat := 0x500040
def MEM_TEMPER_STATUS.WINDOWS : Fld := ⟨32, 32⟩
def MEM_TEMPER_STATUS.MARKED : Fld := ⟨0, 18⟩
/-- R251: `MEM_PLANISH_CFG`, 32 bits. -/
def MEM_PLANISH_CFG : Nat := 0x500048
def MEM_PLANISH_CFG.HOURS : Fld := ⟨0, 5⟩
/-- R251: `MEM_PLANISH_STATUS`, 64 bits. -/
def MEM_PLANISH_STATUS : Nat := 0x500050
def MEM_PLANISH_STATUS.PASSES : Fld := ⟨32, 32⟩
def MEM_PLANISH_STATUS.PROGRESS : Fld := ⟨0, 10⟩
/-- R251: `MEM_GROUP`, 64 bits. -/
def MEM_GROUP (g : Nat) : Nat := 0x500100 + 8 * g
def MEM_GROUP.REBUILD : Fld := ⟨63, 1⟩
def MEM_GROUP.REFUSED : Fld := ⟨62, 1⟩
def MEM_GROUP.PROGRESS : Fld := ⟨16, 28⟩
def MEM_GROUP.MEMBER : Fld := ⟨8, 3⟩
def MEM_GROUP.STATE : Fld := ⟨0, 2⟩
/-- R251: `MEM_CHAN`, 64 bits. -/
def MEM_CHAN (h : Nat) : Nat := 0x500200 + 8 * h
def MEM_CHAN.LAST_CAL : Fld := ⟨32, 32⟩
def MEM_CHAN.RECOMPUTED : Fld := ⟨16, 16⟩
def MEM_CHAN.STATE : Fld := ⟨0, 3⟩
/-- R271: `SWG_STATUS`, 32 bits. -/
def SWG_STATUS : Nat := 0x600000
def SWG_STATUS.HALF_ON : Fld := ⟨8, 2⟩
def SWG_STATUS.ENG_OK : Fld := ⟨0, 8⟩
/-- R271: `SWG_EVENT`, 32 bits. -/
def SWG_EVENT : Nat := 0x600008
def SWG_EVENT.OWNER_REFUSED : Fld := ⟨3, 1⟩
def SWG_EVENT.CONTEXTS_DISCARDED : Fld := ⟨2, 1⟩
def SWG_EVENT.ENGINE_RETIRED : Fld := ⟨1, 1⟩
def SWG_EVENT.VERIFY_MISMATCH : Fld := ⟨0, 1⟩
/-- R271: `SWG_CFG`, 32 bits. -/
def SWG_CFG : Nat := 0x600010
def SWG_CFG.PF_WEIGHT : Fld := ⟨0, 8⟩
/-- R271: `SWG_MISMATCHES`, 64 bits. -/
def SWG_MISMATCHES : Nat := 0x600018
def SWG_MISMATCHES.COUNT : Fld := ⟨0, 64⟩
/-- R271: `SWG_ENG`, 64 bits. -/
def SWG_ENG (e : Nat) : Nat := 0x600100 + 8 * e
def SWG_ENG.BLOCKS : Fld := ⟨32, 32⟩
def SWG_ENG.STATE : Fld := ⟨0, 2⟩
/-- R271: `SWG_Q_CFG`, 32 bits. -/
def SWG_Q_CFG (n : Nat) : Nat := 0x601000 + 0x10 * n
def SWG_Q_CFG.KIND : Fld := ⟨30, 2⟩
def SWG_Q_CFG.PARTITION : Fld := ⟨16, 10⟩
def SWG_Q_CFG.FUNC : Fld := ⟨0, 11⟩
/-- R271: `SWG_Q_STATUS`, 32 bits. -/
def SWG_Q_STATUS (n : Nat) : Nat := 0x601008 + 0x10 * n
def SWG_Q_STATUS.ERR : Fld := ⟨16, 8⟩
def SWG_Q_STATUS.CONTEXT : Fld := ⟨12, 4⟩
def SWG_Q_STATUS.STATE : Fld := ⟨10, 2⟩
def SWG_Q_STATUS.DEPTH : Fld := ⟨0, 7⟩
/-- R277: `CKL_SLOT`, 64 bits. -/
def CKL_SLOT : Nat := 0x200300000
def CKL_SLOT.KEYLEN : Fld := ⟨48, 8⟩
def CKL_SLOT.OWNER_KIND : Fld := ⟨46, 2⟩
def CKL_SLOT.OWNER : Fld := ⟨32, 11⟩
def CKL_SLOT.KIND : Fld := ⟨28, 4⟩
def CKL_SLOT.SLOT : Fld := ⟨0, 13⟩
/-- R277: `CKL_KEY`, 64 bits. -/
def CKL_KEY (k : Nat) : Nat := 0x200300008 + 8 * k
def CKL_KEY.KEY : Fld := ⟨0, 64⟩
/-- R277: `CKL_COMMIT`, 32 bits. -/
def CKL_COMMIT : Nat := 0x200300048
def CKL_COMMIT.GO : Fld := ⟨31, 1⟩
def CKL_COMMIT.BUSY : Fld := ⟨16, 1⟩
def CKL_COMMIT.ERR : Fld := ⟨8, 8⟩
def CKL_COMMIT.OP : Fld := ⟨0, 2⟩
/-- R277: `CKL_STATE`, 32 bits. -/
def CKL_STATE : Nat := 0x200300050
def CKL_STATE.GEN : Fld := ⟨16, 16⟩
def CKL_STATE.INUSE : Fld := ⟨0, 4⟩
/-- R288: `CIP_STATUS`, 32 bits. -/
def CIP_STATUS : Nat := 0x700000
def CIP_STATUS.HALF_ON : Fld := ⟨8, 2⟩
def CIP_STATUS.ENG_OK : Fld := ⟨0, 8⟩
/-- R288: `CIP_EVENT`, 32 bits. -/
def CIP_EVENT : Nat := 0x700008
def CIP_EVENT.KEY_WITHDRAWN : Fld := ⟨3, 1⟩
def CIP_EVENT.OWNER_REFUSED : Fld := ⟨2, 1⟩
def CIP_EVENT.ENGINE_RETIRED : Fld := ⟨1, 1⟩
def CIP_EVENT.VERIFY_MISMATCH : Fld := ⟨0, 1⟩
/-- R288: `CIP_MISMATCHES`, 64 bits. -/
def CIP_MISMATCHES : Nat := 0x700010
def CIP_MISMATCHES.COUNT : Fld := ⟨0, 64⟩
/-- R288: `CIP_ENG`, 64 bits. -/
def CIP_ENG (e : Nat) : Nat := 0x700100 + 8 * e
def CIP_ENG.REQUESTS : Fld := ⟨32, 32⟩
def CIP_ENG.STATE : Fld := ⟨0, 2⟩
/-- R288: `CIP_Q_CFG`, 32 bits. -/
def CIP_Q_CFG (n : Nat) : Nat := 0x701000 + 0x10 * n
def CIP_Q_CFG.KIND : Fld := ⟨30, 2⟩
def CIP_Q_CFG.PARTITION : Fld := ⟨16, 10⟩
def CIP_Q_CFG.FUNC : Fld := ⟨0, 11⟩
/-- R288: `CIP_Q_STATUS`, 32 bits. -/
def CIP_Q_STATUS (n : Nat) : Nat := 0x701008 + 0x10 * n
def CIP_Q_STATUS.ERR : Fld := ⟨16, 8⟩
def CIP_Q_STATUS.ENGINE : Fld := ⟨12, 4⟩
def CIP_Q_STATUS.STATE : Fld := ⟨10, 2⟩
def CIP_Q_STATUS.DEPTH : Fld := ⟨0, 6⟩
/-- R288: `CIP_SLOT`, 64 bits. -/
def CIP_SLOT (n : Nat) : Nat := 0x704000 + 8 * n
def CIP_SLOT.GEN : Fld := ⟨48, 16⟩
def CIP_SLOT.OWNER_KIND : Fld := ⟨46, 2⟩
def CIP_SLOT.OWNER : Fld := ⟨32, 11⟩
def CIP_SLOT.KIND : Fld := ⟨28, 4⟩
def CIP_SLOT.KEYLEN : Fld := ⟨20, 8⟩
def CIP_SLOT.INUSE : Fld := ⟨0, 4⟩
/-- R312: `CHN_STATUS`, 32 bits. -/
def CHN_STATUS : Nat := 0x800000
def CHN_STATUS.QUARTER_ON : Fld := ⟨0, 4⟩
/-- R312: `CHN_ENG_OK`, 64 bits. -/
def CHN_ENG_OK : Nat := 0x800008
def CHN_ENG_OK.OK : Fld := ⟨0, 64⟩
/-- R312: `CHN_EVENT`, 32 bits. -/
def CHN_EVENT : Nat := 0x800010
def CHN_EVENT.DEV_BUSY : Fld := ⟨4, 1⟩
def CHN_EVENT.OWNER_REFUSED : Fld := ⟨3, 1⟩
def CHN_EVENT.ENTRY_DISABLED : Fld := ⟨2, 1⟩
def CHN_EVENT.ENGINE_RETIRED : Fld := ⟨1, 1⟩
def CHN_EVENT.ENTRY_ERROR : Fld := ⟨0, 1⟩
/-- R312: `CHN_INVAL_BASE`, 64 bits. -/
def CHN_INVAL_BASE : Nat := 0x800018
def CHN_INVAL_BASE.ADDR : Fld := ⟨6, 42⟩
/-- R312: `CHN_INVAL_CTL`, 32 bits. -/
def CHN_INVAL_CTL : Nat := 0x800020
def CHN_INVAL_CTL.GO : Fld := ⟨31, 1⟩
def CHN_INVAL_CTL.ALL : Fld := ⟨30, 1⟩
def CHN_INVAL_CTL.ENGINE : Fld := ⟨24, 6⟩
def CHN_INVAL_CTL.BUSY : Fld := ⟨23, 1⟩
def CHN_INVAL_CTL.LINES : Fld := ⟨0, 20⟩
/-- R312: `CHN_ENG`, 64 bits. -/
def CHN_ENG (e : Nat) : Nat := 0x800100 + 0x10 * e
def CHN_ENG.PROGRAMS : Fld := ⟨32, 32⟩
def CHN_ENG.GOOD : Fld := ⟨16, 6⟩
def CHN_ENG.LOCKED : Fld := ⟨8, 6⟩
def CHN_ENG.STATE : Fld := ⟨0, 2⟩
/-- R312: `CHN_ENG_ERR`, 64 bits. -/
def CHN_ENG_ERR (e : Nat) : Nat := 0x800108 + 0x10 * e
def CHN_ENG_ERR.ERRORS : Fld := ⟨48, 16⟩
def CHN_ENG_ERR.DISABLED : Fld := ⟨0, 48⟩
/-- R312: `CHN_Q_CFG`, 32 bits. -/
def CHN_Q_CFG (n : Nat) : Nat := 0x801000 + 0x10 * n
def CHN_Q_CFG.KIND : Fld := ⟨30, 2⟩
def CHN_Q_CFG.PARTITION : Fld := ⟨16, 10⟩
def CHN_Q_CFG.FUNC : Fld := ⟨0, 11⟩
/-- R312: `CHN_Q_STATUS`, 32 bits. -/
def CHN_Q_STATUS (n : Nat) : Nat := 0x801008 + 0x10 * n
def CHN_Q_STATUS.ERR : Fld := ⟨16, 8⟩
def CHN_Q_STATUS.ENGINE : Fld := ⟨10, 6⟩
def CHN_Q_STATUS.STATE : Fld := ⟨8, 2⟩
def CHN_Q_STATUS.DEPTH : Fld := ⟨0, 6⟩
/-- R312: `CHN_DEV_CFG`, 64 bits. -/
def CHN_DEV_CFG (d : Nat) : Nat := 0x804000 + 0x40 * d
def CHN_DEV_CFG.EN : Fld := ⟨63, 1⟩
def CHN_DEV_CFG.OWNER_KIND : Fld := ⟨61, 2⟩
def CHN_DEV_CFG.STATE : Fld := ⟨59, 2⟩
def CHN_DEV_CFG.OWNER : Fld := ⟨32, 11⟩
def CHN_DEV_CFG.BLOCK : Fld := ⟨24, 1⟩
def CHN_DEV_CFG.PIN_EN : Fld := ⟨18, 1⟩
def CHN_DEV_CFG.PIN_PATH : Fld := ⟨16, 2⟩
def CHN_DEV_CFG.TARGET : Fld := ⟨0, 16⟩
/-- R312: `CHN_DEV_PATH`, 64 bits. -/
def CHN_DEV_PATH (d : Nat) (k : Nat) : Nat := 0x804008 + 0x40 * d + 8 * k
def CHN_DEV_PATH.VALID : Fld := ⟨63, 1⟩
def CHN_DEV_PATH.STATE : Fld := ⟨60, 3⟩
def CHN_DEV_PATH.PORT : Fld := ⟨48, 4⟩
def CHN_DEV_PATH.ASSOC : Fld := ⟨32, 12⟩
def CHN_DEV_PATH.FAILOVERS : Fld := ⟨0, 32⟩
/-- R332: `SRX_STATUS`, 32 bits. -/
def SRX_STATUS : Nat := 0x900000
def SRX_STATUS.PORT_UP : Fld := ⟨0, 16⟩
/-- R332: `SRX_CFG`, 32 bits. -/
def SRX_CFG : Nat := 0x900008
def SRX_CFG.ETHERTYPE : Fld := ⟨16, 16⟩
def SRX_CFG.TRIES : Fld := ⟨10, 3⟩
def SRX_CFG.RETX_US : Fld := ⟨0, 10⟩
/-- R332: `SRX_EVENT`, 32 bits. -/
def SRX_EVENT : Nat := 0x900010
def SRX_EVENT.PORT_DOWN : Fld := ⟨5, 1⟩
def SRX_EVENT.COMMIT_REFUSED : Fld := ⟨4, 1⟩
def SRX_EVENT.CRC_FAIL : Fld := ⟨3, 1⟩
def SRX_EVENT.AUTH_FAIL : Fld := ⟨2, 1⟩
def SRX_EVENT.PATH_UP : Fld := ⟨1, 1⟩
def SRX_EVENT.PATH_DOWN : Fld := ⟨0, 1⟩
/-- R332: `SRX_PROBE_CFG`, 32 bits. -/
def SRX_PROBE_CFG : Nat := 0x900018
def SRX_PROBE_CFG.DOWN_MS : Fld := ⟨16, 10⟩
def SRX_PROBE_CFG.KEEPALIVE_US : Fld := ⟨0, 10⟩
/-- R332: `SRX_AUTH_FAIL`, 64 bits. -/
def SRX_AUTH_FAIL : Nat := 0x900020
def SRX_AUTH_FAIL.COUNT : Fld := ⟨0, 64⟩
/-- R332: `SRX_CRC_FAIL`, 64 bits. -/
def SRX_CRC_FAIL : Nat := 0x900028
def SRX_CRC_FAIL.COUNT : Fld := ⟨0, 64⟩
/-- R332: `SRX_MALFORMED`, 64 bits. -/
def SRX_MALFORMED : Nat := 0x900030
def SRX_MALFORMED.COUNT : Fld := ⟨0, 64⟩
/-- R332: `SRX_LATE_ANSWER`, 64 bits. -/
def SRX_LATE_ANSWER : Nat := 0x900038
def SRX_LATE_ANSWER.COUNT : Fld := ⟨0, 64⟩
/-- R332: `SRX_PORT`, 64 bits. -/
def SRX_PORT (p : Nat) : Nat := 0x900100 + 0x10 * p
def SRX_PORT.MAC : Fld := ⟨0, 48⟩
/-- R332: `SRX_PORT_STATUS`, 64 bits. -/
def SRX_PORT_STATUS (p : Nat) : Nat := 0x900108 + 0x10 * p
def SRX_PORT_STATUS.FEC_CORRECTED : Fld := ⟨32, 32⟩
def SRX_PORT_STATUS.FEC_UNCORRECTED : Fld := ⟨16, 16⟩
def SRX_PORT_STATUS.MAC_CONTROL : Fld := ⟨8, 8⟩
def SRX_PORT_STATUS.MODE : Fld := ⟨1, 2⟩
def SRX_PORT_STATUS.LINK_UP : Fld := ⟨0, 1⟩
/-- R332: `SRX_ASSOC_CFG`, 64 bits. -/
def SRX_ASSOC_CFG (a : Nat) : Nat := 0x901000 + 0x20 * a
def SRX_ASSOC_CFG.EN : Fld := ⟨63, 1⟩
def SRX_ASSOC_CFG.STATE : Fld := ⟨60, 3⟩
def SRX_ASSOC_CFG.PORT : Fld := ⟨52, 4⟩
def SRX_ASSOC_CFG.PEER_MAC : Fld := ⟨0, 48⟩
/-- R332: `SRX_ASSOC_VLAN`, 32 bits. -/
def SRX_ASSOC_VLAN (a : Nat) : Nat := 0x901008 + 0x20 * a
def SRX_ASSOC_VLAN.EN : Fld := ⟨16, 1⟩
def SRX_ASSOC_VLAN.PCP : Fld := ⟨13, 3⟩
def SRX_ASSOC_VLAN.VID : Fld := ⟨0, 12⟩
/-- R332: `SRX_ASSOC_STATUS`, 64 bits. -/
def SRX_ASSOC_STATUS (a : Nat) : Nat := 0x901010 + 0x20 * a
def SRX_ASSOC_STATUS.EPOCH : Fld := ⟨32, 32⟩
def SRX_ASSOC_STATUS.SECRET : Fld := ⟨1, 1⟩
def SRX_ASSOC_STATUS.KEY_PHASE : Fld := ⟨0, 1⟩
/-- R332: `SRX_ASSOC_RETX`, 64 bits. -/
def SRX_ASSOC_RETX (a : Nat) : Nat := 0x901018 + 0x20 * a
def SRX_ASSOC_RETX.RETRANSMITS : Fld := ⟨32, 32⟩
def SRX_ASSOC_RETX.DOWNS : Fld := ⟨0, 32⟩
/-- R336: `CRU_WDOG`, 32 bits. -/
def CRU_WDOG : Nat := 0x200320000
def CRU_WDOG.KICK : Fld := ⟨0, 32⟩
/-- R336: `CRU_LEASE_REL`, 32 bits. -/
def CRU_LEASE_REL : Nat := 0x200320008
def CRU_LEASE_REL.GO : Fld := ⟨31, 1⟩
def CRU_LEASE_REL.LATE : Fld := ⟨16, 1⟩
def CRU_LEASE_REL.DOMAIN : Fld := ⟨0, 6⟩
/-- R370: `CRU_STATUS`, 32 bits. -/
def CRU_STATUS : Nat := 0xA00000
def CRU_STATUS.REGIONS_FREE : Fld := ⟨16, 8⟩
def CRU_STATUS.LEASES : Fld := ⟨8, 5⟩
def CRU_STATUS.IDENTITY : Fld := ⟨4, 2⟩
def CRU_STATUS.STATE : Fld := ⟨0, 3⟩
/-- R370: `CRU_EVENT`, 32 bits. -/
def CRU_EVENT : Nat := 0xA00008
def CRU_EVENT.IDENTITY_FAIL : Fld := ⟨4, 1⟩
def CRU_EVENT.MB_DENIED : Fld := ⟨3, 1⟩
def CRU_EVENT.LEASE_EXPIRED : Fld := ⟨2, 1⟩
def CRU_EVENT.WATCHDOG : Fld := ⟨1, 1⟩
def CRU_EVENT.RESTARTED : Fld := ⟨0, 1⟩
/-- R370: `CRU_RESTARTS`, 64 bits. -/
def CRU_RESTARTS : Nat := 0xA00010
def CRU_RESTARTS.COUNT : Fld := ⟨0, 64⟩
/-- R370: `CRU_DRAIN_LOG`, 64 bits. -/
def CRU_DRAIN_LOG : Nat := 0xA00018
def CRU_DRAIN_LOG.VALID : Fld := ⟨63, 1⟩
def CRU_DRAIN_LOG.DOMAIN : Fld := ⟨32, 6⟩
def CRU_DRAIN_LOG.TIME : Fld := ⟨0, 32⟩
/-- R370: `CRU_MB_ADDR`, 64 bits. -/
def CRU_MB_ADDR (m : Nat) : Nat := 0xA01000 + 0x10 * m
def CRU_MB_ADDR.ADDR : Fld := ⟨6, 58⟩
/-- R370: `CRU_MB_CTL`, 32 bits. -/
def CRU_MB_CTL (m : Nat) : Nat := 0xA01008 + 0x10 * m
def CRU_MB_CTL.GO : Fld := ⟨31, 1⟩
def CRU_MB_CTL.BUSY : Fld := ⟨16, 1⟩
def CRU_MB_CTL.LAST_STATUS : Fld := ⟨0, 16⟩
/-- R370: `CRU_PART`, 64 bits. -/
def CRU_PART (n : Nat) : Nat := 0xA08000 + 8 * n
def CRU_PART.REGIONS : Fld := ⟨32, 8⟩
def CRU_PART.WTAG : Fld := ⟨16, 11⟩
def CRU_PART.ADOPTED : Fld := ⟨6, 1⟩
def CRU_PART.MEM_LOST : Fld := ⟨5, 1⟩
def CRU_PART.SPLIT_OK : Fld := ⟨4, 1⟩
def CRU_PART.STATE : Fld := ⟨0, 3⟩
/-- R371: `MTR_CFG`, 32 bits. -/
def MTR_CFG : Nat := 0xB00000
def MTR_CFG.INTERVAL_S : Fld := ⟨0, 6⟩
/-- R371: `MTR_LAST`, 64 bits. -/
def MTR_LAST : Nat := 0xB00008
def MTR_LAST.INTERVAL : Fld := ⟨0, 64⟩
/-- R371: `MTR_EVENT`, 32 bits. -/
def MTR_EVENT : Nat := 0xB00010
def MTR_EVENT.DEST_FULL : Fld := ⟨3, 1⟩
def MTR_EVENT.DEGRADED : Fld := ⟨2, 1⟩
def MTR_EVENT.LATE : Fld := ⟨1, 1⟩
def MTR_EVENT.BATCH : Fld := ⟨0, 1⟩
/-- R371: `MTR_DEST`, 64 bits. -/
def MTR_DEST : Nat := 0xB00018
def MTR_DEST.ADDR : Fld := ⟨12, 52⟩
/-- R371: `MTR_DEST_CTL`, 32 bits. -/
def MTR_DEST_CTL : Nat := 0xB00020
def MTR_DEST_CTL.EN : Fld := ⟨31, 1⟩
def MTR_DEST_CTL.VECTOR : Fld := ⟨8, 5⟩
def MTR_DEST_CTL.SIZE : Fld := ⟨0, 4⟩
/-- R371: `MTR_DEST_IDX`, 64 bits. -/
def MTR_DEST_IDX : Nat := 0xB00028
def MTR_DEST_IDX.HEAD : Fld := ⟨32, 32⟩
def MTR_DEST_IDX.TAIL : Fld := ⟨0, 32⟩
/-- R384: `CLK_STATUS`, 32 bits. -/
def CLK_STATUS : Nat := 0xC00000
def CLK_STATUS.MASTER : Fld := ⟨7, 1⟩
def CLK_STATUS.LOCKED : Fld := ⟨6, 1⟩
def CLK_STATUS.REC_QUAL : Fld := ⟨5, 1⟩
def CLK_STATUS.LOCAL_QUAL : Fld := ⟨4, 1⟩
def CLK_STATUS.COARSE : Fld := ⟨3, 1⟩
def CLK_STATUS.SOURCE : Fld := ⟨0, 2⟩
/-- R384: `CLK_EVENT`, 32 bits. -/
def CLK_EVENT : Nat := 0xC00008
def CLK_EVENT.HOLDOVER : Fld := ⟨6, 1⟩
def CLK_EVENT.STEPPED : Fld := ⟨5, 1⟩
def CLK_EVENT.SOURCE_CHANGE : Fld := ⟨4, 1⟩
def CLK_EVENT.COARSE_EXIT : Fld := ⟨3, 1⟩
def CLK_EVENT.COARSE_ENTER : Fld := ⟨2, 1⟩
def CLK_EVENT.FORCED : Fld := ⟨1, 1⟩
def CLK_EVENT.MON_TRIP : Fld := ⟨0, 1⟩
/-- R384: `CLK_TB`, 64 bits. -/
def CLK_TB : Nat := 0xC00010
def CLK_TB.COUNT : Fld := ⟨0, 64⟩
/-- R384: `CLK_TB_CFG`, 32 bits. -/
def CLK_TB_CFG : Nat := 0xC00018
def CLK_TB_CFG.LANE_EN : Fld := ⟨8, 1⟩
def CLK_TB_CFG.KIND : Fld := ⟨7, 1⟩
def CLK_TB_CFG.LANE : Fld := ⟨0, 6⟩
/-- R384: `CLK_QUAL_CFG`, 32 bits. -/
def CLK_QUAL_CFG : Nat := 0xC00020
def CLK_QUAL_CFG.PERIOD_MS : Fld := ⟨16, 8⟩
def CLK_QUAL_CFG.WINDOW_PPM : Fld := ⟨0, 8⟩
/-- R384: `CLK_OFFSET`, 64 bits. -/
def CLK_OFFSET : Nat := 0xC00028
def CLK_OFFSET.OFFSET : Fld := ⟨0, 64⟩
/-- R384: `CLK_FORCED`, 64 bits. -/
def CLK_FORCED : Nat := 0xC00030
def CLK_FORCED.COUNT : Fld := ⟨0, 64⟩
/-- R384: `CLK_DOMAIN`, 32 bits. -/
def CLK_DOMAIN (n : Nat) : Nat := 0xC01000 + 4 * n
def CLK_DOMAIN.TRIPS : Fld := ⟨16, 16⟩
def CLK_DOMAIN.SRC : Fld := ⟨2, 2⟩
def CLK_DOMAIN.STATE : Fld := ⟨0, 2⟩
/-- R404: `PWR_STATUS`, 32 bits. -/
def PWR_STATUS : Nat := 0xD00000
def PWR_STATUS.LINK_UP : Fld := ⟨15, 1⟩
def PWR_STATUS.PFAIL : Fld := ⟨14, 1⟩
def PWR_STATUS.STATE : Fld := ⟨8, 3⟩
def PWR_STATUS.FEED1_QUAL : Fld := ⟨3, 1⟩
def PWR_STATUS.FEED0_QUAL : Fld := ⟨2, 1⟩
def PWR_STATUS.FEED1_PRESENT : Fld := ⟨1, 1⟩
def PWR_STATUS.FEED0_PRESENT : Fld := ⟨0, 1⟩
/-- R404: `PWR_EVENT`, 32 bits. -/
def PWR_EVENT : Nat := 0xD00008
def PWR_EVENT.LINK_LOST : Fld := ⟨7, 1⟩
def PWR_EVENT.REFUSED : Fld := ⟨6, 1⟩
def PWR_EVENT.DOMAIN_FAULT : Fld := ⟨5, 1⟩
def PWR_EVENT.POWER_FAIL : Fld := ⟨4, 1⟩
def PWR_EVENT.FEED1_LOST : Fld := ⟨3, 1⟩
def PWR_EVENT.FEED0_LOST : Fld := ⟨2, 1⟩
def PWR_EVENT.FEED1_RETURN : Fld := ⟨1, 1⟩
def PWR_EVENT.FEED0_RETURN : Fld := ⟨0, 1⟩
/-- R404: `PWR_FEED`, 64 bits. -/
def PWR_FEED (n : Nat) : Nat := 0xD00010 + 8 * n
def PWR_FEED.POWER : Fld := ⟨48, 16⟩
def PWR_FEED.CURRENT : Fld := ⟨32, 16⟩
def PWR_FEED.VOLTAGE : Fld := ⟨16, 16⟩
def PWR_FEED.FREQ : Fld := ⟨8, 8⟩
/-- R404: `PWR_BUS`, 32 bits. -/
def PWR_BUS : Nat := 0xD00020
def PWR_BUS.INTERMEDIATE : Fld := ⟨16, 16⟩
def PWR_BUS.BUS : Fld := ⟨0, 16⟩
/-- R404: `PWR_DOMAINS`, 64 bits. -/
def PWR_DOMAINS : Nat := 0xD00028
def PWR_DOMAINS.ON : Fld := ⟨0, 64⟩
/-- R404: `PWR_REMOVE`, 32 bits. -/
def PWR_REMOVE : Nat := 0xD00030
def PWR_REMOVE.GO : Fld := ⟨31, 1⟩
def PWR_REMOVE.READY : Fld := ⟨1, 1⟩
def PWR_REMOVE.BUSY : Fld := ⟨0, 1⟩
/-- R404: `PWR_DOM`, 32 bits. -/
def PWR_DOM (d : Nat) : Nat := 0xD00100 + 4 * d
def PWR_DOM.ON : Fld := ⟨31, 1⟩
def PWR_DOM.ERR : Fld := ⟨8, 4⟩
def PWR_DOM.STATE : Fld := ⟨0, 3⟩
/-- R404: `PWR_VPOINT`, 32 bits. -/
def PWR_VPOINT (c : Nat) : Nat := 0xD00200 + 4 * c
def PWR_VPOINT.ACTIVE : Fld := ⟨8, 3⟩
def PWR_VPOINT.POINT : Fld := ⟨0, 3⟩
/-- R426: `FLT_STATUS`, 32 bits. -/
def FLT_STATUS : Nat := 0xE00000
def FLT_STATUS.OVERFLOW : Fld := ⟨15, 1⟩
def FLT_STATUS.HEAD : Fld := ⟨8, 5⟩
def FLT_STATUS.UNCLEARED : Fld := ⟨0, 5⟩
/-- R426: `FLT_CLEAR`, 32 bits. -/
def FLT_CLEAR : Nat := 0xE00008
def FLT_CLEAR.CLASS : Fld := ⟨0, 5⟩
/-- R426: `FLT_CFG`, 32 bits. -/
def FLT_CFG : Nat := 0xE00010
def FLT_CFG.HV_PAIR : Fld := ⟨24, 8⟩
def FLT_CFG.HV_EN : Fld := ⟨16, 4⟩
def FLT_CFG.FIRST_MIN : Fld := ⟨12, 2⟩
def FLT_CFG.INT_EN : Fld := ⟨0, 7⟩
/-- R426: `FLT_SEQ`, 64 bits. -/
def FLT_SEQ : Nat := 0xE00018
def FLT_SEQ.COUNT : Fld := ⟨0, 64⟩
/-- R426: `FLT_ACK`, 64 bits. -/
def FLT_ACK : Nat := 0xE00070
def FLT_ACK.SEQ : Fld := ⟨0, 64⟩
def FLT_EVENT.SEQ : Fld := ⟨32, 32⟩
def FLT_EVENT.CLASS : Fld := ⟨29, 3⟩
def FLT_EVENT.BLOCK : Fld := ⟨24, 5⟩
def FLT_EVENT.CAUSE : Fld := ⟨18, 6⟩
def FLT_EVENT.VALID : Fld := ⟨16, 1⟩
def FLT_EVENT.INSTANCE : Fld := ⟨0, 16⟩
/-- R426: `FLT_QUENCH`, 64 bits. -/
def FLT_QUENCH : Nat := 0xE00038
def FLT_QUENCH.VALID : Fld := ⟨63, 1⟩
def FLT_QUENCH.SOURCE : Fld := ⟨32, 6⟩
def FLT_QUENCH.TIME : Fld := ⟨0, 32⟩
/-- R426: `FLT_COUNT`, 64 bits. -/
def FLT_COUNT (c : Nat) : Nat := 0xE00040 + 8 * c
def FLT_COUNT.COUNT : Fld := ⟨0, 64⟩
/-- R426: `FLT_REC`, 64 bits. -/
def FLT_REC (n : Nat) : Nat := 0xE02000 + 0x10 * n
def FLT_REC.SEQ : Fld := ⟨32, 32⟩
def FLT_REC.STEPS : Fld := ⟨16, 8⟩
def FLT_REC.STEP : Fld := ⟨8, 8⟩
def FLT_REC.PROC : Fld := ⟨4, 4⟩
def FLT_REC.STATE : Fld := ⟨0, 2⟩
/-- R427: `ANV_STATUS`, 32 bits. -/
def ANV_STATUS : Nat := 0xF00000
def ANV_STATUS.GAP : Fld := ⟨15, 1⟩
def ANV_STATUS.B_STATE : Fld := ⟨9, 3⟩
def ANV_STATUS.A_STATE : Fld := ⟨6, 3⟩
def ANV_STATUS.ACTIVE : Fld := ⟨0, 1⟩
/-- R427: `ANV_EVENT`, 32 bits. -/
def ANV_EVENT : Nat := 0xF00008
def ANV_EVENT.MGMT : Fld := ⟨7, 1⟩
def ANV_EVENT.HOT : Fld := ⟨6, 1⟩
def ANV_EVENT.REJOINED : Fld := ⟨5, 1⟩
def ANV_EVENT.FAILED : Fld := ⟨4, 1⟩
def ANV_EVENT.LATE_RENEWAL : Fld := ⟨3, 1⟩
def ANV_EVENT.EXPIRED : Fld := ⟨2, 1⟩
def ANV_EVENT.RELEASED : Fld := ⟨1, 1⟩
def ANV_EVENT.TAKEOVER : Fld := ⟨0, 1⟩
/-- R427: `ANV_LAST`, 64 bits. -/
def ANV_LAST : Nat := 0xF00010
def ANV_LAST.TIME : Fld := ⟨32, 32⟩
def ANV_LAST.GAP_US : Fld := ⟨16, 16⟩
def ANV_LAST.CAUSE : Fld := ⟨8, 2⟩
/-- R427: `ANV_TAKEOVERS`, 64 bits. -/
def ANV_TAKEOVERS : Nat := 0xF00018
def ANV_TAKEOVERS.COUNT : Fld := ⟨0, 64⟩
/-- R427: `ANV_MGMT`, 32 bits. -/
def ANV_MGMT : Nat := 0xF00020
def ANV_MGMT.EID_VDM : Fld := ⟨24, 8⟩
def ANV_MGMT.EID_SMB1 : Fld := ⟨16, 8⟩
def ANV_MGMT.EID_SMB0 : Fld := ⟨8, 8⟩
def ANV_MGMT.EID_SGMII : Fld := ⟨0, 8⟩
/-- R428: `LK_CTL`, 32 bits. -/
def LK_CTL (a : Nat) : Nat := 0x300200000 + 0x100000000 * a
def LK_CTL.RENEW : Fld := ⟨31, 1⟩
def LK_CTL.RELEASE : Fld := ⟨30, 1⟩
def LK_CTL.HOLDER : Fld := ⟨13, 1⟩
def LK_CTL.REMAIN_US : Fld := ⟨0, 13⟩
/-- R428: `AFC_RAISE`, 32 bits. -/
def AFC_RAISE : Nat := 0x300210000
def AFC_RAISE.GO : Fld := ⟨31, 1⟩
def AFC_RAISE.CLASS : Fld := ⟨16, 3⟩
def AFC_RAISE.CODE : Fld := ⟨0, 16⟩
/-- R429: `ABW_PAGE`, 32 bits. -/
def ABW_PAGE : Nat := 0x300260000
def ABW_PAGE.BLOCK : Fld := ⟨0, 6⟩
/-- R429: `ANV_OUT`, 32 bits. -/
def ANV_OUT : Nat := 0x300240000
def ANV_OUT.AMBER : Fld := ⟨6, 2⟩
def ANV_OUT.GREEN : Fld := ⟨4, 2⟩
def ANV_OUT.SMB1_ALERT : Fld := ⟨2, 1⟩
def ANV_OUT.SMB0_ALERT : Fld := ⟨1, 1⟩
def ANV_OUT.FAULT : Fld := ⟨0, 1⟩
/-- R81: `WIN_ACTIVE_CTL`, 32 bits. -/
def WIN_ACTIVE_CTL (n : Nat) : Nat := 0x1400800 + 0x20 * n
def WIN_ACTIVE_CTL.PARTITION : Fld := ⟨16, 10⟩
def WIN_ACTIVE_CTL.SIZE : Fld := ⟨8, 6⟩
def WIN_ACTIVE_CTL.READ_OK : Fld := ⟨2, 1⟩
def WIN_ACTIVE_CTL.WRITE_OK : Fld := ⟨1, 1⟩
def WIN_ACTIVE_CTL.EN : Fld := ⟨0, 1⟩
/-- R81: `WIN_ACTIVE_TARGET`, 64 bits. -/
def WIN_ACTIVE_TARGET (n : Nat) : Nat := 0x1400808 + 0x20 * n
def WIN_ACTIVE_TARGET.ADDR : Fld := ⟨12, 36⟩
/-- R426: history words of entry n. -/
def FLT_HIST_TIME (n : Nat) : Nat := 0xE01000 + 0x20 * n
def FLT_HIST_EVENT (n : Nat) : Nat := 0xE01008 + 0x20 * n
def FLT_HIST_DETAIL (n : Nat) : Nat := 0xE01010 + 0x20 * n
/-- R426: the first-error capture. -/
def FLT_FIRST_TIME : Nat := 0xE00020
def FLT_FIRST_EVENT : Nat := 0xE00028
def FLT_FIRST_DETAIL : Nat := 0xE00030

end Sys2Proof.Machine
end

