-- ==== Sys2Proof/Machine/RegTable.lean ====
section
/-!
DEFINITION. The registers as a table: where each family stands, how wide it is, and which of its fields a
write can change, with the access code of R5 and the values R4 does not reserve. Fields that are read-only
are not listed: a write leaves them. `regReset` is the value of a register at reset.
-/
namespace Sys2Proof.Machine

/-- R5: what a write does to a field. -/
inductive Access where
  | rw | w1c | w1s | wo
  deriving DecidableEq, Repr

structure RegField where
  fld : Fld
  acc : Access
  min : Nat
  max : Nat
  deriving DecidableEq, Repr

namespace RegField
def rw (f : Fld) (min : Nat := 0) (max : Nat := 2 ^ f.len - 1) : RegField := ⟨f, .rw, min, max⟩
def w1c (f : Fld) : RegField := ⟨f, .w1c, 0, 2 ^ f.len - 1⟩
def w1s (f : Fld) : RegField := ⟨f, .w1s, 0, 2 ^ f.len - 1⟩
def wo (f : Fld) : RegField := ⟨f, .wo, 0, 2 ^ f.len - 1⟩
end RegField

/-- A family of like registers. -/
structure RegRow where
  base : Nat
  stride : Nat
  count : Nat
  bytes : Nat
  fields : List RegField
  deriving DecidableEq, Repr

/-- The JNL block. -/
def regsJNL : List RegRow := [
  ⟨0x200000, 8, 1, 4, []⟩,
  ⟨0x200008, 8, 1, 8, []⟩,
  ⟨0x200010, 8, 1, 8, []⟩,
  ⟨0x200020, 8, 1, 4, [.rw JNL_CFG.SNAP_MS 1 0x64]⟩,
  ⟨0x200028, 8, 1, 4, [.w1c JNL_EVENT.TAKEOVER, .w1c JNL_EVENT.MIRROR_LOST, .w1c JNL_EVENT.WEAR_HIGH, .w1c JNL_EVENT.SPARE_LOW, .w1c JNL_EVENT.DAMAGED, .w1c JNL_EVENT.DIE_FAILED, .w1c JNL_EVENT.ROW_RETIRED, .w1c JNL_EVENT.RECOMPUTED]⟩,
  ⟨0x200040, 0x20, 2, 8, []⟩,
  ⟨0x200048, 0x20, 2, 8, []⟩,
  ⟨0x200050, 0x20, 2, 8, []⟩,
  ⟨0x200058, 0x20, 2, 4, []⟩,
  ⟨0x200080, 8, 1, 4, []⟩]

/-- The HEP block. -/
def regsHEP : List RegRow := [
  ⟨0, 8, 1, 4, []⟩,
  ⟨8, 8, 1, 4, [.wo HEP_FREEZE.RELEASE]⟩,
  ⟨0xC, 8, 1, 4, []⟩,
  ⟨0x10, 8, 1, 4, [.w1c HEP_EVENT.TDI_ERROR, .w1c HEP_EVENT.IDE_FAIL, .w1c HEP_EVENT.LATE_CPL, .w1c HEP_EVENT.MMIO_DISCARD, .w1c HEP_EVENT.FLR_DONE, .w1c HEP_EVENT.LINK_DOWN, .w1c HEP_EVENT.RELEASED, .w1c HEP_EVENT.FROZE]⟩,
  ⟨0x18, 8, 1, 8, [.w1c HEP_MMIO_ERR.VALID]⟩,
  ⟨0x20, 8, 1, 8, []⟩,
  ⟨0x1000, 4, 1025, 4, []⟩]

/-- The WIN block. -/
def regsWIN : List RegRow := [
  ⟨0x1400000, 0x20, 64, 4, [.rw WIN_SHADOW_CTL.PARTITION, .rw WIN_SHADOW_CTL.SIZE, .rw WIN_SHADOW_CTL.READ_OK, .rw WIN_SHADOW_CTL.WRITE_OK, .rw WIN_SHADOW_CTL.EN]⟩,
  ⟨0x1400008, 0x20, 64, 8, [.rw WIN_SHADOW_TARGET.ADDR]⟩,
  ⟨0x1401000, 8, 1, 4, [.wo WIN_COMMIT.GO, .rw WIN_COMMIT.WINDOW]⟩,
  ⟨0x1401008, 8, 1, 8, [.w1c WIN_CA_LOG.VALID]⟩,
  ⟨0x1401010, 8, 1, 8, []⟩,
  ⟨0x1400800, 0x20, 64, 4, []⟩,
  ⟨0x1400808, 0x20, 64, 8, []⟩]

/-- The RING block, relative to a function's ring page. Log 99 (DEDUCED). -/
def regsRING : List RegRow := [
  ⟨0, 0x1000, 1, 8, [.rw RING_DBA.ADDR]⟩,
  ⟨8, 0x1000, 1, 8, [.rw RING_STA.ADDR]⟩,
  ⟨0x10, 0x1000, 1, 4, [.rw RING_POLL.SLEEP_AFTER, .rw RING_POLL.INTERVAL_US 1 0x3E8]⟩,
  ⟨0x18, 0x1000, 1, 8, [.rw RING_RESYNC_ADDR.ADDR]⟩,
  ⟨0x20, 0x1000, 1, 4, [.wo RING_RESYNC_CTL.GO, .rw RING_RESYNC_CTL.FUNC 0 0x400, .w1c RING_RESYNC_CTL.DONE, .rw RING_RESYNC_CTL.LEN]⟩,
  ⟨0x100, 0x20, 17, 8, [.rw RING_SQ_BASE.ADDR]⟩,
  ⟨0x400, 0x20, 17, 8, [.rw RING_CQ_BASE.ADDR]⟩,
  ⟨0x108, 0x20, 17, 4, [.rw RING_SQ_CFG.EN, .rw RING_SQ_CFG.PARTITION, .rw RING_SQ_CFG.CQ, .rw RING_SQ_CFG.SIZE]⟩,
  ⟨0x10C, 0x20, 17, 4, []⟩,
  ⟨0x408, 0x20, 17, 4, [.rw RING_CQ_CFG.EN, .rw RING_CQ_CFG.COAL_COUNT, .rw RING_CQ_CFG.COAL_US, .rw RING_CQ_CFG.VECTOR, .rw RING_CQ_CFG.SIZE]⟩,
  ⟨0x40C, 0x20, 17, 4, []⟩]

/-- `RING_DEDUP_POOL`, which stands after the PF's ring page (R102). -/
def regsPool : List RegRow := [⟨0x101000, 8, 1, 4, []⟩]

/-- The UOW block. -/
def regsUOW : List RegRow := [
  ⟨0x300000, 8, 1, 4, []⟩,
  ⟨0x300008, 8, 1, 4, [.w1c UOW_EVENT.IN_FLIGHT_FULL, .w1c UOW_EVENT.BIND_REFUSED, .w1c UOW_EVENT.NOT_RUNNABLE, .w1c UOW_EVENT.PART_STOPPED, .w1c UOW_EVENT.PEER_REFUSED, .w1c UOW_EVENT.BUDGET_SPENT, .w1c UOW_EVENT.RESTART]⟩,
  ⟨0x300010, 8, 1, 8, []⟩,
  ⟨0x300018, 8, 1, 8, []⟩,
  ⟨0x301000, 0x10, 160, 4, [.rw UOW_PAIR_BIND.EN, .rw UOW_PAIR_BIND.PARTITION]⟩,
  ⟨0x301008, 0x10, 160, 8, []⟩,
  ⟨0x302000, 0x10, 1024, 4, [.rw UOW_PART_CFG.FUNC 0 0x400, .rw UOW_PART_CFG.RING_CONC 0 0xC, .rw UOW_PART_CFG.BUDGET]⟩,
  ⟨0x302008, 0x10, 1024, 8, []⟩]

/-- The PAIR block. -/
def regsPAIR : List RegRow := [
  ⟨0x1000000, 0x2000, 320, 8, []⟩,
  ⟨0x1000008, 0x2000, 320, 4, [.w1c PAIR_EVENT.INJECT_DONE, .w1c PAIR_EVENT.CLUSTER_LOST, .w1c PAIR_EVENT.RETIRED, .w1c PAIR_EVENT.SUBSTITUTED, .w1c PAIR_EVENT.TRANSIENT, .w1c PAIR_EVENT.RETRIED, .w1c PAIR_EVENT.MISMATCH]⟩,
  ⟨0x1000010, 0x2000, 320, 8, []⟩,
  ⟨0x1000018, 0x2000, 320, 8, []⟩,
  ⟨0x1000020, 0x2000, 320, 4, [.wo PAIR_INJECT.GO]⟩]

/-- The SPARE block. -/
def regsSPARE : List RegRow := [
  ⟨0x1280000, 0x4000, 40, 4, []⟩,
  ⟨0x1280008, 0x4000, 40, 8, []⟩]

/-- The COH block. -/
def regsCOH : List RegRow := [
  ⟨0x400000, 8, 1, 4, []⟩,
  ⟨0x400008, 8, 1, 4, [.w1c COH_EVENT.ENTRY_LOST, .w1c COH_EVENT.SET_PINNED, .w1c COH_EVENT.STARVED, .w1c COH_EVENT.AGENT_DEAD, .w1c COH_EVENT.LATE_RESPONSE, .w1c COH_EVENT.SNOOP_TIMEOUT, .w1c COH_EVENT.WAY_DISABLED, .w1c COH_EVENT.LINE_POISONED, .w1c COH_EVENT.TWIN_READ]⟩,
  ⟨0x400010, 8, 1, 8, []⟩,
  ⟨0x400018, 8, 1, 8, []⟩,
  ⟨0x400020, 8, 1, 8, []⟩,
  ⟨0x400028, 8, 1, 8, []⟩,
  ⟨0x400030, 8, 1, 8, []⟩,
  ⟨0x400038, 8, 1, 8, [.w1c COH_POISON_LOG.VALID]⟩,
  ⟨0x400040, 8, 1, 8, []⟩,
  ⟨0x401000, 0x10, 40, 8, []⟩,
  ⟨0x402000, 0x10, 4, 8, []⟩,
  ⟨0x403000, 0x10, 24, 8, []⟩]

/-- The HA block. -/
def regsHA : List RegRow := [
  ⟨0x200310000, 0x10, 64, 8, [.rw HA_REGION_BASE.BASE, .rw HA_REGION_BASE.VALID]⟩,
  ⟨0x200310008, 0x10, 64, 8, [.rw HA_REGION_CTL.LIMIT, .rw HA_REGION_CTL.KIND 0 2, .rw HA_REGION_CTL.OPEN_W, .rw HA_REGION_CTL.OPEN_R, .rw HA_REGION_CTL.OWNER]⟩]

/-- The MEM block. -/
def regsMEM : List RegRow := [
  ⟨0x500000, 8, 1, 4, []⟩,
  ⟨0x500008, 8, 1, 8, []⟩,
  ⟨0x500010, 8, 1, 4, [.w1c MEM_EVENT.MAP_FULL, .w1c MEM_EVENT.PLANISH_PASS, .w1c MEM_EVENT.REFUSED, .w1c MEM_EVENT.CAL_ABORTED, .w1c MEM_EVENT.CAL_FAILED, .w1c MEM_EVENT.REBUILD_DONE, .w1c MEM_EVENT.CHAN_FAILED, .w1c MEM_EVENT.PARITY_FIXED, .w1c MEM_EVENT.CODE_REBUILT, .w1c MEM_EVENT.POISONED, .w1c MEM_EVENT.RECOMPUTED]⟩,
  ⟨0x500018, 8, 1, 8, [.w1c MEM_ERR_LOG.VALID]⟩,
  ⟨0x500020, 8, 1, 8, [.w1c MEM_REFUSE_LOG.VALID]⟩,
  ⟨0x500028, 8, 1, 8, []⟩,
  ⟨0x500030, 8, 1, 8, []⟩,
  ⟨0x500038, 8, 1, 4, [.rw MEM_TEMPER_CFG.EN, .rw MEM_TEMPER_CFG.PERIOD_MS 24 0x3E8]⟩,
  ⟨0x500040, 8, 1, 8, []⟩,
  ⟨0x500048, 8, 1, 4, [.rw MEM_PLANISH_CFG.HOURS 1 0x18]⟩,
  ⟨0x500050, 8, 1, 8, []⟩,
  ⟨0x500100, 8, 3, 8, [.wo MEM_GROUP.REBUILD]⟩,
  ⟨0x500200, 8, 24, 8, []⟩]

/-- The SWG block. Log 99 (DEDUCED). -/
def regsSWG : List RegRow := [
  ⟨0x600000, 8, 1, 4, []⟩,
  ⟨0x600008, 8, 1, 4, [.w1c SWG_EVENT.OWNER_REFUSED, .w1c SWG_EVENT.CONTEXTS_DISCARDED, .w1c SWG_EVENT.ENGINE_RETIRED, .w1c SWG_EVENT.VERIFY_MISMATCH]⟩,
  ⟨0x600010, 8, 1, 4, [.rw SWG_CFG.PF_WEIGHT]⟩,
  ⟨0x600018, 8, 1, 8, []⟩,
  ⟨0x600100, 8, 8, 8, []⟩,
  ⟨0x601000, 0x10, 128, 4, [.rw SWG_Q_CFG.KIND 0 2, .rw SWG_Q_CFG.PARTITION, .rw SWG_Q_CFG.FUNC]⟩,
  ⟨0x601008, 0x10, 128, 4, []⟩]

/-- The CKL block. -/
def regsCKL : List RegRow := [
  ⟨0x200300000, 8, 1, 8, [.rw CKL_SLOT.KEYLEN, .rw CKL_SLOT.OWNER_KIND 0 2, .rw CKL_SLOT.OWNER, .rw CKL_SLOT.KIND, .rw CKL_SLOT.SLOT]⟩,
  ⟨0x200300008, 8, 8, 8, [.wo CKL_KEY.KEY]⟩,
  ⟨0x200300048, 8, 1, 4, [.wo CKL_COMMIT.GO, .rw CKL_COMMIT.OP 1 2]⟩,
  ⟨0x200300050, 8, 1, 4, []⟩]

/-- The CIP block. -/
def regsCIP : List RegRow := [
  ⟨0x700000, 8, 1, 4, []⟩,
  ⟨0x700008, 8, 1, 4, [.w1c CIP_EVENT.KEY_WITHDRAWN, .w1c CIP_EVENT.OWNER_REFUSED, .w1c CIP_EVENT.ENGINE_RETIRED, .w1c CIP_EVENT.VERIFY_MISMATCH]⟩,
  ⟨0x700010, 8, 1, 8, []⟩,
  ⟨0x700100, 8, 8, 8, []⟩,
  ⟨0x701000, 0x10, 128, 4, [.rw CIP_Q_CFG.KIND 0 2, .rw CIP_Q_CFG.PARTITION, .rw CIP_Q_CFG.FUNC]⟩,
  ⟨0x701008, 0x10, 128, 4, []⟩,
  ⟨0x704000, 8, 8192, 8, []⟩]

/-- The CHN block. -/
def regsCHN : List RegRow := [
  ⟨0x800000, 8, 1, 4, []⟩,
  ⟨0x800008, 8, 1, 8, []⟩,
  ⟨0x800010, 8, 1, 4, [.w1c CHN_EVENT.DEV_BUSY, .w1c CHN_EVENT.OWNER_REFUSED, .w1c CHN_EVENT.ENTRY_DISABLED, .w1c CHN_EVENT.ENGINE_RETIRED, .w1c CHN_EVENT.ENTRY_ERROR]⟩,
  ⟨0x800018, 8, 1, 8, [.rw CHN_INVAL_BASE.ADDR]⟩,
  ⟨0x800020, 8, 1, 4, [.wo CHN_INVAL_CTL.GO, .rw CHN_INVAL_CTL.ALL, .rw CHN_INVAL_CTL.ENGINE, .rw CHN_INVAL_CTL.LINES 1 0xFFFFF]⟩,
  ⟨0x800100, 0x10, 64, 8, []⟩,
  ⟨0x800108, 0x10, 64, 8, []⟩,
  ⟨0x801000, 0x10, 256, 4, [.rw CHN_Q_CFG.KIND 0 2, .rw CHN_Q_CFG.PARTITION, .rw CHN_Q_CFG.FUNC]⟩,
  ⟨0x801008, 0x10, 256, 4, []⟩,
  ⟨0x804000, 0x40, 1024, 8, [.rw CHN_DEV_CFG.EN, .rw CHN_DEV_CFG.OWNER_KIND 0 2, .rw CHN_DEV_CFG.OWNER, .rw CHN_DEV_CFG.BLOCK, .rw CHN_DEV_CFG.PIN_EN, .rw CHN_DEV_CFG.PIN_PATH, .rw CHN_DEV_CFG.TARGET]⟩,
  ⟨0x804008, 0x40, 1024, 8, [.rw CHN_DEV_PATH.VALID, .rw CHN_DEV_PATH.PORT, .rw CHN_DEV_PATH.ASSOC]⟩,
  ⟨0x804010, 0x40, 1024, 8, [.rw CHN_DEV_PATH.VALID, .rw CHN_DEV_PATH.PORT, .rw CHN_DEV_PATH.ASSOC]⟩,
  ⟨0x804018, 0x40, 1024, 8, [.rw CHN_DEV_PATH.VALID, .rw CHN_DEV_PATH.PORT, .rw CHN_DEV_PATH.ASSOC]⟩,
  ⟨0x804020, 0x40, 1024, 8, [.rw CHN_DEV_PATH.VALID, .rw CHN_DEV_PATH.PORT, .rw CHN_DEV_PATH.ASSOC]⟩]

/-- The SRX block. -/
def regsSRX : List RegRow := [
  ⟨0x900000, 8, 1, 4, []⟩,
  ⟨0x900008, 8, 1, 4, [.rw SRX_CFG.ETHERTYPE 1536 0xFFFF, .rw SRX_CFG.TRIES 2 7, .rw SRX_CFG.RETX_US 5 0x3E8]⟩,
  ⟨0x900010, 8, 1, 4, [.w1c SRX_EVENT.PORT_DOWN, .w1c SRX_EVENT.COMMIT_REFUSED, .w1c SRX_EVENT.CRC_FAIL, .w1c SRX_EVENT.AUTH_FAIL, .w1c SRX_EVENT.PATH_UP, .w1c SRX_EVENT.PATH_DOWN]⟩,
  ⟨0x900018, 8, 1, 4, [.rw SRX_PROBE_CFG.DOWN_MS 1 0x3E8, .rw SRX_PROBE_CFG.KEEPALIVE_US 10 0x3E8]⟩,
  ⟨0x900020, 8, 1, 8, []⟩,
  ⟨0x900028, 8, 1, 8, []⟩,
  ⟨0x900030, 8, 1, 8, []⟩,
  ⟨0x900038, 8, 1, 8, []⟩,
  ⟨0x900100, 0x10, 16, 8, []⟩,
  ⟨0x900108, 0x10, 16, 8, []⟩,
  ⟨0x901000, 0x20, 4096, 8, [.rw SRX_ASSOC_CFG.EN, .rw SRX_ASSOC_CFG.PORT, .rw SRX_ASSOC_CFG.PEER_MAC]⟩,
  ⟨0x901008, 0x20, 4096, 4, [.rw SRX_ASSOC_VLAN.EN, .rw SRX_ASSOC_VLAN.PCP, .rw SRX_ASSOC_VLAN.VID]⟩,
  ⟨0x901010, 0x20, 4096, 8, []⟩,
  ⟨0x901018, 0x20, 4096, 8, []⟩]

/-- The CRU block. -/
def regsCRU : List RegRow := [
  ⟨0x200320000, 8, 1, 4, [.wo CRU_WDOG.KICK]⟩,
  ⟨0x200320008, 8, 1, 4, [.wo CRU_LEASE_REL.GO, .rw CRU_LEASE_REL.DOMAIN]⟩,
  ⟨0xA00000, 8, 1, 4, []⟩,
  ⟨0xA00008, 8, 1, 4, [.w1c CRU_EVENT.IDENTITY_FAIL, .w1c CRU_EVENT.MB_DENIED, .w1c CRU_EVENT.LEASE_EXPIRED, .w1c CRU_EVENT.WATCHDOG, .w1c CRU_EVENT.RESTARTED]⟩,
  ⟨0xA00010, 8, 1, 8, []⟩,
  ⟨0xA00018, 8, 1, 8, [.w1c CRU_DRAIN_LOG.VALID]⟩,
  ⟨0xA01000, 0x10, 1040, 8, [.rw CRU_MB_ADDR.ADDR]⟩,
  ⟨0xA01008, 0x10, 1040, 4, [.wo CRU_MB_CTL.GO]⟩,
  ⟨0xA08000, 8, 1024, 8, []⟩]

/-- The MTR block. -/
def regsMTR : List RegRow := [
  ⟨0xB00000, 8, 1, 4, [.rw MTR_CFG.INTERVAL_S 1 0x3C]⟩,
  ⟨0xB00008, 8, 1, 8, []⟩,
  ⟨0xB00010, 8, 1, 4, [.w1c MTR_EVENT.DEST_FULL, .w1c MTR_EVENT.DEGRADED, .w1c MTR_EVENT.LATE, .w1c MTR_EVENT.BATCH]⟩,
  ⟨0xB00018, 8, 1, 8, [.rw MTR_DEST.ADDR]⟩,
  ⟨0xB00020, 8, 1, 4, [.rw MTR_DEST_CTL.EN, .rw MTR_DEST_CTL.VECTOR 0 0x17, .rw MTR_DEST_CTL.SIZE 1 8]⟩,
  ⟨0xB00028, 8, 1, 8, [.rw MTR_DEST_IDX.HEAD]⟩]

/-- The CLK block. -/
def regsCLK : List RegRow := [
  ⟨0xC00000, 8, 1, 4, []⟩,
  ⟨0xC00008, 8, 1, 4, [.w1c CLK_EVENT.HOLDOVER, .w1c CLK_EVENT.STEPPED, .w1c CLK_EVENT.SOURCE_CHANGE, .w1c CLK_EVENT.COARSE_EXIT, .w1c CLK_EVENT.COARSE_ENTER, .w1c CLK_EVENT.FORCED, .w1c CLK_EVENT.MON_TRIP]⟩,
  ⟨0xC00010, 8, 1, 8, []⟩,
  ⟨0xC00018, 8, 1, 4, []⟩,
  ⟨0xC00020, 8, 1, 4, []⟩,
  ⟨0xC00028, 8, 1, 8, []⟩,
  ⟨0xC00030, 8, 1, 8, []⟩,
  ⟨0xC01000, 4, 296, 4, []⟩]

/-- The PWR block. -/
def regsPWR : List RegRow := [
  ⟨0xD00000, 8, 1, 4, []⟩,
  ⟨0xD00008, 8, 1, 4, [.w1c PWR_EVENT.LINK_LOST, .w1c PWR_EVENT.REFUSED, .w1c PWR_EVENT.DOMAIN_FAULT, .w1c PWR_EVENT.POWER_FAIL, .w1c PWR_EVENT.FEED1_LOST, .w1c PWR_EVENT.FEED0_LOST, .w1c PWR_EVENT.FEED1_RETURN, .w1c PWR_EVENT.FEED0_RETURN]⟩,
  ⟨0xD00010, 8, 2, 8, []⟩,
  ⟨0xD00020, 8, 1, 4, []⟩,
  ⟨0xD00028, 8, 1, 8, []⟩,
  ⟨0xD00030, 8, 1, 4, [.wo PWR_REMOVE.GO]⟩,
  ⟨0xD00100, 4, 64, 4, [.rw PWR_DOM.ON]⟩,
  ⟨0xD00200, 4, 40, 4, [.rw PWR_VPOINT.POINT]⟩]

/-- The FLT block. -/
def regsFLT : List RegRow := [
  ⟨0xE00000, 8, 1, 4, [.w1c FLT_STATUS.OVERFLOW]⟩,
  ⟨0xE00008, 8, 1, 4, [.wo FLT_CLEAR.CLASS]⟩,
  ⟨0xE00010, 8, 1, 4, [.rw FLT_CFG.HV_PAIR 0 0x9F, .rw FLT_CFG.HV_EN, .rw FLT_CFG.FIRST_MIN, .rw FLT_CFG.INT_EN]⟩,
  ⟨0xE00018, 8, 1, 8, []⟩,
  ⟨0xE00070, 8, 1, 8, [.rw FLT_ACK.SEQ]⟩,
  ⟨0xE00038, 8, 1, 8, []⟩,
  ⟨0xE00040, 8, 5, 8, []⟩,
  ⟨0xE02000, 0x10, 8, 8, []⟩]

/-- The ANV block. -/
def regsANV : List RegRow := [
  ⟨0xF00000, 8, 1, 4, []⟩,
  ⟨0xF00008, 8, 1, 4, [.w1c ANV_EVENT.MGMT, .w1c ANV_EVENT.HOT, .w1c ANV_EVENT.REJOINED, .w1c ANV_EVENT.FAILED, .w1c ANV_EVENT.LATE_RENEWAL, .w1c ANV_EVENT.EXPIRED, .w1c ANV_EVENT.RELEASED, .w1c ANV_EVENT.TAKEOVER]⟩,
  ⟨0xF00010, 8, 1, 8, []⟩,
  ⟨0xF00018, 8, 1, 8, []⟩,
  ⟨0xF00020, 8, 1, 4, []⟩,
  ⟨0x300240000, 8, 1, 4, [.rw ANV_OUT.AMBER 0 2, .rw ANV_OUT.GREEN 0 2, .rw ANV_OUT.SMB1_ALERT, .rw ANV_OUT.SMB0_ALERT, .rw ANV_OUT.FAULT]⟩]

/-- The LK block. -/
def regsLK : List RegRow := [
  ⟨0x300200000, 0x100000000, 2, 4, [.wo LK_CTL.RENEW, .wo LK_CTL.RELEASE]⟩]

/-- The AFC block. -/
def regsAFC : List RegRow := [
  ⟨0x300210000, 8, 1, 4, [.wo AFC_RAISE.GO, .rw AFC_RAISE.CLASS 0 4, .rw AFC_RAISE.CODE]⟩]

/-- The ABW block. -/
def regsABW : List RegRow := [
  ⟨0x300260000, 8, 1, 4, [.rw ABW_PAGE.BLOCK]⟩]

/-- Every register family outside the ring pages. -/
def regTable : List RegRow := regsPool ++ regsJNL ++ regsHEP ++ regsWIN ++ regsUOW ++ regsPAIR ++ regsSPARE ++ regsCOH ++ regsHA ++ regsMEM ++ regsSWG ++ regsCKL ++ regsCIP ++ regsCHN ++ regsSRX ++ regsCRU ++ regsMTR ++ regsCLK ++ regsPWR ++ regsFLT ++ regsANV ++ regsLK ++ regsAFC ++ regsABW

/-- The row that holds key `a`, and the register's own key, where the 4-byte word at `a` lies in one. -/
def findRow (t : List RegRow) (a : Nat) : Option (RegRow × Nat) :=
  match t with
  | [] => none
  | r :: t =>
    if r.base ≤ a ∧ (a - r.base) / r.stride < r.count ∧ (a - r.base) % r.stride < r.bytes then
      some (r, a - (a - r.base) % r.stride)
    else findRow t a

/-- The function and page offset of a key in a ring page (R102). -/
def ringKey (a : Nat) : Option (Nat × Nat) :=
  if 0x100000 ≤ a ∧ a < 0x101000 then some (0, a - 0x100000)
  else if 0x100005000 ≤ a ∧ a < 0x100000000 + 0x4000 * 1025 ∧ 0x1000 ≤ a % 0x4000 ∧ a % 0x4000 < 0x2000 then
    some ((a - 0x100000000) / 0x4000, a % 0x4000 - 0x1000)
  else none

/-- The register row of a key, and the register's own key. -/
def rowOf (a : Nat) : Option (RegRow × Nat) :=
  match ringKey a with
  | some (f, o) => (findRow regsRING o).map (fun p => (p.1, ringPage f + p.2))
  | none => findRow regTable a

/-- Reset values that are not zero: first key, stride, count and value (the Reset column). -/
def resetRows : List (Nat × Nat × Nat × Nat) := [
  (0x200020, 8, 1, 0xA00),
  (0x200040, 0x20, 2, 0x540000000000),
  (0x302000, 0x10, 1024, 0xC0003),
  (0x1000018, 0x2000, 320, 0xF0F000),
  (0x400000, 8, 1, 0x100),
  (0x500000, 8, 1, 0x1F00),
  (0x500038, 8, 1, 0x80000064),
  (0x500048, 8, 1, 0x18),
  (0x600010, 8, 1, 0x10),
  (0x800100, 0x10, 64, 0x300000),
  (0x900008, 8, 1, 0x88B50C14),
  (0x900018, 8, 1, 0x10064),
  (0xB00000, 8, 1, 0x3C),
  (0xC00000, 8, 1, 0xA),
  (0xD00100, 4, 64, 0x80000001),
  (0xD00200, 4, 40, 0x303),
  (0xE00010, 8, 1, 0x1000),
  (0xF00000, 8, 1, 0x240)]

/-- The reset value of the register at an address, by its row of the reset table; 0 where it has none.
Log 39 (DEDUCED). -/
def findReset (a : Nat) : List (Nat × Nat × Nat × Nat) → Nat
  | [] => 0
  | (b, st, n, v) :: t =>
    if b ≤ a ∧ (a - b) % st = 0 ∧ (a - b) / st < n then v else findReset a t

/-- MSI-X table of a function (R56): entry v has its address at +0, data at +8 and control at +12. -/
def msixTable (f : Nat) : Nat := if f = 0 then 0x8000 else 0x100000000 + 0x4000 * f + 0x2000
/-- MSI-X Pending Bit Array of a function (R56). -/
def msixPba (f : Nat) : Nat := if f = 0 then 0x9000 else 0x100000000 + 0x4000 * f + 0x3000
def msixVectors (f : Nat) : Nat := if f = 0 then 32 else 16
def MSIX_ADDR (f v : Nat) : Nat := msixTable f + 16 * v
def MSIX_DATA (f v : Nat) : Nat := msixTable f + 16 * v + 8
def MSIX_CTRL (f v : Nat) : Nat := msixTable f + 16 * v + 12

/-- R200: cores of slot k behind a pair view in compared mode; the odd view is reserved there. -/
def pairStatusReset (v : Nat) : Nat :=
  if v % 2 = 0 then (2 * (v / 2 % 4) + 1) * 2 ^ 32 + (2 * (v / 2 % 4)) * 2 ^ 28 else 0

/-- The value of a register at reset: the Reset column, or for a column that names the image or the
factory the value of `Config.image` and `Config.portMac` (log 3, log 4). Log 39 (DEDUCED). -/
def regReset (a : Nat) : W64 :=
  if 0x1000000 ≤ a ∧ a < 0x1280000 then
    (if a % 0x2000 = 0 then BitVec.ofNat 64 (pairStatusReset ((a - 0x1000000) / 0x2000))
     else if a % 0x4000 = 0x18 then 0xF0F000#64 else 0)
  else if 0x100000 ≤ a ∧ a < 0x101000 then (if a = 0x100010 then 0x10000A#64 else 0)
  else if a = 0x101000 then BitVec.ofNat 64 (Config.image.dedupTables * 0x10001)
  else if a = 0x200080 then BitVec.ofNat 64 (Config.image.moduleIndex * 2 ^ 24)
  else if a = 0x400000 then BitVec.ofNat 64 (0x100 + Config.image.cohMode)
  else if a = 0x500008 then BitVec.ofNat 64 Config.image.memTop
  else if 0x701008 ≤ a ∧ a < 0x701808 ∧ a % 16 = 8 then BitVec.ofNat 64 ((a - 0x701008) / 16 / 16 * 2 ^ 12)
  else if 0x801008 ≤ a ∧ a < 0x802008 ∧ a % 16 = 8 then BitVec.ofNat 64 ((a - 0x801008) / 16 / 4 * 2 ^ 10)
  else if 0x900100 ≤ a ∧ a < 0x900200 ∧ a % 16 = 0 then (Config.portMac ((a - 0x900100) / 16)).setWidth 64
  else if 0x900108 ≤ a ∧ a < 0x900208 ∧ a % 16 = 8 then BitVec.ofNat 64 (Config.image.portModes.getD ((a - 0x900108) / 16) 0 * 2)
  else if a = 0xC00000 then BitVec.ofNat 64 (0xA + if Config.image.master then 0x80 else 0)
  else if a = 0xC00018 then
    BitVec.ofNat 64 ((if Config.image.laneEn then 0x100 else 0) + Config.image.laneKind * 2 ^ 7 + Config.image.lane)
  else if a = 0xC00020 then BitVec.ofNat 64 (Config.image.periodMs * 2 ^ 16 + Config.image.windowPpm)
  else if 0x8000 ≤ a ∧ a < 0x8200 then (if a % 16 = 12 then 1 else 0)
  else if 0x100004000 ≤ a ∧ a < 0x100000000 + 0x4000 * 1025 then
    (if a % 0x4000 = 0x1010 then 0x10000A#64
     else if 0x2000 ≤ a % 0x4000 ∧ a % 0x4000 < 0x2100 ∧ a % 16 = 12 then 1 else 0)
  else BitVec.ofNat 64 (findReset a resetRows)

end Sys2Proof.Machine
end

