-- ==== Sys2Proof/Syntax.lean ====
section
/-!
DEFINITION. The commands the block takes (the rows of spec/opcode_table.json), as data. An operand says
what the outside brings with the command: the register value written, the index of the thing concerned,
the bytes of a frame or of a request, the verdict of a hardware check. Index operands are `Fin` types, so
an index out of range cannot be written.
-/
namespace Sys2Proof

/-- A processor of the Dirnoza instruction set (R135). -/
inductive Proc where
  /-- executor 2 × pair + odd of a main pair (R116) -/
  | exec (e : Fin 320)
  /-- channel engine firmware -/
  | engine (e : Fin 64)
  | anvilA | anvilB | crucible | sequencer
  deriving DecidableEq, Repr

/-- The two floating-point formats (R167). -/
inductive Fmt where
  | d | s
  deriving DecidableEq, Repr

/-- The five rounding modes of R168, and "the current `fpc.RM`" (R146). -/
inductive Rm where
  | rne | rz | ru | rd | rna | dyn
  deriving DecidableEq, Repr

/-- The world of a requester at the region check (R240). -/
inductive World where
  /-- the open world itself: hypervisor, partitions not sealed, host -/
  | opened
  /-- the open world on behalf of a partition -/
  | onBehalf (part : Nat)
  | sealed (part : Nat)
  /-- Work Dispatcher, Temper, home agents -/
  | module
  | crucible
  deriving DecidableEq, Repr

/-- Which check of a cache array failed (R205). -/
inductive CheckFail where
  | clean | dirtyOne | dirtyBoth | tagOne | tagBoth
  deriving DecidableEq, Repr

/-- The array whose check fails (R201): an L1 of a core (`data` false for instructions), a Hearth (0 to 3) or an L2
(4 + n), or the directory of a home (0 to 23 the home agents, 24 + d the snoop directory of die d). -/
inductive CacheArray where
  | l1 (core : Fin 360) (data : Bool)
  | cache (a : Fin 44)
  | directory (h : Fin 28)
  deriving DecidableEq, Repr

/-- A general or floating-point register number. -/
abbrev RegNo := Fin 64

/-- What a WbD is: a writeback of a line that leaves the cache, one with its keep flag set, or the answer to a Recall
(R204, R208, R210). -/
inductive WbdKind where
  | leaves | keeps | answers
  deriving DecidableEq, Repr

/-- Status of a read completion that reaches the endpoint. -/
inductive CplStatus where
  | success | unsupported | aborted
  deriving DecidableEq, Repr

/-- What a memory TLP to BAR0 or BAR2 carries: its offset, its length in bytes, whether its byte enables cover
whole naturally aligned 4-byte words, its data, whether it carries the T bit of a bound selective stream, and
whether it is a read, which has no data (R20, R60, R75). Log 39 (DEDUCED). -/
structure BarWrite where
  offset : Nat
  size : Nat
  whole : Bool
  value : W64
  tee : Bool
  read : Bool := false
  deriving DecidableEq, Repr

/-- What triggers a containment freeze (R70); the codes are those of `HEP_FREEZE.CAUSE` (R80). -/
inductive FreezeCause where
  | dlProtocol | flowControl | malformedTlp | receiverOverflow | poisonedCompletion | completionTimeout
  | ecrc | ideCheck | internalError | electricalIdle | recoveryEntries
  deriving DecidableEq, Repr

/-- A configuration field whose contents the manual gives, by name where it gives no register address (R54, R56, R57,
R61, R66). -/
inductive CfgField where
  | vendorId | deviceId | classCode | revisionId | interruptPin
  | msixTableSize | msixTable | msixPba | msixEnable | msixMask
  | noSoftReset | powerState | busMaster
  | ariHierarchy | totalVfs | firstVfOffset | vfStride | vfDeviceId | numVfs | vfEnable | systemPageSize
  | vfBar (high : Bool)
  | atsQueueDepth | atsPageAligned | atsEnable
  | doeDiscovery | doeSpdm | doeSecuredSpdm
  | ideLinkStreams | ideSelectiveStreams | ideBlocks
  | resetTimeMs | dlUpTimeMs | flrTimeMs | d3ToD0TimeMs | vfEnableTimeMs
  | maxPayload | maxReadRequest | tagBits | aerStatus (c : FreezeCause)
  | ecrcCapable | ecrcGenerate | ecrcCheck
  | ari | dataLinkFeature | physicalLayer (gen : Fin 7)
  deriving DecidableEq, Repr

/-- What a configuration request does (R437, R56, R57, R59, R61, R71, R74): the settings the manual gives an effect,
reads of the fields it gives, and reads and writes of any other configuration register. -/
inductive CfgOp where
  | read (reg : Nat)
  | readField (x : CfgField)
  | write (reg : Nat) (value : BitVec 32)
  | msix (enable mask : Bool)
  | ats (enable : Bool)
  | power (d3 : Bool)
  /-- 1 written to the AER Uncorrectable Error Status bit of a cause -/
  | aerClear (c : FreezeCause)
  | ariHierarchy (on : Bool)
  | numVfs (n : Fin 1025)
  /-- a Base Address Register of the function -/
  | bar (reg : Nat) (value : BitVec 32)
  /-- a half of the VF BAR0 register of the SR-IOV capability -/
  | vfBar (high : Bool) (value : BitVec 32)
  /-- SR-IOV System Page Size: 4 KiB × 2^n -/
  | pageSize (n : Fin 32)
  /-- the completion timeout, in nanoseconds -/
  | cplTimeout (ns : Nat)
  /-- an address association block of a selective IDE stream: first and last address -/
  | ideBlock (stream : Fin 8) (n : Fin 4) (first last : Nat)
  /-- ECRC Generation Enable and ECRC Check Enable of the function's AER capability -/
  | ecrc (generate check : Bool)
  deriving DecidableEq, Repr

/-- A step of an engine on the request at the head of a queue: it starts it, it ends it, or a check finds a
mismatch (R284). -/
inductive EngStep where
  | start | finish | mismatch
  deriving DecidableEq, Repr

/-- Who writes a mailbox register (R340). -/
inductive Writer where
  | host | hypervisor | anvil
  /-- supervisor level in the sealed world of a partition -/
  | sealed (p : Fin 1024)
  | other
  deriving DecidableEq, Repr

/-- What two Crucibles send each other over a seam link (R352, R48). -/
inductive ComplexMsg where
  /-- the sender asks the origin for a standby registration -/
  | standby (part : Fin 1024)
  | refused (part : Fin 1024)
  /-- the origin accepts, and sends the partition's keys, measurement and time of sealing -/
  | accepted (part : Fin 1024) (measurement xts : Bytes) (kem sealTime : Nat)
  /-- the check of R48, and its answer -/
  | check (part : Fin 1024)
  | checked (part : Fin 1024) (holds : Bool)
  /-- the sender proves its Hallmark, of its own accord or in answer to the other's proof -/
  | hello (proof : Bytes) (answer : Bool)
  deriving DecidableEq, Repr

/-- What reaches the SPDM responder (R74, R339): a plain request, the set-up or end of a secured session, or an
IDE_KM message within one: a key set programmed, put in use, or stopped. Stream 0 is the link stream. -/
inductive SpdmOp where
  | request (data : Bytes)
  | openSession
  | endSession (n : Nat)
  | ideKey (stream : Fin 9) (set : Fin 2) (keys : List Bytes)
  | ideGo (stream : Fin 9) (set : Fin 2)
  | ideStop (stream : Fin 9)
  deriving DecidableEq, Repr


/-- What the checks of a start find (R431 steps 2, 4, 5 and 6, R194): Crucible's identity and measurement check,
the comparators of the Dispatcher and the sequencer, the two Anvils; failing lanes of slot comparators, failing
spare routes (8 × cluster + route), and cores that Assay condemns, with their result codes; and whether a rail had
failed to fall (R390). -/
structure StartChecks where
  identity : Bool
  comparators : Bool
  anvilA : Bool
  anvilB : Bool
  lanes : List (Fin 160 × BitVec 10)
  routes : List (Fin 320)
  cores : List (Fin 360 × Fin 10)
  joins : List (Fin 320)
  railStuck : Bool
  deriving DecidableEq, Repr

/-- An event that a block reports to the fault collector: Classes 0 to 3, or one of the two Class 4 conditions that
no other command stands for (R409). -/
inductive FaultInput where
  | event (cls : Fin 4) (block : Fin 32) (cause : Fin 64) (inst : BitVec 16) (detail : W64)
  | sequencerFailed
  | regionsDisagree
  deriving DecidableEq, Repr

/-- What Anvil firmware does as a PLDM endpoint (R423, R425): it answers a request, generates an event, takes bundle
bytes of a firmware update into the bank not in use, or applies the bundle. -/
inductive PldmOp where
  | request (data : Bytes)
  | event
  | write (offset : Nat) (data : Bytes)
  | apply
  deriving DecidableEq, Repr

/-- The commands of the block: one constructor per row of the table of operations and events. -/
inductive Instr where
  /-- R431. AC applied after both feeds were absent long enough for the rails to collapse; power-on start-up begins. -/
  | powerOn (x : StartChecks)
  /-- R432. Anvil firmware, the fault collector or Bellows starts a module reset, which runs its steps up to the recovery scan. -/
  | moduleReset (starter : Fin 3) (x : StartChecks)
  /-- R434. Channel training ends; memory is initialised to zeros at power-on, or given a consistency pass at module reset. -/
  | gddr7TrainingComplete (failed : List (Fin 24)) (lost : List (BitVec 42))
  /-- R42. The journal controller reads both dies, takes the newest valid snapshot and settles every log position. -/
  | recoveryScan
  /-- R436. ASN series are rebuilt and units are held, committed again or restarted from the scanned journal. -/
  | replay
  /-- R438. A start-up step exceeds its bound and is treated as a Class 3 event before ready. -/
  | startupStepOverrun
  /-- R13. One half of a die-to-die bridge fails, and traffic continues on the other half. -/
  | bridgeHalfFailure (b : Fin 10) (half : Fin 2)
  /-- R13. Both halves of a bridge fail: traffic is rerouted through the H-die, or the C-die is lost. -/
  | bridgeFailure (b : Fin 10)
  /-- R21. A die reports a block write complete; a record may become durable and a descriptor accepted. -/
  | journalBlockWriteComplete (die : Fin 2) (seq : Nat) (failed : Bool)
  /-- R41. Every SNAP_MS the journal controller writes a snapshot generation, alternating slots A and B. -/
  | snapshotGeneration
  /-- R45. The wear manager retires a weak row, once it qualifies, to a spare row of the same die. -/
  | rowRetire (die : Fin 2) (row : Fin 1048576)
  /-- R47. A journal die is declared failed, and the journal enters single-die mode. -/
  | journalDieFailed (die : Fin 2)
  /-- R44. Bellows reports the loss of both feeds; the Dispatcher stops fetching and the journal writes a clean stop and locks. -/
  | bothFeedsLostReport
  /-- R48. A partner's journal record arrives over a seam link and is written as foreign, then acknowledged. -/
  | mirrorRecord (partner : Fin 8) (number : Nat) (blocks : List Bytes) (posted : Option Nat)
  /-- R48. A partner's mirror acknowledgement arrives and makes a mirrored record durable. -/
  | mirrorAck (partner : Fin 8) (number : Nat)
  /-- R49. Every 100 µs a heartbeat is sent to each partner on each seam link. -/
  | heartbeatTimer (partner : Fin 8) (port : Fin 8)
  /-- R49. A heartbeat is received from a partner; it echoes a sequence number or carries this module's own index. -/
  | heartbeat (partner : Fin 8) (port : Fin 8) (index : Fin 8) (number echo : Nat)
  /-- R49. No echoing heartbeat for 1 ms; the rings mirrored to that partner are fenced. -/
  | fenceTimeout (partner : Fin 8)
  /-- R50. Silence from a partner for 2 ms; this module takes over the rings it mirrors for that partner. -/
  | takeoverTimeout (partner : Fin 8)
  /-- R51. Contact with a partner returns; a fenced module lifts the fence or marks its rings adopted by the partner. -/
  | contactReturn (partner : Fin 8) (adoptedOurs : Bool)
  /-- R20. A write to a register without behaviour of its own stores the value, sets W1C/W1S bits, or is discarded and logged. -/
  | registerWrite (who : Writer) (f : Fin 1025) (w : BarWrite)
  /-- R54. An AtomicOp received at any BAR is completed with Unsupported Request. -/
  | atomicOpTlp (f : Fin 1025)
  /-- R437. A configuration request is served, or answered with RRS until ready. -/
  | configRequest (f : Fin 1025) (op : CfgOp)
  /-- R65. A change of a function's Bus Master Enable moves it between disabled, running and held states. -/
  | busMasterEnable (f : Fin 1025) (on : Bool)
  /-- R57. Setting or clearing VF Enable creates or resets the VFs, limited by ARI Capable Hierarchy. -/
  | vfEnable (on : Bool)
  /-- R64. PERST# is asserted and every function, window and IDE stream is reset. -/
  | perstAssert
  /-- R66. PERST# is deasserted and link training starts. -/
  | perstDeassert
  /-- R64. Hot reset, link disable or Data Link Layer Down resets the functions while keeping the sticky bits. -/
  | hotReset
  /-- R67. Initiate Function Level Reset of a VF stops fetching and begins the drain. -/
  | flrVf (v : Fin 1024)
  /-- R456. Initiate Function Level Reset of the PF drains and resets the PF and every VF. -/
  | flrPf
  /-- R67. The outstanding reads finish; the function's state is reset and FLR_DONE is set. -/
  | flrDrainComplete (f : Fin 1025)
  /-- R69. The 90 ms drain deadline expires; outstanding tags are quarantined and the reset completes. -/
  | flrDrainDeadline (f : Fin 1025)
  /-- R69. A read completion arrives for a module request: Doorbell Area, descriptors, late or quarantined data. -/
  | completionTlp (tag : Nat) (st : CplStatus) (data : Bytes)
  /-- R70. A module request's completion timeout expires: freeze, or an AER log for a VF in drain. -/
  | completionTimeout (tag : Nat)
  /-- R71. A containment trigger freezes the endpoint: requests stop, queued writes are discarded and completions are held. -/
  | freezeTrigger (c : FreezeCause) (f : Fin 1025) (stream : Fin 9)
  /-- R72. A write of 1 to RELEASE ends the freeze, or is refused. -/
  | hepFreezeRelease
  /-- R73. An ATS Invalidate Request stops issue under the matching translations. -/
  | atsInvalidateRequest (itag : Fin 32) (f : Fin 1025) (base size : Nat)
  /-- R73. Once the covered reads have completed, the Invalidate Completion is sent. -/
  | atsInvalidateCompletion (itag : Fin 32) (f : Fin 1025)
  /-- R339. A DOE or MCTP SPDM message reaches the Crucible responder, including IDE_KM key programming. -/
  | spdmRequest (iface : Option (Fin 4)) (op : SpdmOp)
  /-- R75. A TDISP STOP_INTERFACE_REQUEST returns the TDI to CONFIG_UNLOCKED and resets the VF. -/
  | stopInterfaceRequest (v : Fin 1024)
  /-- R76. A BAR4 TLP is decoded under the active window set and reaches memory, or is refused with Completer Abort. -/
  | peerWindowTlp (write : Bool) (off : BitVec 44) (len : Nat) (data : Bytes)
  /-- R78. A GO write checks a window's shadow set and copies it into the active set. -/
  | winCommit (w : Fin 64)
  /-- R78. The TLPs decoded under the old set finish, and BUSY clears. -/
  | winCommitDrained
  /-- R88. A wake-page write carries a count, or triggers a Doorbell Area read, and wakes the rings it targets. -/
  | wakePageWrite (f : Fin 1025) (bar2 : Bool) (w : BarWrite)
  /-- R89. The poll interval expires; the Doorbell Area is read and idle rings may be set sleeping. -/
  | pollIntervalExpiry (f : Fin 1025)
  /-- R100. Completed units are posted in ASN order into freed completion-ring slots, then the posted index is written. -/
  | completionPost (f : Fin 1025) (c : Fin 17)
  /-- R100. COAL_US expires and the ring's MSI-X message is sent. -/
  | coalescingTimer (f : Fin 1025) (c : Fin 17)
  /-- R103. A write of 1 to RING_SQn_CFG.EN enables the ring, or records the failing condition in ERR. -/
  | ringSqEnable (f : Fin 1025) (r : Fin 17) (v : BitVec 32)
  /-- R103. A write of 0 to RING_SQn_CFG.EN starts a drain of the ring. -/
  | ringSqDisable (f : Fin 1025) (r : Fin 17)
  /-- R103. A write to RING_CQn_CFG enables the ring, updates coalescing, or has its disable refused. -/
  | ringCqCfgWrite (f : Fin 1025) (c : Fin 17) (v : BitVec 32)
  /-- R107. A GO write starts a register-triggered RESYNC that writes the Resync Summary and sets DONE. -/
  | resyncGo (f : Fin 1025) (v : BitVec 32)
  /-- R105. Admin command that does nothing and completes with 0. -/
  | nop (f : Fin 1025)
  /-- R107. Admin command that writes the Resync Summary for a function. -/
  | resync (f : Fin 1025)
  /-- R105. Admin command that stops fetching, squashes fetched descriptors and waits until all accepted units are posted. -/
  | ringDrain (f : Fin 1025)
  /-- R105. Every accepted unit of the draining ring is posted; EN clears and the command completes. -/
  | drainComplete (f : Fin 1025) (r : Fin 17)
  /-- R105. Admin command that clears a broken ring and discards its live records. -/
  | ringReset (f : Fin 1025)
  /-- R105. Admin command that sets or stops a ring's mirror partner. -/
  | ringMirror (f : Fin 1025)
  /-- R105. Admin command that binds a local ring to an adopted series. -/
  | ringAdopt (f : Fin 1025)
  /-- R105. Admin command that ends a ring's series and frees its table once a snapshot without the series is durable. -/
  | ringPurge (f : Fin 1025)
  /-- R106. Admin command that sets a VF's ring count, draining rings on a decrease. -/
  | vfSetRings (f : Fin 1025)
  /-- R105. Admin command that attributes peer-window slots to a VF for metering. -/
  | vfSetWindows (f : Fin 1025)
  /-- R105. Admin command that sets a VF's key-slot quota. -/
  | vfSetKeyquota (f : Fin 1025)
  /-- R105. Admin command that sets a VF's compression weight. -/
  | vfSetCompshare (f : Fin 1025)
  /-- R105. Admin command that sets a VF's meter class. -/
  | vfSetMeterclass (f : Fin 1025)
  /-- R105. An admin descriptor with a reserved opcode completes with 0x0100. -/
  | adminOpcodeUnknown (f : Fin 1025)
  /-- R111. A write to UOW_PAIRn_BIND requests a binding, or drains the pair before it changes. -/
  | pairBindRequest (pair : Fin 160) (value : BitVec 32)
  /-- R348. Crucible's answer to a binding, queue-owner or device-owner confirmation arrives and takes effect. -/
  | ownerConfirmation (kind : Fin 6) (index : Fin 1024)
  /-- R114. The Dispatcher starts a queued unit on an idle bound pair, or ends it with 0x0004. -/
  | unitStart (part : Fin 1024) (e : Fin 320)
  /-- R122. All programs of a committed run have ended and every status is in; the Commit Record is issued. -/
  | unitPrepared (f : Fin 9225) (r : Fin 16) (asn : Nat)
  /-- R128. A restart cause stops the run, aborts its exchanges and issues a Restart Record, or ends the unit with 0x0002. -/
  | unitRestart (f : Fin 9225) (r : Fin 16) (asn : Nat) (poison : Bool)
  /-- R130. A Class 2 fault or a STOP stops a partition; its Executing and Preparing units are aborted with 0x0003. -/
  | partitionStop (part : Fin 1024)
  /-- R142. A reserved or malformed instruction word raises illegal instruction. -/
  | illegalInstruction (p : Proc) (word : BitVec 32)
  /-- R144. Instruction: d gets a + imm. -/
  | addi (p : Proc) (d a : RegNo) (imm : BitVec 14)
  /-- R144. Instruction: d gets the sign extension of the 32-bit sum a + imm. -/
  | addiw (p : Proc) (d a : RegNo) (imm : BitVec 14)
  /-- R144. Instruction: bitwise AND of a with imm. -/
  | andi (p : Proc) (d a : RegNo) (imm : BitVec 14)
  /-- R144. Instruction: bitwise OR of a with imm. -/
  | ori (p : Proc) (d a : RegNo) (imm : BitVec 14)
  /-- R144. Instruction: bitwise XOR of a with imm. -/
  | xori (p : Proc) (d a : RegNo) (imm : BitVec 14)
  /-- R144. Instruction: signed compare of a with imm. -/
  | slti (p : Proc) (d a : RegNo) (imm : BitVec 14)
  /-- R144. Instruction: unsigned compare of a with imm. -/
  | sltiu (p : Proc) (d a : RegNo) (imm : BitVec 14)
  /-- R144. Instruction: shift left by an immediate amount. -/
  | slli (p : Proc) (d a : RegNo) (n : Fin 64)
  /-- R144. Instruction: logical shift right by an immediate amount. -/
  | srli (p : Proc) (d a : RegNo) (n : Fin 64)
  /-- R144. Instruction: arithmetic shift right by an immediate amount. -/
  | srai (p : Proc) (d a : RegNo) (n : Fin 64)
  /-- R144. Instruction: rotate right by an immediate amount. -/
  | rori (p : Proc) (d a : RegNo) (n : Fin 64)
  /-- R144. Instruction: d gets imm20 shifted left by 14. -/
  | himm (p : Proc) (d : RegNo) (imm : BitVec 20)
  /-- R144. Instruction: d gets pc plus imm20 shifted left by 14. -/
  | himmpc (p : Proc) (d : RegNo) (imm : BitVec 20)
  /-- R145. Instruction: 64-bit add. -/
  | add (p : Proc) (d a b : RegNo)
  /-- R145. Instruction: 64-bit subtract. -/
  | sub (p : Proc) (d a b : RegNo)
  /-- R145. Instruction: 32-bit add, sign-extended. -/
  | addw (p : Proc) (d a b : RegNo)
  /-- R145. Instruction: 32-bit subtract, sign-extended. -/
  | subw (p : Proc) (d a b : RegNo)
  /-- R145. Instruction: bitwise AND. -/
  | and (p : Proc) (d a b : RegNo)
  /-- R145. Instruction: bitwise OR. -/
  | or (p : Proc) (d a b : RegNo)
  /-- R145. Instruction: bitwise XOR. -/
  | xor (p : Proc) (d a b : RegNo)
  /-- R145. Instruction: a AND NOT b. -/
  | andn (p : Proc) (d a b : RegNo)
  /-- R145. Instruction: shift left by b. -/
  | sll (p : Proc) (d a b : RegNo)
  /-- R145. Instruction: logical shift right by b. -/
  | srl (p : Proc) (d a b : RegNo)
  /-- R145. Instruction: arithmetic shift right by b. -/
  | sra (p : Proc) (d a b : RegNo)
  /-- R145. Instruction: rotate right by b. -/
  | ror (p : Proc) (d a b : RegNo)
  /-- R145. Instruction: signed set-less-than. -/
  | slt (p : Proc) (d a b : RegNo)
  /-- R145. Instruction: unsigned set-less-than. -/
  | sltu (p : Proc) (d a b : RegNo)
  /-- R145. Instruction: signed minimum. -/
  | min (p : Proc) (d a b : RegNo)
  /-- R145. Instruction: unsigned minimum. -/
  | minu (p : Proc) (d a b : RegNo)
  /-- R145. Instruction: signed maximum. -/
  | max (p : Proc) (d a b : RegNo)
  /-- R145. Instruction: unsigned maximum. -/
  | maxu (p : Proc) (d a b : RegNo)
  /-- R145. Instruction: count leading zeros. -/
  | clz (p : Proc) (d a : RegNo)
  /-- R145. Instruction: count trailing zeros. -/
  | ctz (p : Proc) (d a : RegNo)
  /-- R145. Instruction: count of one bits. -/
  | popc (p : Proc) (d a : RegNo)
  /-- R163. Instruction: low 64 bits of the product. -/
  | mul (p : Proc) (d a b : RegNo)
  /-- R163. Instruction: 32-bit product, sign-extended. -/
  | mulw (p : Proc) (d a b : RegNo)
  /-- R163. Instruction: high 64 bits of the signed product. -/
  | mulhs (p : Proc) (d a b : RegNo)
  /-- R163. Instruction: high 64 bits of the unsigned product. -/
  | mulhu (p : Proc) (d a b : RegNo)
  /-- R163. Instruction: high 64 bits of signed a times unsigned b. -/
  | mulhm (p : Proc) (d a b : RegNo)
  /-- R165. Instruction: signed 64-bit divide, with the special cases defined. -/
  | div (p : Proc) (d a b : RegNo)
  /-- R165. Instruction: unsigned 64-bit divide. -/
  | divu (p : Proc) (d a b : RegNo)
  /-- R165. Instruction: signed 64-bit remainder. -/
  | rem (p : Proc) (d a b : RegNo)
  /-- R165. Instruction: unsigned 64-bit remainder. -/
  | remu (p : Proc) (d a b : RegNo)
  /-- R165. Instruction: signed 32-bit divide. -/
  | divw (p : Proc) (d a b : RegNo)
  /-- R165. Instruction: unsigned 32-bit divide. -/
  | divuw (p : Proc) (d a b : RegNo)
  /-- R165. Instruction: signed 32-bit remainder. -/
  | remw (p : Proc) (d a b : RegNo)
  /-- R165. Instruction: unsigned 32-bit remainder. -/
  | remuw (p : Proc) (d a b : RegNo)
  /-- R145. Instruction: jump to a. -/
  | jr (p : Proc) (a : RegNo)
  /-- R145. Instruction: link, then jump to a. -/
  | jalr (p : Proc) (a : RegNo)
  /-- R145. Instruction: jump to lk. -/
  | ret (p : Proc)
  /-- R145. Instruction: d gets lk. -/
  | mflk (p : Proc) (d : RegNo)
  /-- R145. Instruction: lk gets a. -/
  | mtlk (p : Proc) (a : RegNo)
  /-- R167. Floating-point add, binary32 or binary64. -/
  | fadd (p : Proc) (fmt : Fmt) (rm : Rm) (d a b : RegNo)
  /-- R167. Floating-point subtract. -/
  | fsub (p : Proc) (fmt : Fmt) (rm : Rm) (d a b : RegNo)
  /-- R167. Floating-point multiply. -/
  | fmul (p : Proc) (fmt : Fmt) (rm : Rm) (d a b : RegNo)
  /-- R167. Floating-point divide. -/
  | fdiv (p : Proc) (fmt : Fmt) (rm : Rm) (d a b : RegNo)
  /-- R167. Floating-point square root. -/
  | fsqrt (p : Proc) (fmt : Fmt) (rm : Rm) (d a : RegNo)
  /-- R173. Floating-point minimum. -/
  | fmin (p : Proc) (fmt : Fmt) (d a b : RegNo)
  /-- R173. Floating-point maximum. -/
  | fmax (p : Proc) (fmt : Fmt) (d a b : RegNo)
  /-- R175. Conversion between binary32 and binary64. -/
  | fcvt (p : Proc) (fmt : Fmt) (rm : Rm) (d a : RegNo)
  /-- R175. Conversion to a signed 64-bit integer. -/
  | fcvti (p : Proc) (fmt : Fmt) (rm : Rm) (d a : RegNo)
  /-- R175. Conversion to an unsigned 64-bit integer. -/
  | fcvtiu (p : Proc) (fmt : Fmt) (rm : Rm) (d a : RegNo)
  /-- R175. Conversion to a signed 32-bit integer. -/
  | fcvtw (p : Proc) (fmt : Fmt) (rm : Rm) (d a : RegNo)
  /-- R175. Conversion to an unsigned 32-bit integer. -/
  | fcvtwu (p : Proc) (fmt : Fmt) (rm : Rm) (d a : RegNo)
  /-- R175. Conversion from a signed 64-bit integer. -/
  | fcvtf (p : Proc) (fmt : Fmt) (rm : Rm) (d a : RegNo)
  /-- R175. Conversion from an unsigned 64-bit integer. -/
  | fcvtfu (p : Proc) (fmt : Fmt) (rm : Rm) (d a : RegNo)
  /-- R175. Conversion from a signed 32-bit integer. -/
  | fcvtfw (p : Proc) (fmt : Fmt) (rm : Rm) (d a : RegNo)
  /-- R175. Conversion from an unsigned 32-bit integer. -/
  | fcvtfwu (p : Proc) (fmt : Fmt) (rm : Rm) (d a : RegNo)
  /-- R174. Floating-point equality compare. -/
  | feq (p : Proc) (fmt : Fmt) (d a b : RegNo)
  /-- R174. Floating-point less-than compare. -/
  | flt (p : Proc) (fmt : Fmt) (d a b : RegNo)
  /-- R174. Floating-point less-or-equal compare. -/
  | fle (p : Proc) (fmt : Fmt) (d a b : RegNo)
  /-- R174. Floating-point unordered test. -/
  | funord (p : Proc) (fmt : Fmt) (d a b : RegNo)
  /-- R176. Sign negation. -/
  | fneg (p : Proc) (fmt : Fmt) (d a : RegNo)
  /-- R176. Absolute value. -/
  | fabs (p : Proc) (fmt : Fmt) (d a : RegNo)
  /-- R176. Copy sign. -/
  | fcpysgn (p : Proc) (fmt : Fmt) (d a b : RegNo)
  /-- R176. Bit copy from an f register to a g register. -/
  | fmvtg (p : Proc) (fmt : Fmt) (d a : RegNo)
  /-- R176. Bit copy from a g register to an f register. -/
  | fmvfg (p : Proc) (fmt : Fmt) (d a : RegNo)
  /-- R177. Write the kind code of a floating-point operand. -/
  | fkind (p : Proc) (fmt : Fmt) (d a : RegNo)
  /-- R172. Fused multiply-add. -/
  | ffma (p : Proc) (fmt : Fmt) (d a b c : RegNo)
  /-- R172. Fused multiply-subtract. -/
  | ffms (p : Proc) (fmt : Fmt) (d a b c : RegNo)
  /-- R172. Negated fused multiply-add. -/
  | ffna (p : Proc) (fmt : Fmt) (d a b c : RegNo)
  /-- R172. Negated fused multiply-subtract. -/
  | ffns (p : Proc) (fmt : Fmt) (d a b c : RegNo)
  /-- R148. Atomic 64-bit compare-and-swap. -/
  | cas (p : Proc) (d a b : RegNo)
  /-- R148. Atomic 32-bit compare-and-swap. -/
  | casw (p : Proc) (d a b : RegNo)
  /-- R148. Atomic 64-bit swap. -/
  | swap (p : Proc) (d a b : RegNo)
  /-- R148. Atomic 32-bit swap. -/
  | swapw (p : Proc) (d a b : RegNo)
  /-- R148. Atomic 64-bit add. -/
  | aadd (p : Proc) (d a b : RegNo)
  /-- R148. Atomic 32-bit add. -/
  | aaddw (p : Proc) (d a b : RegNo)
  /-- R148. Atomic 64-bit AND. -/
  | aand (p : Proc) (d a b : RegNo)
  /-- R148. Atomic 32-bit AND. -/
  | aandw (p : Proc) (d a b : RegNo)
  /-- R148. Atomic 64-bit OR. -/
  | aor (p : Proc) (d a b : RegNo)
  /-- R148. Atomic 32-bit OR. -/
  | aorw (p : Proc) (d a b : RegNo)
  /-- R149. Load a byte, sign-extended. -/
  | lb (p : Proc) (t a : RegNo) (u : Bool) (imm : BitVec 13)
  /-- R149. Load a byte, zero-extended. -/
  | lbu (p : Proc) (t a : RegNo) (u : Bool) (imm : BitVec 13)
  /-- R149. Load a halfword, sign-extended. -/
  | lh (p : Proc) (t a : RegNo) (u : Bool) (imm : BitVec 13)
  /-- R149. Load a halfword, zero-extended. -/
  | lhu (p : Proc) (t a : RegNo) (u : Bool) (imm : BitVec 13)
  /-- R149. Load a word, sign-extended. -/
  | lw (p : Proc) (t a : RegNo) (u : Bool) (imm : BitVec 13)
  /-- R149. Load a word, zero-extended. -/
  | lwu (p : Proc) (t a : RegNo) (u : Bool) (imm : BitVec 13)
  /-- R149. Load a doubleword. -/
  | ld (p : Proc) (t a : RegNo) (u : Bool) (imm : BitVec 13)
  /-- R149. Load binary32 into an f register. -/
  | flw (p : Proc) (t a : RegNo) (u : Bool) (imm : BitVec 13)
  /-- R149. Load binary64 into an f register. -/
  | fld (p : Proc) (t a : RegNo) (u : Bool) (imm : BitVec 13)
  /-- R149. Store a byte. -/
  | sb (p : Proc) (t a : RegNo) (u : Bool) (imm : BitVec 13)
  /-- R149. Store a halfword. -/
  | sh (p : Proc) (t a : RegNo) (u : Bool) (imm : BitVec 13)
  /-- R149. Store a word. -/
  | sw (p : Proc) (t a : RegNo) (u : Bool) (imm : BitVec 13)
  /-- R149. Store a doubleword. -/
  | sd (p : Proc) (t a : RegNo) (u : Bool) (imm : BitVec 13)
  /-- R149. Store binary32 from an f register. -/
  | fsw (p : Proc) (t a : RegNo) (u : Bool) (imm : BitVec 13)
  /-- R149. Store binary64 from an f register. -/
  | fsd (p : Proc) (t a : RegNo) (u : Bool) (imm : BitVec 13)
  /-- R150. Branch if equal. -/
  | beq (p : Proc) (a b : RegNo) (disp : BitVec 14)
  /-- R150. Branch if not equal. -/
  | bne (p : Proc) (a b : RegNo) (disp : BitVec 14)
  /-- R150. Branch if less, signed. -/
  | blt (p : Proc) (a b : RegNo) (disp : BitVec 14)
  /-- R150. Branch if greater or equal, signed. -/
  | bge (p : Proc) (a b : RegNo) (disp : BitVec 14)
  /-- R150. Branch if less, unsigned. -/
  | bltu (p : Proc) (a b : RegNo) (disp : BitVec 14)
  /-- R150. Branch if greater or equal, unsigned. -/
  | bgeu (p : Proc) (a b : RegNo) (disp : BitVec 14)
  /-- R150. Unconditional jump. -/
  | j (p : Proc) (disp : BitVec 26)
  /-- R150. Jump and link. -/
  | jal (p : Proc) (disp : BitVec 26)
  /-- R153. Controller-profile load from the banked controller space. -/
  | lds (p : Proc) (t : RegNo) (sz : Fin 4) (addr : BitVec 16)
  /-- R153. Controller-profile store to the banked controller space. -/
  | sts (p : Proc) (t : RegNo) (sz : Fin 4) (addr : BitVec 16)
  /-- R151. Raises cause 0x0D. -/
  | syscall (p : Proc)
  /-- R151. Raises cause 0x0E to hypervisor level. -/
  | hvcall (p : Proc)
  /-- R151. Raises cause 0x0F. -/
  | brk (p : Proc)
  /-- R156. Returns from an exception, or re-enters a suspended sealed world. -/
  | eret (p : Proc)
  /-- R158. World exit to hypervisor level, passing a value in hexit. -/
  | wexit (p : Proc) (a : RegNo)
  /-- R151. Orders earlier loads and stores before later ones. -/
  | fence (p : Proc)
  /-- R151. Waits until earlier device stores and ENQs have been accepted by their devices. -/
  | fenced (p : Proc)
  /-- R151. Makes later fetches see this processor's earlier stores. -/
  | fencei (p : Proc)
  /-- R151. Waits until an interrupt is pending. -/
  | idle (p : Proc)
  /-- R137. Reads a special register. -/
  | mfs (p : Proc) (d : RegNo) (n : BitVec 12)
  /-- R137. Writes a special register. -/
  | mts (p : Proc) (d : RegNo) (n : BitVec 12)
  /-- R119. Returns unit information for a selector. -/
  | uinfo (p : Proc) (d : RegNo) (sel : Fin 64)
  /-- R120. Ends the run with a result and moves the unit to Preparing. -/
  | ucommit (p : Proc) (a : RegNo)
  /-- R124. Ends the run and aborts its exchanges. -/
  | uabort (p : Proc) (a : RegNo)
  /-- R152. Submits a 64-byte request block to a cipher, compression or channel queue. -/
  | enq (p : Proc) (d a b : RegNo)
  /-- R137. tb reaches tcmp and cause 0x18 becomes pending. -/
  | supervisorTimerExpiry (p : Proc)
  /-- R137. tb reaches htcmp and cause 0x1A becomes pending. -/
  | hypervisorTimerExpiry (p : Proc)
  /-- R157. A pending interrupt is taken between two retirement rounds. -/
  | interruptTake (p : Proc) (cause : Fin 4)
  /-- R185. A retirement round's lanes differ; the pair retries from its checkpoint, or starts Assay on persistence. -/
  | compareMismatch (v : Fin 320) (lane : Fin 10) (agrees : Bool)
  /-- R196. A split-mode self-check detects an error, which is handled as its own core's mismatch. -/
  | splitCheckError (v : Fin 384) (agrees : Bool)
  /-- R187. Assay reports results: transient resume, spare substitution or pair retirement. -/
  | assayVerdict (v : Fin 320) (codeA codeB : Fin 10) (routeOk parityOk : Bool)
  /-- R191. A cluster is lost: its pairs are retired, units restarted and its domain switched off. -/
  | clusterLoss (c : Fin 40)
  /-- R195. A GO write runs difference injection on an idle compared pair, or is refused. -/
  | pairInjectGo (v : Fin 320)
  /-- R195. Injection ends; LANE_MISS is written and a failed pair is retired. -/
  | injectionDone (v : Fin 320) (miss : BitVec 10)
  /-- R211. Read-shared request handled by a home. -/
  | rds (a : Fin 44) (l : BitVec 42) (bad : List (Fin 8)) (codeBad : Bool)
  /-- R211. Ownership request handled by a home. -/
  | rdx (a : Fin 44) (l : BitVec 42) (bad : List (Fin 8)) (codeBad : Bool)
  /-- R211. Upgrade request handled by a home. -/
  | upg (a : Fin 44) (l : BitVec 42)
  /-- R213. World-check request answered by the region registers. -/
  | chk (a : Fin 44) (l : BitVec 42) (w : World)
  /-- R211. I/O agent read handled by a home. -/
  | iord (w : World) (l : BitVec 42) (bad : List (Fin 8)) (codeBad : Bool)
  /-- R211. I/O agent write handled by a home. -/
  | iowr (w : World) (l : BitVec 42) (off : Fin 64) (data : Bytes)
  /-- R211. Dirty writeback judged by the home: accepted or stale. -/
  | wbd (a : Fin 44) (l : BitVec 42) (kind : WbdKind)
  /-- R211. Clean writeback judged by the home. -/
  | wbclean (a : Fin 44) (l : BitVec 42)
  /-- R210. I/O data message received. -/
  | iodata (a : Fin 44) (l : BitVec 42)
  /-- R208. Forward for shared access handled by a cache. -/
  | fwds (a : Fin 44) (l : BitVec 42)
  /-- R208. Forward for exclusive access handled by a cache. -/
  | fwdx (a : Fin 44) (l : BitVec 42)
  /-- R211. Owner sends data to the home and keeps its state. -/
  | fwdpeek (a : Fin 44) (l : BitVec 42)
  /-- R208. Invalidation handled by a cache. -/
  | inv (a : Fin 44) (l : BitVec 42)
  /-- R208. Recall handled by a cache. -/
  | recall (a : Fin 44) (l : BitVec 42)
  /-- R211. Recall without data return handled by a cache. -/
  | recallDiscard (a : Fin 44) (l : BitVec 42)
  /-- R208. Shared data response ends IS or IX. -/
  | data (a : Fin 44) (l : BitVec 42)
  /-- R208. Exclusive data response carrying the grant. -/
  | datae (a : Fin 44) (l : BitVec 42)
  /-- R208. Dirty data response from an owner. -/
  | datad (a : Fin 44) (l : BitVec 42)
  /-- R208. Ownership grant completes UX or IX. -/
  | grant (a : Fin 44) (l : BitVec 42)
  /-- R208. Acknowledgement without data. -/
  | ack (a : Fin 44) (l : BitVec 42)
  /-- R211. Invalidation acknowledgement at the home. -/
  | invack (a : Fin 44) (l : BitVec 42)
  /-- R211. Forward acknowledgement that closes Busy at the home. -/
  | fwdack (a : Fin 44) (l : BitVec 42) (sent dirty kept : Bool)
  /-- R215. Home refusal, with a wait-list place for the requester. -/
  | nack (a : Fin 45) (l : BitVec 42)
  /-- R208. Writeback accepted; the buffer is freed or the line moves to E or S. -/
  | wback (a : Fin 44) (l : BitVec 42)
  /-- R208. Writeback judged stale. -/
  | wbstale (a : Fin 44) (l : BitVec 42)
  /-- R213. World check passes and the line is re-tagged. -/
  | chkok (a : Fin 44) (l : BitVec 42)
  /-- R213. World check refused; the requester faults. -/
  | chkref (a : Fin 44) (l : BitVec 42)
  /-- R215. The backoff after a Nack expires and the request is sent again. -/
  | nackRetryTimer (a : Fin 45) (l : BitVec 42)
  /-- R205. A cache array check fails; refetch, twin read, poison or class escalation follows. -/
  | cacheCheckFail (k : CheckFail) (a : CacheArray) (l : BitVec 42) (way : Fin 20)
  /-- R219. Anvil firmware declares a cluster or C-die dead, and homes stop waiting on it. -/
  | declareAgentDead (a : Fin 44)
  /-- R219. A home finishes removing the dead agent from every entry. -/
  | deadAgentSweepDone (h : Fin 28) (a : Fin 44)
  /-- R220. A guarded 20 µs forward timeout expires; the line is treated as held by a dead agent. -/
  | snoopTimeout (h : Fin 28) (l : BitVec 42)
  /-- R234. A device access does not complete within 2 µs; the channel is declared failed. -/
  | channelAccessTimeout (h : Fin 24)
  /-- R236. A REBUILD write retrains the failed channel and starts the rebuild, or is refused. -/
  | memGroupRebuild (g : Fin 3) (ok : Bool)
  /-- R236. Every line of the channel has been rewritten and the group is healthy. -/
  | rebuildComplete (g : Fin 3)
  /-- R243. Planish reads a stripe row, repairs failed checks and fixes parity. -/
  | planishRow (bad : List (Fin 8)) (codes : List (Fin 8)) (parityBad : Bool)
  /-- R244. Temper opens a calibration window on the next channel in turn. -/
  | calibrationWindowStart
  /-- R244. Retraining ends; the settings are verified or restored, and the channel reopens into catch-up. -/
  | calibrationVerify (newOk oldOk : Bool)
  /-- R245. Every marked member has been written and catch-up ends. -/
  | catchUpComplete
  /-- R247. Every 10 ms Temper retunes a self-timed region's matched delays. -/
  | matchedDelayRetune (die : Fin 5)
  /-- R239. Crucible writes a region register, which takes effect at all 24 home agents at once. -/
  | haRegionWrite (n : Fin 64) (ctl : Bool) (v : W64)
  /-- R253. A write to SWG_Qn_CFG sets the queue owner and requests confirmation, or is ignored. -/
  | swgQCfgWrite (n : Fin 128) (v : BitVec 32)
  /-- R262. Compression request that codes 4 KiB blocks into Swage classes and verifies them. -/
  | swageCompress (n : Fin 128) (e : Fin 8) (mismatch : Bool)
  /-- R261. Compression request that decodes Swage blocks. -/
  | swageDecompress (n : Fin 128) (e : Fin 8) (mismatch : Bool)
  /-- R263. Compression request that produces DEFLATE, raw, zlib or gzip. -/
  | deflateCompress (n : Fin 128) (e : Fin 8) (mismatch : Bool)
  /-- R263. Compression request that decodes DEFLATE on two decoders. -/
  | deflateDecompress (n : Fin 128) (e : Fin 8) (mismatch : Bool)
  /-- R267. Compression request that writes the queue's stream context to a save area. -/
  | saveStream (n : Fin 128) (e : Fin 8)
  /-- R268. Compression request that checks and restores a stream context. -/
  | restoreStream (n : Fin 128) (e : Fin 8)
  /-- R254. A compression half hands out blocks to its queues by weight. -/
  | arbitrationRound (half : Fin 2)
  /-- R273. A write to CIP_Qn_CFG sets the queue owner, or is ignored. -/
  | cipQCfgWrite (n : Fin 128) (v : BitVec 32)
  /-- R282. Cipher request: AES-256-GCM encrypt with tag. -/
  | gcmEncrypt (n : Fin 128) (step : EngStep)
  /-- R282. Cipher request: AES-256-GCM decrypt with tag check. -/
  | gcmDecrypt (n : Fin 128) (step : EngStep)
  /-- R282. Cipher request: AES-256-XTS encrypt. -/
  | xtsEncrypt (n : Fin 128) (step : EngStep)
  /-- R282. Cipher request: AES-256-XTS decrypt. -/
  | xtsDecrypt (n : Fin 128) (step : EngStep)
  /-- R282. Cipher request: SHA-384 digest. -/
  | sha384 (n : Fin 128) (step : EngStep)
  /-- R282. Cipher request: HMAC-SHA-384 generate. -/
  | hmacGenerate (n : Fin 128) (step : EngStep)
  /-- R282. Cipher request: HMAC-SHA-384 verify. -/
  | hmacVerify (n : Fin 128) (step : EngStep)
  /-- R278. A CKL_COMMIT load writes a key slot and increments its generation. -/
  | cklLoad
  /-- R279. A CKL_COMMIT clear empties a slot and withdraws every engine copy. -/
  | cklClear
  /-- R292. A write to CHN_Qn_CFG sets the queue owner, or is ignored. -/
  | chnQCfgWrite (n : Fin 256) (v : BitVec 32)
  /-- R302. A write to a device table register updates the device or is ignored while it is busy. -/
  | chnDevWrite (d : Fin 1024) (k : Fin 5) (v : W64)
  /-- R294. Channel request that runs a channel program as a unit program or a free program. -/
  | runProgram (n : Fin 256)
  /-- R307. Channel request that invalidates descriptor-cache entries of the owner's world. -/
  | invalidateRange (n : Fin 256)
  /-- R306. Channel request that fills and locks lines of a range. -/
  | lockFillRange (n : Fin 256)
  /-- R306. Channel request that unlocks entries in a range. -/
  | unlockRange (n : Fin 256)
  /-- R297. Channel command Read under a plain exchange. -/
  | channelRead (pid : Nat)
  /-- R297. Channel command Write, durable on status. -/
  | channelWrite (pid : Nat)
  /-- R299. Channel command Tentative Write that opens an exchange. -/
  | tentativeWrite (pid : Nat)
  /-- R297. Free-program command Commit of an exchange. -/
  | channelCommit (pid : Nat)
  /-- R297. Free-program command Abort of an exchange. -/
  | channelAbort (pid : Nat)
  /-- R297. Channel command sending a device control operation. -/
  | control (pid : Nat)
  /-- R297. Channel command reading device sense data. -/
  | sense (pid : Nat)
  /-- R297. Channel command conditional jump. -/
  | jump (pid : Nat)
  /-- R297. Channel command wait on statuses, on time, or on a memory word. -/
  | wait (pid : Nat)
  /-- R297. A mode 2 Wait reads its word every 1 µs. -/
  | waitPoll (pid : Nat)
  /-- R297. A Wait's Length ns expires; the timed wait ends, or the program ends with 0x0C. -/
  | waitTimeout (pid : Nat)
  /-- R297. Channel command that submits a request to a compression queue. -/
  | chainCompression (pid : Nat)
  /-- R297. Channel command that submits a request to a cipher queue. -/
  | chainCipher (pid : Nat)
  /-- R297. A chained request's completion record arrives and the program continues or ends with 0x0B. -/
  | chainedRequestComplete (pid : Nat)
  /-- R304. A descriptor-cache fill or prefetch read returns and is cached or discarded. -/
  | descriptorFillComplete (e : Fin 64) (line : Nat) (world : Fin 1025)
  /-- R307. A GO write invalidates a range in one engine or in all 64. -/
  | chnInval (v : BitVec 32)
  /-- R309. A descriptor-cache entry fails parity, is refetched, or is disabled. -/
  | descriptorCacheCheckFail (e : Fin 64) (entry : Fin 56)
  /-- R321. Setting SRX_ASSOCa_CFG.EN starts establishment; clearing it downs the association. -/
  | assocEnable (a : Fin 4096) (v : W64)
  /-- R321. Every DOWN_MS an establish Probe is sent again. -/
  | establishTimer (a : Fin 4096)
  /-- R321. Nothing has arrived for KEEPALIVE_US; a keepalive Probe is sent and unanswered ones are counted. -/
  | keepaliveTimer (a : Fin 4096)
  /-- R321. A Probe reply arrives: establish reply derives new keys, keepalive reply keeps the association up. -/
  | probeFrame (p : Fin 16) (b : Bytes)
  /-- R327. A sequenced Data frame from a peer is accepted and written by offset. -/
  | dataFrame (p : Fin 16) (b : Bytes)
  /-- R327. A Status frame ends a command step: complete, held or device error. -/
  | statusFrame (p : Fin 16) (b : Bytes)
  /-- R322. An Ack releases sequenced frames, or as a duplicate Ack triggers a fast retransmission. -/
  | ackFrame (p : Fin 16) (b : Bytes)
  /-- R327. A Durable ack ends a Commit or Abort step. -/
  | durableAck (p : Fin 16) (b : Bytes)
  /-- R327. A NACK refuses a step, ending a program or starting a commit reissue. -/
  | nackFrame (p : Fin 16) (b : Bytes)
  /-- R323. RETX_US expires; unacknowledged frames are retransmitted, or the association is declared down. -/
  | retransmitTimer (a : Fin 4096)
  /-- R324. A channel port loses link and its associations go down. -/
  | portLinkDown (p : Fin 16)
  /-- R329. A channel port regains link and establishment is sent. -/
  | portLinkUp (p : Fin 16)
  /-- R328. After a NACK of a unit's Commit or Abort, it is reissued every RETX_US. -/
  | commitReissueTimer (xid : W64) (d : Fin 1024)
  /-- R340. A GO write to an owned mailbox submits a Crucible request; other writes are denied. -/
  | mailboxGo (m : Fin 1040) (w : Writer) (block : Bytes)
  /-- R343. Crucible op that writes the Hallmark certificate chain. -/
  | getChain (m : Fin 1040) (host : Bytes)
  /-- R344. Crucible op that creates a partition record. -/
  | register (m : Fin 1040) (host : Bytes)
  /-- R347. Crucible op that seals a partition: regions, re-encryption, measurement. -/
  | seal (m : Fin 1040) (host : Bytes)
  /-- R356. Crucible op that writes a signed Partition Report. -/
  | report (m : Fin 1040) (host : Bytes)
  /-- R357. Crucible op that unwraps a key blob and loads a slot. -/
  | keyLoad (m : Fin 1040) (host : Bytes)
  /-- R343. Crucible op that clears an owned slot. -/
  | keyClear (m : Fin 1040) (host : Bytes)
  /-- R343. Crucible op that moves a partition from being restored to running. -/
  | resume (m : Fin 1040) (host : Bytes)
  /-- R343. Crucible op that stops a partition. -/
  | stop (m : Fin 1040) (host : Bytes)
  /-- R351. Crucible op that ends a partition and starts cleaning. -/
  | release (m : Fin 1040) (host : Bytes)
  /-- R351. Cleaning ends, the regions and tag are freed, and the record reads None. -/
  | releaseCleaningComplete (p : Fin 1024)
  /-- R352. Crucible op that creates a standby registration through the partner Crucible. -/
  | standby (m : Fin 1040) (host : Bytes)
  /-- R343. Crucible op that installs a Surex association secret. -/
  | secretSet (m : Fin 1040) (host : Bytes)
  /-- R343. Crucible op that returns a batch header, an entry and its proof. -/
  | meterGet (m : Fin 1040) (host : Bytes)
  /-- R350. The Dispatcher starts a service run for a partition being restored, and again 10 ms after one ends. -/
  | serviceRunStart (part : Fin 1024) (e : Fin 320)
  /-- R336. A write to CRU_WDOG restarts the 50 ms watchdog. -/
  | cruWdog
  /-- R358. The watchdog expires and Crucible restarts. -/
  | crucibleWatchdogExpiry (mismatch : Bool)
  /-- R359. Crucible returns to service and serves its deferred work. -/
  | crucibleRestartComplete (ok : Bool)
  /-- R362. The 2 ms drain lease expires; the domain is zeroized and handed to switch-off. -/
  | drainLeaseExpiry (d : Fin 64)
  /-- R362. A write of CRU_LEASE_REL.GO hands a draining domain to switch-off. -/
  | leaseRelease (d : Fin 64)
  /-- R365. At each interval boundary the meter counters are latched and zeroed. -/
  | meterBoundary
  /-- R367. Crucible signs the latched bank and delivers the batch to the host ring. -/
  | meterBatchSign
  /-- R376. The monitor trips a clock, unqualifying it and triggering a source switch or holdover. -/
  | clockMonitorTrip (k : Fin 2) (edges : Bool)
  /-- R375. A clock completes its qualification period, and the timebase may switch to it. -/
  | clockQualified (k : Fin 2)
  /-- R378. 64 ring-oscillator periods expire and the multiplexer forces the switch. -/
  | muxForcedSwitch (d : Fin 296)
  /-- R374. No qualified reference returns within 10 s of holdover; a Class 3 event follows. -/
  | holdoverExpiry (d : Fin 296)
  /-- R380. Every 1 ms the master sends a time message on each seam port. -/
  | timeMessageTimer
  /-- R381. A follower receives a time message and steers or steps its count. -/
  | timeMessage (port : Fin 8) (count delay : Nat)
  /-- R386. An AC feed is lost and the other carries the load. -/
  | feedLoss (n : Fin 2)
  /-- R392. A feed returns; its PFC draws, and the Class 4 latch is kept or cleared by absence time. -/
  | feedReturn (n : Fin 2) (absence : Nat) (keep : Bool)
  /-- R385. A feed stays within limits for 1 s and is qualified. -/
  | feedQualified (n : Fin 2)
  /-- R388. The bus falls below 390 V; Bellows reports the loss of both feeds. -/
  | busUndervoltage
  /-- R389. The intermediate falls through 40 V and the logic rails collapse. -/
  | porComparatorTrip
  /-- R389. After a ride-through, the bus holds at 395 V for 100 ms and a module reset starts. -/
  | busStableTimer (x : StartChecks)
  /-- R391. A status frame arrives over the isolated link and updates the feed and bus values. -/
  | bellowsStatusFrame (ok : Bool) (feed0 feed1 : W64) (bus : BitVec 32)
  /-- R391. No valid status frame for 50 µs; the link is down. -/
  | isolatedLinkLost
  /-- R391. The power-fail line is asserted and starts the power-loss stop. -/
  | powerFailLine
  /-- R392. 50 µs after the latch is set, the 48 V stage is switched off. -/
  | latch48vOffTimer
  /-- R395. A voltage-point write ramps a cluster's supply, or waits for an Assay verdict. -/
  | pwrVpointWrite (c : Fin 40) (n : Fin 8)
  /-- R395. The supply reaches its new point and ACTIVE is updated. -/
  | vpointRampComplete (c : Fin 40)
  /-- R397. A write of 0 to PWR_DOMd.ON is refused, starts a drain, or starts a switch-off. -/
  | domainSwitchOff (d : Fin 64)
  /-- R399. A write of 1 to PWR_DOMd.ON switches a domain on, or withdraws a pending switch-off. -/
  | domainSwitchOn (d : Fin 64)
  /-- R398. In-progress work ends and the domain is powered off. -/
  | domainSwitchOffComplete (d : Fin 64)
  /-- R399. A domain finishes powering up, training or Assay. -/
  | domainSwitchOnComplete (d : Fin 64) (x : StartChecks)
  /-- R400. A point-of-load stage reports a fault and the domain goes off. -/
  | domainFault (d : Fin 64)
  /-- R402. A GO write stops the module for removal and switches the 48 V stage off. -/
  | pwrRemove
  /-- R452. Both presence pins read low for 10 ms; the module counts as seated and enables its J1 drivers. -/
  | presenceSeated
  /-- R452. A presence pin reads high for 50 µs; the J1 drivers go to high impedance. -/
  | presenceBreak
  /-- R453. Only one presence pin closes for 1 s; a Class 0 event is raised. -/
  | presencePinSingle
  /-- R406. The fault collector logs an event, captures it, counts it, routes it and notifies. -/
  | faultEvent (e : FaultInput)
  /-- R407. No module reset within 12 ms of a Class 3 event; the fault collector starts it. -/
  | class3ResetDeadline (x : StartChecks)
  /-- R409. A junction sensor reads above 125 °C for 10 µs; Class 4 follows. -/
  | junctionOvertemp (die : Fin 5)
  /-- R409. Once per minute above 105 °C, a Class 0 HOT event is raised. -/
  | hotReportTimer (die : Fin 5) (hot : Bool)
  /-- R426. A write clears UNCLEARED class bits. -/
  | fltClear (v : BitVec 32)
  /-- R430. The sequencer's read of the intake EVENT word releases the oldest event. -/
  | intakeRelease
  /-- R430. A sequencer write sends an enabled PF MSI-X vector. -/
  | vectorTrigger (v : Fin 7) (value : BitVec 32)
  /-- R430. A sequencer write raises cause 0x1B on HV_PAIR. -/
  | hypervisorTrigger (value : BitVec 32)
  /-- R420. Anvil firmware completes a step of a recovery procedure and updates STEP. -/
  | recoveryProcedureStep (n : Fin 8)
  /-- R415. A RENEW write restarts the 8 ms lease, or is ignored from a non-holder. -/
  | lkRenew (b : Bool)
  /-- R417. The holder releases the lease and the standby takes over. -/
  | lkRelease (b : Bool)
  /-- R417. The 8 ms lease expires and the standby takes over. -/
  | leaseExpiry
  /-- R417. The standby has checked state, read the log and become active. -/
  | anvilTakeoverComplete (ok : Bool)
  /-- R416. Every 2 ms an Anvil runs its self-diagnosis pass. -/
  | selfDiagnosisPass (b ok : Bool)
  /-- R419. A former holder finishes its restart, rejoins as standby or stays failed. -/
  | anvilRejoin (b ok : Bool)
  /-- R428. A GO write from Anvil firmware raises a fault event of a chosen class. -/
  | afcRaise (b : Bool) (v : BitVec 32)
  /-- R422. An MCTP packet arrives on a management interface and is steered to Crucible or Anvil, or answered NOT_READY. -/
  | mctpPacket (iface : Fin 4) (phys : W64) (packet : Bytes)
  /-- R423. A PLDM request is served by Anvil firmware, including firmware update. -/
  | pldmRequest (iface : Fin 4) (op : PldmOp)
  /-- R66. Link training completes and the Data Link Layer comes up, setting HEP_LINK_STATUS and allowing a freeze release. -/
  | pcieLinkUp (gen : Fin 7) (width : Fin 17) (flit sris : Bool)
  /-- R75. A TDISP LOCK_INTERFACE_REQUEST through the DOE mailbox moves a VF's TDI to CONFIG_LOCKED. -/
  | lockInterfaceRequest (v : Fin 1024) (st : Fin 8)
  /-- R75. A TDISP START_INTERFACE_REQUEST moves a locked TDI to RUN, so that T-bit traffic over the bound stream is served. -/
  | startInterfaceRequest (v : Fin 1024)
  /-- R347. Re-encryption and measurement finish, the record is written to the sealed store and moves from Sealing to Being restored. -/
  | sealingComplete (p : Fin 1024)
  /-- R352. A Crucible-to-Crucible complex message arrives over a seam link: a standby request, its refusal or acceptance with keys and measurement, or a standby-registration check. -/
  | complexMessage (partner : Fin 8) (msg : ComplexMsg)
  /-- R378. An ordinary glitch-free source switch completes on the low phases of the old and new clocks and the multiplexer passes the new clock. -/
  | muxSwitchComplete (d : Fin 296)
  /-- R376. A clock tripped for missing edges shows edges again and its qualification period starts. -/
  | clockEdgesReturn (k : Fin 2) (lane : Fin 64)
  /-- R375. A clock under qualification measures outside its window and its qualification period restarts. -/
  | measurementLeavesWindow (k : Fin 2)
  /-- R452. PRESENCE1# or PRESENCE2# changes level, starting or restarting the 10 ms seating and 50 µs break timing. -/
  | presencePinChange (pin : Fin 2) (low : Bool)
  /-- R444. A TCK edge, with TMS, TDI and TRST#, advances the boundary-scan TAP and its IEEE 1149.1 and 1149.6 tests. -/
  | jtagTck (tck tms tdi trst : Bool)
  /-- R429. A management interface finishes sending a packet from its transmit ring and advances TX head. -/
  | mctpPacketSent (iface : Fin 4)
  deriving DecidableEq, Repr

end Sys2Proof
end

