-- ==== Sys2Proof/Machine/State.lean ====
section
/-!
DEFINITION. The state of the block: every register (R18, in one sparse table keyed by address), every
queue, counter, mode and table the manual gives a unit, the module's memory, the outputs driven, and the
queue of commands that wait. It is plain data. `State.reset` is the machine before the first power-on
start-up has begun.
-/
namespace Sys2Proof.Machine

/-- Byte memory: (address, byte) pairs, addresses strictly rising, no byte equal to what an unlisted
address reads as. -/
abbrev Memory := List Host.Cell

/-- Where the module stands between power-on and ready (R431, R432). -/
inductive Phase where
  /-- no logic rail is up -/
  | off
  /-- a start-up runs; the number is the last step completed, and whether it is a power-on -/
  | starting (step : Nat) (powerOn : Bool)
  | ready
  /-- a step failed and the module halted (R438) -/
  | halted (step : Nat)
  deriving DecidableEq, Repr

/-- Why the machine stops with a fault. No command of this model raises one: the type is kept for the
interface, and its one constructor says what it would stand for. Log 57 (DESIGN CHOICE). -/
inductive Fault where
  /-- Raised by nobody. A stop here would be safe. -/
  | none
  deriving DecidableEq, Repr

/-- Why the machine refuses a command. Log 57 (DESIGN CHOICE). -/
inductive Refusal where
  /-- Raised by a dispatch arm that has no meaning yet. Safe: nothing is claimed of the command. -/
  | notModelled (mnemonic : String)
  deriving DecidableEq, Repr

/-! ### What the block drives to the outside, newest first -/

inductive Output where
  /-- posted memory write of a function to host memory -/
  | dma (fn addr : Nat) (data : Bytes)
  /-- memory read request of a function -/
  | readReq (fn tag addr len : Nat)
  | msix (fn vector : Nat)
  /-- completion of a non-posted request to a BAR: 0 success, 1 Unsupported Request, 4 Completer Abort -/
  | cpl (fn status : Nat) (data : Bytes)
  /-- answer to a configuration request: 0 success, 1 Unsupported Request, 2 RRS -/
  | cfgCpl (fn status value : Nat)
  | atsCpl (fn itag : Nat)
  /-- request for the translation of a 4 KiB page of a function -/
  | atsReq (fn tag page : Nat)
  /-- a request of a function with ATS, under the translations of the pages it touches -/
  | translated (pages : List Nat) (o : Output)
  /-- a request or completion that travels over IDE stream `stream`, with or without the T bit -/
  | over (stream : Nat) (tee : Bool) (o : Output)
  /-- a TLP that carries an ECRC (R54) -/
  | digest (o : Output)
  /-- a TLP whose data is poisoned (R214) -/
  | poisoned (o : Output)
  | doe (data : Bytes)
  /-- a block write issued to the journal dies in service -/
  | journalWrite (seq : Nat) (data : Bytes)
  /-- seam messages: heartbeat, mirror record and acknowledgement, adoption notice -/
  | heartbeat (partner port index number echo : Nat)
  | mirrorRecord (partner number : Nat) (blocks : List Bytes) (posted : Option Nat)
  | mirrorAck (partner number : Nat)
  | adopted (partner : Nat)
  | timeMessage (port : Nat) (data : Bytes)
  | complex (partner : Nat) (m : ComplexMsg)
  /-- Ethernet frame on a channel port, FCS included -/
  | frame (port : Nat) (data : Bytes)
  /-- question to Crucible: 1 binding, 2 compression, 3 cipher, 4 channel queue owner, 5 device owner -/
  | confirm (kind index part : Nat)
  /-- latch-set command to Bellows: source and bits 41:10 of the timebase (R412) -/
  | latchSet (source time : Nat)
  | stage48Off
  | mctp (iface : Nat) (packet : Bytes)
  | pldm (data : Bytes)
  /-- a coherence message: code, sender, receiver, line, and flags (R208): of a FwdAck that data went to the requester, that
  it was dirty and that a copy was kept (1, 2, 4); of a WbD the keep flag (1), and that it answers a Recall (2) -/
  | coh (msg src dst line flags : Nat)
  /-- what a home agent answers an IoRd with: the line, its bytes, and whether it is poisoned (R211, R214) -/
  | ioData (line : Nat) (data : Bytes) (poison : Bool)
  deriving DecidableEq, Repr

/-! ### Events and the fault collector (R405-R430) -/

/-- One event as the collector's words hold it (R410). -/
structure FaultEvent where
  seq : Nat
  time : Nat
  event : Nat
  detail : Nat
  deriving DecidableEq, Repr

/-- One recovery that waits for a free recovery log entry (R420). -/
structure RecWait where
  proc : Nat
  key : Nat
  seq : Nat
  deriving DecidableEq, Repr

/-- One module reset of the past, for R408: when it began and whether a Class 3 event caused it. -/
structure ResetRec where
  time : Nat
  class3 : Bool
  deriving DecidableEq, Repr

/-- The fault collector, beside its registers (R406, R411). -/
structure FaultState where
  /-- sequence number, in full, of the event in each history entry (R411) -/
  histSeq : Tbl Nat := []
  /-- intake of events the sequencer has not yet read (R430) -/
  intake : List FaultEvent := []
  /-- what the open recovery of each log entry concerns (cluster, die, channel, domain) -/
  recKey : Tbl Nat := []
  /-- recoveries that wait for an entry (R420) -/
  recWait : List RecWait := []
  /-- expiry of the 12 ms deadline of R407, while no reset has begun -/
  class3Due : Option Nat := none
  /-- module resets before now, newest first (R408) -/
  resets : List ResetRec := []
  /-- Quench holds the module (R412) -/
  quenched : Bool := false
  /-- when the module last became ready -/
  readyAt : Nat := 0
  deriving DecidableEq, Repr

/-! ### The Anvil pair and management (R415-R429) -/

/-- What one Anvil keeps beside its registers. -/
structure AnvilCore where
  /-- the 250 ms restart of a former holder, and its expiry (R419) -/
  restartBy : Option Nat := none
  deriving DecidableEq, Repr

/-- The Anvil pair and firmware management (R415). Log 1 (DESIGN CHOICE). -/
structure AnvilState where
  a : AnvilCore := {}
  b : AnvilCore := {}
  /-- expiry of the 8 ms lease (R415), while one is held -/
  leaseEnd : Option Nat := none
  /-- the takeover in progress: when it began and its cause, 1 release or 2 expiry (R417) -/
  gap : Option (Nat × Nat) := none
  /-- notifications queued for the active Anvil (R430) -/
  notify : List Nat := []
  /-- per die: the junction sensor reads above 105 °C, and the last report of it (R409) -/
  hotSince : Tbl (Option Nat) := []
  /-- firmware store: bytes of bank 0 and of bank 1 (R425) -/
  bank0 : Bytes := []
  bank1 : Bytes := []
  /-- the bank in use -/
  bankInUse : Nat := 0
  /-- an accepted bundle waits for the next power-on -/
  bundlePending : Bool := false
  /-- the last power-on fell back to the other bank: CODE 0x0400 is due at ready -/
  bankFallback : Bool := false
  /-- minimum security version per bundle kind, in the sealed store (R425) -/
  minVersion : Tbl Nat := []
  /-- SHA-384 of the enrolled configuration key (R425) -/
  cfgKey : Option Bytes := none
  deriving DecidableEq, Repr

/-! ### The host endpoint (R54-R81) -/

/-- What a DMA read of the module was issued for. -/
inductive ReadKind where
  /-- the Doorbell Area of the function, on a poll or on a wake -/
  | doorbell (poll : Bool)
  /-- `n` descriptors of a ring from count `at` -/
  | descriptors (ring first n : Nat)
  /-- the translation of the page at its address (R73) -/
  | translation
  deriving DecidableEq, Repr

/-- One outstanding read request of the endpoint. -/
structure ReadReq where
  tag : Nat
  fn : Nat
  kind : ReadKind
  /-- the drain deadline quarantined the tag (R69) -/
  quarantined : Bool := false
  /-- its data is discarded when it arrives: issued before a freeze or a reset -/
  discard : Bool := false
  /-- the bytes it reads -/
  addr : Nat := 0
  len : Nat := 0
  /-- its completion timeout expires -/
  due : Option Nat := none
  deriving DecidableEq, Repr

/-- One posted request of the PF on behalf of Crucible that waits for a translation (R73): a write, or a message. -/
inductive PfOut where
  | write (addr : Nat) (data : Bytes)
  | message (vector : Nat)
  deriving DecidableEq, Repr

/-- One ATS Invalidate Request in progress (R73): its tag, its function, its untranslated range and
the reads it waits for. Log 27 (DEDUCED). -/
structure AtsInval where
  itag : Nat
  fn : Nat
  base : Nat
  size : Nat
  waits : List Nat
  deriving DecidableEq, Repr

/-- Per-function state of the endpoint. -/
structure FnState where
  /-- Bus Master Enable -/
  bme : Bool := false
  /-- accepted under VF Enable (the PF always is) -/
  present : Bool := false
  /-- MSI-X Enable and Function Mask -/
  msixEn : Bool := false
  msixMask : Bool := false
  /-- AER Uncorrectable Error Status bits, by trigger code of `HEP_FREEZE.CAUSE` and others -/
  aer : List Nat := []
  /-- ECRC Generation Enable and ECRC Check Enable (R54) -/
  ecrcGen : Bool := false
  ecrcCheck : Bool := false
  /-- ATS enabled -/
  ats : Bool := false
  /-- D3hot, and what STATE read before it -/
  d3 : Bool := false
  d3Back : Nat := 0
  /-- an FLR drain runs, and its 90 ms deadline (R67) -/
  flrEnd : Option Nat := none
  /-- the selective stream bound to the TDI -/
  stream : Option Nat := none
  /-- BAR, MSI-X and ATS configuration are settled by host software; raw configuration words -/
  cfg : Tbl Nat := []
  /-- ring count, peer-window slots, key quota, compression weight, meter class (R105, R106) -/
  ringCount : Nat := 1
  windows : Nat := 0
  keyQuota : Nat := 16
  weight : Nat := 16
  meterClass : Nat := 0
  /-- meter class from the next interval on (R105) -/
  nextClass : Nat := 0
  /-- the drain of `VF_SET_RINGS`: the admin unit that waits, and the previous count (R106) -/
  setRings : Option (Nat × Nat) := none
  /-- next expiry of the poll interval (R89) -/
  pollAt : Option Nat := none
  /-- summaries written since power-on (R108) -/
  resyncs : Nat := 0
  deriving DecidableEq, Repr

/-- A register-triggered `RESYNC` in progress: the function of the register page, the function it summarises, the buffer's
address and its length in bytes, as the GO found them (R107). -/
structure GoWait where
  via : Nat
  fn : Nat
  addr : Nat
  len : Nat
  deriving DecidableEq, Repr

/-- One IDE stream: secure, the key set in use, and the address association blocks of a selective stream, by number:
first and last address (R74). Log 104 (PRESUMED). -/
structure IdeStream where
  secure : Bool := false
  keySet : Nat := 0
  keys : List Bytes := []
  blocks : Tbl (Nat × Nat) := []
  deriving DecidableEq, Repr

/-- The host endpoint (R54, R64). Log 1 (DESIGN CHOICE). -/
structure EndpointState where
  fns : Tbl FnState := []
  vfEnable : Bool := false
  numVfs : Nat := 0
  ari : Bool := false
  /-- SR-IOV System Page Size, in bytes (R61) -/
  pageSize : Nat := 4096
  /-- the VF BAR0 register of the SR-IOV capability: its low and its high half -/
  vfBar : Nat × Nat := (0, 0)
  /-- the completion timeout that host software has set (R8, R70) -/
  cplTimeout : Option Nat := none
  /-- PERST# asserted -/
  perst : Bool := true
  /-- the link in L0 -/
  l0 : Bool := false
  /-- end of the 20 ms link training of R66 -/
  trainBy : Option Nat := none
  reads : List ReadReq := []
  nextTag : Nat := 0
  /-- reads that wait for a translation or for a free tag, oldest first; their tag is not yet given (R54, R73) -/
  waiting : List ReadReq := []
  /-- what waits for a translation to be written: Status Area records, by function and ring; posted requests of the PF
  for Crucible (R73) -/
  owed : List (Nat × Nat) := []
  /-- register-triggered `RESYNC`s in progress (R102, R107) -/
  goWait : List GoWait := []
  pfOut : List PfOut := []
  /-- translation cache, oldest entry first: key is function and page, value the translated page, or `none` where
  requests to the page go untranslated (R73) -/
  ats : List (Nat × Option Nat) := []
  invals : List AtsInval := []
  /-- IDE key store: stream 0 is the link stream, 1 to 8 the selective streams -/
  ide : Tbl IdeStream := []
  /-- an FLR of the PF runs (R456) -/
  pfFlr : Option Nat := none
  /-- messages held back by a freeze: function and vector (R72) -/
  heldMsgs : List (Nat × Nat) := []
  /-- SPDM sessions established through the DOE mailbox or MCTP -/
  spdmSessions : List Nat := []
  deriving DecidableEq, Repr

/-! ### Rings (R82-R110) -/

/-- A fetched descriptor of a ring, in count order. -/
structure Fetched where
  count : Nat
  desc : Bytes
  /-- its Acceptance Record write was issued, with this candidate ASN -/
  issued : Option Nat := none
  /-- that record is durable -/
  durable : Bool := false
  /-- it was answered as a duplicate of this ASN (R94) -/
  dupOf : Option Nat := none
  /-- restart budget that its Acceptance Record fixes (R36) -/
  budget : Nat := 0
  deriving DecidableEq, Repr

/-- What a Completion Entry needs beyond its tag (R98). -/
structure Compl where
  status : Nat
  result : Nat
  finish : Nat
  restarts : Nat
  deriving DecidableEq, Repr

/-- One entry of a deduplication window (R94, R96). -/
structure WinEntry where
  asn : Nat
  tag : Nat
  compl : Option Compl
  deriving DecidableEq, Repr

/-- One item of a ring's posting order: a unit by ASN, or a duplicate-marked copy. -/
inductive PostItem where
  | unit (asn : Nat)
  | dup (asn tag : Nat)
  deriving DecidableEq, Repr

/-- A submission ring and its ASN series (R101). Ring 16 is the admin ring. Log 94 (DEDUCED). -/
structure Ring where
  /-- the last valid tail read (R89) -/
  tail : Nat := 0
  accepted : Nat := 0
  /-- count one past the last descriptor a read was issued for -/
  fetchTo : Nat := 0
  fetched : List Fetched := []
  unchanged : Nat := 0
  sleeping : Bool := false
  formatHold : Bool := false
  tailInvalid : Bool := false
  lastAsn : Option Nat := none
  /-- draining, and the admin unit that waits for it, if one does -/
  draining : Bool := false
  drainFor : Option Nat := none
  /-- posting order since the last enable, and what was outstanding before it (R94) -/
  postQ : List PostItem := []
  postOld : List PostItem := []
  /-- the series exists: a deduplication table is bound to it (R96) -/
  exists_ : Bool := false
  part : Nat := 0
  nextAsn : Nat := 0
  floor : Nat := 0
  posted : Option Nat := none
  window : List WinEntry := []
  /-- descriptors that have left the window while a duplicate of them waits for their completion (R94) -/
  leftWindow : List WinEntry := []
  broken : Bool := false
  /-- mirror partner (R48), and the state of the mirror -/
  mirror : Option Nat := none
  fenced : Bool := false
  adoptedAway : Bool := false
  /-- an adopted series: its origin module, function and ring (R50) -/
  adopted : Option (Nat × Nat × Nat) := none
  /-- size in force, for the ring snapshot -/
  size : Nat := 0
  /-- fetched descriptors of before the last disable, which no longer count (R21, R103) -/
  stale : Nat := 0
  /-- an admin `RING_PURGE` waits for a snapshot generation without the series -/
  purgeFor : Option Nat := none
  deriving DecidableEq, Repr

/-- A completion ring. -/
structure CplRing where
  posted : Nat := 0
  head : Nat := 0
  full : Bool := false
  /-- entries not yet signalled, and when the first of them was posted (R100) -/
  unsignalled : Nat := 0
  coalAt : Option Nat := none
  deriving DecidableEq, Repr

/-! ### Units of work (R111-R134) -/

/-- R125. -/
inductive UnitPhase where
  | queued | executing | preparing | committing | restarting | aborting | completed
  deriving DecidableEq, Repr

/-- One exchange of a run: its index, its device, and whether the peer holds, refused, committed or
aborted it. -/
inductive ExchPhase where
  | opened | held | refused | committed | aborted
  deriving DecidableEq, Repr

/-- One exchange of a run (R121). -/
structure Exchange where
  id : Nat
  dev : Nat
  phase : ExchPhase
  deriving DecidableEq, Repr

/-- One abort that a peer has yet to acknowledge: scope 0 exchange, 1 run, 2 originator (R325). -/
structure AbortOut where
  id : Nat
  dev : Nat
  scope : Nat
  deriving DecidableEq, Repr

/-- One unit of work (R125). -/
structure WorkUnit where
  fn : Nat
  /-- submission ring, 16 for the admin ring -/
  ring : Nat
  asn : Nat
  tag : Nat
  args : Bytes
  budget : Nat
  part : Nat
  /-- module index of the accepting module -/
  origin : Nat := 0
  phase : UnitPhase := .queued
  restarts : Nat := 0
  lastCause : Nat := 0
  tAccept : Nat := 0
  /-- the executor that runs it -/
  exec : Option Nat := none
  /-- exchange allocation closed (R124) -/
  closed : Bool := false
  exchanges : List Exchange := []
  /-- first refused exchange of the run (R123), or the program error -/
  refused : Option Nat := none
  /-- aborts of this and of earlier runs not yet acknowledged -/
  aborts : List AbortOut := []
  /-- the Commit Record is issued; it is durable; its commits are sent -/
  commitIssued : Bool := false
  commitSent : Bool := false
  /-- status and result carried towards the Completion Record -/
  status : Nat := 0
  result : Nat := 0
  finish : Option Nat := none
  complIssued : Bool := false
  /-- the unit comes from a partner's foreign records, for an adopted ring -/
  foreign : Bool := false
  deriving DecidableEq, Repr

/-- What one executor of a pair runs. -/
inductive ExecRun where
  | idle
  /-- a unit, by its key -/
  | unit (key : Nat)
  /-- a service run of a partition (R350) -/
  | service (part : Nat)
  deriving DecidableEq, Repr

/-- Units, rings and executors (R111, R114). -/
structure DispatchState where
  units : Tbl WorkUnit := []
  rings : Tbl Ring := []
  cqs : Tbl CplRing := []
  runs : Tbl ExecRun := []
  /-- a binding request that waits for a drain: pair to the value written (R112) -/
  bindWait : Tbl (Option Nat) := []
  /-- round-robin position per partition (R114) -/
  turn : Tbl Nat := []
  /-- the Dispatcher stops fetching: power loss, Quench or removal -/
  stopped : Bool := false
  deriving DecidableEq, Repr

/-! ### The journal (R21-R53) -/

/-- What a journal write makes durable. -/
inductive WriteFor where
  | acceptance (ring asn : Nat)
  | commit (unit : Nat)
  | restart (unit : Nat)
  | completion (units : List Nat)
  | carry
  | foreign (partner seq : Nat)
  deriving DecidableEq, Repr

/-- One block write outstanding in the dies (R32). -/
structure BlockWrite where
  /-- log sequence: epoch in bits 55:24, block index in bits 23:0 -/
  seq : Nat
  bytes : Bytes
  what : WriteFor
  done0 : Bool := false
  done1 : Bool := false
  /-- the partner whose mirror acknowledgement it still needs (R48) -/
  mirror : Option Nat := none
  deriving DecidableEq, Repr

/-- One record that waits for a place among the 32 outstanding writes. -/
structure RecordWait where
  blocks : List Bytes
  what : WriteFor
  mirror : Option Nat
  deriving DecidableEq, Repr

/-- One live record of the log (R34): its owner unit, its first block and its blocks. -/
structure LiveRec where
  unit : Nat
  seq : Nat
  blocks : List Bytes
  deriving DecidableEq, Repr

/-- One journal die. -/
structure Die where
  /-- log blocks by block index; an index never written holds none -/
  log : Tbl Bytes := []
  /-- snapshot generations A and B, as blocks -/
  genA : List Bytes := []
  genB : List Bytes := []
  /-- logical to physical row, where they differ (R31) -/
  rowMap : Tbl Nat := []
  /-- writes per physical row, in blocks -/
  rowWrites : Tbl Nat := []
  /-- logical rows: instants of recomputations within the last 24 hours (R45) -/
  recomputed : Tbl (List Nat) := []
  /-- logical rows with a write that the die reported failed (R45) -/
  badRows : List Nat := []
  /-- spare rows used -/
  sparesUsed : Nat := 0
  deriving DecidableEq, Repr

/-- What the module keeps for one partner (R48-R51). -/
structure Partner where
  /-- a partner is configured on some seam path -/
  present : Bool := false
  /-- last instant of an echoing heartbeat, and of anything, from it -/
  lastEcho : Nat := 0
  lastHeard : Nat := 0
  /-- heartbeat numbers: the last sent, and the last received -/
  sent : Nat := 0
  received : Nat := 0
  /-- it sends this module's own index (R15) -/
  clash : Bool := false
  /-- this module took over its rings -/
  adopted : Bool := false
  /-- the originator-scope aborts of a takeover are still to be sent (R325) -/
  abortDue : Bool := false
  /-- next mirror record number sent to it -/
  mirrorSeq : Nat := 0
  /-- first mirror record number not yet seen from it -/
  mirrorSeen : Nat := 0
  /-- by seam port: instant from which the next heartbeat to it is due (R49) -/
  beatAt : Tbl Nat := []
  /-- its Crucible holds a standby registration of these partitions (R48) -/
  standby : List Nat := []
  /-- the secured session with its Crucible stands (R352) -/
  session : Bool := false
  deriving DecidableEq, Repr

/-- A partner's record held as a mirror (R48), with the Posted ASN mirrored beside it. -/
structure ForeignRec where
  partner : Nat
  number : Nat
  blocks : List Bytes
  posted : Option Nat
  durable : Bool
  deriving DecidableEq, Repr

/-- A mirror record sent to a partner and not yet acknowledged (R48): its number, what it makes durable, its blocks
and the Posted ASN sent beside them, to be sent again when contact returns (R51). -/
structure MirrorOut where
  partner : Nat
  number : Nat
  what : WriteFor
  blocks : List Bytes
  posted : Option Nat
  deriving DecidableEq, Repr

/-- The journal and its partners (R32, R42). Log 1 (DESIGN CHOICE). -/
structure JournalState where
  die0 : Die := {}
  die1 : Die := {}
  /-- dies declared failed, for the life of the module (R47) -/
  failed0 : Bool := false
  failed1 : Bool := false
  /-- log sequence number of the next block -/
  head : Nat := 0x1000000
  out : List BlockWrite := []
  waiting : List RecordWait := []
  live : List LiveRec := []
  /-- snapshot generation number of the last one written -/
  generation : Nat := 0
  /-- damaged positions on record (R43), as log block indices -/
  damaged : List Nat := []
  /-- module resets and power-ons since manufacture -/
  bootCount : Nat := 0
  /-- expiry of the snapshot interval -/
  snapAt : Option Nat := none
  partners : Tbl Partner := []
  /-- partner by seam port -/
  seamPartner : Tbl (Option Nat) := []
  /-- records of partners held as mirrors, oldest first: the partner, its record, its blocks (R48) -/
  foreign : List ForeignRec := []
  /-- mirror records that wait for an acknowledgement, oldest first -/
  unacked : List MirrorOut := []
  /-- the second of the timebase in which log blocks are counted, and how many it holds (R33) -/
  budgetSec : Nat := 0
  budgetUsed : Nat := 0
  deriving DecidableEq, Repr
/-! ### Channel engines and Surex (R289-R332) -/

/-- What an exchange step asks of the peer (R297, R327). -/
inductive StepKind where
  | read | write | tentative | control | sense | commit
  /-- scope 0 exchange, 1 run, 2 originator (R325) -/
  | abort (scope : Nat)
  deriving DecidableEq, Repr

/-- On whose behalf a step runs: a unit's Commit or Abort, or an entry of a program. -/
inductive StepOwner where
  | unit (key : Nat)
  | program (id : Nat)
  deriving DecidableEq, Repr

/-- One outstanding step of an exchange. -/
structure XStep where
  xid : Nat
  kind : StepKind
  owner : StepOwner
  dev : Nat
  /-- path bound (R303), `none` while a Commit or Abort waits for one -/
  path : Option Nat
  /-- memory address and length of a data command, parameters or data sent -/
  mem : Nat := 0
  length : Nat := 0
  lba : Nat := 0
  aux : Nat := 0
  data : Bytes := []
  /-- next reissue after a NACK of a unit's Commit or Abort (R328) -/
  reissueAt : Option Nat := none
  /-- the Class 1 event of R328 is reported -/
  refusedOnce : Bool := false
  /-- originator selectors of a scoped Abort -/
  selectors : List (Nat × Nat) := []
  /-- the Abort that an engine sends for an exchange its program left open (R301) -/
  closing : Bool := false
  deriving DecidableEq, Repr

/-- Why a program does not run its next entry yet. -/
inductive ProgWait where
  | none
  /-- Wait mode 1: until the instant -/
  | time (until_ : Nat)
  /-- Wait mode 2: a word, the instant it times out, the next read -/
  | word (addr until_ next : Nat)
  /-- a chained request: kind 1 compression, 2 cipher; its completion record address -/
  | chain (kind queue addr : Nat)
  /-- the entry at the program counter is being fetched into the cache -/
  | fill (line : Nat)
  deriving DecidableEq, Repr

/-- One request of a channel queue, running or waiting (R293, R294). Log 88 (DEDUCED). -/
structure ChanProg where
  id : Nat
  queue : Nat
  engine : Nat
  op : Nat
  started : Bool := false
  /-- the run of a unit program -/
  unit : Option Nat := none
  counter0 : Nat := 0
  start : Nat := 0
  length : Nat := 0
  complAt : Nat := 0
  tag : Nat := 0
  /-- execution -/
  pc : Nat := 0
  counter : Nat := 0
  entries : Nat := 0
  opened : List Nat := []
  /-- exchange IDs a rerun takes again, in order (R290) -/
  reuse : List Nat := []
  lastResidual : Nat := 0
  lastEntry : Nat := 0
  wait : ProgWait := .none
  /-- free program: its exchanges, device of each, and whether still open -/
  free : List (Nat × Nat × Bool) := []
  /-- the last entry was issued; the program ends once every command has status -/
  last : Bool := false
  /-- end decided: status, detail, residual -/
  ended : Option (Nat × Nat × Nat) := none
  repeated : Bool := false
  /-- its request block breaks R293 -/
  bad : Bool := false
  /-- exchange of the last data command issued -/
  lastData : Nat := 0
  /-- a line used without being cached, for one entry (R306) -/
  held : Option (Nat × Bytes) := none
  /-- exchanges, with their devices, that an earlier execution left open and this one has not opened again (R290, R301) -/
  left : List (Nat × Nat) := []
  deriving DecidableEq, Repr

/-- One descriptor-cache entry (R304). -/
structure CacheEntry where
  line : Nat := 0
  world : Nat := 0
  valid : Bool := false
  locked : Bool := false
  disabled : Bool := false
  data : Bytes := []
  /-- instant of last use, for replacement -/
  used : Nat := 0
  /-- instants of check failures (R309) -/
  fails : List Nat := []
  deriving DecidableEq, Repr

/-- One prefetched line; `ready` once its data is in. -/
structure PrefetchLine where
  line : Nat
  world : Nat
  data : Bytes
  ready : Bool
  /-- an invalidation covered it while its read was out (R307) -/
  dropped : Bool := false
  deriving DecidableEq, Repr

/-- One channel engine (R299, R304). -/
structure ChanEngine where
  cache : Tbl CacheEntry := []
  prefetch : List PrefetchLine := []
  /-- plain exchange count since module reset (R299) -/
  plain : Nat := 0
  useCount : Nat := 0
  /-- the queue it began a request of last (R291) -/
  turn : Option Nat := none
  deriving DecidableEq, Repr

/-- Channel programs and steps (R290, R303). -/
structure ChannelState where
  engines : Tbl ChanEngine := []
  progs : List ChanProg := []
  nextProg : Nat := 0
  steps : List XStep := []
  /-- per device: the path of its previous exchange -/
  lastPath : Tbl (Option Nat) := []
  /-- per exchange ID: the path the exchange is bound to (R303) -/
  bound : Tbl (Option Nat) := []
  deriving DecidableEq, Repr

/-- A sequenced frame kept until an Ack covers it (R323). -/
structure TxFrame where
  seq : Nat
  bytes : Bytes
  tries : Nat
  sentAt : Nat
  /-- exchange it serves, for failover -/
  xid : Nat
  deriving DecidableEq, Repr

/-- A frame that waits for credit (R322). -/
structure TxWait where
  type : Nat
  target : Nat
  xid : Nat
  body : Bytes
  deriving DecidableEq, Repr

/-- One Surex association (R321, R322). -/
structure Assoc where
  /-- the secret in the port's key store (R313) -/
  secret : Option Bytes := none
  /-- epoch in establishment, its Random, and the next Probe -/
  estEpoch : Nat := 0
  estRandom : Bytes := []
  estAt : Option Nat := none
  /-- keys of the current epoch: data and ack, each direction -/
  txKey : Bytes := []
  rxKey : Bytes := []
  txAck : Bytes := []
  rxAck : Bytes := []
  txNext : Nat := 1
  rxNext : Nat := 1
  /-- highest sequence the peer lets us send, and what we granted it -/
  txCredit : Nat := 0
  rxCredit : Nat := 0
  unacked : List TxFrame := []
  waiting : List TxWait := []
  /-- start of the retransmit timer of the oldest frame -/
  retxAt : Option Nat := none
  /-- last duplicate-Ack retransmission -/
  fastAt : Option Nat := none
  /-- last arrival, and keepalives unanswered in a row -/
  lastHeard : Nat := 0
  keepalives : Nat := 0
  kaAt : Option Nat := none
  deriving DecidableEq, Repr

/-- The associations (R313). -/
structure SurexState where
  assocs : Tbl Assoc := []
  deriving DecidableEq, Repr
/-! ### Memory channels and lines (R225-R251) -/

/-- A run of lines written under one key: 0 open, 1 module, 2 Crucible, 16 + P partition P (R240).
Log 25 (DEDUCED). -/
structure KeyRange where
  first : Nat
  last : Nat
  key : Nat
  /-- the 64 bytes the key number held then, where another key has taken its place -/
  old : Option Bytes := none
  /-- the stripe group whose lines alone it means, where its devices lost their power (R398) -/
  group : Option Nat := none
  deriving DecidableEq, Repr

/-- A calibration window, or the catch-up after it (R244, R245): the channel, when it opened, the stripe rows marked, in
entry order, and the copy host. -/
structure CalWindow where
  chan : Nat
  start : Nat
  catchUp : Bool
  /-- catch-up writes members from their copies, not from recomputation (R248) -/
  fromCopies : Bool := false
  marked : List Nat
  host : Nat := 0
  /-- entries that catch-up has come to, and rows whose entry a write made it skip (R248) -/
  written : Nat := 0
  skipped : List Nat := []
  deriving DecidableEq, Repr

/-- Member `member` of the rows of `group` from channel index `lo` up to `hi`: a rebuild could not give it (R248). -/
structure UnbuiltRun where
  group : Nat
  member : Nat
  lo : Nat
  hi : Nat
  deriving DecidableEq, Repr

/-- Memory lines and channels (R225). Log 91 (DESIGN CHOICE). -/
structure MemState where
  /-- what each line was last written under, newest first; unlisted lines under the open key -/
  keys : List KeyRange := []
  /-- keys loaded in the XTS units, by key number (R238) -/
  loaded : Tbl Bytes := []
  /-- data lines in poison form (R231), by line number -/
  poison : Tbl Bool := []
  /-- parity lines in poison form, by group × 2^28 + row -/
  parityPoison : Tbl Bool := []
  /-- stored lines that fail their check, by (group × 2^28 + row) × 8 + member, and code lines that fail theirs, by
  channel × 2^28 + number (R230, R232) -/
  bad : Tbl Bool := []
  badCode : Tbl Bool := []
  /-- members that a rebuild wrote while a second channel of the group was out, and the rows of them that a write or a poison
  form has reached since, by (group × 2^28 + row) × 8 + member (R236, R248) -/
  unbuilt : List UnbuiltRun := []
  built : Tbl Bool := []
  /-- code lines that a home agent keeps, most recently used first (R230) -/
  codeCache : Tbl (List Nat) := []
  window : Option CalWindow := none
  /-- next window due, and the channel whose turn it is (R244) -/
  calAt : Nat := 0
  calTurn : Nat := 0
  /-- instants of the recomputations of a channel within the last second (R234) -/
  recomputed : Tbl (List Nat) := []
  /-- Planish: rows visited in the current pass, by group, and the group whose turn it is (R243) -/
  planish : Tbl Nat := []
  planishTurn : Nat := 0
  /-- when the current pass began (R243) -/
  planishAt : Nat := 0
  deriving DecidableEq, Repr

/-! ### Caches and directories (R201-R224) -/

/-- R208. -/
inductive LineState where
  | I | M | O | E | S | IS | IX | UX | WB
  deriving DecidableEq, Repr

/-- The kinds of request a home serves (R211), and its own evictions (R218). Log 60 (DEDUCED). -/
inductive ReqKind where
  | rds | rdx | upg | iord | iowr
  /-- a directory entry is evicted (R218) -/
  | evict
  /-- a Hearth takes from its clusters a line its die gives up or shares (R208) -/
  | lower
  deriving DecidableEq, Repr

/-- What a core asks its caches for (R202, R208). -/
inductive MemUse where
  | fetch | load | store
  deriving DecidableEq, Repr

/-- An access of an executor to a line, of the world whose tag it carries (R213). -/
structure MemAccess where
  proc : Nat
  kind : MemUse
  tag : Nat
  deriving DecidableEq, Repr

/-- A store that has retired and waits in its executor's store buffer until the L2 holds the line in M (R140, R202).
Log 130 (DEDUCED). -/
structure BufStore where
  proc : Nat
  line : Nat
  addr : Nat
  /-- its effective address, for the fault of a refused world miss (R213) -/
  ea : W64
  data : Bytes
  key : Nat
  deriving DecidableEq, Repr

/-- A request of an I/O agent at a home agent: IoRd, or IoWr of the bytes from `off` (R210, R211).
Log 118 (DEDUCED). -/
structure IoReq where
  line : Nat
  write : Bool
  world : World
  off : Nat := 0
  data : Bytes := []
  key : Nat := 0
  /-- the engine or window that asks has made its access already; the caches follow (log 118) -/
  moved : Bool := false
  /-- consecutive Nacks, and when it is sent again (R215) -/
  nacks : Nat := 0
  retryAt : Option Nat := none
  deriving DecidableEq, Repr

/-- A line in an L1 of a core, with its way (R201, R202). -/
structure L1Line where
  way : Nat
  used : Nat
  deriving DecidableEq, Repr

/-- One line in a cache. -/
structure CacheLine where
  st : LineState := .I
  /-- the way of its primary copy, and of its twin (R204) -/
  way : Option Nat := none
  twin : Option Nat := none
  /-- accesses that wait for it (R208) -/
  waits : List MemAccess := []
  /-- world tag: 0 the open world, 1 + P partition P (R213) -/
  tag : Nat := 0
  /-- UX: the copy upgraded from is O; WB: the buffer holds dirty data -/
  dirty : Bool := false
  /-- a cleaning writeback is out (R208) -/
  cleaning : Bool := false
  /-- IX, UX: data, and grant, are here -/
  haveData : Bool := false
  haveGrant : Bool := false
  /-- consecutive Nacks of the outstanding request, and when it is sent again (R215) -/
  nacks : Nat := 0
  retryAt : Option Nat := none
  /-- the request outstanding or to be sent again -/
  want : Option ReqKind := none
  /-- last use, for replacement -/
  used : Nat := 0
  /-- Chk outstanding: the world tag that asks, and whether it stores (R213) -/
  chk : Option (Nat × Bool) := none
  deriving DecidableEq, Repr

/-- A forward, Inv or Recall as a cache gets it (R208, R211). -/
inductive FwdKind where
  | fwdS | fwdX | inv | recall | discard
  deriving DecidableEq, Repr

/-- Contents of a directory entry outside Busy (R209). -/
inductive DirState where
  | I
  | S (sharers : List Nat)
  | X (owner : Nat)
  | O (owner : Nat) (sharers : List Nat)
  deriving DecidableEq, Repr

/-- An open transaction of a home. -/
structure HomeTrans where
  kind : ReqKind
  requester : Nat
  /-- agent whose FwdAck, Ack or writeback is awaited -/
  fwd : Option Nat := none
  /-- agents whose InvAck is awaited -/
  invs : List Nat := []
  /-- what the FwdAck said: data went to the requester, it was dirty, a copy was kept -/
  sent : Bool := false
  dirty : Bool := false
  kept : Bool := false
  /-- the owner's answer came -/
  answered : Bool := false
  /-- when the guarded timeout expires (R220) -/
  timeout : Option Nat := none
  /-- the I/O agent's request (IoRd, IoWr) -/
  io : Option IoReq := none
  /-- a request that waits for the home's own outer transaction, at a Hearth -/
  outer : Bool := false
  /-- a request that waits for room in a directory set (R218) -/
  room : Bool := false
  deriving DecidableEq, Repr

/-- One line at a home (R209). -/
structure HomeEntry where
  dir : DirState := .I
  busy : Option HomeTrans := none
  /-- wait list, first place first (R215) -/
  waits : List Nat := []
  /-- writebacks held while Busy: agent, dirty, keep flag (R211) -/
  held : List (Nat × Bool × Bool) := []
  /-- reservation of a starved request (R216) -/
  reserved : Option Nat := none
  /-- last use, for replacement (R218) -/
  used : Nat := 0
  /-- at a Hearth: what its home agent asks of the line, and waits until the clusters have given it up (log 60) -/
  fwd : Option FwdKind := none
  /-- at a Hearth: the request that waits for the die-level transaction meanwhile, and its requester -/
  parked : Option (ReqKind × Nat) := none
  deriving DecidableEq, Repr

/-- A way of an array: check failures and whether it is disabled (R206). -/
structure WayState where
  fails : List Nat := []
  off : Bool := false
  deriving DecidableEq, Repr

/-- Caches and directories (R201). Log 17 (DEDUCED). Log 91 (DESIGN CHOICE). -/
structure CohState where
  /-- cache × 2^42 + line; caches 0 to 3 are the Hearths, 4 + n the L2 of global cluster n -/
  lines : Tbl CacheLine := []
  /-- home × 2^42 + line; homes 0 to 23 are the home agents, 24 + d the Hearth of die d -/
  homes : Tbl HomeEntry := []
  /-- (cache × 2^18 + set) × 32 + way; the L1 arrays count as caches from 64 on -/
  ways : Tbl WayState := []
  /-- lines of the L1s: (2 × core + array) × 2^42 + line; array 0 holds instructions, 1 data (R201) -/
  l1 : Tbl L1Line := []
  /-- store buffers, oldest first (R140, R202) -/
  stores : List BufStore := []
  /-- requests of I/O agents that were answered Nack, oldest first (R215) -/
  io : List IoReq := []
  /-- starved requests that wait for a reservation slot, in order of arrival: home × 2^42 + line, and requester (R216) -/
  starved : List (Nat × Nat) := []
  /-- use counter -/
  clock : Nat := 0
  /-- dead agents: caches by number (R219) -/
  dead : List Nat := []
  /-- sweeps that have not finished -/
  sweeping : List Nat := []
  deriving DecidableEq, Repr

/-! ### Processors (R135-R162) -/

/-- The suspended sealed world an executor holds after a world exit (R355). -/
structure Suspended where
  part : Nat
  wtag : Nat
  unit : Bool
  service : Bool
  deriving DecidableEq, Repr

/-- A world exit that waits for the store buffer to drain (R353). Log 126 (DEDUCED). -/
structure ExitDue where
  cause : Nat
  irq : Bool
  resume : W64
  hexit : W64
  deriving DecidableEq, Repr

/-- The architected registers of a processor, and what it keeps beside them.
Log 6 (DESIGN CHOICE). Log 93 (DESIGN CHOICE). Log 128 (DEDUCED). -/
structure ProcState where
  /-- g1 to g63; g0 is never listed (R136) -/
  g : Tbl W64 := []
  f : Tbl W64 := []
  lk : W64 := 0
  pc : W64 := 0
  /-- special registers by number (R137) -/
  sp : Tbl W64 := []
  /-- sealed partition whose world runs below hypervisor level -/
  part : Option Nat := none
  /-- segment map of that world: the two words of each descriptor (R241) -/
  segs : List (W64 × W64) := []
  /-- `IDLE` waits for an interrupt (R151) -/
  waiting : Bool := false
  /-- external interrupts pending: causes 0x19 and 0x1B -/
  ext : Bool := false
  hext : Bool := false
  suspended : Option Suspended := none
  exitDue : Option ExitDue := none
  /-- world exits of this executor since each partition was sealed (R354) -/
  exits : Tbl Nat := []
  /-- it executes nothing more (R156) -/
  stopped : Bool := false
  deriving DecidableEq, Repr

/-! ### Compared pairs and spares (R183-R200) -/

/-- One pair, or one executor of a split slot, by view 2 × pair + odd. -/
structure PairState where
  /-- the mismatch event in hand: its first mismatch, its first differing lane, its retries used -/
  first : Nat := 0
  lane : Nat := 15
  used : Nat := 0
  /-- instant of the last mismatch -/
  last : Option Nat := none
  /-- instants of the transients of the last 24 hours (R190) -/
  transients : List Nat := []
  /-- the persistent mismatch that Assay follows, and the class 2 stop during it -/
  assayAt : Option Nat := none
  /-- Assay was abandoned by a module reset and runs again at start-up (R198) -/
  assayAgain : Bool := false
  deriving DecidableEq, Repr

/-- Pairs and clusters (R191). -/
structure PairsState where
  pairs : Tbl PairState := []
  /-- condemned or powered-down cores, by global core number, until power-on -/
  condemned : Tbl Bool := []
  /-- clusters lost until power-on -/
  lost : Tbl Bool := []
  deriving DecidableEq, Repr

/-! ### Crucible, sealed partitions and metering (R333-R371) -/

/-- What Crucible's record of a partition holds beside `CRU_PARTn` (R344, R345). -/
structure PartRec where
  /-- registration block -/
  block : Bytes := []
  /-- service reason of the last move into being restored -/
  reason : Nat := 0
  sealTime : Nat := 0
  measurement : Bytes := []
  /-- number of its key-encapsulation key pair -/
  kem : Nat := 0
  /-- XTS data and tweak keys -/
  xts : Bytes := []
  regions : List Nat := []
  /-- step in progress of a sealing (R347) or of a release (R351), and the mailbox that waits for it -/
  step : Nat := 0
  mailbox : Option Nat := none
  /-- origin module of a standby registration, and whether the origin has accepted -/
  origin : Nat := 0
  /-- a service run runs; when the next may start (R350) -/
  serviceOn : Option Nat := none
  serviceAt : Nat := 0
  deriving DecidableEq, Repr

/-- A request held or in progress in a mailbox (R340, R341). -/
structure MailReq where
  req : Bytes
  /-- Crucible has begun it -/
  begun : Bool := false
  deriving DecidableEq, Repr

/-- Live meter counters of one entity (R364). -/
structure Meter where
  pairNs : Nat := 0
  memory : Nat := 0
  channel : Nat := 0
  window : Nat := 0
  cipher : Nat := 0
  cipherReqs : Nat := 0
  blocks : Nat := 0
  units : Nat := 0
  restarts : Nat := 0
  /-- flags of R366: the entity's state changed during the interval -/
  changed : Bool := false
  deriving DecidableEq, Repr

/-- A signed batch that Crucible keeps (R367, R368): header, signatures, and entries by index. -/
structure MeterBatch where
  header : Bytes
  signatures : Bytes
  entries : Tbl Bytes
  deriving DecidableEq, Repr

/-- A bank latched at a boundary and not yet signed (R365). -/
structure MeterBank where
  start : Nat
  stop : Nat
  interval : Nat
  counts : Tbl Meter
  /-- meter class of each entity in the interval, by entry index -/
  classes : Tbl Nat
  degraded : Bool
  final : Bool
  /-- its boundary fell in a restart of Crucible (R360) -/
  late : Bool
  deriving DecidableEq, Repr

/-- Crucible and the meters (R334, R358). Log 66 (DEDUCED). -/
structure CruState where
  parts : Tbl PartRec := []
  mail : Tbl (Option MailReq) := []
  /-- expiry of the watchdog (R336, R358) -/
  wdogAt : Option Nat := none
  /-- instants of the restarts of the last 10 minutes, newest first (R358) -/
  restarts : List Nat := []
  /-- restarts since power-on: measurement index 8 (R339) -/
  restartCount : Nat := 0
  /-- questions the units have asked: 1 binding, 2 to 4 queue owner (compression, cipher, channel), 5 device;
  index; partition -/
  confirms : List (Nat × Nat × Nat) := []
  /-- world tags retired, oldest first, and tags given out before (R349) -/
  retired : List Nat := []
  /-- key pairs drawn -/
  kems : Nat := 0
  /-- the sealed store fails its authentication, or a die its Touchmark (R338) -/
  identityBad : Bool := false
  /-- live counters: partition p, and 1,024 + function -/
  meters : Tbl Meter := []
  /-- start of the counted run of each executor -/
  runFrom : Tbl (Option Nat) := []
  /-- instant the memory counters were last brought up to date -/
  memAt : Nat := 0
  /-- opening boundary of the running interval, and the boundary that closes it -/
  opened : Nat := 0
  boundaryAt : Nat := 0
  interval : Nat := 60
  degraded : Bool := false
  firstBatch : Bool := true
  /-- batches numbered since manufacture (R366) -/
  batchCount : Nat := 0
  /-- the banks latched and not yet signed, oldest first: two at most (R365) -/
  banks : List MeterBank := []
  batches : List MeterBatch := []
  /-- SHA-384 of the previous header, and of each entity's previous entry -/
  lastHeader : Bytes := []
  lastEntry : Tbl Bytes := []
  deriving DecidableEq, Repr


/-! ### Compression (R252-R271) -/

/-- A request of a compression queue, and how many of its 4 KiB blocks the half has handed out (R254). -/
structure SwgReq where
  block : Bytes
  granted : Nat := 0
  deriving DecidableEq, Repr

/-- Where a DEFLATE decompress stands, as the context record holds it (R267). -/
structure Inflater where
  /-- input bits read and not yet used, first bit first -/
  bits : List Bool := []
  phase : Nat := 4
  storedLeft : Nat := 0
  pendLen : Nat := 0
  pendDist : Nat := 0
  wrapBytes : Nat := 0
  lits : List Nat := []
  dists : List Nat := []
  deriving DecidableEq, Repr

/-- The stream context of a queue (R266, R267). -/
structure SwgContext where
  /-- 1 Swage compress, 2 Swage decompress, 3 DEFLATE compress, 4 DEFLATE decompress -/
  mode : Nat
  wrap : Nat := 0
  level : Nat := 0
  /-- the last 65,536 uncompressed bytes, newest last -/
  hist : Bytes := []
  /-- image offset of the next byte -/
  pos : Nat := 0
  inTotal : Nat := 0
  outTotal : Nat := 0
  check : Nat := 0
  blocks : Nat := 0
  inf : Inflater := {}
  deriving DecidableEq, Repr

/-- Compression (R252). -/
structure SwgState where
  queues : Tbl (List SwgReq) := []
  ctxs : Tbl (Option SwgContext) := []
  deriving DecidableEq, Repr

/-! ### Ciphers (R272-R288) -/

/-- What an engine fetched of a key slot when it started a request (R279). -/
structure KeyCopy where
  slot : Nat
  gen : Nat
  key : Bytes
  deriving DecidableEq, Repr

/-- One cipher request (R281). -/
structure CipReq where
  block : Bytes
  started : Bool := false
  copy : Option KeyCopy := none
  /-- a clear withdrew its key copy -/
  withdrawn : Bool := false
  deriving DecidableEq, Repr

/-- Ciphers (R275). -/
structure CipState where
  queues : Tbl (List CipReq) := []
  /-- key bytes of the slots; the rest of a slot stands in `CIP_SLOTn` -/
  keys : Tbl Bytes := []
  /-- the `CKL_KEYk` words -/
  stage : Tbl W64 := []
  /-- the queue that each engine took a request from last (R272) -/
  turn : Tbl (Option Nat) := []
  deriving DecidableEq, Repr

/-! ### Clocks (R372-R384) -/

/-- The local oscillator (1) or the recovered timebase clock (0), as the monitor sees it. Log 81 (DEDUCED). -/
structure ClockMon where
  /-- it has edges -/
  running : Bool := false
  qualified : Bool := false
  /-- measured against the ring oscillator, not against the other clock -/
  byRing : Bool := true
  /-- end of its qualification period -/
  qualAt : Option Nat := none
  deriving DecidableEq, Repr

/-- A source switch in progress: to source 0 recovered, 1 local, 2 ring oscillator; when it began, and whether
the old clock has stopped (R378). -/
structure MuxSwitch where
  dest : Nat
  begun : Nat
  /-- the old clock had stopped when the switch began, or has since -/
  stopped : Bool
  deriving DecidableEq, Repr

/-- Clocks (R372). Log 35 (DEDUCED). -/
structure ClockState where
  recovered : ClockMon := {}
  local_ : ClockMon := {}
  /-- by domain, 286 the timebase -/
  mux : Tbl (Option MuxSwitch) := []
  /-- the clock that the multiplexer of a PLL's domain passed last -/
  passed : Tbl Nat := []
  /-- end of the 10 s of holdover, by domain (R374) -/
  holdEnd : Tbl (Option Nat) := []
  /-- steering of the tick interval in ppm, longer positive (R381) -/
  steer : Int := 0
  /-- next time message of a master (R380) -/
  timeAt : Option Nat := none
  /-- lane in use when the designated one has failed -/
  lane : Option Nat := none
  deriving DecidableEq, Repr

/-! ### Power and insertion (R385-R404, R440-R453) -/

/-- One AC feed at Bellows (R385, R386). -/
structure Feed where
  /-- it delivers peaks above 100 V -/
  present : Bool := false
  qualified : Bool := false
  /-- it was lost and has not been qualified since -/
  lost : Bool := false
  /-- it has been within its limits for 1 s at this instant, where the timebase ran as it returned (R385) -/
  qualAt : Option Nat := none
  deriving DecidableEq, Repr

/-- What Bellows keeps on the primary side. -/
structure BellowsState where
  latch : Bool := false
  /-- source and time beside the latch (R413) -/
  latchWord : Option (Nat × Nat) := none
  /-- when the 48 V stage is switched off (R392) -/
  latchAt : Option Nat := none
  stage48 : Bool := false
  feed0 : Feed := {}
  feed1 : Feed := {}
  /-- the stage is off for a removal (R402) -/
  removed : Bool := false
  deriving DecidableEq, Repr

/-- What a power domain is doing. -/
structure DomState where
  /-- end of the 2 ms drain lease (R362) -/
  leaseEnd : Option Nat := none
  /-- Crucible was restarting when the drain began: the lease arms at its return -/
  leaseWaits : Bool := false
  /-- a switch-off that waits for one of the 16 drains, or for an Assay verdict (R398, R363) -/
  waits : Bool := false
  /-- step 4 or step 5 of R362 was reached: the switch-off can no longer be withdrawn (R399) -/
  drained : Bool := false
  /-- switch on again once the switch-off has completed (R399) -/
  backOn : Bool := false
  deriving DecidableEq, Repr

/-- Power (R389). Log 1 (DESIGN CHOICE). -/
structure PowerState where
  bellows : BellowsState := {}
  doms : Tbl DomState := []
  /-- last valid status frame -/
  frameAt : Nat := 0
  /-- Bellows has reported the loss of both feeds, and the comparator has not tripped since (R389) -/
  reported : Bool := false
  /-- the bus holds at 395 V, to this instant (R389) -/
  stableAt : Option Nat := none
  /-- voltage-point writes that wait for an Assay verdict, and ramps in progress with their ends (R395) -/
  vWait : Tbl (Option Nat) := []
  ramp : Tbl (Option Nat) := []
  deriving DecidableEq, Repr

/-- IEEE 1149.1 test access port controller. -/
inductive Tap where
  | reset | idle
  | selectDr | captureDr | shiftDr | exit1Dr | pauseDr | exit2Dr | updateDr
  | selectIr | captureIr | shiftIr | exit1Ir | pauseIr | exit2Ir | updateIr
  deriving DecidableEq, Repr

/-- Pins and the test access port (R440). Log 1 (DESIGN CHOICE). -/
structure PinState where
  /-- PRSNT1# and PRSNT2# read low -/
  prsnt1 : Bool := false
  prsnt2 : Bool := false
  /-- end of the 10 ms of seating, of the 50 µs of a break of each pin, and of the 1 s of a single pin (R452, R453) -/
  seatAt : Option Nat := none
  break1At : Option Nat := none
  break2At : Option Nat := none
  singleAt : Option Nat := none
  seated : Bool := false
  /-- ADDR2:0 on the pins, and as sampled (R443) -/
  strap : Nat := 7
  addr : Nat := 0
  tap : Tap := .reset
  tck : Bool := false
  /-- TDO, while the controller shifts -/
  tdo : Option Bool := none
  deriving DecidableEq, Repr

/-! ### Start-up (R431-R438) and the bridges (R13) -/

/-- Start-up (R437). Log 62 (DEDUCED). -/
structure StartState where
  /-- cause of the start in hand (R437) -/
  cause : Nat := 0
  /-- starts in a row that failed before ready (R438) -/
  failures : Nat := 0
  /-- a follower waits for its master's time message to this instant (R382) -/
  waitTime : Option Nat := none
  /-- failed halves of each bridge, bit 0 and bit 1, by its place in the order 01 02 03 0H 12 13 1H 23 2H 3H -/
  bridges : Tbl Nat := []
  /-- MCTP messages being assembled, by interface -/
  mctp : Tbl Bytes := []
  deriving DecidableEq, Repr
/-! ### The whole state -/

/-- The state of the block. Log 92 (DESIGN CHOICE). -/
structure State where
  /-- commands that wait, first in, first out -/
  pending : List Instr := []
  /-- the control registers (R18), by key; an unlisted one holds its reset value -/
  regs : Tbl W64 := []
  /-- module memory as software sees it -/
  mem : Memory := []
  /-- memories of the controller spaces (R336, R429, R430), by key -/
  ctl : Tbl Byte := []
  /-- the timebase, in nanoseconds (R8) -/
  tb : Nat := 0
  /-- number of free values taken so far: the model's own field -/
  rand : Nat := 0
  out : List Output := []
  phase : Phase := .off
  image : Image := Config.image
  flt : FaultState := {}
  anv : AnvilState := {}
  hep : EndpointState := {}
  disp : DispatchState := {}
  jnl : JournalState := {}
  chn : ChannelState := {}
  srx : SurexState := {}
  mm : MemState := {}
  coh : CohState := {}
  procs : Tbl ProcState := []
  prs : PairsState := {}
  cru : CruState := {}
  swg : SwgState := {}
  cip : CipState := {}
  clk : ClockState := {}
  pwr : PowerState := {}
  pins : PinState := {}
  start : StartState := {}
  deriving DecidableEq, Repr

/-- The machine right after AC is applied, before start-up step 1: no rail is up, every register reads its
reset value, memory lists nothing, and no command waits (R5, R431). Log 1 (DESIGN CHOICE). -/
def State.reset : State := {}

end Sys2Proof.Machine
end

