-- ==== Sys2Proof/Machine/Ops.lean ====
section
/-!
DEFINITION. The named operations over the state: registers and their fields (R3 to R5), module memory,
controller memories, outputs, free values, armed timeouts (R8), and message-signalled interrupts (R56).
-/
namespace Sys2Proof.Machine
open Sys2Proof

/-! ### Fields and registers -/

/-- The value of field `f` in `w`. -/
def getFld (w : W64) (f : Fld) : Nat := w.toNat >>> f.lo % 2 ^ f.len

/-- `w` with field `f` set to `n`, cut to the field's width. -/
def putFld (w : W64) (f : Fld) (n : Nat) : W64 :=
  BitVec.ofNat 64 (w.toNat - getFld w f * 2 ^ f.lo + n % 2 ^ f.len * 2 ^ f.lo)

namespace State

/-- The stored value of register `a`: what was last stored, or its reset value. Log 39 (DEDUCED). -/
def reg (s : State) (a : Nat) : W64 := s.regs.get (regReset a) a

def setReg (s : State) (a : Nat) (v : W64) : State :=
  { s with regs := s.regs.set (regReset a) a v }

def fld (s : State) (a : Nat) (f : Fld) : Nat := getFld (s.reg a) f

def setFld (s : State) (a : Nat) (f : Fld) (n : Nat) : State := s.setReg a (putFld (s.reg a) f n)

/-- A one-bit field as a truth value. -/
def bit (s : State) (a : Nat) (f : Fld) : Bool := s.fld a f == 1

def setBit (s : State) (a : Nat) (f : Fld) (b : Bool := true) : State := s.setFld a f b.toNat

/-- Count up, wrapping at the field's width. -/
def bump (s : State) (a : Nat) (f : Fld) (n : Nat := 1) : State := s.setFld a f (s.fld a f + n)

/-- Count up, saturating at the field's width. -/
def bumpSat (s : State) (a : Nat) (f : Fld) (n : Nat := 1) : State :=
  s.setFld a f (min (s.fld a f + n) (2 ^ f.len - 1))

/-- Give register `a` its reset value again. -/
def resetReg (s : State) (a : Nat) : State := { s with regs := s.regs.del a }

/-- Give every register whose key satisfies `p` its reset value again. -/
def resetWhere (s : State) (p : Nat → Bool) : State :=
  { s with regs := s.regs.filter (fun e => !p e.1) }

/-- Bits 41:10 of the timebase, as records hold it (R37). -/
def stamp (s : State) : Nat := s.tb / 2 ^ 10 % 2 ^ 32

/-- Drive an output. Log 11 (DEDUCED). -/
def emit (s : State) (o : Output) : State := { s with out := o :: s.out }

/-- Take the next free 64-bit value. Log 7 (DESIGN CHOICE). -/
def freeWord (s : State) : W64 × State := (Config.freeWord s.rand, { s with rand := s.rand + 1 })
/-- Take the next free bit. Log 7 (DESIGN CHOICE). -/
def freeBit (s : State) : Bool × State := (Config.freeBit s.rand, { s with rand := s.rand + 1 })
/-- `n` bytes of fresh random output. Log 7 (DESIGN CHOICE). -/
def randomBytes (s : State) (n : Nat) : Bytes × State :=
  ((List.range n).map (Config.randomByte s.rand), { s with rand := s.rand + 1 })

/-- The rails are up, and neither Quench nor a halt holds the module. -/
def live (s : State) : Bool :=
  match s.phase with
  | .off => false
  | .halted _ => false
  | _ => !s.flt.quenched

def isReady (s : State) : Bool := s.phase == .ready && !s.flt.quenched

/-- R398, R402: the seam ports send and receive: the module is seated, and the seam block (domain 60) is on. -/
def seamUp (s : State) : Bool :=
  s.pins.seated && (s.fld (PWR_DOM 60) PWR_DOM.STATE == 1 || s.fld (PWR_DOM 60) PWR_DOM.STATE == 2)

end State

/-- R8: a timeout armed to expire at `t` has expired. Log 2 (DESIGN CHOICE). -/
def due (s : State) (t : Option Nat) : Bool :=
  match t with
  | none => false
  | some t => t ≤ s.tb

def us (n : Nat) : Nat := n * 1000
def ms (n : Nat) : Nat := n * 1000000
def sec (n : Nat) : Nat := n * 1000000000

/-! ### Module memory -/

/-- What a byte that nothing has written reads as: memory is initialised to zeros (R434). Log 26 (DEDUCED). -/
def Memory.fill : Byte := 0

/-- The byte at an address. Log 26 (DEDUCED). -/
def Memory.byte (m : Memory) (a : Nat) : Byte := Tbl.get Memory.fill m a

def Memory.putByte (m : Memory) (a : Nat) (b : Byte) : Memory := Tbl.set Memory.fill m a b

def Memory.read (m : Memory) (a n : Nat) : Bytes := (List.range n).map (fun i => m.byte (a + i))

def Memory.write (m : Memory) (a : Nat) : Bytes → Memory
  | [] => m
  | b :: t => (m.putByte a b).write (a + 1) t

/-- The canonical form of memory. -/
def Memory.wf (m : Memory) : Bool := Tbl.wf Memory.fill m

namespace State

/-- Byte of a controller space, by key. -/
def ctlByte (s : State) (a : Nat) : Byte := s.ctl.get 0 a
def ctlPut (s : State) (a : Nat) (b : Byte) : State := { s with ctl := s.ctl.set 0 a b }
def ctlRead (s : State) (a n : Nat) : Bytes := (List.range n).map (fun i => s.ctlByte (a + i))
def ctlWrite (s : State) (a : Nat) : Bytes → State
  | [] => s
  | b :: t => (s.ctlPut a b).ctlWrite (a + 1) t

/-! ### Keyed parts of the state -/

def fn (s : State) (f : Nat) : FnState := s.hep.fns.get {} f
def setFn (s : State) (f : Nat) (x : FnState) : State :=
  { s with hep := { s.hep with fns := s.hep.fns.set {} f x } }

/-- Key of a submission ring: 17 rings a function, 16 the admin ring. -/
def ring (s : State) (rk : Nat) : Ring := s.disp.rings.get {} rk
def setRing (s : State) (rk : Nat) (x : Ring) : State :=
  { s with disp := { s.disp with rings := s.disp.rings.set {} rk x } }
def cq (s : State) (ck : Nat) : CplRing := s.disp.cqs.get {} ck
def setCq (s : State) (ck : Nat) (x : CplRing) : State :=
  { s with disp := { s.disp with cqs := s.disp.cqs.set {} ck x } }

def unit? (s : State) (k : Nat) : Option WorkUnit :=
  (s.disp.units.find? (fun e => e.1 == k)).map (·.2)
def setUnit (s : State) (k : Nat) (u : WorkUnit) : State :=
  { s with disp := { s.disp with units := Tbl.ins s.disp.units k u } }
def delUnit (s : State) (k : Nat) : State :=
  { s with disp := { s.disp with units := Tbl.del s.disp.units k } }
def run (s : State) (e : Nat) : ExecRun := s.disp.runs.get .idle e
def setRun (s : State) (e : Nat) (r : ExecRun) : State :=
  { s with disp := { s.disp with runs := s.disp.runs.set .idle e r } }

def assoc (s : State) (a : Nat) : Assoc := s.srx.assocs.get {} a
def setAssoc (s : State) (a : Nat) (x : Assoc) : State :=
  { s with srx := { s.srx with assocs := s.srx.assocs.set {} a x } }
def engine (s : State) (e : Nat) : ChanEngine := s.chn.engines.get {} e
def setEngine (s : State) (e : Nat) (x : ChanEngine) : State :=
  { s with chn := { s.chn with engines := s.chn.engines.set {} e x } }
/-- Processor number: executors 0 to 319, channel engines 320 + n, Anvil A 384, B 385, Crucible 386, the
sequencer 387. Log 6 (DESIGN CHOICE). -/
def proc (s : State) (n : Nat) : ProcState := s.procs.get {} n
def setProc (s : State) (n : Nat) (x : ProcState) : State := { s with procs := s.procs.set {} n x }
/-- R345, R366: the record of partition `p` moves, which its meter entry shows. -/
def setPartState (s : State) (p st : Nat) : State :=
  let m := s.cru.meters.get {} p
  let s := s.setFld (CRU_PART p) CRU_PART.STATE st
  { s with cru := { s.cru with meters := s.cru.meters.set {} p { m with changed := true } } }
def partner (s : State) (k : Nat) : Partner := s.jnl.partners.get {} k
def setPartner (s : State) (k : Nat) (x : Partner) : State :=
  { s with jnl := { s.jnl with partners := s.jnl.partners.set {} k x } }

end State

/-- Ring key of ring `r` of function `f`. -/
def ringOf (f r : Nat) : Nat := f * 17 + r
/-- Ring key under which a partner's series stands while no local ring is bound to it (R50). -/
def adoptKey (k f r : Nat) : Nat := ringOf (1025 * (k + 1) + f) r
/-- Unit key: its ring and its ASN. -/
def unitKey (rk asn : Nat) : Nat := rk * 2 ^ 64 + asn
def keyRing (k : Nat) : Nat := k / 2 ^ 64
def keyAsn (k : Nat) : Nat := k % 2 ^ 64

/-- R138: fields of `psr`. -/
def PSR.PL : Fld := ⟨0, 2⟩
def PSR.IE : Fld := ⟨2, 1⟩
def PSR.EXL : Fld := ⟨3, 1⟩
def PSR.SEALED : Fld := ⟨4, 1⟩
def PSR.UNIT : Fld := ⟨5, 1⟩
def PSR.WTAG : Fld := ⟨16, 11⟩

/-! ### Requests of the endpoint -/

/-- R73: the 4 KiB pages that `len` bytes at `addr` touch. -/
def pagesOf (addr len : Nat) : List Nat := (List.range ((addr + len - 1) / 4096 + 1 - addr / 4096)).map (addr / 4096 + ·)

/-- Key of a page of a function in the translation cache. -/
def atsKey (f page : Nat) : Nat := f * 2 ^ 52 + page

/-- The first tag from `t` on that is not in use. -/
def freeTag (used : List Nat) (limit : Nat) : Nat → Nat → Nat
  | 0, t => t
  | fuel + 1, t => if used.contains t then freeTag used limit fuel ((t + 1) % limit) else t

namespace State

/-- R67, R456: the function is in the drain of its own function-level reset or of the PF's. -/
def inDrain (s : State) (f : Nat) : Bool := (s.fn f).flrEnd.isSome || s.hep.pfFlr.isSome

/-- R59, R65, R71, R75: nothing holds back what the function sends: Bus Master Enable is set, and it is neither in D3hot nor
frozen, nor stopped by its TDI state. -/
def maySend (s : State) (f : Nat) : Bool :=
  let x := s.fn f
  x.bme && !x.d3 && !s.bit HEP_FREEZE HEP_FREEZE.FROZEN &&
    (s.fld (HEP_FN_STATE f) HEP_FN_STATE.TDI == 0 || s.fld (HEP_FN_STATE f) HEP_FN_STATE.TDI == 2)

/-- R59, R65, R67, R71, R75: the module may initiate requests for the function. -/
def mayRequest (s : State) (f : Nat) : Bool := decide (f < 1025) && s.isReady && s.maySend f && !s.inDrain f

/-- R59, R65: the function is running, and the module may initiate requests for it. -/
def fnActive (s : State) (f : Nat) : Bool :=
  s.fld (HEP_FN_STATE f) HEP_FN_STATE.STATE == 1 && s.mayRequest f

/-- R74, R75: the IDE stream that a request of function `f` to `addr` travels over, and whether it carries the T bit: the
bound stream of a TDI in RUN, else a secure selective stream with a block that holds the address, else a secure link
stream. Log 104 (PRESUMED). -/
def ideRoute (s : State) (f addr : Nat) : Option (Nat × Bool) :=
  if s.fld (HEP_FN_STATE f) HEP_FN_STATE.TDI = 2 then (s.fn f).stream.map (·, true)
  else
    match (List.range 8).find? (fun i =>
      let x := s.hep.ide.get {} (i + 1)
      x.secure && x.blocks.any (fun b => decide (b.2.1 ≤ addr) && decide (addr ≤ b.2.2))) with
    | some i => some (i + 1, false)
    | none => if (s.hep.ide.get {} 0).secure then some (0, false) else none

/-- R54: a TLP of function `f` leaves, with an ECRC where its generation is enabled. -/
def emitTlp (s : State) (f : Nat) (o : Output) : State := s.emit (if (s.fn f).ecrcGen then .digest o else o)

/-- R75: drive `o` over the IDE stream of function `f` for `addr`, if one carries it. -/
def emitOver (s : State) (f addr : Nat) (o : Output) : State :=
  s.emitTlp f (match s.ideRoute f addr with
    | some (n, t) => .over n t o
    | none => o)

/-- R54: the payloads in which bytes at `a` travel: none of more than 512 bytes, nor across a 512-byte boundary. -/
def payloads : Nat → Nat → Bytes → List (Nat × Bytes)
  | 0, _, _ => []
  | fuel + 1, a, b =>
    if b = [] then [] else (a, b.take (512 - a % 512)) :: payloads fuel (a + (512 - a % 512)) (b.drop (512 - a % 512))

/-- R54: the payloads of `b` at `a`. -/
def payloadsOf (a : Nat) (b : Bytes) : List (Nat × Bytes) := payloads (b.length / 512 + 2) a b

/-- R54: the completions of function `f` with the data `b` of a read at `a`; without data, one. -/
def complete (s : State) (f a : Nat) (b : Bytes) : State :=
  if b = [] then s.emitTlp f (.cpl f 0 [])
  else (payloadsOf a b).foldl (fun s p => s.emitTlp f (.cpl f 0 p.2)) s

/-- R73: the module may issue a request of function `f` to these bytes: ATS is off, or every page they touch has a
translation. -/
def reach (s : State) (f addr len : Nat) : Bool :=
  !(s.fn f).ats || (pagesOf addr len).all (fun p => s.hep.ats.any (fun e => e.1 == atsKey f p))

/-- R73: issue a request of function `f` to `len` bytes at `addr`, under its translations where ATS is enabled. -/
def request (s : State) (f addr len : Nat) (o : Output) : State :=
  s.emitOver f addr
    (if (s.fn f).ats then
      let ps := (pagesOf addr len).map (fun p => (s.hep.ats.find? (fun e => e.1 == atsKey f p)).bind (·.2))
      if ps.all (·.isSome) then .translated (ps.filterMap id) o else o
    else o)

/-- R54: write `b` at `a` of host memory for function `f`, in payloads of at most 512 bytes. -/
def dmaWrite (s : State) (f a : Nat) (b : Bytes) : State :=
  (payloadsOf a b).foldl (fun s p => s.request f p.1 p.2.length (.dma f p.1 p.2)) s

/-- R54: tags: 14 bits in FLIT mode, else 10. -/
def tagLimit (s : State) : Nat := if s.bit HEP_LINK_STATUS HEP_LINK_STATUS.FLIT then 2 ^ 14 else 2 ^ 10

/-- Send the read `q` under a free tag. Its completion timeout starts (R8). -/
def sendRead (s : State) (q : ReadReq) : State :=
  let used := s.hep.reads.map (·.tag)
  let tag := freeTag used s.tagLimit used.length (s.hep.nextTag % s.tagLimit)
  let q := { q with tag := tag, due := s.hep.cplTimeout.map (s.tb + ·) }
  let s := { s with hep := { s.hep with nextTag := tag + 1, reads := s.hep.reads ++ [q] } }
  match q.kind with
  | .translation => s.emitOver q.fn q.addr (.atsReq q.fn tag (q.addr / 4096))
  | _ => s.request q.fn q.addr q.len (.readReq q.fn tag q.addr q.len)

/-- R73: ask for the translations of these bytes that the cache lacks and that are not yet asked for.
Log 103 (DEDUCED). -/
def askPages (s : State) (f addr len : Nat) : State :=
  let asked := fun (p : Nat) => (s.hep.reads ++ s.hep.waiting).any (fun q =>
    q.kind == .translation && q.fn == f && q.addr == p * 4096 && !q.discard)
  let ps := (pagesOf addr len).filter (fun p => !s.hep.ats.any (fun e => e.1 == atsKey f p) && !asked p)
  { s with hep := { s.hep with waiting := s.hep.waiting ++ ps.map (fun p =>
    { tag := 0, fn := f, kind := .translation, addr := p * 4096, len := 8 }) } }

/-- Send the reads that wait, as far as translations and tags allow, and ask for the translations they lack.
Log 103 (DEDUCED). -/
def pumpReads (s : State) : State :=
  let go := fun (s : State) => s.hep.waiting.foldl (fun s q =>
    if s.mayRequest q.fn ∧ s.hep.reads.length < s.tagLimit ∧ (q.kind = .translation ∨ s.reach q.fn q.addr q.len) then
      ({ s with hep := { s.hep with waiting := s.hep.waiting.erase q } }).sendRead q
    else s) s
  let s := s.hep.waiting.foldl (fun s q =>
    if q.kind = .translation ∨ s.reach q.fn q.addr q.len then s else s.askPages q.fn q.addr q.len) s
  go s

/-- Issue the read `q`, once its bytes have translations and a tag is free. -/
def issueRead (s : State) (q : ReadReq) : State :=
  ({ s with hep := { s.hep with waiting := s.hep.waiting ++ [q] } }).pumpReads

/-- A function's requests that wait are given up. -/
def dropWaiting (s : State) (p : Nat → Bool) : State :=
  { s with hep := { s.hep with
    waiting := s.hep.waiting.filter (fun q => !p q.fn)
    owed := s.hep.owed.filter (fun e => !p e.1)
    pfOut := if p 0 then [] else s.hep.pfOut } }

end State

/-! ### Message-signalled interrupts -/

namespace State

/-- Send vector `v` of function `f`, or set its pending bit while it is masked (R56). A frozen endpoint sends no message, nor
a function in D3hot, without Bus Master Enable or stopped by its TDI state: it is sent when that ends (R59, R65, R71, R72,
R75). A function in drain sends none (R67). Log 132 (DEDUCED). -/
def sendVector (s : State) (f v : Nat) : State :=
  let x := s.fn f
  if !x.msixEn || s.inDrain f then s
  else if !s.maySend f then
    { s with hep := { s.hep with heldMsgs := s.hep.heldMsgs ++ [(f, v)] } }
  else if x.msixMask || s.bit (MSIX_CTRL f v) ⟨0, 1⟩ then s.setBit (msixPba f) ⟨v, 1⟩
  else s.emitOver f (s.reg (msixTable f + 16 * v)).toNat (.msix f v)

/-- Messages of function `f` that could not be sent go out, as far as they can now. Log 132 (DEDUCED). -/
def flushMsgs (s : State) (f : Nat) : State :=
  if !s.maySend f then s
  else
  let mine := s.hep.heldMsgs.filter (fun m => m.1 == f)
  let s := { s with hep := { s.hep with heldMsgs := s.hep.heldMsgs.filter (fun m => m.1 != f) } }
  mine.foldl (fun s m => s.sendVector m.1 m.2) s

/-! ### Posted requests of the PF for Crucible -/

/-- R73, R340, R368: a write to host memory by the PF for Crucible, behind those that wait for a translation. -/
def pfWrite (s : State) (a : Nat) (d : Bytes) : State :=
  if s.hep.pfOut = [] ∧ s.reach 0 a d.length then s.dmaWrite 0 a d
  else (({ s with hep := { s.hep with pfOut := s.hep.pfOut ++ [PfOut.write a d] } }).askPages 0 a d.length).pumpReads

/-- R73, R368: the message that follows such writes. -/
def pfMessage (s : State) (v : Nat) : State :=
  if s.hep.pfOut = [] then s.sendVector 0 v else { s with hep := { s.hep with pfOut := s.hep.pfOut ++ [PfOut.message v] } }

/-- The PF's waiting requests go out, in order, as far as translations allow. -/
def flushPf (s : State) : State :=
  s.hep.pfOut.foldl (fun s o =>
    if s.hep.pfOut.head? = some o then
      match o with
      | .write a d =>
        if s.reach 0 a d.length then
          ({ s with hep := { s.hep with pfOut := s.hep.pfOut.tail } }).dmaWrite 0 a d
        else (s.askPages 0 a d.length).pumpReads
      | .message v => ({ s with hep := { s.hep with pfOut := s.hep.pfOut.tail } }).sendVector 0 v
    else s) s

/-! ### TDIs -/

/-- Functions that are there, in order. -/
def presentFns (s : State) : List Nat := 0 :: (s.hep.fns.filter (fun e => e.1 != 0 && e.2.present)).map (·.1)

def tdi (s : State) (f : Nat) : Nat := s.fld (HEP_FN_STATE f) HEP_FN_STATE.TDI
/-- R366: the state of function `f` changes, which its meter entry shows. Log 79 (DEDUCED). -/
def fnMoved (s : State) (f : Nat) : State :=
  let m := s.cru.meters.get {} (1024 + f)
  { s with cru := { s.cru with meters := s.cru.meters.set {} (1024 + f) { m with changed := true } } }
def setTdi (s : State) (f st : Nat) : State :=
  (if s.tdi f = st then s else s.fnMoved f).setFld (HEP_FN_STATE f) HEP_FN_STATE.TDI st

/-- R75: a TDI in CONFIG_LOCKED or RUN enters ERROR. -/
def tdiError (s : State) (f : Nat) : State :=
  if s.tdi f = 1 ∨ s.tdi f = 2 then (s.setTdi f 3).setBit HEP_EVENT HEP_EVENT.TDI_ERROR else s

/-- R75: TDIs bound to a stream that is lost enter ERROR. -/
def unbind (s : State) (st : Nat) : State :=
  (s.presentFns.filter (fun f => (s.fn f).stream == some st)).foldl (fun s f => s.tdiError f) s

end State

/-- A message for a partner leaves, where the seam ports can send it. -/
def State.sendSeam (s : State) (o : Output) : State := if s.seamUp then s.emit o else s

/-- A command to a module whose rails are down, or that a halt or Quench holds, has no effect.
Log 9 (DESIGN CHOICE). Log 43 (DEDUCED). -/
def onLive (s : State) (f : State → State) : Host.Outcome State Fault Refusal := .next (if s.live then f s else s)

/-- What comes over a seam link, or leaves over one: nothing does while the seam ports are quiet (R398, R402). -/
def onSeam (s : State) (f : State → State) : Host.Outcome State Fault Refusal :=
  .next (if s.live && s.seamUp then f s else s)

end Sys2Proof.Machine
end

