-- ==== Sys2Proof/Machine/Dies.lean ====
section
/-!
DEFINITION. The journal dies: positions of the log (R31), a block write landing in a die, the wear registers
(R53), and the completion of every block write in flight (R44, R412).
-/
namespace Sys2Proof.Machine
open Sys2Proof

/-! ### Positions of the log -/

/-- R31: log blocks per die. -/
def logBlocks : Nat := 16252928

def seqIndex (q : Nat) : Nat := q % 2 ^ 24
def seqEpoch (q : Nat) : Nat := q / 2 ^ 24
def mkSeq (epoch index : Nat) : Nat := epoch * 2 ^ 24 + index
/-- Position counted without wrap, so that distances are differences. -/
def seqLinear (q : Nat) : Nat := seqEpoch q * logBlocks + seqIndex q

/-- R31: the log sequence number after `q`. -/
def nextSeq (q : Nat) : Nat :=
  if seqIndex q + 1 = logBlocks then mkSeq (seqEpoch q + 1) 0 else q + 1

/-- R31: the logical row of a log block. -/
def logRow (index : Nat) : Nat := 32768 + index / 16

namespace State

def die (s : State) (d : Nat) : Die := if d = 0 then s.jnl.die0 else s.jnl.die1
def setDie (s : State) (d : Nat) (x : Die) : State :=
  if d = 0 then { s with jnl := { s.jnl with die0 := x } } else { s with jnl := { s.jnl with die1 := x } }
/-- The die is in service (R47). -/
def dieOk (s : State) (d : Nat) : Bool := if d = 0 then !s.jnl.failed0 else !s.jnl.failed1

/-- The highest count of any row. -/
def maxRow (t : Tbl Nat) : Nat := t.foldl (fun m e => max m e.2) 0
def sumRows (t : Tbl Nat) : Nat := t.foldl (fun m e => m + e.2) 0

/-- R53: the wear registers of a die follow its row counts, in millions; WEAR_HIGH at 8,000. -/
def wearRegs (s : State) (d : Nat) : State :=
  let t := (s.die d).rowWrites
  let old := s.fld (JNL_DIE_LIFE d) JNL_DIE_LIFE.LIFE_USED
  let life := min (maxRow t / 100000) 10000
  let s := s.setFld (JNL_DIE_WRITES d) JNL_DIE_WRITES.MAX_ROW_WRITES (maxRow t / 1000000)
  let s := s.setFld (JNL_DIE_WRITES d) JNL_DIE_WRITES.MEAN_ROW_WRITES (sumRows t / 1048576 / 1000000)
  let s := s.setFld (JNL_DIE_LIFE d) JNL_DIE_LIFE.LIFE_USED life
  if decide (old ≤ 8000) && decide (8000 < life) then s.setBit JNL_EVENT JNL_EVENT.WEAR_HIGH else s

/-- One block write lands in a die: its contents, and the write count of its physical row. -/
def storeBlock (s : State) (d index : Nat) (b : Bytes) : State :=
  let x := s.die d
  let row := x.rowMap.get (logRow index) (logRow index)
  let s := s.setDie d { x with
    log := x.log.set [] index b
    rowWrites := x.rowWrites.set 0 row (x.rowWrites.get 0 row + 1) }
  s.wearRegs d

/-- R44 step 2: every block write in flight completes in both dies. Log 5 (DEDUCED). -/
def flushWrites (s : State) : State :=
  let s := s.jnl.out.foldl (fun s x =>
    let s := if x.done0 then s else s.storeBlock 0 (seqIndex x.seq) x.bytes
    if x.done1 then s else s.storeBlock 1 (seqIndex x.seq) x.bytes) s
  { s with jnl := { s.jnl with out := s.jnl.out.map (fun (x : BlockWrite) => { x with done0 := true, done1 := true }) } }

end State
end Sys2Proof.Machine
end

