-- ==== Sys2Proof/Machine/Collector.lean ====
section
/-!
DEFINITION. The fault collector: logging an event with everything R406 makes it do, opening recovery log
entries (R420), and Quench (R412). Every unit reports through `logEvent`.
-/
namespace Sys2Proof.Machine
open Sys2Proof

/-- R410: BLOCK of a source, bits 27:20 of its PF BAR0 base. -/
def blockHep : Nat := 0x00
def blockJnl : Nat := 0x02
def blockUow : Nat := 0x03
def blockCoh : Nat := 0x04
def blockMem : Nat := 0x05
def blockSwg : Nat := 0x06
def blockCip : Nat := 0x07
def blockChn : Nat := 0x08
def blockSrx : Nat := 0x09
def blockCru : Nat := 0x0A
def blockMtr : Nat := 0x0B
def blockClk : Nat := 0x0C
def blockPwr : Nat := 0x0D
def blockFlt : Nat := 0x0E
def blockAnv : Nat := 0x0F
def blockPair : Nat := 0x10
/-- R410: CAUSE of an event without an event bit. -/
def causeNone : Nat := 0x3F

/-- R410: the EVENT word. -/
def eventWord (seq cls block cause inst : Nat) : W64 :=
  BitVec.ofNat 64 (seq % 2 ^ 32 * 2 ^ 32 + cls % 8 * 2 ^ 29 + block % 32 * 2 ^ 24 + cause % 64 * 2 ^ 18
    + 2 ^ 16 + inst % 2 ^ 16)

/-- R420: the procedure an event opens, its steps, and what it concerns: cluster loss (1), die loss (2), a
silent agent (3), a failed channel (4), a Class 3 event (5), a domain fault (6). -/
def procOf (cls block cause inst : Nat) : Option (Nat × Nat × Nat) :=
  if cls = 3 then some (5, 3, 0)
  else if block = blockPair && cause == 5 then some (1, 6, inst / 4)
  else if block = blockCoh && cause == causeNone && cls == 1 then some (2, 8, inst)
  else if block = blockCoh && cause == 3 then some (3, 2, inst)
  else if block = blockMem && cause == 4 then some (4, 3, inst)
  else if block = blockPwr && cause == 5 then some (6, 2, inst)
  else none

namespace State

/-- R420: the lowest-numbered recovery log entry that is not open. -/
def freeRec (s : State) : Option Nat :=
  (List.range 8).find? (fun n => s.fld (FLT_REC n) FLT_REC.STATE != 1)

/-- The same procedure is already open for the same thing (R421). -/
def recOpen (s : State) (proc key : Nat) : Bool :=
  (List.range 8).any (fun n => s.fld (FLT_REC n) FLT_REC.STATE == 1 &&
    s.fld (FLT_REC n) FLT_REC.PROC == proc && s.flt.recKey.get 0 n == key)

/-- R420: open a recovery log entry, or wait for one while all 8 are open. The clusters of a lost die belong to the die's
own entry (procedure 2). Log 68 (DEDUCED). -/
def openRec (s : State) (proc steps key seq : Nat) : State :=
  if s.recOpen proc key || (proc == 1 && s.recOpen 2 (key / 10)) ||
      s.flt.recWait.any (fun w => w.proc / 256 == proc && w.key == key) then s
  else match s.freeRec with
    | some n =>
      let s := s.setReg (FLT_REC n) (BitVec.ofNat 64 (seq % 2 ^ 32 * 2 ^ 32 + steps * 2 ^ 16 + proc * 2 ^ 4 + 1))
      { s with flt := { s.flt with recKey := s.flt.recKey.set 0 n key } }
    | none => { s with flt := { s.flt with recWait := s.flt.recWait ++ [RecWait.mk (proc * 256 + steps) key seq] } }

/-- R420: entries have closed: the recoveries that wait take free ones, oldest first. Log 68 (DEDUCED). -/
def nextRecovery (s : State) : State :=
  s.flt.recWait.foldl (fun s w => s.openRec (w.proc / 256) (w.proc % 256) w.key w.seq)
    { s with flt := { s.flt with recWait := [] } }

/-- R220: the guarded regime ends, unless the recovery of another lost cluster or die is still open before its last steps
(steps 1 to 5 of procedures 1 and 2). Log 125 (DEDUCED). -/
def endGuarded (s : State) : State :=
  let lost := fun (p : Nat) => p == 1 || p == 2
  if (List.range 8).any (fun n => s.fld (FLT_REC n) FLT_REC.STATE == 1 && lost (s.fld (FLT_REC n) FLT_REC.PROC) &&
        decide (s.fld (FLT_REC n) FLT_REC.STEP < 6)) ||
      s.flt.recWait.any (fun w => lost (w.proc / 256)) then s
  else s.setBit COH_STATUS COH_STATUS.GUARDED false

/-- Put an event into the history, the counts and the first-error capture (R406, R410, R411). -/
def recordEvent (s : State) (cls block cause inst : Nat) (detail : Nat) : State :=
  let seq := s.fld FLT_SEQ FLT_SEQ.COUNT + 1
  let head := s.fld FLT_STATUS FLT_STATUS.HEAD
  let ev := eventWord seq cls block cause inst
  let time := BitVec.ofNat 64 s.tb
  let lost := getFld (s.reg (FLT_HIST_EVENT head)) FLT_EVENT.VALID == 1 &&
    decide (s.flt.histSeq.get 0 head > s.fld FLT_ACK FLT_ACK.SEQ)
  let s := s.setFld FLT_SEQ FLT_SEQ.COUNT seq
  let s := s.setReg (FLT_HIST_TIME head) time
  let s := s.setReg (FLT_HIST_EVENT head) ev
  let s := s.setReg (FLT_HIST_DETAIL head) (BitVec.ofNat 64 detail)
  let s := { s with flt := { s.flt with
    histSeq := s.flt.histSeq.set 0 head seq
    intake := s.flt.intake ++ [FaultEvent.mk seq time.toNat ev.toNat detail] } }
  let s := if lost then s.setBit FLT_STATUS FLT_STATUS.OVERFLOW else s
  let s := s.setFld FLT_STATUS FLT_STATUS.HEAD (head + 1)
  let s :=
    if getFld (s.reg FLT_FIRST_EVENT) FLT_EVENT.VALID == 0 && decide (s.fld FLT_CFG FLT_CFG.FIRST_MIN ≤ cls) then
      ((s.setReg FLT_FIRST_TIME time).setReg FLT_FIRST_EVENT ev).setReg FLT_FIRST_DETAIL (BitVec.ofNat 64 detail)
    else s
  let s := s.bump (FLT_COUNT cls) FLT_COUNT.COUNT
  s.setBit FLT_STATUS ⟨cls, 1⟩

/-- R445, R418: what Anvil firmware drives, `FAULT#` and the status indicator; through a takeover gap it holds. -/
def showOut (s : State) : State :=
  if s.bit ANV_STATUS ANV_STATUS.GAP then s
  else
    let fault := s.fld FLT_STATUS FLT_STATUS.UNCLEARED / 2 % 8 != 0
    let amber := match s.phase with
      | .halted _ => 2
      | _ => fault.toNat
    let green := match s.phase with
      | .ready => 1
      | .starting _ _ => 2
      | _ => 0
    ((s.setBit ANV_OUT ANV_OUT.FAULT fault).setFld ANV_OUT ANV_OUT.AMBER amber).setFld ANV_OUT ANV_OUT.GREEN green

/-- R427: what state Anvil `b` is in. -/
def anvilState (s : State) (b : Bool) : Nat :=
  s.fld ANV_STATUS (if b then ANV_STATUS.B_STATE else ANV_STATUS.A_STATE)
/-- The Anvil that holds the token. -/
def holder (s : State) : Bool := s.bit ANV_STATUS ANV_STATUS.ACTIVE
/-- An Anvil is active: the token's holder, outside a gap. -/
def anvilActive (s : State) : Bool := s.anvilState s.holder == 2 && s.anv.gap.isNone

/-- R430: a write to vector trigger `v`. -/
def vectorTrigger (s : State) (v value : Nat) : State :=
  if value = 1 ∧ s.fld FLT_CFG FLT_CFG.INT_EN >>> v % 2 = 1 then s.sendVector 0 (24 + v) else s

/-- R423: an event that Anvil firmware generates. Log 36 (DEDUCED). Log 38 (DESIGN CHOICE). -/
def pldmEvent (s : State) : State :=
  let s := (s.setBit ANV_EVENT ANV_EVENT.MGMT).vectorTrigger 5 1
  (s.setBit ANV_OUT ANV_OUT.SMB0_ALERT).setBit ANV_OUT ANV_OUT.SMB1_ALERT

/-- The class of the event with sequence number `seq`, as the history holds it. -/
def noteClass (s : State) (seq : Nat) : Nat :=
  match (List.range 32).find? (fun h => s.flt.histSeq.get 0 h == seq) with
  | some h => s.fld (FLT_HIST_EVENT h) FLT_EVENT.CLASS
  | none => 0

/-- R423: of the events that the active Anvil is told of, one of Class 1 to 3 generates a PLDM event.
Log 36 (DEDUCED). -/
def tellAnvil (s : State) (classes : List Nat) : State :=
  if classes.any (fun c => decide (1 ≤ c) && decide (c ≤ 3)) then s.pldmEvent else s

/-- R406, R423, R430: tell the active Anvil of an event of class `cls`; before one is active and through a takeover gap the
notification waits (R418) in the queue, which holds the newest 32. Log 146 (DEDUCED). -/
def notifyAnvil (s : State) (seq cls : Nat) : State :=
  if s.anvilActive then s.tellAnvil [cls]
  else { s with anv := { s.anv with notify := (s.anv.notify ++ [seq]).drop (s.anv.notify.length + 1 - 32) } }

/-- R417 step 4, R418: the new active Anvil receives the notifications that waited. Log 146 (DEDUCED). -/
def takeNotes (s : State) : State :=
  ({ s with anv := { s.anv with notify := [] } } : State).tellAnvil (s.anv.notify.map s.noteClass)

/-- R406: raise cause 0x1B on the hypervisor's pair. -/
def raiseHyp (s : State) : State :=
  let e := 2 * s.fld FLT_CFG FLT_CFG.HV_PAIR
  s.setProc e { s.proc e with hext := true }

/-- R392, R413: the latch-set command reaches Bellows: the latch holds its first source and time, and the
48 V stage goes off 50 µs later. Log 76 (DEDUCED). -/
def latch (s : State) (source time : Nat) : State :=
  let b := s.pwr.bellows
  if b.latch then s
  else { s with pwr := { s.pwr with bellows :=
    { b with latch := true, latchWord := some (source, time), latchAt := some (s.tb + us 50) } } }

/-- R412: Quench. -/
def quench (s : State) (source : Nat) : State :=
  if s.flt.quenched then s
  else
    let s := s.emit (.latchSet source s.stamp)
    let s := s.latch source s.stamp
    let s := (s.flushWrites).setFld JNL_STATUS JNL_STATUS.STATE 6
    let s := s.resetWhere (fun a => decide (CIP_SLOT 0 ≤ a) && decide (a < CIP_SLOT 8192))
    { s with
      flt := { s.flt with quenched := true, class3Due := none }
      disp := { s.disp with stopped := true }
      jnl := { s.jnl with waiting := [], snapAt := none }
      procs := s.procs.map (fun e => (e.1, { e.2 with stopped := true }))
      ctl := s.ctl.filter (fun e => !(decide (0x200100000 ≤ e.1) && decide (e.1 ≤ 0x2002FFFFF)) &&
        !(decide (0x200340000 ≤ e.1) && decide (e.1 ≤ 0x20034FFFF)))
      mm := { s.mm with loaded := [] }
      cip := { s.cip with keys := [], stage := [], queues := s.cip.queues.map (fun e =>
        (e.1, e.2.map (fun (q : CipReq) => { q with copy := none, withdrawn := q.withdrawn || q.copy.isSome }))) }
      srx := { s.srx with assocs := s.srx.assocs.map (fun e =>
        (e.1, { e.2 with secret := none, txKey := [], rxKey := [], txAck := [], rxAck := [] })) }
      hep := { s.hep with ide := [], reads := [] } }

/-- R408: a Class 3 event within 60 s of ready, after two resets that Class 3 events caused, all within
10 minutes. -/
def escalates (s : State) : Bool :=
  match s.flt.resets with
  | r1 :: r2 :: _ =>
    s.phase == .ready && r1.class3 && r2.class3 && decide (s.tb ≤ s.flt.readyAt + sec 60) &&
      decide (s.tb ≤ r2.time + sec 600)
  | _ => false

/-- R406: the fault collector takes one event. Class 2 stops the partition INSTANCE names (R405, R410);
Class 3 arms the 12 ms deadline (R407) or escalates (R408); Class 4 ends in Quench (R412). `source` is the
Quench source of a Class 4 event. Log 70 (DEDUCED). -/
def logEvent (s : State) (cls block cause inst : Nat) (detail : Nat := 0) (source : Nat := 0) : State :=
  let up := cls == 3 && s.escalates
  let cls' := if up then 4 else cls
  let s := (s.recordEvent cls' block cause inst detail).showOut
  if cls' = 4 then s.quench (if up then 4 else source)
  else
    let seq := s.fld FLT_SEQ FLT_SEQ.COUNT
    let s := if s.fld FLT_CFG FLT_CFG.INT_EN >>> cls' % 2 = 1 then s.sendVector 0 (24 + cls') else s
    let s := if s.fld FLT_CFG FLT_CFG.HV_EN >>> cls' % 2 = 1 then s.raiseHyp else s
    let s := s.notifyAnvil seq cls'
    let s := match procOf cls' block cause inst with
      | some (p, n, k) => s.openRec p n k seq
      | none => s
    if cls' = 2 then
      let p := inst % 1024
      let st := s.fld (CRU_PART p) CRU_PART.STATE
      if st = 3 ∨ st = 4 then s.setPartState p 5 else s
    else if cls' = 3 then
      match s.flt.class3Due with
      | none => { s with flt := { s.flt with class3Due := some (s.tb + ms 12) } }
      | some _ => s
    else s

end State
end Sys2Proof.Machine
end

