-- ==== Sys2Proof/Machine/Stored.lean ====
section
/-!
DEFINITION. What the memory channels hold: the address map (R226 to R228), the keys that lines stand under (R238), and
the stored form of data, parity and code lines (R226, R230, R231). Contents are kept as plain bytes with the key each
line was written under; what a channel stores follows from them.
-/
namespace Sys2Proof.Machine
open Sys2Proof

/-! ### The address map -/

/-- R227: one past the last memory address. -/
def memLimit : Nat := 0x3B10000000
def lineOf (a : Nat) : Nat := a / 64
/-- R227: stripe group of a line. -/
def lineGroup (l : Nat) : Nat := (l % 3 + l / 3) % 3
def lineRow (l : Nat) : Nat := l / 3 / 7
def linePos (l : Nat) : Nat := l / 3 % 7
/-- R227: parity member of a row. -/
def parityMember (r : Nat) : Nat := 7 - r % 8
/-- R227: data member of a line. -/
def lineMember (l : Nat) : Nat :=
  if linePos l < parityMember (lineRow l) then linePos l else linePos l + 1
/-- R226: home agent of member `i` of group `g`. -/
def memberHome (g i : Nat) : Nat := 6 * (i / 2) + 2 * g + i % 2
/-- R227: home agent of a line. -/
def lineHome (l : Nat) : Nat := memberHome (lineGroup l) (lineMember l)
/-- Group of channel `h`, and its member number. -/
def chanGroup (h : Nat) : Nat := h % 6 / 2
def chanMember (h : Nat) : Nat := h / 6 * 2 + h % 2
/-- The line at data position `p` of row `r` of group `g`. -/
def rowLine (g r p : Nat) : Nat := 3 * (7 * r + p) + (g + 3 - (7 * r + p) % 3) % 3
/-- The line that member `i` of row `r` of group `g` holds; `none` for the parity member. -/
def memberLine (g r i : Nat) : Option Nat :=
  if i = parityMember r then none
  else some (rowLine g r (if i < parityMember r then i else i - 1))
/-- R226: stripe rows of a group. -/
def groupRows : Nat := 188743680
/-- R228. -/
def hearthSet (l : Nat) : Nat := (l % 2 ^ 17) ^^^ (l / 2 ^ 17 % 2 ^ 17)
def homeSet (r : Nat) : Nat := (r ^^^ (r / 2 ^ 16)) % 2 ^ 16

/-- R229: the first address of the copy areas, and entry `i` of the copy area of group `g`, in ascending order. -/
def copyBase : Nat := 0x3B0E800000
def copyLine (g i : Nat) : Nat :=
  let q := copyBase / 192 + i
  3 * q + (g + 3 - q % 3) % 3

/-! ### Keys of the table of state -/

/-- Parity line of a row, and member `i` of a row. -/
def parityKey (g r : Nat) : Nat := g * 2 ^ 28 + r
def memberKey (g r i : Nat) : Nat := parityKey g r * 8 + i
/-- R230: the code line that covers the lines of row `r` of a channel is that of 15 rows in a run. Log 114 (DESIGN CHOICE). -/
def codeBlock (r : Nat) : Nat := r / 15
def codeKey (h b : Nat) : Nat := h * 2 ^ 28 + b

namespace State

/-! ### Keys and contents -/

/-- The run of lines that line `l` was last written with. -/
def keyRange (s : State) (l : Nat) : Option KeyRange :=
  s.mm.keys.find? (fun k => decide (k.first ≤ l) && decide (l ≤ k.last) && k.group.all (· == lineGroup l))

/-- Key number a line was last written under. -/
def lineKey (s : State) (l : Nat) : Nat := ((s.keyRange l).map (·.key)).getD 0

/-- The line stands under what its key number held before another key was loaded there. Log 115 (DEDUCED). -/
def oldKey (s : State) (l : Nat) : Option Bytes := (s.keyRange l).bind (·.old)

/-- R238: the 64-byte key of a key number: as loaded, or as it will be loaded again. Log 115 (DEDUCED). -/
def keyOf (s : State) (k : Nat) : Bytes :=
  match s.mm.loaded.get [] k with
  | [] => if k < 16 then Config.baseKey k else (s.cru.parts.get {} (k - 16)).xts
  | m => m

/-- The key that the stored bytes of line `l` stand under. -/
def storedKey (s : State) (l : Nat) : Bytes := (s.oldKey l).getD (s.keyOf (s.lineKey l))

/-- Line `l` stands under the key that number `k` holds. -/
def underKey (s : State) (k l : Nat) : Bool := s.lineKey l == k && (s.oldKey l).isNone

/-- Another key, or none, is about to take the place of key number `k`: what stands under it stays as it is.
Log 115 (DEDUCED). -/
def retireKey (s : State) (k : Nat) : State :=
  let m := s.keyOf k
  { s with mm := { s.mm with
    loaded := s.mm.loaded.del k
    keys := s.mm.keys.map (fun x => if x.key = k ∧ x.old = none then { x with old := some m } else x) } }

/-- R238: Crucible loads a key into every XTS unit. Log 120 (DESIGN CHOICE). -/
def loadKey (s : State) (k : Nat) (m : Bytes) : State :=
  { s with mm := { s.mm with loaded := s.mm.loaded.set [] k m } }

def setLineKey (s : State) (l k : Nat) : State :=
  if s.underKey k l then s else { s with mm := { s.mm with keys := { first := l, last := l, key := k } :: s.mm.keys } }

/-- Give a whole range of lines a key, dropping what stood inside it. Log 25 (DEDUCED). -/
def setRangeKey (s : State) (first last k : Nat) : State :=
  let ks := s.mm.keys.filter (fun x => !(decide (first ≤ x.first) && decide (x.last ≤ last)))
  { s with mm := { s.mm with keys := { first := first, last := last, key := k } :: ks } }

/-- R238: encrypt or decrypt a line under a key: AES-XTS-256, the line number as its tweak. -/
def lineXts (enc : Bool) (key : Bytes) (l : Nat) (d : Bytes) : Bytes :=
  Crypto.xtsUnit enc (slice key 0 32) (slice key 32 32) l d

/-- R238: the ciphertext of line `l`. Log 25 (DEDUCED). -/
def cipherLine (s : State) (l : Nat) : Bytes := lineXts true (s.storedKey l) l (s.mem.read (64 * l) 64)

/-- R238: line `l` as it decrypts under key number `k`. -/
def lineUnder (s : State) (k l : Nat) : Bytes :=
  if s.underKey k l then s.mem.read (64 * l) 64 else lineXts false (s.keyOf k) l (s.cipherLine l)

/-- The byte at `a`, decrypted under key number `k` (R238). Log 25 (DEDUCED). -/
def keyedByte (s : State) (k a : Nat) : Byte :=
  if s.underKey k (lineOf a) then s.mem.byte a else (s.lineUnder k (lineOf a)).getD (a % 64) 0

def keyedRead (s : State) (k a n : Nat) : Bytes := (List.range n).map (fun i => s.keyedByte k (a + i))

/-- Make line `l` hold, under key `k`, what it reads as under that key: the read half of a partial write. -/
def rekeyLine (s : State) (k l : Nat) : State :=
  if s.underKey k l then s
  else ({ s with mem := s.mem.write (64 * l) (s.lineUnder k l) }).setLineKey l k

/-- Lines that `n` bytes from `a` touch. -/
def linesOf (a n : Nat) : List Nat :=
  if n = 0 then [] else (List.range (lineOf (a + n - 1) - lineOf a + 1)).map (lineOf a + ·)

/-- The write covers the whole of line `l`. -/
def coversLine (a n l : Nat) : Bool := decide (a ≤ 64 * l) && decide (64 * l + 64 ≤ a + n)

/-! ### Stored lines -/

/-- R231: the line's data is in poison form, wherever the line is. -/
def marked (s : State) (l : Nat) : Bool := s.mm.poison.get false l
def setPoison (s : State) (l : Nat) (b : Bool) : State :=
  { s with mm := { s.mm with poison := s.mm.poison.set false l b } }
/-- R231: the row's parity line is in poison form. -/
def parityOut (s : State) (g r : Nat) : Bool := s.mm.parityPoison.get false (parityKey g r)
def setParityOut (s : State) (g r : Nat) (b : Bool) : State :=
  { s with mm := { s.mm with parityPoison := s.mm.parityPoison.set false (parityKey g r) b } }

/-- R231: the 64 bytes of a line in poison form. -/
def poisonForm : Bytes := List.replicate 64 0xA5

def xorBytes (x y : Bytes) : Bytes := (x.zip y).map (fun e => e.1 ^^^ e.2)
def xorAll (ls : List Bytes) : Bytes := ls.foldl xorBytes (zeros 64)

/-- R231, R238: the 64 bytes stored for a data line. -/
def storedLine (s : State) (l : Nat) : Bytes := if s.marked l then poisonForm else s.cipherLine l

/-- R226, R231: the 64 bytes stored for a parity line: the exclusive-or of the row's data lines, or poison form. -/
def parityLine (s : State) (g r : Nat) : Bytes :=
  if s.parityOut g r then poisonForm else xorAll ((List.range 7).map (fun p => s.storedLine (rowLine g r p)))

/-- The stored bytes of member `i` of a row, and whether they are in poison form. -/
def storedMember (s : State) (g r i : Nat) : Bytes × Bool :=
  match memberLine g r i with
  | some l => (s.storedLine l, s.marked l)
  | none => (s.parityLine g r, s.parityOut g r)

/-- R232 step 2: member `i` of a row, from the other seven. -/
def recompute (s : State) (g r i : Nat) : Bytes :=
  xorAll (((List.range 8).filter (· != i)).map (fun j => (s.storedMember g r j).1))

/-- R230: the code of a stored line: CRC-32C, inverted for a line in poison form. -/
def lineCode (d : Bytes) (poison : Bool) : Nat := 
  Crypto.crc32c d ^^^ (if poison then 0xFFFFFFFF else 0)

/-- R230: code line `b` of channel `h`: the codes of the 15 lines it covers, and its self-check.
Log 114 (DESIGN CHOICE). -/
def codeLine (s : State) (h b : Nat) : Bytes :=
  let codes := ((List.range 15).map (fun k =>
    let m := s.storedMember (chanGroup h) (15 * b + k) (chanMember h)
    leBytes 4 (lineCode m.1 m.2))).flatten
  codes ++ leBytes 4 (Crypto.crc32c codes)

/-! ### Damage, and the code-line caches -/

/-- The stored bytes of member `i` of a row have changed, so that they no longer pass their code. -/
def setBad (s : State) (g r i : Nat) (b : Bool) : State :=
  { s with mm := { s.mm with bad := s.mm.bad.set false (memberKey g r i) b } }
/-- Code line `b` of channel `h` has changed, so that neither its self-check nor the codes it holds pass. -/
def setBadCode (s : State) (h b : Nat) (v : Bool) : State :=
  { s with mm := { s.mm with badCode := s.mm.badCode.set false (codeKey h b) v } }

def codeFails (s : State) (h r : Nat) : Bool := s.mm.badCode.get false (codeKey h (codeBlock r))

/-- R232: member `i` of a row fails its check: its bytes, or the code it is held against, have changed. -/
def memberFails (s : State) (g r i : Nat) : Bool := s.mm.bad.get false (memberKey g r i) || s.codeFails (memberHome g i) r

/-- R230: home agent `h` uses code line `b`, which is the most recently used of the 1,024 it keeps.
Log 114 (DESIGN CHOICE). -/
def useCode (s : State) (h b : Nat) : State :=
  let kept := ((b :: (s.mm.codeCache.get [] h).filter (· != b)).take 1024)
  { s with mm := { s.mm with codeCache := s.mm.codeCache.set [] h kept } }

/-- What is found of a row before it is read: the members whose bytes have changed, and whether the code line that
covers member `i` has. Log 116 (DEDUCED). -/
def damage (s : State) (g r : Nat) (bad : List Nat) (i : Nat) (code : Bool) : State :=
  let s := bad.foldl (fun s j => s.setBad g r j true) s
  if code then s.setBadCode (memberHome g i) (codeBlock r) true else s

/-- Write bytes under key `k`. A write of all 64 bytes of a line clears its poison; a partial one leaves it
(R214). -/
def keyedWrite (s : State) (k a : Nat) (d : Bytes) : State :=
  let s := (linesOf a d.length).foldl (fun s l =>
    if coversLine a d.length l then (s.setLineKey l k).setPoison l false else s.rekeyLine k l) s
  { s with mem := s.mem.write a d }

/-- The bytes of a range become zeros under key `k`, and no line of it is poisoned or damaged; a row whose missing member
is written so has its parity again (R235). -/
def zeroRange (s : State) (first last k : Nat) : State :=
  let inside := fun (l : Nat) => decide (first ≤ l) && decide (l ≤ last)
  let ofMember := fun (e : Nat) => ((memberLine (e / 8 / 2 ^ 28) (e / 8 % 2 ^ 28) (e % 8)).map inside).getD false
  ({ s with
    mem := s.mem.filter (fun c => !inside (lineOf c.1))
    mm := { s.mm with
      poison := s.mm.poison.filter (fun e => !inside e.1)
      bad := s.mm.bad.filter (fun e => !ofMember e.1)
      parityPoison := s.mm.parityPoison.filter (fun e =>
        !ofMember (e.1 * 8 + s.fld (MEM_GROUP (e.1 / 2 ^ 28)) MEM_GROUP.MEMBER)) } }).setRangeKey first last k

/-- R398, R399: the devices of group `g` lose their power: its lines hold free bytes from then on, which training makes
sound rows of. Log 127 (DEDUCED). -/
def loseGroup (s : State) (g : Nat) : State :=
  let (k, s) := s.randomBytes 64
  { s with mm := { s.mm with
    keys := { first := 0, last := memLimit / 64 - 1, key := 0, old := some k, group := some g } :: s.mm.keys
    poison := s.mm.poison.filter (fun e => lineGroup e.1 != g)
    parityPoison := s.mm.parityPoison.filter (fun e => e.1 / 2 ^ 28 != g)
    bad := s.mm.bad.filter (fun e => e.1 / 8 / 2 ^ 28 != g)
    badCode := s.mm.badCode.filter (fun e => chanGroup (e.1 / 2 ^ 28) != g) } }

end State
end Sys2Proof.Machine
end

