-- ==== Sys2Proof/Machine/Stripes.lean ====
section
/-!
DEFINITION. Stripe rows: failed checks and recomputation (R232, R233), failed channels and rebuild (R234 to R236,
R248), calibration windows, the catch-up map and the copies (R244 to R246), and what a write does to a row (R235).
-/
namespace Sys2Proof.Machine
open Sys2Proof

/-- R225: lines of a channel, code lines included. -/
def chanLines : Nat := 201326592
/-- R225, R251: index within its channel of the stored line of a row. -/
def rowIndex (r : Nat) : Nat := (Config.chanIndex r).toNat
/-- R245: the marked rows that catch-up has still to come to. -/
def CalWindow.left (w : CalWindow) : List Nat := (w.marked.drop w.written).filter (fun r => !w.skipped.contains r)

namespace State

/-! ### Events -/

/-- R251, R410: `MEM_ERR_LOG` takes the first event; DETAIL holds what it would read had VALID been clear. -/
def memErr (s : State) (kind chan index : Nat) : Nat × State :=
  let v := 2 ^ 63 + kind * 2 ^ 60 + chan * 2 ^ 55 + index
  (v, if s.bit MEM_ERR_LOG MEM_ERR_LOG.VALID then s else s.setReg MEM_ERR_LOG (BitVec.ofNat 64 v))

/-- A MEM event: its bit, its log entry and its event word (R410). -/
def memEvent (s : State) (cls bit kind chan index : Nat) : State :=
  let (v, s) := s.memErr kind chan index
  (s.setBit MEM_EVENT ⟨bit, 1⟩).logEvent cls blockMem bit chan v

/-- Group state: 0 healthy, 1 degraded, 2 rebuilding. -/
def groupState (s : State) (g : Nat) : Nat := s.fld (MEM_GROUP g) MEM_GROUP.STATE

def setGroup (s : State) (g st : Nat) : State :=
  let s := s.setFld (MEM_GROUP g) MEM_GROUP.STATE st
  let s := s.setBit MEM_STATUS ⟨g, 1⟩ (st == 1)
  s.setBit MEM_STATUS ⟨3 + g, 1⟩ (st == 2)

/-! ### The calibration window -/

def setWindow (s : State) (w : CalWindow) : State := { s with mm := { s.mm with window := some w } }

/-- R251: `MEM_TEMPER_STATUS.MARKED`: the entries in the catch-up map. -/
def showMarked (s : State) : State :=
  s.setFld MEM_TEMPER_STATUS MEM_TEMPER_STATUS.MARKED ((s.mm.window.map (·.left.length)).getD 0)

/-- End the window without catch-up, or leave catch-up: no channel is calibrating. -/
def calIdle (s : State) : State :=
  let s := { s with mm := { s.mm with window := none } }
  let s := s.setFld MEM_STATUS MEM_STATUS.CAL_STATE 0
  let s := s.setFld MEM_STATUS MEM_STATUS.CAL_CHAN 0x1F
  s.setFld MEM_TEMPER_STATUS MEM_TEMPER_STATUS.MARKED 0

/-- R244 step 5: the channel reopens and catch-up starts. -/
def calReopen (s : State) (w : CalWindow) (fromCopies : Bool) : State :=
  let s := s.bumpSat MEM_TEMPER_STATUS MEM_TEMPER_STATUS.WINDOWS
  let s := s.setFld (MEM_CHAN w.chan) MEM_CHAN.LAST_CAL s.stamp
  let s := s.setFld (MEM_CHAN w.chan) MEM_CHAN.STATE 3
  let s := s.setFld MEM_STATUS MEM_STATUS.CAL_STATE 2
  s.setWindow { w with catchUp := true, fromCopies := fromCopies }

/-- R248: Temper ends an open window early by restoring the previous settings. -/
def calAbort (s : State) (fromCopies : Bool) : State :=
  match s.mm.window with
  | some w =>
    if w.catchUp then s
    else (s.calReopen w fromCopies).setBit MEM_EVENT MEM_EVENT.CAL_ABORTED |>.logEvent 0 blockMem 7 w.chan
  | none => s

/-! ### Failed channels -/

/-- What the devices of a channel held is gone: neither its lines nor its code lines are read again. -/
def dropChannel (s : State) (h : Nat) : State :=
  { s with mm := { s.mm with
    bad := s.mm.bad.filter (fun e => memberHome (e.1 / 8 / 2 ^ 28) (e.1 % 8) != h)
    badCode := s.mm.badCode.filter (fun e => e.1 / 2 ^ 28 != h)
    codeCache := s.mm.codeCache.del h } }

/-- R234, R248: channel `h` is declared failed. Log 24 (DEDUCED). -/
def failChannel (s : State) (h : Nat) : State :=
  let g := chanGroup h
  if s.fld (MEM_CHAN h) MEM_CHAN.STATE = 4 then s
  else
    let s := match s.mm.window with
      | some w => if w.chan = h then s.calIdle else if chanGroup w.chan = g then s.calAbort true else s
      | none => s
    let s := (s.dropChannel h).setFld (MEM_CHAN h) MEM_CHAN.STATE 4
    let s := if s.groupState g = 0 then
        ((s.setGroup g 1).setFld (MEM_GROUP g) MEM_GROUP.MEMBER (chanMember h)).setFld (MEM_GROUP g) MEM_GROUP.PROGRESS 0
      else if s.groupState g = 2 then
        -- rebuild ends; the lines below PROGRESS stay written (R248)
        (s.setGroup g 1).setFld (MEM_CHAN (memberHome g (s.fld (MEM_GROUP g) MEM_GROUP.MEMBER))) MEM_CHAN.STATE 4
      else s
    s.memEvent 1 4 5 h 0

/-- R248: a rebuild could not give member `i` of a row, which nothing has reached since. -/
def neverBuilt (s : State) (g r i : Nat) : Bool :=
  !s.mm.built.get false (memberKey g r i) &&
    s.mm.unbuilt.any (fun u => u.group == g && u.member == i && decide (u.lo ≤ rowIndex r) && decide (rowIndex r < u.hi))

/-- Members of a row whose channels have failed: the failed or rebuilding channel's, for rows not yet rewritten
(R235, R236), a second failed channel's, and what a rebuild could not give (R248). -/
def lostMembers (s : State) (g r : Nat) : List Nat :=
  let first := s.fld (MEM_GROUP g) MEM_GROUP.MEMBER
  let lost := if s.groupState g != 0 && decide (s.fld (MEM_GROUP g) MEM_GROUP.PROGRESS ≤ rowIndex r) then [first] else []
  let second := (List.range 8).filter (fun i => i != first && s.fld (MEM_CHAN (memberHome g i)) MEM_CHAN.STATE == 4)
  lost ++ second ++ (List.range 8).filter (fun i => !lost.contains i && !second.contains i && s.neverBuilt g r i)

/-- Members of a row that cannot be read: those whose channels have failed, and the one in a calibration window, or
marked and not yet written after it, unless its copy serves (R245, R248). -/
def missingMembers (s : State) (g r : Nat) : List Nat :=
  let cal := match s.mm.window with
    | some w => if chanGroup w.chan = g && (!w.catchUp || (!w.fromCopies && w.left.contains r)) then [chanMember w.chan] else []
    | none => []
  s.lostMembers g r ++ cal

/-- R214, R231: a read of line `l` delivers it poisoned: its data is, or its row cannot give it. -/
def poisoned (s : State) (l : Nat) : Bool :=
  s.marked l || (s.parityOut (lineGroup l) (lineRow l) &&
    (s.missingMembers (lineGroup l) (lineRow l)).contains (lineMember l))

/-! ### Failed checks -/

/-- R232 step 3: a line was recomputed and rewritten; R234 counts the recomputations of its channel. -/
def lineRecomputed (s : State) (h row : Nat) : State :=
  let s := s.bump MEM_RECOMPUTED MEM_RECOMPUTED.COUNT
  let s := s.bumpSat (MEM_CHAN h) MEM_CHAN.RECOMPUTED
  let recent := s.tb :: (s.mm.recomputed.get [] h).filter (fun t => decide (s.tb < t + sec 1))
  let s := { s with mm := { s.mm with recomputed := s.mm.recomputed.set [] h recent } }
  let s := s.memEvent 0 0 1 h (rowIndex row)
  if 1024 < recent.length then s.failChannel h else s

/-- Member `i` of a row stands written from now on. -/
def setBuilt (s : State) (g r i : Nat) : State :=
  if s.mm.unbuilt = [] then s else { s with mm := { s.mm with built := s.mm.built.set false (memberKey g r i) true } }

/-- R231, R232 step 5: member `i` of a row is written in poison form. -/
def poisonMember (s : State) (g r i : Nat) : State :=
  let s := match memberLine g r i with
    | some l => s.setPoison l true
    | none => s.setParityOut g r true
  let s := ((s.setBad g r i false).setBuilt g r i).bump MEM_POISONED MEM_POISONED.COUNT
  s.memEvent 1 1 2 (memberHome g i) (rowIndex r)

/-- R232 step 5: a data line is written in poison form. -/
def linePoisoned (s : State) (l : Nat) : State := s.poisonMember (lineGroup l) (lineRow l) (lineMember l)

/-- R232 step 5, R235: the members `bad` of a row have failed beside those that cannot be read. Each data line among
them is written in poison form, and the parity from the row's data lines; where a missing member's data is lost with
them the parity is written in poison form. Log 116 (DEDUCED). -/
def rowLost (s : State) (g r : Nat) (bad : List Nat) : State :=
  let p := parityMember r
  let out := s.lostMembers g r
  let s := (bad.filter (· != p)).foldl (fun s i => s.poisonMember g r i) s
  let s := s.setBad g r p false
  if out.any (· != p) && !out.contains p && !s.parityOut g r then s.poisonMember g r p else s

/-- A line whose stored bytes nothing vouches for any more: they are free values (R233, degraded group). -/
def freeLine (s : State) (l : Nat) : State :=
  let (d, s) := s.randomBytes 64
  { s with mem := s.mem.write (64 * l) d }

/-- R233: code line `b` of channel `h` is rebuilt: each line it covers is recomputed from its row, and rewritten where
it disagrees. In a degraded group its codes are those of the lines as they stand: a line that had changed is taken for
sound, and so is what the missing member is recomputed as. Log 116 (DEDUCED). -/
def rebuildCode (s : State) (h b : Nat) : State :=
  let g := chanGroup h
  let i := chanMember h
  let healthy := s.groupState g == 0
  let rows := ((List.range 15).map (15 * b + ·)).filter (fun r => s.mm.bad.get false (memberKey g r i))
  let s := s.setBadCode h b false
  let s := rows.foldl (fun s r =>
    if healthy then
      if (List.range 8).any (fun j => j != i && s.memberFails g r j) then s else s.setBad g r i false
    else
      ((i :: s.missingMembers g r).filterMap (memberLine g r)).foldl (fun s l => s.freeLine l) (s.setBad g r i false)) s
  s.memEvent (if healthy then 0 else 1) 2 3 h (Config.codeIndex b).toNat

/-- R232: member `i` of a row has failed its check, and the other seven members can be read. Log 116 (DEDUCED). -/
def mendMember (s : State) (g r i : Nat) : State :=
  let h := memberHome g i
  let others := (List.range 8).filter (fun j => j != i && s.memberFails g r j)
  let again := s.codeFails h r
  let s := if again then s.rebuildCode h (codeBlock r) else s
  if others = [] then (s.setBad g r i false).lineRecomputed h r else s.rowLost g r (i :: others)

/-- R235: member `i` of a row has failed its check beside a member that cannot be read. Log 116 (DEDUCED). -/
def secondFault (s : State) (g r i : Nat) : State :=
  let h := memberHome g i
  if s.codeFails h r then s.rebuildCode h (codeBlock r)
  else s.rowLost g r ((List.range 8).filter (fun j => !(s.missingMembers g r).contains j && s.memberFails g r j))

/-- R232 to R235, R248: member `i` of a row is read, or recomputed where its channel cannot be read, in a group without a
calibration window. Log 116 (DEDUCED). -/
def checkPlain (s : State) (g r i : Nat) : State :=
  let out := s.missingMembers g r
  let failing := (List.range 8).filter (fun j => !out.contains j && s.memberFails g r j)
  if out.contains i then
    match failing, out with
    | [], [_] => s
    | [], _ => if out.contains (parityMember r) then
        (if (memberLine g r i).any (!s.marked ·) then s.poisonMember g r i else s) else s.rowLost g r []
    | _ :: _, _ => s.rowLost g r failing
  else if !failing.contains i then s
  else if out = [] then s.mendMember g r i
  else s.secondFault g r i

/-- R248: whether the copy of a marked row's member, which the host group holds, can be read; it is checked as any line.
An unmarked row needs none. -/
def copyGood (s : State) (r : Nat) : Bool × State :=
  match s.mm.window.bind (fun w => (w.marked.findIdx? (· == r)).map (copyLine w.host)) with
  | some c =>
    let s := s.checkPlain (lineGroup c) (lineRow c) (lineMember c)
    (!s.poisoned c, s)
  | none => (true, s)

/-- R232 to R235, R248: member `i` of a row is read, or recomputed where its channel cannot be read. Afterwards it is
sound, or in poison form. A failing member ends a calibration window, and the calibrating channel's member of a marked row
is then taken from its copy; so it is where another channel has failed in the window. Log 116 (DEDUCED). -/
def checkMember (s : State) (g r i : Nat) : State :=
  match s.mm.window with
  | some w =>
    if chanGroup w.chan != g then s.checkPlain g r i
    else
      let m := chanMember w.chan
      let out := s.missingMembers g r
      let failing := (List.range 8).filter (fun j => !out.contains j && s.memberFails g r j)
      if w.fromCopies && w.left.contains r && (i == m || out.contains i || failing.contains i) then
        let (ok, s) := s.copyGood r
        if ok then s.checkPlain g r i else s.rowLost g r (m :: failing)
      else if s.groupState g == 0 && out == [m] && !failing.isEmpty && (i == m || failing.contains i) then
        let (ok, s) := (s.calAbort false).copyGood r
        if ok then s.mendMember g r (if i = m then failing.headD 0 else i) else s.rowLost g r (m :: failing)
      else s.checkPlain g r i
  | none => s.checkPlain g r i

/-- R245, R248: catch-up writes the member of its channel in the marked row at entry `k`, from its row or its copy. -/
def catchUpRow (s : State) (w : CalWindow) (k : Nat) : State :=
  let g := chanGroup w.chan
  let m := chanMember w.chan
  match w.marked[k]? with
  | some r =>
    if w.skipped.contains r then s
    else (s.checkMember g r m).setBad g r m false
  | none => s

/-- R245: catch-up comes to the next `n` entries of the map. Log 117 (DESIGN CHOICE). -/
def catchUpTo (s : State) (n : Nat) : State :=
  match s.mm.window with
  | some w =>
    if w.catchUp then
      let n := min n (w.marked.length - w.written)
      let s := ((List.range n).map (w.written + ·)).foldl (fun s k => s.catchUpRow w k) s
      match s.mm.window with
      | some w => (s.setWindow { w with written := w.written + n }).showMarked
      | none => s
    else s
  | none => s

/-! ### Rebuild -/

/-- R236: the rebuild writes line of row `r` of its channel: in poison form where the parity does not cover it, which
the parity then does. -/
def rebuildRow (s : State) (g r : Nat) : State :=
  let m := s.fld (MEM_GROUP g) MEM_GROUP.MEMBER
  let s := s.checkMember g r m
  let others := (s.missingMembers g r).filter (fun i => i != m && i != parityMember r)
  if s.parityOut g r && others.isEmpty then
    let s := s.setParityOut g r false
    if m = parityMember r then s else s.poisonMember g r m
  else s

/-- R236: the rebuild of group `g` goes on to channel index `n`: it writes the lines and code lines of the channel. What it
cannot recompute for a second failed channel is poisoned when it is hit (R248). Log 24 (DEDUCED). Log 117 (DESIGN CHOICE). -/
def rebuildTo (s : State) (g n : Nat) : State :=
  let old := s.fld (MEM_GROUP g) MEM_GROUP.PROGRESS
  let keys := s.mm.parityPoison.map (fun e => e.1) ++ s.mm.bad.map (fun e => e.1 / 8)
  let rows := ((keys.filter (fun k => k / 2 ^ 28 == g)).map (fun k => k % 2 ^ 28)).eraseDups.filter (fun r => decide (old ≤ rowIndex r) && decide (rowIndex r < n))
  let s := rows.foldl (fun s r => s.rebuildRow g r) s
  let m := s.fld (MEM_GROUP g) MEM_GROUP.MEMBER
  let second := (List.range 8).any (fun i => i != m && s.fld (MEM_CHAN (memberHome g i)) MEM_CHAN.STATE == 4)
  let here := fun (e : Nat) => e % 8 == m && e / 8 / 2 ^ 28 == g && decide (old ≤ rowIndex (e / 8 % 2 ^ 28)) && decide (rowIndex (e / 8 % 2 ^ 28) < n)
  let s := { s with mm := { s.mm with
    bad := s.mm.bad.filter (fun e => !here e.1)
    badCode := s.mm.badCode.filter (fun e => e.1 / 2 ^ 28 != memberHome g m)
    unbuilt := if second ∧ old < n then ⟨g, m, old, n⟩ :: s.mm.unbuilt else s.mm.unbuilt } }
  s.setFld (MEM_GROUP g) MEM_GROUP.PROGRESS n

/-- R236, R245, R248: what rebuild and catch-up have written of a group by the time it is accessed: a free number of
lines. Log 117 (DESIGN CHOICE). -/
def background (s : State) (g : Nat) : State :=
  let s := if s.groupState g = 2 then
      let (w, s) := s.freeWord
      let old := s.fld (MEM_GROUP g) MEM_GROUP.PROGRESS
      s.rebuildTo g (old + w.toNat % (chanLines - old))
    else s
  match s.mm.window with
  | some w =>
    if chanGroup w.chan = g && w.catchUp && decide (w.written < w.marked.length) then
      let (x, s) := s.freeWord
      s.catchUpTo (x.toNat % (w.marked.length - w.written))
    else s
  | none => s

/-! ### Reads and writes of a line at its home agent -/

/-- R230, R232, R235: line `l` is read by its home agent; `bad` are the members of its row found changed, and `code` says
whether the code line that covers `l` is. Afterwards the line is sound, or poisoned. Log 116 (DEDUCED). -/
def readLine (s : State) (l : Nat) (bad : List Nat) (code : Bool) : State :=
  let g := lineGroup l
  let r := lineRow l
  let s := (s.damage g r bad (lineMember l) code).background g
  let s := (s.checkMember g r (lineMember l)).useCode (lineHome l) (codeBlock r)
  if s.poisoned l then s.setPoison l true else s

/-- R235: the members that a write of line `l` reads: the line and its parity, or the other data lines of a row whose
member of `l` cannot be read; with the parity out, none. -/
def writeReads (s : State) (l : Nat) : List Nat :=
  let g := lineGroup l
  let r := lineRow l
  let p := parityMember r
  let out := s.missingMembers g r
  if out.contains (lineMember l) then (List.range 8).filter (fun i => i != lineMember l && i != p && !out.contains i)
  else if out.contains p then []
  else [lineMember l, p]

/-- A write of line `l` is about to reach its home agent: what it reads of the row is checked first (R235). -/
def beforeWrite (s : State) (l : Nat) : State :=
  let g := lineGroup l
  let r := lineRow l
  let s := s.background g
  (s.writeReads l).foldl (fun s i => s.checkMember g r i) s

/-- R235: a write of a line whose channel is out writes the row's parity anew, from the new line, unless another missing
member's data is unknown; what a partial write leaves of a line that the parity did not cover reads as poisoned (R214,
R231). Log 23 (DEDUCED). -/
def noteParity (s : State) (l : Nat) (full : Bool) : State :=
  let g := lineGroup l
  let r := lineRow l
  let p := parityMember r
  let out := s.missingMembers g r
  if out.contains (lineMember l) then
    let never := s.neverBuilt g r (lineMember l)
    let s := if (s.parityOut g r || never) && !full then s.setPoison l true else s
    let s := if never then s.setBuilt g r (lineMember l) else s
    if out.contains p then (if never then s else s.setPoison l true)
    else (s.setBad g r p false).setParityOut g r (out.any (fun i => i != lineMember l && i != p))
  else
    let s := s.setBad g r (lineMember l) false
    if out.contains p then s else s.setBad g r p false

/-- R245 step 3: the copy of what the calibrating channel's member of row `r` should now hold goes to entry `i` of the
copy area, as a write of its host group (R246). Log 23 (DEDUCED). -/
def putCopy (s : State) (w : CalWindow) (r i : Nat) : State :=
  let m := s.storedMember (chanGroup w.chan) r (chanMember w.chan)
  let c := copyLine w.host i
  let s := ((s.beforeWrite c).keyedWrite 1 (64 * c) m.1).setPoison c m.2
  (s.noteParity c true).useCode (lineHome c) (codeBlock (lineRow c))

/-- R245: a write has reached row `r` of the group whose channel is in its window: the row is marked and copied; a full
map ends the window. Log 23 (DEDUCED). -/
def noteRow (s : State) (l : Nat) : State :=
  let g := lineGroup l
  let r := lineRow l
  match s.mm.window with
  | none => s
  | some w =>
    if chanGroup w.chan ≠ g then s
    else if w.catchUp then
      -- the new write was granted first: it writes the member, and its entry is skipped (R248)
      if lineMember l = chanMember w.chan && w.left.contains r then
        (s.setWindow { w with skipped := r :: w.skipped }).showMarked
      else s
    else match w.marked.findIdx? (· == r) with
      | some i => s.putCopy w r i
      | none =>
        if 131072 ≤ w.marked.length then (s.calReopen w false).setBit MEM_EVENT MEM_EVENT.MAP_FULL
        else
          let s := (s.setWindow { w with marked := w.marked ++ [r] }).showMarked
          s.putCopy w r w.marked.length

/-- A write of line `l`, whole or in part, has reached its home agent. Log 23 (DEDUCED). -/
def noteWrite (s : State) (l : Nat) (full : Bool := true) : State :=
  ((s.noteParity l full).useCode (lineHome l) (codeBlock (lineRow l))).noteRow l

end State
end Sys2Proof.Machine
end

