-- ==== Sys2Proof/Machine/Mem.lean ====
section
/-!
DEFINITION. Module memory as agents reach it: the region check (R239, R240) and the named reads and writes that every
agent uses.
-/
namespace Sys2Proof.Machine
open Sys2Proof
namespace State

/-! ### The region check -/

/-- R239: the lowest-numbered valid region that holds an address. -/
def regionOf (s : State) (a : Nat) : Option Nat :=
  (List.range 64).find? (fun n =>
    s.bit (HA_REGION_BASE n) HA_REGION_BASE.VALID &&
      decide (s.fld (HA_REGION_BASE n) HA_REGION_BASE.BASE ≤ a / 2 ^ 21) &&
      decide (a / 2 ^ 21 ≤ s.fld (HA_REGION_CTL n) HA_REGION_CTL.LIMIT))

/-- The record's partition has been sealed and not released (R345). Log 55 (DEDUCED). -/
def partSealed (s : State) (p : Nat) : Bool :=
  let st := s.fld (CRU_PART p) CRU_PART.STATE
  st == 3 || st == 4 || st == 5 || st == 6

/-- Key numbers: 0 open, 1 module, 2 Crucible, 16 + P partition P. -/
def partKey (p : Nat) : Nat := 16 + p

/-- R240: the key an access needs, or the reason code of `MEM_REFUSE_LOG` it is refused with.
Log 54 (DEDUCED). -/
def worldCheck (s : State) (w : World) (a : Nat) (write : Bool) : Nat × Option Nat :=
  match s.regionOf a with
  | none =>
    match w with
    | .opened => (0, some 0)
    | .onBehalf p => if s.partSealed p then (3, none) else (0, some 0)
    | .sealed _ => (3, none)
    | .module => (0, some 0)
    | .crucible => (0, some 0)
  | some n =>
    let ctl := s.reg (HA_REGION_CTL n)
    let owner := getFld ctl HA_REGION_CTL.OWNER
    match getFld ctl HA_REGION_CTL.KIND, w with
    | 0, .sealed p => if p = owner then (0, some (partKey p)) else (1, none)
    | 0, .onBehalf p =>
      if p = owner && getFld ctl (if write then HA_REGION_CTL.OPEN_W else HA_REGION_CTL.OPEN_R) == 1 then
        (0, some (partKey p)) else (1, none)
    | 0, .opened =>
      if getFld ctl (if write then HA_REGION_CTL.OPEN_W else HA_REGION_CTL.OPEN_R) = 1 then
        (0, some (partKey owner)) else (1, none)
    | 0, _ => (1, none)
    | 1, .module => (0, some 1)
    | 2, .crucible => (0, some 2)
    | _, _ => (1, none)

/-- R240: the check of one line, the key's presence included. -/
def regionCheck (s : State) (w : World) (a : Nat) (write : Bool) : Nat × Option Nat :=
  match s.worldCheck w a write with
  | (_, some k) => if s.mm.loaded.get [] k = [] then (2, none) else (0, some k)
  | r => r

/-- R240: a refused access: `MEM_EVENT.REFUSED` and the log. `req` 1 processor, 2 I/O agent, 3 peer window.
Log 73 (DEDUCED). -/
def logRefusal (s : State) (req reason a : Nat) : State :=
  let s := s.setBit MEM_EVENT MEM_EVENT.REFUSED
  if s.bit MEM_REFUSE_LOG MEM_REFUSE_LOG.VALID then s
  else s.setReg MEM_REFUSE_LOG
    (BitVec.ofNat 64 (2 ^ 63 + req * 2 ^ 60 + reason * 2 ^ 57 + a / 64 % 2 ^ 42 * 64))

/-- R214: a read of these bytes meets a poisoned line. -/
def anyPoison (s : State) (a n : Nat) : Bool := (linesOf a n).any s.poisoned

/-- The check of every line of a range that misses its caches: the first refusal, or the key of the first line. A hit
meets no home agent (R240). -/
def rangeCheck (s : State) (w : World) (a n : Nat) (write : Bool) (hit : Nat → Bool := fun _ => false) : Nat × Option Nat :=
  match ((linesOf a n).filter (!hit ·)).map (fun l => (l, s.regionCheck w (64 * l) write)) |>.find? (fun x => x.2.2.isNone) with
  | some x => x.2
  | none =>
    let r := s.regionCheck w a write
    if hit (lineOf a) then (r.1, some (r.2.getD (s.lineKey (lineOf a)))) else r

/-! ### The reads and writes of agents -/

/-- The key the region check gives a line for an access of world `w`. -/
def accessKey (s : State) (w : World) (write : Bool) (l : Nat) : Nat := ((s.regionCheck w (64 * l) write).2).getD 0

/-- Bytes of a range that passed the check, each line under its own key; a line that hits is there already decrypted, and
one in poison form never is (R231, R238). -/
def checkedRead (s : State) (w : World) (a n : Nat) (hit : Nat → Bool := fun _ => false) : Bytes :=
  ((linesOf a n).map (fun l =>
    let lo := max a (64 * l)
    let len := min (a + n) (64 * l + 64) - lo
    if s.poisoned l then List.replicate len 0xA5 else if hit l then s.mem.read lo len else s.keyedRead (s.accessKey w false l) lo len)).flatten

/-- Write a range that passed the check, each line under its own key. -/
def checkedWrite (s : State) (w : World) (a : Nat) (d : Bytes) : State :=
  (linesOf a d.length).foldl (fun s l =>
    let lo := max a (64 * l)
    s.keyedWrite (s.accessKey w true l) lo (slice d (lo - a) (min (a + d.length) (64 * l + 64) - lo))) s

/-- R397: with a fabric or a rail group off, every memory access is refused (R399: until its switch-on ends). -/
def memOn (s : State) : Bool :=
  [48, 49, 50, 51, 61, 62, 63].all (fun d => [1, 2, 3].contains (s.fld (PWR_DOM d) PWR_DOM.STATE))

/-- The directory entry of a line at its home agent. -/
def lineDir (s : State) (l : Nat) : HomeEntry := s.coh.homes.get {} (lineHome l * 2 ^ 42 + l)

/-- R210, R211: the request of an engine or window for a line that caches hold, or that a transaction is open on, is on
its way to the home agent. Log 118 (DEDUCED). -/
def ioAsk (s : State) (w : World) (write : Bool) (l : Nat) : State :=
  { s with coh := { s.coh with
    io := s.coh.io ++ [{ line := l, write := write, world := w, moved := true, retryAt := some s.tb }] } }

/-- R232: the home agent reads the line from memory where no cache owns it. -/
def fillFetch (s : State) (l : Nat) : State :=
  match (s.lineDir l).dir with
  | .I | .S _ => s.readLine l [] false
  | _ => s

/-- R211, IoRd: the line comes from memory, or from its owner. Log 118 (DEDUCED). -/
def ioFetch (s : State) (w : World) (l : Nat) : State :=
  let e := s.lineDir l
  match e.busy.isSome, e.dir with
  | false, .I | false, .S _ => s.readLine l [] false
  | _, _ => s.ioAsk w false l

/-- R211, IoWr: a line that caches hold is taken from them. Log 118 (DEDUCED). -/
def ioTake (s : State) (w : World) (l : Nat) : State :=
  let e := s.lineDir l
  if e.busy.isNone && e.dir == .I then s else s.ioAsk w true l

/-- A read of memory by an agent of a world: refused (`none`), or its bytes and whether poison came with them. An I/O
agent's reaches the home agents, line by line; a processor's those of the lines that miss its caches. Log 17 (DEDUCED). -/
def memRead (s : State) (w : World) (req a n : Nat) (hit : Nat → Bool := fun _ => false) : Option (Bytes × Bool) × State :=
  if memLimit < a + n || !s.memOn then (none, s)
  else match s.rangeCheck w a n false hit with
    | (_, some _) =>
      let s := if req = 1 then ((linesOf a n).filter (!hit ·)).foldl fillFetch s else (linesOf a n).foldl (fun s l => s.ioFetch w l) s
      (some (s.checkedRead w a n hit, s.anyPoison a n), s)
    | (r, none) => (none, s.logRefusal req r a)

/-- The key under which an agent of a world may write a range, or a refusal, which is logged. Log 17 (DEDUCED). -/
def writeKey (s : State) (w : World) (req a n : Nat) (hit : Nat → Bool := fun _ => false) : Option Nat × State :=
  if memLimit < a + n || !s.memOn then (none, s)
  else match s.rangeCheck w a n true hit with
    | (_, some k) => (some k, s)
    | (r, none) => (none, s.logRefusal req r a)

/-- A write of memory by an agent of a world; `false` where it is refused. Log 17 (DEDUCED). -/
def memWrite (s : State) (w : World) (req a : Nat) (d : Bytes) : Bool × State :=
  match s.writeKey w req a d.length with
  | (none, s) => (false, s)
  | (some _, s) =>
    if req = 1 then (true, s.checkedWrite w a d)
    else
      let ls := linesOf a d.length
      let s := (ls.foldl beforeWrite s).checkedWrite w a d
      (true, ls.foldl (fun s l => (s.noteWrite l (coversLine a d.length l)).ioTake w l) s)

/-- The world an I/O agent carries for a partition's queue: the partition's own, or the open world. -/
def partWorld (s : State) (p : Nat) : World := if s.partSealed p then .sealed p else .opened

end State
end Sys2Proof.Machine
end

