-- ==== Sys2Proof/Machine/Meter.lean ====
section
/-!
DEFINITION. The live meter counters (R364): what each event adds to the counters of a partition and of a
function, and the question a unit puts to Crucible (R348).
-/
namespace Sys2Proof.Machine
open Sys2Proof

namespace State

/-- Entity number of the meters: partition p, and 1,024 + function. -/
def meter (s : State) (k : Nat) : Meter := s.cru.meters.get {} k
def setMeter (s : State) (k : Nat) (m : Meter) : State :=
  { s with cru := { s.cru with meters := s.cru.meters.set {} k m } }

def meterPart (p : Nat) : Nat := p
def meterFn (f : Nat) : Nat := 1024 + f

/-- MiB that a partition's regions hold (R364): 2 MiB granules, bounds inclusive. -/
def regionMiB (s : State) (n : Nat) : Nat :=
  2 * (s.fld (HA_REGION_CTL n) HA_REGION_CTL.LIMIT + 1 - s.fld (HA_REGION_BASE n) HA_REGION_BASE.BASE)

def regionFree (s : State) (n : Nat) : Bool := !s.bit (HA_REGION_BASE n) HA_REGION_BASE.VALID
def freeRegions (s : State) : List Nat := (List.range 64).filter s.regionFree
/-- R346: REGIONS_FREE follows the regions in use. -/
def showRegions (s : State) : State := s.setFld CRU_STATUS CRU_STATUS.REGIONS_FREE s.freeRegions.length

def partRec (s : State) (p : Nat) : PartRec := s.cru.parts.get {} p
def setPartRec (s : State) (p : Nat) (x : PartRec) : State :=
  { s with cru := { s.cru with parts := s.cru.parts.set {} p x } }

def partMiB (s : State) (p : Nat) : Nat := ((s.partRec p).regions.map s.regionMiB).sum

/-- R364: 2 MiB for each dedup table bound to a series of the function's rings, its admin ring among them. -/
def fnMiB (s : State) (f : Nat) : Nat :=
  2 * ((List.range 17).filter (fun r => (s.ring (ringOf f r)).exists_)).length

/-- Bring the memory counters up to date: each whole millisecond since the last time adds the sizes held. -/
def meterMem (s : State) : State :=
  let ticks := s.tb / 1000000 - s.cru.memAt / 1000000
  let s := { s with cru := { s.cru with memAt := s.tb } }
  if ticks = 0 then s
  else
    let s := (s.cru.parts.map (·.1)).foldl (fun s p =>
      let m := s.meter p
      s.setMeter p { m with memory := m.memory + ticks * s.partMiB p }) s
    ((s.disp.rings.map (fun e => e.1 / 17)).eraseDups).foldl (fun s f =>
      let m := s.meter (meterFn f)
      s.setMeter (meterFn f) { m with memory := m.memory + ticks * s.fnMiB f }) s

/-- The executor is one core of a split slot (R113). -/
def isSplit (s : State) (pair : Nat) : Bool := s.fld (PAIR_STATUS (2 * pair)) PAIR_STATUS.MODE == 1

/-- Pair time starts to count for what executor `e` runs. -/
def meterRunStart (s : State) (e : Nat) : State :=
  { s with cru := { s.cru with runFrom := s.cru.runFrom.set none e (some s.tb) } }

/-- Pair time stops counting: a unit's run is charged to its partition and its function, a service run to
its partition, and a split-mode executor at half (R364). Log 53 (DEDUCED). -/
def meterRunStop (s : State) (e : Nat) : State :=
  match s.cru.runFrom.get none e with
  | none => s
  | some t0 =>
    let s := { s with cru := { s.cru with runFrom := s.cru.runFrom.del e } }
    let ns := (s.tb - t0) / (if s.isSplit (e / 2) then 2 else 1)
    let add := fun (s : State) (k : Nat) => let m := s.meter k; s.setMeter k { m with pairNs := m.pairNs + ns }
    match s.run e with
    | .idle => s
    | .service p => add s p
    | .unit k => match s.unit? k with
      | some u => if u.foreign then add s u.part else add (add s u.part) (meterFn u.fn)
      | none => s

/-- One posted Completion Entry, or one Restart Record, of a unit (R364). A unit of an adopted series has no
function on this module. -/
def meterUnit (s : State) (u : WorkUnit) (restart : Bool) : State :=
  if u.ring = 16 then s
  else
    let add := fun (s : State) (k : Nat) =>
      let m := s.meter k
      if restart then s.setMeter k { m with restarts := m.restarts + 1 } else s.setMeter k { m with units := m.units + 1 }
    if u.foreign then add s u.part else add (add s u.part) (meterFn u.fn)

/-- R111, R253, R273, R292, R302: ask Crucible to confirm a binding (1), the owner of a compression (2),
cipher (3) or channel (4) queue, or of a device (5). Log 83 (DEDUCED). -/
def askCrucible (s : State) (kind index part : Nat) : State :=
  ({ s with cru := { s.cru with confirms := s.cru.confirms ++ [(kind, index, part)] } }).emit (.confirm kind index part)

/-- R352: Crucible shows the Crucible of partner `k` its Hallmark. Log 145 (DESIGN CHOICE). -/
def sayHello (s : State) (k : Nat) (answer : Bool) : State :=
  s.sendSeam (.complex k (.hello (Config.hallmarkProof k) answer))

/-- R352: ask the origin, partner `k`, for the standby registration of partition `p`: within the secured session, which
is set up first. Log 145 (DESIGN CHOICE). -/
def askOrigin (s : State) (k p : Nat) : State :=
  if (s.partner k).session then s.sendSeam (.complex k (.standby (Fin.ofNat 1024 p))) else s.sayHello k false

/-- Standby registrations that wait for the word of their origin. -/
def waitingStandbys (s : State) : Tbl PartRec :=
  s.cru.parts.filter (fun e => s.fld (CRU_PART e.1) CRU_PART.STATE == 0 && e.2.mailbox.isSome)

/-- R352, R359: the secured sessions with other Crucibles end. Log 145 (DESIGN CHOICE). -/
def endSessions (s : State) : State :=
  { s with jnl := { s.jnl with
      partners := s.jnl.partners.map (fun (e : Nat × Partner) => (e.1, { e.2 with session := false })) } }

end State
end Sys2Proof.Machine
end

