-- ==== Sys2Proof/Machine/RegAccess.lean ====
section
/-!
DEFINITION. What a write does to the fields of a register by their access codes (R4, R5), apart from any
effect of its own.
-/
namespace Sys2Proof.Machine
open Sys2Proof

/-- R4, R5: field `f` after a write of `v` to the bits of `mask`: an encoding outside the field's range is
ignored; W1C clears and W1S sets the bits written as 1; a write-only field stores nothing. -/
def fieldStore (old v mask : W64) (f : RegField) : W64 :=
  let hit := v &&& mask
  match f.acc with
  | .rw =>
    let n := getFld ((old &&& ~~~mask) ||| hit) f.fld
    if f.min ≤ n ∧ n ≤ f.max then putFld old f.fld n else old
  | .w1c => old &&& ~~~(hit &&& putFld 0 f.fld (2 ^ f.fld.len - 1))
  | .w1s => old ||| (hit &&& putFld 0 f.fld (2 ^ f.fld.len - 1))
  | .wo => old

/-- The mask of `n` bytes at byte `o` of a register. -/
def byteMask (o n : Nat) : W64 := BitVec.ofNat 64 ((2 ^ (8 * n) - 1) * 2 ^ (8 * o))

namespace State

/-- Store a write into the fields of the register at key `k`. -/
def regStore (s : State) (k : Nat) (fields : List RegField) (v mask : W64) : State :=
  s.setReg k (fields.foldl (fun o f => fieldStore o v mask f) (s.reg k))

/-- Store a write of a whole register by its access codes. -/
def regWrite (s : State) (k : Nat) (v : W64) : State :=
  match rowOf k with
  | some (r, k) => s.regStore k r.fields v (byteMask 0 r.bytes)
  | none => s

end State
end Sys2Proof.Machine
end

