-- ==== Sys2Proof/Machine/Queues.lean ====
section
/-!
DEFINITION. What the compression, cipher and channel queues share: their owners (R253, R273, R292), the world
their engines access memory in (R240), and the reads and writes of such an engine.
-/
namespace Sys2Proof.Machine
open Sys2Proof

/-- The registers and fields of one queue, and its place among Crucible's confirmations. -/
structure QueueRegs where
  kind : Nat
  index : Nat
  cfg : Nat
  status : Nat
  stateF : Fld
  errF : Fld
  deriving DecidableEq, Repr

def cipRegs (n : Nat) : QueueRegs := ⟨3, n, CIP_Q_CFG n, CIP_Q_STATUS n, CIP_Q_STATUS.STATE, CIP_Q_STATUS.ERR⟩
def swgRegs (n : Nat) : QueueRegs := ⟨2, n, SWG_Q_CFG n, SWG_Q_STATUS n, SWG_Q_STATUS.STATE, SWG_Q_STATUS.ERR⟩
def chnRegs (n : Nat) : QueueRegs := ⟨4, n, CHN_Q_CFG n, CHN_Q_STATUS n, CHN_Q_STATUS.STATE, CHN_Q_STATUS.ERR⟩

/-- R253, R271: the owner fields stand at the same places in all three kinds of `Qn_CFG`. -/
def QCFG.KIND : Fld := ⟨30, 2⟩
def QCFG.PARTITION : Fld := ⟨16, 10⟩
def QCFG.FUNC : Fld := ⟨0, 11⟩

namespace State

/-- Forget the question about the owner of one queue or device. -/
def dropConfirm (s : State) (kind index : Nat) : State :=
  { s with cru := { s.cru with confirms := s.cru.confirms.filter (fun c => !(c.1 == kind && c.2.1 == index)) } }

/-- R253, R273, R292: a write of `v` to `Qn_CFG`, ignored with ERR 1 while `busy`. -/
def queueOwner (s : State) (q : QueueRegs) (busy : Bool) (v : W64) : State :=
  if busy then s.setFld q.status q.errF 1
  else
    let s := ((s.regWrite q.cfg v).setFld q.status q.errF 0).dropConfirm q.kind q.index
    let p := s.fld q.cfg QCFG.PARTITION
    match s.fld q.cfg QCFG.KIND with
    | 0 => s.setFld q.status q.stateF 0
    | 1 =>
      if s.partSealed p then (s.setFld q.status q.stateF 1).askCrucible q.kind q.index p
      else s.setFld q.status q.stateF 2
    | _ => s.setFld q.status q.stateF 2

/-- R362, R398: domain `d` takes no submission to the queue: it is off or on its way, or it drains and a sealed
partition owns the queue. -/
def domShut (s : State) (d : Nat) (q : QueueRegs) : Bool :=
  match s.fld (PWR_DOM d) PWR_DOM.STATE with
  | 1 => false
  | 2 => s.fld q.cfg QCFG.KIND == 1 && s.partSealed (s.fld q.cfg QCFG.PARTITION)
  | _ => true

/-- The queue is owned, and by this partition (`some p`), or by the hypervisor or a function (`none`). -/
def ownedBy (s : State) (q : QueueRegs) (who : Option Nat) : Bool :=
  s.fld q.status q.stateF == 2 &&
    match who with
    | some p => s.fld q.cfg QCFG.KIND == 1 && s.fld q.cfg QCFG.PARTITION == p
    | none => s.fld q.cfg QCFG.KIND == 2

/-- R253, R273: the world of the queue's engine: the partition, or the open world. -/
def queueWorld (s : State) (q : QueueRegs) : World :=
  if s.fld q.cfg QCFG.KIND = 1 then s.partWorld (s.fld q.cfg QCFG.PARTITION) else .opened

/-- The meter entities a queue counts for (R364): the partition that owns it, or the function it names. -/
def queueMeter (s : State) (q : QueueRegs) : Nat :=
  if s.fld q.cfg QCFG.KIND = 1 then meterPart (s.fld q.cfg QCFG.PARTITION) else meterFn (s.fld q.cfg QCFG.FUNC)

/-- A read of an I/O agent; nothing to read is no access. -/
def ioRead (s : State) (w : World) (a n : Nat) : Option (Bytes × Bool) × State :=
  if n = 0 then (some ([], false), s) else s.memRead w 2 a n

/-- A write of an I/O agent. -/
def ioWrite (s : State) (w : World) (a : Nat) (d : Bytes) : Bool × State :=
  if d = [] then (true, s) else s.memWrite w 2 a d

/-- The part of `n` bytes from `a` that lies in each line: address and length. -/
def linePieces (a n : Nat) : List (Nat × Nat) :=
  (linesOf a n).map (fun l => (max a (64 * l), min (a + n) (64 * l + 64) - max a (64 * l)))

/-- An engine reads forward, line by line, until an access is refused (status 5) or a line is poisoned (6): the bytes
before it, and that status, 0 for neither (R257, R283). -/
def ioReadOn (w : World) : List (Nat × Nat) → State → Bytes × Nat × State
  | [], s => ([], 0, s)
  | (a, n) :: ps, s =>
    match s.ioRead w a n with
    | (none, s) => ([], 5, s)
    | (some (_, true), s) => ([], 6, s)
    | (some (b, false), s) =>
      let (bs, st, s) := ioReadOn w ps s
      (b ++ bs, st, s)

/-- An engine writes `d` from `a` on, line by line, until an access is refused: how many bytes it wrote (R257, R283). -/
def ioWriteOn (w : World) (d : Bytes) : List (Nat × Nat) → Nat → State → Nat × State
  | [], done, s => (done, s)
  | (a, n) :: ps, done, s =>
    match s.ioWrite w a (slice d done n) with
    | (false, s) => (done, s)
    | (true, s) => ioWriteOn w d ps (done + n) s

end State
end Sys2Proof.Machine
end

