-- ==== Sys2Proof/Machine/Cipher.lean ====
section
/-!
DEFINITION. The cipher engines and key slots (R272 to R285): queues, starting and ending a request, the ops,
an engine's retirement, and the commits of `CKL_COMMIT`.
-/
namespace Sys2Proof.Machine
open Sys2Proof

/-! ### Requests -/

/-- R281: fields of a request block. -/
structure CipFields where
  op : Nat
  slot : Nat
  length : Nat
  src : Nat
  dst : Nat
  aux : Nat
  auxLen : Nat
  iv : Bytes
  compl : Nat
  tag : Nat
  deriving DecidableEq, Repr

def cipFields (b : Bytes) : CipFields :=
  ⟨leAt b 0 1, leAt b 2 2, leAt b 4 4, leAt b 8 8, leAt b 16 8, leAt b 24 8, leAt b 32 4, slice b 36 12, leAt b 48 8,
    leAt b 56 8⟩

/-- R281: the block obeys its table. -/
def cipValid (b : Bytes) : Bool :=
  let f := cipFields b
  let gcm := f.op == 1 || f.op == 2
  let xts := f.op == 3 || f.op == 4
  decide (1 ≤ f.op) && decide (f.op ≤ 7) && leAt b 1 1 == 0 && decide (f.slot < 8192) && (f.op != 5 || f.slot == 0) &&
    decide (f.length ≤ 16777216) && f.compl % 32 == 0 && (gcm || f.iv == zeros 12) &&
    (if gcm then decide (f.auxLen ≤ 65536)
     else if xts then (f.auxLen == 512 || f.auxLen == 4096) && f.length != 0 && f.length % f.auxLen == 0
     else f.aux == 0 && f.auxLen == 0)

/-- R274: the kind a request of this op needs. -/
def cipKind (op : Nat) : Nat := if op ≤ 2 then 1 else if op ≤ 4 then 2 else 3

/-- What an op answers once its inputs are read: status, bytes for Destination, Source bytes consumed. -/
structure CipResult where
  status : Nat
  out : Bytes
  input : Nat
  deriving DecidableEq, Repr

/-- R282: the op on its inputs: Source bytes (for a GCM decrypt the tag included), associated data, and for
HMAC verify the 48 bytes at Destination. Log 82 (DEDUCED). -/
def cipCompute (f : CipFields) (key : Bytes) (keyLen : Nat) (src aad dst : Bytes) : CipResult :=
  match f.op with
  | 1 =>
    let (ct, tag) := Crypto.gcmEnc (key.take 32) f.iv aad src
    ⟨0, ct ++ tag, f.length⟩
  | 2 =>
    match Crypto.gcmDec (key.take 32) f.iv aad (src.take f.length) (src.drop f.length) with
    | some pt => ⟨0, pt, f.length + 16⟩
    | none => ⟨1, zeros f.length, f.length + 16⟩
  | 3 | 4 =>
    let units := Crypto.pieces f.auxLen src
    let out := (units.mapIdx (fun i u =>
      Crypto.xtsUnit (f.op == 3) (slice key 0 32) (slice key 32 32) (f.aux + i) u)).flatten
    ⟨0, out, f.length⟩
  | 5 => ⟨0, Crypto.sha384 src, f.length⟩
  | 6 => ⟨0, Crypto.hmac384 (key.take keyLen) src, f.length⟩
  | _ => ⟨if Crypto.hmac384 (key.take keyLen) src = dst then 0 else 1, [], f.length⟩

namespace State

def cipQueue (s : State) (n : Nat) : List CipReq := s.cip.queues.get [] n

def setCipQueue (s : State) (n : Nat) (l : List CipReq) : State :=
  ({ s with cip := { s.cip with queues := s.cip.queues.set [] n l } }).setFld (CIP_Q_STATUS n) CIP_Q_STATUS.DEPTH l.length

/-! ### Engines -/

def cipInService (s : State) (e : Nat) : Bool := s.fld (CIP_ENG e) CIP_ENG.STATE == 1

/-- R272: the engine that serves queue `n`: its own, or the lowest-numbered in service of the same half. -/
def cipServer (s : State) (n : Nat) : Nat :=
  if s.cipInService (n / 16) then n / 16
  else (((List.range 4).map (fun i => n / 64 * 4 + i)).find? s.cipInService).getD (n / 16)

/-- ENGINE of every queue follows the engines in service. -/
def cipServe (s : State) : State :=
  (List.range 128).foldl (fun s n => s.setFld (CIP_Q_STATUS n) CIP_Q_STATUS.ENGINE (s.cipServer n)) s

def cipEngineOf (s : State) (n : Nat) : Nat := s.fld (CIP_Q_STATUS n) CIP_Q_STATUS.ENGINE

/-- Heads of queues that engine `e` has started. -/
def cipRunning (s : State) (e : Nat) : List CipReq :=
  (s.cip.queues.filter (fun x => s.cipEngineOf x.1 == e)).filterMap (fun x => x.2.head?.filter (·.started))

/-- R272, R287: engine `e` can start one more: one request at a time, and hash requests up to 8.
Log 82 (DEDUCED). -/
def cipRoom (s : State) (e : Nat) (hash : Bool) : Bool :=
  let l := s.cipRunning e
  if hash then l.all (fun r => decide (5 ≤ leAt r.block 0 1)) && decide (l.length < 8) else l == []

/-- R272: an engine takes requests from its non-empty queues in turn: of those whose head it has room for, queue `n` comes
next after the one it took from last. Log 82 (DEDUCED). -/
def cipTurn (s : State) (n : Nat) : Bool :=
  let e := s.cipEngineOf n
  let after : Nat → Nat := fun q => match s.cip.turn.get none e with
    | some l => (q + 127 - l) % 128
    | none => q
  s.cip.queues.all (fun x => s.cipEngineOf x.1 != e || decide (after n ≤ after x.1) || x.2.head?.all (fun r =>
    r.started || !s.cipRoom e (decide (5 ≤ leAt r.block 0 1))))

def tookTurn (s : State) (n : Nat) : State :=
  { s with cip := { s.cip with turn := s.cip.turn.set none (s.cipEngineOf n) (some n) } }

/-! ### Ending a request -/

/-- R283: the completion record. Log 82 (DEDUCED). -/
def cipRecord (s : State) (f : CipFields) (status out input gen : Nat) : Bytes :=
  leBytes 2 status ++ [0x80, 0] ++ leBytes 4 out ++ leBytes 4 input ++ zeros 2 ++ leBytes 2 gen ++ leBytes 8 f.tag ++
    zeros 4 ++ leBytes 4 s.stamp

/-- R283: the head of queue `n` ends: its record is written after its output, and the queue moves on. Log 82 (DEDUCED). -/
def cipEnd (s : State) (n : Nat) (r : CipReq) (status out input : Nat) : State :=
  let f := cipFields r.block
  let gen := match r.copy with
    | some c => if f.op = 5 then 0 else c.gen
    | none => 0
  let s := (s.ioWrite (s.queueWorld (cipRegs n)) f.compl (s.cipRecord f status out input gen)).2
  let k := s.queueMeter (cipRegs n)
  let m := s.meter k
  let s := s.setMeter k { m with cipher := m.cipher + (if status ≤ 1 then f.length else 0), cipherReqs := m.cipherReqs + 1 }
  let s := if status = 4 then s else s.bumpSat (CIP_ENG (s.cipEngineOf n)) CIP_ENG.REQUESTS
  let s := if status = 0x0B then s.setBit CIP_EVENT CIP_EVENT.KEY_WITHDRAWN else s
  s.setCipQueue n (s.cipQueue n).tail

/-! ### Starting and running a request -/

/-- R275: the slot may serve the queue's owner for this op. -/
def cipSlotOk (s : State) (n slot op : Nat) : Bool :=
  let a := CIP_SLOT slot
  s.fld a CIP_SLOT.KIND == cipKind op && s.fld a CIP_SLOT.OWNER_KIND == s.fld (CIP_Q_CFG n) CIP_Q_CFG.KIND &&
    s.fld a CIP_SLOT.OWNER ==
      (if s.fld (CIP_Q_CFG n) CIP_Q_CFG.KIND = 1 then s.fld (CIP_Q_CFG n) CIP_Q_CFG.PARTITION
       else s.fld (CIP_Q_CFG n) CIP_Q_CFG.FUNC)

def setCipHead (s : State) (n : Nat) (r : CipReq) : State := s.setCipQueue n (r :: (s.cipQueue n).tail)

/-- R275, R279: an engine starts the head of queue `n`: it fetches the slot once, or the request ends. -/
def cipStart (s : State) (n : Nat) (r : CipReq) : State :=
  let f := cipFields r.block
  if r.started then s
  else if !s.cipInService (s.cipEngineOf n) then s.cipEnd n r 4 0 0
  else if !s.cipRoom (s.cipEngineOf n) (decide (5 ≤ f.op)) || !s.cipTurn n then s
  else
    let s := s.tookTurn n
    if !cipValid r.block then s.cipEnd n r 8 0 0
    else if f.op = 5 then s.setCipHead n { r with started := true }
    else if !s.cipSlotOk n f.slot f.op then s.cipEnd n r 0x0A 0 0
    else
      let c := KeyCopy.mk f.slot (s.fld (CIP_SLOT f.slot) CIP_SLOT.GEN) (s.cip.keys.get [] f.slot)
      s.setCipHead n { r with started := true, copy := some c }

/-- R282 to R284: a started request runs to its end, checked before anything is released. Log 138 (DEDUCED). -/
def cipFinish (s : State) (n : Nat) (r : CipReq) : State :=
  let f := cipFields r.block
  let w := s.queueWorld (cipRegs n)
  if r.withdrawn then s.cipEnd n r 0x0B 0 0
  else
    let srcLen := if f.op = 2 then f.length + 16 else f.length
    match s.ioRead w f.src srcLen with
    | (none, s) => s.cipEnd n r 5 0 0
    | (some (src, p1), s) =>
      match s.ioRead w f.aux (if f.op ≤ 2 then f.auxLen else 0) with
      | (none, s) => s.cipEnd n r 5 0 0
      | (some (aad, p2), s) =>
        match s.ioRead w f.dst (if f.op = 7 then 48 else 0) with
        | (none, s) => s.cipEnd n r 5 0 0
        | (some (dst, p3), s) =>
          if p1 || p2 || p3 then s.cipEnd n r 6 0 0
          else
            let key := (r.copy.map (·.key)).getD []
            let x := cipCompute f key key.length src aad dst
            let (k, s) := ioWriteOn w x.out (linePieces f.dst x.out.length) 0 s
            s.cipEnd n r (if k = x.out.length then x.status else 5) k x.input

/-- R284: a check mismatch on the head of queue `n`: its engine is retired, the engine's queues move, and what it
had started runs again from its start. -/
def cipMismatch (s : State) (n : Nat) : State :=
  let e := s.cipEngineOf n
  let moved := (s.cip.queues.map (·.1)).filter (fun q => s.cipEngineOf q == e)
  let s := s.bump CIP_MISMATCHES CIP_MISMATCHES.COUNT
  let s := (s.setFld (CIP_ENG e) CIP_ENG.STATE 2).setBit CIP_STATUS ⟨e, 1⟩ false
  let s := (s.setBit CIP_EVENT CIP_EVENT.ENGINE_RETIRED).setBit CIP_EVENT CIP_EVENT.VERIFY_MISMATCH
  let s := s.logEvent 1 blockCip 1 e
  let s := s.cipServe
  let s := moved.foldl (fun s q =>
    match s.cipQueue q with
    | r :: _ => if r.started && !r.withdrawn then s.setCipHead q { r with started := false, copy := none } else s
    | [] => s) s
  match s.cipQueue n with
  | r :: _ => if s.cipInService (s.cipEngineOf n) then s else s.cipEnd n r 4 0 0
  | [] => s

/-- A command about a request of op `op` at the head of queue `n`. A head with a reserved op is ended by any of
them (R281). Log 82 (DEDUCED). -/
def cipStep (s : State) (n op : Nat) (step : EngStep) : State :=
  match s.cipQueue n with
  | [] => s
  | r :: _ =>
    let have_ := leAt r.block 0 1
    if have_ ≠ op ∧ 1 ≤ have_ ∧ have_ ≤ 7 then s
    else match step with
      | .start => s.cipStart n r
      | .finish =>
        let s := s.cipStart n r
        match s.cipQueue n with
        | r' :: _ => if r'.started ∧ r'.block = r.block then s.cipFinish n r' else s
        | [] => s
      | .mismatch =>
        let s := s.cipStart n r
        match s.cipQueue n with
        | r' :: _ => if r'.started ∧ r'.block = r.block then s.cipMismatch n else s
        | [] => s

/-! ### Submission -/

/-- R152, R272, R273: a request block enters cipher queue `n`: 0 queued, 1 full, 2 not owned. -/
def cipEnqueue (s : State) (n : Nat) (who : Option Nat) (block : Bytes) : Nat × State :=
  if !s.ownedBy (cipRegs n) who then (2, s)
  else if s.domShut (56 + n / 64) (cipRegs n) || decide (32 ≤ (s.cipQueue n).length) then (1, s)
  else (0, s.setCipQueue n (s.cipQueue n ++ [CipReq.mk block false none false]))

/-! ### Key slots -/

/-- R277: distinct engines that hold a copy of a slot's key. -/
def cipInUse (s : State) (slot : Nat) : Nat :=
  ((s.cip.queues.filter (fun x => (x.2.head?.bind (·.copy)).any (fun c => c.slot == slot))).map
    (fun x => s.cipEngineOf x.1)).eraseDups.length

/-- R276: slots a function owns. -/
def slotsOwned (s : State) (f : Nat) : Nat :=
  (s.regs.filter (fun e => decide (CIP_SLOT 0 ≤ e.1) && decide (e.1 < CIP_SLOT 8192) &&
    getFld e.2 CIP_SLOT.OWNER_KIND == 2 && getFld e.2 CIP_SLOT.OWNER == f)).length

def keyQuota (s : State) (f : Nat) : Nat := if f = 0 then 8192 else (s.fn f).keyQuota

/-- R277: the error of a load of these attributes with this key into a slot, 0 for none. Log 138 (DEDUCED). -/
def loadErr (s : State) (slot kind okind owner keyLen : Nat) (key : Bytes) : Nat :=
  if kind = 0 ∨ 3 < kind ∨ (okind ≠ 1 ∧ okind ≠ 2) ∨ (okind = 1 ∧ 1024 ≤ owner) ∨ (okind = 2 ∧ 1025 ≤ owner) then 1
  else if kind = 2 ∧ slice key 0 32 = slice key 32 32 then 2
  else if (if kind = 3 then decide (keyLen < 1) || decide (64 < keyLen) else keyLen != 0) then 3
  else if okind = 2 ∧
      !(s.fld (CIP_SLOT slot) CIP_SLOT.OWNER_KIND == 2 && s.fld (CIP_SLOT slot) CIP_SLOT.OWNER == owner) ∧
      s.keyQuota owner ≤ s.slotsOwned owner then 4
  else 0

/-- R274: the bytes of a key that its kind uses; the others are zero. -/
def keyBytes (kind keyLen : Nat) (key : Bytes) : Bytes :=
  match kind with
  | 1 => padTo 64 (key.take 32)
  | 2 => padTo 64 key
  | _ => key.take keyLen

/-- R278: a load takes effect at all engines at once. -/
def slotLoad (s : State) (slot kind okind owner keyLen : Nat) (key : Bytes) : State :=
  let g := (s.fld (CIP_SLOT slot) CIP_SLOT.GEN + 1) % 65536
  let s := { s with cip := { s.cip with keys := s.cip.keys.set [] slot (keyBytes kind keyLen key) } }
  s.setReg (CIP_SLOT slot) (BitVec.ofNat 64
    (g * 2 ^ 48 + okind * 2 ^ 46 + owner * 2 ^ 32 + kind * 2 ^ 28 + keyLen * 2 ^ 20))

/-- R278, R279: a clear empties the slot and withdraws every copy of its key. -/
def slotEmpty (s : State) (slot : Nat) : State :=
  let g := (s.fld (CIP_SLOT slot) CIP_SLOT.GEN + 1) % 65536
  let drop := fun (r : CipReq) =>
    if r.copy.any (fun c => c.slot == slot) then
      { r with withdrawn := true, copy := r.copy.map (fun c => { c with key := [] }) }
    else r
  let s := { s with cip := { s.cip with
    keys := s.cip.keys.del slot
    queues := s.cip.queues.map (fun (e : Nat × List CipReq) => (e.1, e.2.map drop)) } }
  s.setReg (CIP_SLOT slot) (BitVec.ofNat 64 (g * 2 ^ 48))

/-- R279: a clear, and the requests that held a copy of the key end with status 0x0B. -/
def slotClear (s : State) (slot : Nat) : State :=
  let s := s.slotEmpty slot
  (s.cip.queues.map (·.1)).foldl (fun s n =>
    match s.cipQueue n with
    | r :: _ => if r.withdrawn then s.cipEnd n r 0x0B 0 0 else s
    | [] => s) s

/-- After a commit the staged key words are zeroed, and ERR says how it went (R277, R278). -/
def cklEnd (s : State) (err : Nat) : State :=
  ({ s with cip := { s.cip with stage := [] } }).setFld CKL_COMMIT CKL_COMMIT.ERR err

/-- `CKL_COMMIT.GO` with OP as stored (R277 to R279). -/
def cklCommit (s : State) (op : Nat) : State :=
  let v := s.reg CKL_SLOT
  let slot := getFld v CKL_SLOT.SLOT
  let key := ((List.range 8).map (fun k => leBytes 8 (s.cip.stage.get 0 k).toNat)).flatten
  let kind := getFld v CKL_SLOT.KIND
  let okind := getFld v CKL_SLOT.OWNER_KIND
  let owner := getFld v CKL_SLOT.OWNER
  let keyLen := getFld v CKL_SLOT.KEYLEN
  let s := s.setFld CKL_COMMIT CKL_COMMIT.OP op
  if s.fld CRU_STATUS CRU_STATUS.STATE = 2 then s.cklEnd 5
  else if op = 1 then
    match s.loadErr slot kind okind owner keyLen key with
    | 0 => (s.slotLoad slot kind okind owner keyLen key).cklEnd 0
    | e => s.cklEnd e
  else if op = 2 then (s.slotClear slot).cklEnd 0
  else s

end State

/-! ### The commands -/

/-- R273. Log 82 (DEDUCED). Log 83 (DEDUCED). -/
def execCipQCfgWrite (n : Fin 128) (v : BitVec 32) (s : State) : Host.Outcome State Fault Refusal :=
  onLive s fun s => s.queueOwner (cipRegs n.val) (s.cipQueue n.val != []) (BitVec.ofNat 64 v.toNat)

/-- R282: an engine starts the GCM encrypt at the head of a queue, ends it, or finds a check mismatch. -/
def execGcmEncrypt (n : Fin 128) (step : EngStep) (s : State) : Host.Outcome State Fault Refusal :=
  onLive s fun s => s.cipStep n.val 1 step

/-- R282. -/
def execGcmDecrypt (n : Fin 128) (step : EngStep) (s : State) : Host.Outcome State Fault Refusal :=
  onLive s fun s => s.cipStep n.val 2 step

/-- R282. -/
def execXtsEncrypt (n : Fin 128) (step : EngStep) (s : State) : Host.Outcome State Fault Refusal :=
  onLive s fun s => s.cipStep n.val 3 step

/-- R282. -/
def execXtsDecrypt (n : Fin 128) (step : EngStep) (s : State) : Host.Outcome State Fault Refusal :=
  onLive s fun s => s.cipStep n.val 4 step

/-- R282. -/
def execSha384 (n : Fin 128) (step : EngStep) (s : State) : Host.Outcome State Fault Refusal :=
  onLive s fun s => s.cipStep n.val 5 step

/-- R282. -/
def execHmacGenerate (n : Fin 128) (step : EngStep) (s : State) : Host.Outcome State Fault Refusal :=
  onLive s fun s => s.cipStep n.val 6 step

/-- R282. -/
def execHmacVerify (n : Fin 128) (step : EngStep) (s : State) : Host.Outcome State Fault Refusal :=
  onLive s fun s => s.cipStep n.val 7 step

/-- R278: Crucible writes `CKL_COMMIT` with GO and OP 1. -/
def execCklLoad (s : State) : Host.Outcome State Fault Refusal := onLive s fun s => s.cklCommit 1

/-- R278, R279: Crucible writes `CKL_COMMIT` with GO and OP 2. -/
def execCklClear (s : State) : Host.Outcome State Fault Refusal := onLive s fun s => s.cklCommit 2

end Sys2Proof.Machine
end

