-- ==== Sys2Proof/Machine/Journal.lean ====
section
/-!
DEFINITION. The journal: block formats (R35 to R41), the log and its outstanding writes (R30 to R34), live
records, wear (R45 to R47) and mirror traffic (R48).
-/
namespace Sys2Proof.Machine
open Sys2Proof

/-! ### Block formats -/

/-- R36: the flags byte of a record: mirrored, admin ring, foreign, origin module. -/
def recFlags (mirrored admin foreign : Bool) (origin : Nat) : Nat :=
  mirrored.toNat + 2 * admin.toNat + 4 * foreign.toNat + 8 * (origin % 8)

def unitFlags (s : State) (u : WorkUnit) : Nat :=
  recFlags (!u.foreign && (s.ring (ringOf u.fn u.ring)).mirror.isSome) (u.ring == 16) u.foreign u.origin

/-- Bytes 0 to 7 that every record of a ring begins with. -/
def recHead (type flags fn ring b5 part : Nat) : Bytes :=
  leBytes 1 type ++ leBytes 1 flags ++ leBytes 2 (fn % 2048) ++ leBytes 1 (if ring = 16 then 0 else ring)
    ++ leBytes 1 b5 ++ leBytes 2 (part % 1024)

/-- R36: an Acceptance Record, bytes 0 to 55. -/
def acceptBody (flags fn ring budget part asn tag : Nat) (args : Bytes) : Bytes :=
  recHead 1 flags fn ring (budget % 8) part ++ leBytes 8 asn ++ leBytes 8 tag ++ padTo 32 args

/-- R37: a Completion Record slot, bytes 0 to 27. -/
def complSlot (flags fn ring restarts status asn result finish : Nat) : Bytes :=
  leBytes 1 2 ++ leBytes 1 flags ++ leBytes 2 (fn % 2048) ++ leBytes 1 (if ring = 16 then 0 else ring)
    ++ leBytes 1 restarts ++ leBytes 2 status ++ leBytes 8 asn ++ leBytes 8 result ++ leBytes 4 finish

/-- R38: one block of a Commit Record: its first word is the result, or the first of four exchanges. -/
def commitBody (type flags fn ring count part asn w0 : Nat) (ids devs : List Nat) : Bytes :=
  recHead type flags fn ring count part ++ leBytes 8 asn ++ leBytes 8 w0
    ++ padTo 24 (ids.map (leBytes 8)).flatten ++ padTo 8 (devs.map (leBytes 2)).flatten

/-- Continuation blocks, four exchanges each (R38). -/
def commitRest (flags fn ring part asn : Nat) : Nat → Nat → List (Nat × Nat) → List Bytes
  | 0, _, _ => []
  | fuel + 1, k, xs =>
    match xs with
    | [] => []
    | x :: _ =>
      commitBody 4 flags fn ring k part asn x.1 ((xs.drop 1).take 3 |>.map (·.1)) (xs.take 4 |>.map (·.2))
        :: commitRest flags fn ring part asn fuel (k + 1) (xs.drop 4)

/-- R38: the blocks of a Commit Record over (exchange ID, device), in index order. -/
def commitBlocks (flags fn ring part asn result : Nat) (xs : List (Nat × Nat)) : List Bytes :=
  commitBody 3 flags fn ring xs.length part asn result (xs.take 3 |>.map (·.1)) (xs.take 3 |>.map (·.2))
    :: commitRest flags fn ring part asn 16 1 (xs.drop 3)

/-- R40: a Restart Record, bytes 0 to 55. -/
def restartBody (flags fn ring number part asn cause : Nat) : Bytes :=
  recHead 5 flags fn ring number part ++ leBytes 8 asn ++ leBytes 1 cause ++ zeros 39

/-- R35: close a 56-byte body with its epoch (or generation) and its CRC. -/
def closeBlock (body : Bytes) (epoch : Nat) : Bytes :=
  let b := padTo 56 body ++ leBytes 4 epoch
  b ++ leBytes 4 (Crypto.crc32c b)

/-- R37: a Completion pair of one or two slots. -/
def closePair (s0 s1 : Bytes) (epoch : Nat) : Bytes :=
  let b := padTo 28 s0 ++ leBytes 4 epoch ++ padTo 28 s1
  b ++ leBytes 4 (Crypto.crc32c b)

/-- R35: the block passes its check: its type is not reserved and its CRC matches. -/
def blockOk (b : Bytes) : Bool :=
  b.length == 64 && [0, 1, 2, 3, 4, 5, 0x10, 0x11].contains (leAt b 0 1) &&
    leAt b 60 4 == Crypto.crc32c (b.take 60)

/-- R35: the epoch a block holds. -/
def blockEpoch (b : Bytes) : Nat := if leAt b 0 1 = 2 then leAt b 28 4 else leAt b 56 4

namespace State

/-- R34: the oldest live record. -/
def oldestLive (s : State) : Option Nat :=
  s.jnl.live.foldl (fun m r => match m with
    | none => some r.seq
    | some q => some (if seqLinear r.seq < seqLinear q then r.seq else q)) none

/-- R53: `JNL_HEAD` and `JNL_TAIL`. With no live record the tail is the head. Log 96 (DESIGN CHOICE). -/
def headRegs (s : State) : State :=
  let s := s.setFld JNL_HEAD JNL_HEAD.SEQ s.jnl.head
  s.setFld JNL_TAIL JNL_TAIL.SEQ (s.oldestLive.getD s.jnl.head)

/-- Issue one closed block at the head, to both dies at the same instant (R30, R32). A damaged position
leaves the record of damaged positions when the head writes it again (R43). -/
def issueBlock (s : State) (b : Bytes) (what : WriteFor) (mirror : Option Nat) : State :=
  let q := s.jnl.head
  let s := { s with jnl := { s.jnl with
    head := nextSeq q
    damaged := s.jnl.damaged.filter (· != seqIndex q)
    out := s.jnl.out ++ [BlockWrite.mk q b what s.jnl.failed0 s.jnl.failed1 mirror] } }
  s.emit (.journalWrite q b)

/-- Key under which a partner's record is kept live: partner and record number. -/
def foreignKey (p n : Nat) : Nat := 2 ^ 100 * (p + 1) + n

/-- Units a record keeps live until they are posted (R34). -/
def recUnits : WriteFor → List Nat
  | .acceptance rk asn => [unitKey rk asn]
  | .commit k => [k]
  | .restart k => [k]
  | .completion ks => ks
  | .carry => []
  | .foreign p n => [foreignKey p n]

/-- R15, R48: the partner that a record of a ring mirrored to `m` goes to: none while its index clashes. -/
def mirrorTo (s : State) (m : Option Nat) : Option Nat := m.filter (fun k => !(s.partner k).clash)

/-- Send the blocks of a mirrored ring's record to the partner (R48). Log 46 (DEDUCED). -/
def sendMirror (s : State) (k : Nat) (blocks : List Bytes) (what : WriteFor) (posted : Option Nat) : State :=
  let p := s.partner k
  let s := s.setPartner k { p with mirrorSeq := p.mirrorSeq + 1 }
  let s := { s with jnl := { s.jnl with unacked := s.jnl.unacked ++ [MirrorOut.mk k p.mirrorSeq what blocks posted] } }
  s.sendSeam (.mirrorRecord k p.mirrorSeq blocks posted)

/-- R51: the mirror records that a partner has not acknowledged go out to it again. Log 50 (DEDUCED). -/
def resendMirror (s : State) (k : Nat) : State :=
  (s.jnl.unacked.filter (fun x => x.partner == k)).foldl
    (fun s x => s.sendSeam (.mirrorRecord k x.number x.blocks x.posted)) s

/-- What waits for a mirror acknowledgement of partner `k`, and satisfies `p`, waits for it no longer.
Log 98 (DEDUCED). -/
def unmirror (s : State) (k : Nat) (p : WriteFor → Bool) : State :=
  { s with jnl := { s.jnl with
    unacked := s.jnl.unacked.filter (fun x => !(x.partner == k && p x.what))
    out := s.jnl.out.map (fun (y : BlockWrite) => if y.mirror = some k ∧ p y.what = true then { y with mirror := none } else y) } }

/-- The blocks of a record are the slots of a Completion pair. -/
def isPair (blocks : List Bytes) : Bool := (blocks.headD []).length == 28

/-- Blocks a record takes in the log: the slots of a Completion pair share one. -/
def blockCount (blocks : List Bytes) : Nat := if isPair blocks then 1 else blocks.length

/-- R31, R38: the blocks of a record closed for the positions from `q` on, each with the epoch of its own position. -/
def closeFrom : Nat → List Bytes → List Bytes
  | _, [] => []
  | q, b :: t => closeBlock b (seqEpoch q) :: closeFrom (nextSeq q) t

/-- The blocks of a record as they stand from position `q` on; two slots make one Completion pair (R37). -/
def closedBlocks (q : Nat) (blocks : List Bytes) : List Bytes :=
  if isPair blocks then [closePair (blocks.headD []) ((blocks.drop 1).headD []) (seqEpoch q)] else closeFrom q blocks

/-- R32: `n` more blocks leave no block outstanding in a die that lies more than 32 positions behind the last. -/
def logRoom (s : State) (n : Nat) : Bool :=
  decide (n ≤ 32) && s.jnl.out.all (fun x => (x.done0 && x.done1) || decide (seqLinear s.jnl.head + n ≤ seqLinear x.seq + 32))

/-- R33: log blocks a die takes in a second for records, own and foreign; the rest of its 43 × 10^6 writes is kept for
snapshots and carry-forward. -/
def logBudget : Nat := 40000000

/-- R33: log blocks written in the running second. Log 97 (DEDUCED). -/
def logSpent (s : State) : Nat := if s.jnl.budgetSec = s.tb / sec 1 then s.jnl.budgetUsed else 0

/-- R33: `n` more log blocks stay within the budget of the running second. Log 97 (DEDUCED). -/
def inBudget (s : State) (n : Nat) : Bool := decide (s.logSpent + n ≤ logBudget)

/-- R33: the budget lets the Dispatcher issue one more Acceptance Record beside the records that wait.
Log 97 (DEDUCED). -/
def mayAccept (s : State) : Bool := s.inBudget ((s.jnl.waiting.map (fun r => blockCount r.blocks)).sum + 1)

/-- R33: count `n` log blocks of the running second. -/
def spendBlocks (s : State) (n : Nat) : State :=
  { s with jnl := { s.jnl with budgetSec := s.tb / sec 1, budgetUsed := s.logSpent + n } }

/-- R34: what a record keeps live, with the bodies kept: for a pair, each slot of its own unit; a partner's record
stays whole. -/
def recLive (what : WriteFor) (blocks : List Bytes) : List (Nat × List Bytes) :=
  match what with
  | .completion ks => ks.zipIdx.map (fun u => (u.1, (blocks.drop u.2).take 1))
  | w => (recUnits w).map (fun u => (u, blocks))

/-- Write one record whose blocks fit among the outstanding writes. -/
def issueRecord (s : State) (r : RecordWait) : State :=
  let first := s.jnl.head
  let blocks := closedBlocks first r.blocks
  let mirror := s.mirrorTo r.mirror
  let needsAck := match r.what with
    | .acceptance _ _ => mirror
    | .commit _ => mirror
    | _ => none
  let s := (blocks.foldl (fun s b => s.issueBlock b r.what needsAck) s).spendBlocks blocks.length
  let s := match mirror with
    | some k =>
      let posted := match recUnits r.what with
        | u :: _ => (s.ring (keyRing u)).posted
        | [] => none
      s.sendMirror k blocks r.what posted
    | none => s
  { s with jnl := { s.jnl with
    live := s.jnl.live ++ (recLive r.what r.blocks).map (fun u => { unit := u.1, seq := first, blocks := u.2 }) } }

/-- R37: two Completion Records that are ready share one pair. -/
def joinCompl (r : RecordWait) : List RecordWait → Option (RecordWait × List RecordWait)
  | [] => none
  | q :: t =>
    match r.what, q.what with
    | .completion [a], .completion [b] =>
      if r.mirror = q.mirror then some (RecordWait.mk (r.blocks ++ q.blocks) (.completion [a, b]) r.mirror, t)
      else (joinCompl r t).map (fun p => (p.1, q :: p.2))
    | _, _ => (joinCompl r t).map (fun p => (p.1, q :: p.2))

/-- Issue waiting records in order while their blocks fit (R32, R33). -/
def pumpLog : Nat → State → State
  | 0, s => s
  | fuel + 1, s =>
    match s.jnl.waiting with
    | [] => s
    | r :: t =>
      let (r, t) := (joinCompl r t).getD (r, t)
      if s.logRoom (blockCount r.blocks) && s.inBudget (blockCount r.blocks) then
        pumpLog fuel (({ s with jnl := { s.jnl with waiting := t } }).issueRecord r)
      else s

/-- R34: write one live record again at the head, if its blocks fit among the outstanding writes (R32). -/
def carryRecord (s : State) (r : LiveRec) : State :=
  if !s.logRoom (blockCount r.blocks) then s
  else
    let first := s.jnl.head
    let s := (closedBlocks first r.blocks).foldl (fun s b => s.issueBlock b .carry none) s
    { s with jnl := { s.jnl with live := s.jnl.live.map (fun (x : LiveRec) =>
        if x.unit = r.unit && x.seq == r.seq then { x with seq := first } else x) } }

/-- R34: carry forward the live records that the head has come within 1,048,576 blocks of; what does not fit now
follows when writes complete. -/
def carryForward (s : State) : State :=
  let lim := seqLinear s.jnl.head + 1048576
  (s.jnl.live.filter (fun r => decide (seqLinear r.seq + logBlocks ≤ lim))).foldl (fun s r => s.carryRecord r) s

/-- The journal takes no write: it is stopped or locked (R44, R412). -/
def jnlOpen (s : State) : Bool :=
  let st := s.fld JNL_STATUS JNL_STATUS.STATE
  st == 2 || st == 3 || st == 4

/-- Hand a record to the journal: it is issued as soon as its blocks fit. -/
def writeRecord (s : State) (blocks : List Bytes) (what : WriteFor) (mirror : Option Nat) : State :=
  let s := { s with jnl := { s.jnl with waiting := s.jnl.waiting ++ [RecordWait.mk blocks what mirror] } }
  if s.jnlOpen then
    let s := pumpLog s.jnl.waiting.length s
    s.carryForward.headRegs
  else s

/-- R34: the records of a posted unit stop being live. -/
def dropLive (s : State) (u : Nat) : State :=
  ({ s with jnl := { s.jnl with live := s.jnl.live.filter (fun r => r.unit != u) } }).headRegs

/-- R39: no block of what `w` stands for is still outstanding. -/
def allDurable (s : State) (w : WriteFor) : Bool :=
  !(s.jnl.out.any (fun x => x.what == w))

def writeDone (x : BlockWrite) : Bool := x.done0 && x.done1 && x.mirror.isNone

/-- Take the finished writes out of the outstanding list, in log order, and name what became durable. -/
def settleWrites (s : State) : List WriteFor × State :=
  let some_ := s.dieOk 0 || s.dieOk 1
  let done := fun x => some_ && writeDone x
  let fin := s.jnl.out.filter done
  let s := { s with jnl := { s.jnl with out := s.jnl.out.filter (fun x => !done x) } }
  let names := (fin.map (·.what)).eraseDups.filter (fun w => s.allDurable w)
  (names, s)

/-- R45, R47: a block of logical row `row` was rewritten from its mirror. -/
def recomputedBlock (s : State) (d row : Nat) : State :=
  let x := s.die d
  let old := (x.recomputed.get [] row).filter (fun t => decide (s.tb < t + sec 86400))
  let s := s.setDie d { x with recomputed := x.recomputed.set [] row (s.tb :: old) }
  let weak := ((s.die d).recomputed.filter (fun e => e.2.length == 1)).length
  let s := s.setFld (JNL_DIE_ROWS d) JNL_DIE_ROWS.ROWS_WEAK weak
  let s := s.setBit JNL_EVENT JNL_EVENT.RECOMPUTED
  let s := s.bump (JNL_DIE_RECOMP d) JNL_DIE_RECOMP.COUNT
  s.logEvent 0 blockJnl 0 d

/-- R47: a die is declared failed; outstanding writes wait for the surviving die alone. -/
def failDie (s : State) (d : Nat) : State :=
  let s := if d = 0 then
      { s with jnl := { s.jnl with failed0 := true, out := s.jnl.out.map (fun (x : BlockWrite) => { x with done0 := true }) } }
    else { s with jnl := { s.jnl with failed1 := true, out := s.jnl.out.map (fun (x : BlockWrite) => { x with done1 := true }) } }
  let s := s.setBit JNL_STATUS (if d = 0 then JNL_STATUS.DIE0_OK else JNL_STATUS.DIE1_OK) false
  let s := s.setBit JNL_STATUS JNL_STATUS.SINGLE_DIE
  let s := s.setBit JNL_EVENT JNL_EVENT.DIE_FAILED
  s.logEvent 1 blockJnl 2 d

/-- R45: a row qualifies for retirement: it is weak or bad, and holds nothing live. A log row lies at
least 1,024 rows ahead of the head and outside the live span; a metadata row belongs to the generation
that is not current. Log 5 (DEDUCED). -/
def rowQualifies (s : State) (d row : Nat) : Bool :=
  let x := s.die d
  let weak := decide (2 ≤ (x.recomputed.get [] row).length) || x.badRows.contains row
  let free :=
    if row < 32768 then
      -- generations A and B alternate: an even generation number stands in A
      if s.jnl.generation % 2 = 0 then decide (16384 ≤ row) else decide (row < 16384)
    else
      let head := seqIndex s.jnl.head / 16
      let r := row - 32768
      let rows := logBlocks / 16
      let ahead := (r + rows - head % rows) % rows
      let tail := seqIndex (s.oldestLive.getD s.jnl.head) / 16
      let tailAhead := (tail + rows - head % rows) % rows
      decide (1024 ≤ ahead) && (tailAhead == 0 || decide (ahead < tailAhead))
  weak && free

/-- R45: remap a logical row to a spare row of the same die; R47 with no spare left. Log 5 (DEDUCED). -/
def retireRow (s : State) (d row : Nat) : State :=
  let x := s.die d
  if x.sparesUsed ≥ 21504 then s.failDie d
  else
    let s := s.setDie d { x with
      rowMap := x.rowMap.set row row (1048576 + x.sparesUsed)
      sparesUsed := x.sparesUsed + 1
      recomputed := x.recomputed.del row
      badRows := x.badRows.filter (· != row) }
    let left := 21504 - (x.sparesUsed + 1)
    let s := s.setFld (JNL_DIE_ROWS d) JNL_DIE_ROWS.SPARE_LEFT left
    let s := s.bump (JNL_DIE_ROWS d) JNL_DIE_ROWS.ROWS_RETIRED
    let s := s.setFld (JNL_DIE_ROWS d) JNL_DIE_ROWS.ROWS_WEAK
      (((s.die d).recomputed.filter (fun e => e.2.length == 1)).length)
    let s := s.setBit JNL_EVENT JNL_EVENT.ROW_RETIRED
    if left < 2150 then s.setBit JNL_EVENT JNL_EVENT.SPARE_LOW else s

end State
end Sys2Proof.Machine
end

