-- ==== Sys2Proof/Machine/Surex.lean ====
section
/-!
DEFINITION. The Surex channel protocol, shared operations: frames and keys (R315 to R320), sequenced sending
(R322, R323), establishment (R321), the steps of exchanges (R327) and moving them between paths (R303, R326).
-/
namespace Sys2Proof.Machine
open Sys2Proof

/-! ### Frames -/

/-- R316: the Surex header. -/
def srxHeader (type len assoc phase target xid seq credit : Nat) : Bytes :=
  leBytes 1 1 ++ leBytes 1 type ++ leBytes 2 len ++ leBytes 2 (assoc % 4096 + phase % 2 * 4096)
    ++ leBytes 2 target ++ leBytes 8 xid ++ leBytes 8 seq ++ leBytes 8 credit

/-- R318: a payload ends with the CRC-32C of the header and of the bytes before it. -/
def srxPayload (header body : Bytes) : Bytes := body ++ leBytes 4 (Crypto.crc32c (header ++ body))

/-- R315: the Ethernet frame around header, payload and tag, FCS included. -/
def ethFrame (s : State) (a : Nat) (inner : Bytes) : Bytes :=
  let port := s.fld (SRX_ASSOC_CFG a) SRX_ASSOC_CFG.PORT
  let vlan := s.reg (SRX_ASSOC_VLAN a)
  let tag := if s.bit (SRX_ASSOC_VLAN a) SRX_ASSOC_VLAN.EN then
      beBytes 2 0x8100 ++ beBytes 2 (getFld vlan SRX_ASSOC_VLAN.PCP * 2 ^ 13 + getFld vlan SRX_ASSOC_VLAN.VID)
    else []
  let f := beBytes 6 (s.fld (SRX_ASSOC_CFG a) SRX_ASSOC_CFG.PEER_MAC) ++ beBytes 6 (s.fld (SRX_PORT port) SRX_PORT.MAC)
    ++ tag ++ beBytes 2 (s.fld SRX_CFG SRX_CFG.ETHERTYPE) ++ inner
  f ++ leBytes 4 (Crypto.crc32 f)

/-- R320: header, encrypted payload and tag. -/
def srxSeal (key iv header payload : Bytes) : Bytes :=
  let (ct, tag) := Crypto.gcmEnc key iv header payload
  header ++ ct ++ tag

/-- ASCII label of R319. -/
def srxLabel (s : String) : Bytes := s.toList.map (fun c => BitVec.ofNat 8 c.toNat)

/-- R319: a key of an epoch. Direction 0 is module to peer. -/
def srxKey (label : String) (secret salt : Bytes) (assoc dir epoch : Nat) : Bytes :=
  Crypto.hkdf384 salt secret (srxLabel label ++ leBytes 2 assoc ++ leBytes 1 dir ++ leBytes 4 epoch) 32

/-- R319: the probe key. -/
def srxProbeKey (secret : Bytes) (assoc : Nat) : Bytes :=
  Crypto.hkdf384 [] secret (srxLabel "SUREX-P" ++ leBytes 2 assoc) 32

namespace State

def assocState (s : State) (a : Nat) : Nat := s.fld (SRX_ASSOC_CFG a) SRX_ASSOC_CFG.STATE
def assocEpoch (s : State) (a : Nat) : Nat := s.fld (SRX_ASSOC_STATUS a) SRX_ASSOC_STATUS.EPOCH
def assocPort (s : State) (a : Nat) : Nat := s.fld (SRX_ASSOC_CFG a) SRX_ASSOC_CFG.PORT

/-- R323: interval after which the oldest frame is sent again. -/
def retx (s : State) : Nat := us (s.fld SRX_CFG SRX_CFG.RETX_US)

/-- Bytes of a sequenced frame (R316, R318, R320). -/
def seqFrame (s : State) (a type target xid : Nat) (body : Bytes) (seq : Nat) : Bytes :=
  let x := s.assoc a
  let h := srxHeader type (body.length + 4) a (s.assocEpoch a) target xid seq x.rxCredit
  ethFrame s a (srxSeal x.txKey (zeros 4 ++ leBytes 8 seq) h (srxPayload h body))

/-- Send frames that wait, while credit lasts (R322). -/
def pumpAssoc : Nat → State → Nat → State
  | 0, s, _ => s
  | fuel + 1, s, a =>
    let x := s.assoc a
    match x.waiting with
    | [] => s
    | w :: t =>
      if s.assocState a = 2 ∧ x.txNext ≤ x.txCredit then
        let b := s.seqFrame a w.type w.target w.xid w.body x.txNext
        let s := s.setAssoc a { x with
          waiting := t
          txNext := x.txNext + 1
          unacked := x.unacked ++ [TxFrame.mk x.txNext b 1 s.tb w.xid]
          retxAt := some (x.retxAt.getD s.tb) }
        pumpAssoc fuel (s.emit (.frame (s.assocPort a) b)) a
      else s

/-- Queue one sequenced frame on an association and send what credit allows. -/
def sendSeq (s : State) (a type target xid : Nat) (body : Bytes) : State :=
  let x := s.assoc a
  let s := s.setAssoc a { x with waiting := x.waiting ++ [TxWait.mk type target xid body] }
  pumpAssoc (x.waiting.length + 1) s a

/-- R322: acknowledge what has arrived in order; the credit granted never falls, and stays within 2^20. -/
def sendAck (s : State) (a : Nat) : State :=
  let x := s.assoc a
  let acked := x.rxNext - 1
  let credit := max x.rxCredit (acked + 4096)
  let s := s.setAssoc a { x with rxCredit := credit }
  let h := srxHeader 4 4 a (s.assocEpoch a) 0 0 acked credit
  let iv := leBytes 4 credit ++ leBytes 8 acked
  s.emit (.frame (s.assocPort a) (ethFrame s a (srxSeal x.txAck iv h (srxPayload h []))))

/-- R318, R320: send a Probe of kind 1 (establish) or 3 (keepalive). -/
def sendProbe (s : State) (a kind epoch window : Nat) (random : Bytes) : State :=
  let x := s.assoc a
  let (nonce, s) := s.randomBytes 12
  let h := srxHeader 10 68 a (s.assocEpoch a) 0 0 0 0
  let body := leBytes 1 kind ++ leBytes 1 (s.fld JNL_MIRROR JNL_MIRROR.MODULE) ++ leBytes 2 0 ++ leBytes 4 epoch
    ++ leBytes 4 window ++ leBytes 4 0 ++ padTo 32 random ++ nonce ++ leBytes 4 0
  let p := srxPayload h body
  let (_, tag) := Crypto.gcmEnc (srxProbeKey (x.secret.getD []) a) nonce (h ++ p) []
  s.emit (.frame (s.assocPort a) (ethFrame s a (h ++ p ++ tag)))

/-- The port of the association has link and is not switched off (R324). -/
def portUp (s : State) (p : Nat) : Bool := s.fld SRX_STATUS SRX_STATUS.PORT_UP >>> p % 2 == 1

/-- Device and path of every path register of a valid path for which `p` holds (R302). -/
def pathsWith (s : State) (p : Nat → Nat → Bool) : List (Nat × Nat) :=
  (s.regs.map (·.1)).filterMap (fun k =>
    if 0x804000 ≤ k ∧ k < 0x814000 ∧ (k - 0x804000) % 0x40 ≠ 0 ∧ (k - 0x804000) % 0x40 < 0x28 then
      let d := (k - 0x804000) / 0x40
      let i := (k - 0x804000) % 0x40 / 8 - 1
      if s.bit (CHN_DEV_PATH d i) CHN_DEV_PATH.VALID && p d i then some (d, i) else none
    else none)

/-- The paths that name association `a`. -/
def pathsOf (s : State) (a : Nat) : List (Nat × Nat) :=
  s.pathsWith (fun d k => s.fld (CHN_DEV_PATH d k) CHN_DEV_PATH.ASSOC == a)

/-- The paths on channel port `p`. -/
def pathsOn (s : State) (p : Nat) : List (Nat × Nat) :=
  s.pathsWith (fun d k => s.fld (CHN_DEV_PATH d k) CHN_DEV_PATH.PORT == p)

/-- R303, R332, R398: the port is switched off, by its mode or with its quarter. -/
def portOff (s : State) (p : Nat) : Bool :=
  s.fld (SRX_PORT_STATUS p) SRX_PORT_STATUS.MODE == 0 || s.fld CHN_STATUS CHN_STATUS.QUARTER_ON >>> (p / 4) % 2 == 0

/-- R303, R312, R324: what STATE of path `k` of device `d` reads: port off, up, probing, or down. -/
def pathState (s : State) (d k : Nat) : Nat :=
  if s.portOff (s.fld (CHN_DEV_PATH d k) CHN_DEV_PATH.PORT) then 3
  else match s.assocState (s.fld (CHN_DEV_PATH d k) CHN_DEV_PATH.ASSOC) with
    | 2 => 1
    | 1 => 2
    | _ => 0

/-- R312, R302: a path shows its state; a device in use without an up path reads 3. -/
def showPath (s : State) (dp : Nat × Nat) : State :=
  let s := s.setFld (CHN_DEV_PATH dp.1 dp.2) CHN_DEV_PATH.STATE (s.pathState dp.1 dp.2)
  let cfg := CHN_DEV_CFG dp.1
  let up := (List.range 4).any (fun k => s.bit (CHN_DEV_PATH dp.1 k) CHN_DEV_PATH.VALID &&
    s.fld (CHN_DEV_PATH dp.1 k) CHN_DEV_PATH.STATE == 1)
  let now := s.fld cfg CHN_DEV_CFG.STATE
  if now = 2 ∧ !up then s.setFld cfg CHN_DEV_CFG.STATE 3
  else if now = 3 ∧ up then s.setFld cfg CHN_DEV_CFG.STATE 2 else s

def showPaths (s : State) (a : Nat) : State := (s.pathsOf a).foldl showPath s
def showPort (s : State) (p : Nat) : State := (s.pathsOn p).foldl showPath s

/-- R321: send the establish Probe with the next epoch and arm the establishment interval. -/
def startEstablish (s : State) (a : Nat) : State :=
  let x := s.assoc a
  if !(s.bit (SRX_ASSOC_CFG a) SRX_ASSOC_CFG.EN) then s
  else if x.secret.isNone then (s.setFld (SRX_ASSOC_CFG a) SRX_ASSOC_CFG.STATE 3).showPaths a
  else
    let epoch := s.assocEpoch a + 1
    let (random, s) := s.randomBytes 32
    let s := s.setAssoc a { x with
      estEpoch := epoch
      estRandom := random
      estAt := some (s.tb + ms (s.fld SRX_PROBE_CFG SRX_PROBE_CFG.DOWN_MS)) }
    let s := if s.assocState a = 2 then s else (s.setFld (SRX_ASSOC_CFG a) SRX_ASSOC_CFG.STATE 1).showPaths a
    if s.portUp (s.assocPort a) then s.sendProbe a 1 epoch 4096 random else s

/-! ### Devices and paths -/

/-- The path is configured and up. -/
def pathUp (s : State) (d k : Nat) : Bool :=
  s.bit (CHN_DEV_PATH d k) CHN_DEV_PATH.VALID && s.fld (CHN_DEV_PATH d k) CHN_DEV_PATH.STATE == 1

/-- The next up path after path `k`, in path order (R303). -/
def nextUp (s : State) (d k : Nat) : Option Nat :=
  ([1, 2, 3, 4].map (fun i => (k + i) % 4)).find? (fun j => s.pathUp d j)

/-- R303: the path of a new exchange: the pinned one while it is up, else the next up path after the one
the device's previous exchange took. -/
def pickPath (s : State) (d : Nat) : Option Nat :=
  let pin := s.fld (CHN_DEV_CFG d) CHN_DEV_CFG.PIN_PATH
  if s.bit (CHN_DEV_CFG d) CHN_DEV_CFG.PIN_EN && s.pathUp d pin then some pin
  else s.nextUp d ((s.chn.lastPath.get none d).getD 3)

def pathAssoc (s : State) (d k : Nat) : Nat := s.fld (CHN_DEV_PATH d k) CHN_DEV_PATH.ASSOC

/-- The addresses of the peer that serves device `d`: those of its paths' associations (R313).
Log 140 (DEDUCED). -/
def peerMacs (s : State) (d : Nat) : List Nat :=
  ((List.range 4).filter (fun k => s.bit (CHN_DEV_PATH d k) CHN_DEV_PATH.VALID)).map (fun k =>
    s.fld (SRX_ASSOC_CFG (s.pathAssoc d k)) SRX_ASSOC_CFG.PEER_MAC)

/-! ### Steps of exchanges -/

/-- R318: the command extension. -/
def cmdExt (op code len lba : Nat) : Bytes :=
  leBytes 1 op ++ leBytes 1 0 ++ leBytes 2 code ++ leBytes 4 len ++ leBytes 8 lba

/-- R318: the Abort body, of at most 16 selectors. -/
def abortBody (scope : Nat) (sel : List (Nat × Nat)) : Bytes :=
  leBytes 1 scope ++ leBytes 1 sel.length ++ leBytes 2 0 ++
    (sel.map (fun p => leBytes 2 p.1 ++ leBytes 1 p.2 ++ leBytes 1 0)).flatten

/-- Data frames of a step, at most 8,192 bytes each (R317, R318). -/
def dataBodies (data : Bytes) : List Bytes :=
  (Crypto.pieces 8192 data).zipIdx.map (fun p => leBytes 8 (8192 * p.2) ++ p.1)

/-- R327: the frames a step sends, as (type, body). -/
def stepFrames (t : XStep) : List (Nat × Bytes) :=
  match t.kind with
  | .read => [(1, cmdExt 1 0 t.length t.lba)]
  | .sense => [(1, cmdExt 7 0 t.length 0)]
  | .control => [(1, cmdExt 6 (t.aux % 65536) t.length 0 ++ t.data)]
  | .write => (1, cmdExt 2 0 t.length t.lba) :: (dataBodies t.data).map (fun b => (2, b))
  | .tentative => (7, cmdExt 3 0 t.length t.lba) :: (dataBodies t.data).map (fun b => (2, b))
  | .commit => [(8, [])]
  | .abort scope => [(9, abortBody scope t.selectors)]

/-- R43, R49, R51: the module sends no commit message of the ring: it is fenced, adopted by the partner, or broken. -/
def withheld (s : State) (rk : Nat) : Bool :=
  let x := s.ring rk
  x.fenced || x.adoptedAway || x.broken

/-- The step is a commit message that is not sent now. -/
def stepWithheld (s : State) (t : XStep) : Bool :=
  match t.kind, t.owner with
  | .commit, .unit k => s.withheld (keyRing k)
  | _, _ => false

/-- Send the frames of a step on its path. -/
def sendStep (s : State) (t : XStep) : State :=
  match t.path with
  | none => s
  | some k =>
    let a := s.pathAssoc t.dev k
    let target := s.fld (CHN_DEV_CFG t.dev) CHN_DEV_CFG.TARGET
    (stepFrames t).foldl (fun s f => s.sendSeq a f.1 target t.xid f.2) s

/-- Add a step and send it. -/
def addStep (s : State) (t : XStep) : State :=
  ({ s with chn := { s.chn with steps := s.chn.steps ++ [t] } }).sendStep t

/-- R303: bind exchange `xid` to a path of its device. -/
def bindPath (s : State) (xid k : Nat) : State :=
  { s with chn := { s.chn with bound := s.chn.bound.set none xid (some k) } }

/-- R303: an exchange of device `d` that opens takes path `k`. -/
def openPath (s : State) (d xid k : Nat) : State :=
  let s := s.bindPath xid k
  { s with chn := { s.chn with lastPath := s.chn.lastPath.set none d (some k) } }

/-- R303: the path of a later step of an exchange: the one it is bound to, or the next up after it; an exchange
that is bound to none takes a path as when it opens. -/
def pathFor (s : State) (d xid : Nat) : Option Nat :=
  match s.chn.bound.get none xid with
  | some k => if s.pathUp d k then some k else s.nextUp d k
  | none => s.pickPath d

/-- Forget the path of an exchange that has ended. -/
def unbindPath (s : State) (xid : Nat) : State :=
  { s with chn := { s.chn with bound := s.chn.bound.del xid } }

/-- R303, R326: a unit's Commit or Abort takes its exchange's path, or waits for one. A scoped Abort belongs to no
exchange. -/
def issueUnitStep (s : State) (key xid dev : Nat) (kind : StepKind) (sel : List (Nat × Nat) := []) : State :=
  let t : XStep := { xid := xid, kind := kind, owner := .unit key, dev := dev, path := none, selectors := sel }
  if kind = .abort 1 ∨ kind = .abort 2 then s.addStep { t with path := s.pickPath dev }
  else match s.pathFor dev xid with
    | none => s.addStep t
    | some k => (s.bindPath xid k).addStep { t with path := some k }

/-- A program's end is decided: it issues no further command (R295). The first reason stands.
Log 87 (DEDUCED). -/
def failProgram (s : State) (pid status detail residual : Nat) : State :=
  { s with chn := { s.chn with progs := s.chn.progs.map (fun (p : ChanProg) =>
      if p.id = pid && p.ended.isNone then { p with ended := some (status, detail, residual) } else p) } }

def progOf (s : State) (pid : Nat) : Option ChanProg := s.chn.progs.find? (fun p => p.id == pid)

/-- R123, R300: an exchange of a unit's run counts as refused; the first one is kept. Log 87 (DEDUCED). -/
def refuseExchange (s : State) (key xid : Nat) : State :=
  match s.unit? key with
  | none => s
  | some u => s.setUnit key { u with
      refused := some (u.refused.getD xid)
      exchanges := u.exchanges.map (fun (e : Exchange) => if e.id = xid then { e with phase := .refused } else e) }

/-- R301: an exchange of a free program is open: its peer holds it, or may hold it. -/
def holdOpen (s : State) (pid xid : Nat) : State :=
  { s with chn := { s.chn with progs := s.chn.progs.map (fun (p : ChanProg) =>
    if p.id = pid && p.unit.isNone then
      { p with free := p.free.map (fun x => if x.1 = xid then (x.1, x.2.1, true) else x) } else p) } }

/-- R300, R301, R326: a step that no path can carry. A unit's Commit or Abort waits, and so does the Abort of an exchange
that a program left open; a Tentative Write ends without being held; every other command ends its program with 0x0A. -/
def stepNoPath (s : State) (t : XStep) : State :=
  let waits := { s with chn := { s.chn with steps := s.chn.steps.map (fun (x : XStep) =>
    if x = t then { x with path := none } else x) } }
  match t.owner with
  | .unit _ => waits
  | .program pid =>
    if t.closing then waits else
    let s := { s with chn := { s.chn with steps := s.chn.steps.filter (fun x => x != t) } }
    match t.kind, (s.progOf pid).bind (·.unit) with
    | .tentative, some u => (s.refuseExchange u t.xid).failProgram pid 1 t.xid 0
    | .tentative, none => (s.holdOpen pid t.xid).failProgram pid 1 t.xid 0
    | _, _ => s.failProgram pid 0x0A (((s.progOf pid).map (·.lastEntry)).getD 0) 0

/-- R326: move one step off its path to the next up path, where it is issued again; FAILOVERS of the path left advances. A commit message of a fenced ring waits instead (R49). Log 89 (DEDUCED). -/
def moveStep (s : State) (t : XStep) : State :=
  match t.path with
  | none => s
  | some k =>
    if s.stepWithheld t then s.stepNoPath t
    else
    match s.nextUp t.dev k with
    | none => s.stepNoPath t
    | some j =>
      let s := s.bumpSat (CHN_DEV_PATH t.dev k) CHN_DEV_PATH.FAILOVERS
      let t' := { t with path := some j }
      let s := { s with chn := { s.chn with steps := s.chn.steps.map (fun x => if x = t then t' else x) } }
      let s := if (s.chn.bound.get none t.xid).isSome then s.bindPath t.xid j else s
      s.sendStep t'

/-- R324: declare an association down, and move its exchanges (R326); its establishment timer is due at once, and starts
establishment again (R321), but for a port that is switched `off`. Log 56 (DEDUCED). -/
def assocDown (s : State) (a : Nat) (off : Bool := false) : State :=
  let x := s.assoc a
  let was := s.assocState a
  let s := s.setAssoc a { x with
    unacked := [], waiting := [], retxAt := none, fastAt := none, kaAt := none, keepalives := 0
    estEpoch := s.assocEpoch a + 1
    estAt := if off || x.secret.isNone || !s.bit (SRX_ASSOC_CFG a) SRX_ASSOC_CFG.EN then none else some s.tb }
  let s := s.setFld (SRX_ASSOC_CFG a) SRX_ASSOC_CFG.STATE (if x.secret.isNone then 3 else 0)
  let s := s.showPaths a
  let s := if was = 2 then
      (s.bumpSat (SRX_ASSOC_RETX a) SRX_ASSOC_RETX.DOWNS).setBit SRX_EVENT SRX_EVENT.PATH_DOWN
    else s
  let bound := s.chn.steps.filter (fun t => match t.path with
    | some k => s.pathAssoc t.dev k == a
    | none => false)
  bound.foldl (fun s t => s.moveStep t) s

/-- A step of a unit that waits for a path goes out on the one that R303 gives it, if one is up and nothing withholds
it. -/
def resumeStep (s : State) (t : XStep) : State :=
  match if s.stepWithheld t then none else s.pathFor t.dev t.xid with
  | none => s
  | some k =>
    let t' := { t with path := some k }
    let s := if t.kind = .abort 1 ∨ t.kind = .abort 2 then s else s.bindPath t.xid k
    ({ s with chn := { s.chn with steps := s.chn.steps.map (fun x => if x = t then t' else x) } }).sendStep t'

/-- R326: steps of units that wait for a path of association `a` go out now that it is up. -/
def resumeWaiting (s : State) (a : Nat) : State :=
  let ready := s.chn.steps.filter (fun t => t.path.isNone &&
    (List.range 4).any (fun k => s.pathUp t.dev k && s.pathAssoc t.dev k == a))
  ready.foldl (fun s t => s.resumeStep t) s

/-- R49: commit messages of ring `rk` that wait for credit on their association are not sent: their steps wait for a
path again. Log 50 (DEDUCED). -/
def holdCommits (s : State) (rk : Nat) : State :=
  let mine := s.chn.steps.filter (fun t => match t.kind, t.owner, t.path with
    | .commit, .unit k, some p => keyRing k == rk &&
        (s.assoc (s.pathAssoc t.dev p)).waiting.any (fun w => w.type == 8 && w.xid == t.xid)
    | _, _, _ => false)
  mine.foldl (fun s t =>
    let a := s.pathAssoc t.dev (t.path.getD 0)
    let x := s.assoc a
    (s.setAssoc a { x with waiting := x.waiting.filter (fun w => !(w.type == 8 && w.xid == t.xid)) }).stepNoPath t) s

/-- R51: the commit messages of ring `rk` that the fence held go out. -/
def freeCommits (s : State) (rk : Nat) : State :=
  (s.chn.steps.filter (fun t => t.path.isNone && match t.kind, t.owner with
    | .commit, .unit k => keyRing k == rk
    | _, _ => false)).foldl (fun s t => s.resumeStep t) s

/-- R321: a valid establish reply: new keys, both sequences restart at 1, the peer's window is the first
credit, the association is up, and exchanges of the old epoch on it are issued again. -/
def assocUp (s : State) (a window : Nat) (peerRandom : Bytes) : State :=
  let x := s.assoc a
  let e := x.estEpoch
  let salt := x.estRandom ++ peerRandom
  let sec := x.secret.getD []
  let s := s.setAssoc a { x with
    txKey := srxKey "SUREX-D" sec salt a 0 e, rxKey := srxKey "SUREX-D" sec salt a 1 e
    txAck := srxKey "SUREX-A" sec salt a 0 e, rxAck := srxKey "SUREX-A" sec salt a 1 e
    txNext := 1, rxNext := 1, txCredit := window, rxCredit := 4096, unacked := [], retxAt := none
    fastAt := none, estAt := none, keepalives := 0, lastHeard := s.tb
    kaAt := some (s.tb + us (s.fld SRX_PROBE_CFG SRX_PROBE_CFG.KEEPALIVE_US)), waiting := [] }
  let s := s.setFld (SRX_ASSOC_STATUS a) SRX_ASSOC_STATUS.EPOCH e
  let s := s.setFld (SRX_ASSOC_STATUS a) SRX_ASSOC_STATUS.KEY_PHASE e
  let s := s.setFld (SRX_ASSOC_CFG a) SRX_ASSOC_CFG.STATE 2
  let s := s.setBit SRX_EVENT SRX_EVENT.PATH_UP
  let s := s.showPaths a
  let again := s.chn.steps.filter (fun t => match t.path with
    | some k => s.pathAssoc t.dev k == a
    | none => false)
  let s := again.foldl (fun s t => if s.stepWithheld t then s.stepNoPath t else s.sendStep t) s
  s.resumeWaiting a

end State
end Sys2Proof.Machine
end

