-- ==== Sys2Proof/Machine/ChanEnd.lean ====
section
/-!
DEFINITION. The end of a channel request: its completion record (R295) and its place in its queue (R291).
-/
namespace Sys2Proof.Machine
open Sys2Proof

namespace State

/-- Requests of channel queue `n`, in the order they entered. -/
def chanQueue (s : State) (n : Nat) : List ChanProg := s.chn.progs.filter (fun p => p.queue == n)

/-- DEPTH of a channel queue follows its requests. -/
def chanDepth (s : State) (n : Nat) : State := s.setFld (CHN_Q_STATUS n) CHN_Q_STATUS.DEPTH (s.chanQueue n).length

/-- R295: the completion record. -/
def chanRecord (s : State) (p : ChanProg) : Bytes :=
  let (status, detail, res) := p.ended.getD (0, p.lastEntry, 0)
  leBytes 2 status ++ [BitVec.ofNat 8 (0x80 + (if p.repeated then 2 else 0) + p.unit.isSome.toNat)] ++
    leBytes 1 (min p.opened.length 255) ++ leBytes 4 p.entries ++ leBytes 8 detail ++ leBytes 8 p.tag ++
    leBytes 4 (if status = 0x10 then res else p.lastResidual) ++ leBytes 4 s.stamp

/-- R295: a request ends: one write of its record, after every memory write it made. -/
def endProg (s : State) (p : ChanProg) : State :=
  let s := (s.ioWrite (s.queueWorld (chnRegs p.queue)) p.complAt (s.chanRecord p)).2
  let s := { s with chn := { s.chn with progs := s.chn.progs.filter (fun x => x.id != p.id) } }
  let s := if p.op = 1 then s.bumpSat (CHN_ENG p.engine) CHN_ENG.PROGRAMS else s
  s.chanDepth p.queue

end State
end Sys2Proof.Machine
end

