-- ==== Sys2Proof/Machine/UnitOps.lean ====
section
/-!
DEFINITION. Shared operations of the Work Dispatcher: fetching and acceptance (R91 to R94), posting (R98,
R100), and the course of a unit: commit, abort, restart and completion (R122 to R131).
-/
namespace Sys2Proof.Machine
open Sys2Proof

/-- The 64-bit word that stands for "none" in an index or ASN field. -/
def noneWord : Nat := 0xFFFFFFFFFFFFFFFF

namespace State

/-! ### Rings and their Status Area -/

def sqEnabled (s : State) (f r : Nat) : Bool := s.bit (RING_SQ_CFG f r) RING_SQ_CFG.EN
def cqEnabled (s : State) (f c : Nat) : Bool := s.bit (RING_CQ_CFG f c) RING_CQ_CFG.EN
/-- Entries of a ring: 2^SIZE (R82). -/
def sqSize (s : State) (f r : Nat) : Nat := 2 ^ s.fld (RING_SQ_CFG f r) RING_SQ_CFG.SIZE
def cqSize (s : State) (f c : Nat) : Nat := 2 ^ s.fld (RING_CQ_CFG f c) RING_CQ_CFG.SIZE
/-- The completion ring a submission ring posts to; the admin ring posts to the admin ring. -/
def cqOf (s : State) (f r : Nat) : Nat := if r = 16 then 16 else s.fld (RING_SQ_CFG f r) RING_SQ_CFG.CQ

/-- Accepted units of submission rings that are not posted (R93, R125). -/
def inFlight (s : State) : Nat := (s.disp.units.filter (fun e => e.2.ring != 16)).length

/-- R86: the flags word of a submission ring's Status Area record. -/
def sqFlags (x : Ring) : Nat :=
  x.sleeping.toNat + 2 * x.formatHold.toNat + 4 * x.tailInvalid.toNat + 8 * x.broken.toNat
    + 16 * x.fenced.toNat + 32 * x.adoptedAway.toNat + 64 * x.draining.toNat

/-- R86: address of a submission ring's Status Area record. -/
def sqRecordAt (s : State) (f r : Nat) : Nat :=
  s.fld (RING_STA f) RING_STA.ADDR * 64 + (if r = 16 then 0x100 else 16 * r)

/-- R86: address of a completion ring's Status Area record. -/
def cqRecordAt (s : State) (f c : Nat) : Nat :=
  s.fld (RING_STA f) RING_STA.ADDR * 64 + (if c = 16 then 0x1C0 else 0x140 + 8 * c)

/-- R98: address of the slot that a completion ring fills next. -/
def slotAt (s : State) (f c : Nat) : Nat :=
  s.fld (RING_CQ_BASE f c) RING_CQ_BASE.ADDR * 4096 + (s.cq (ringOf f c)).posted % s.cqSize f c * 32

/-- R86, R73: write a submission ring's Status Area record, in one TLP, as it reads once its page has a translation. -/
def putSq (s : State) (f r : Nat) : State :=
  let x := s.ring (ringOf f r)
  let a := s.sqRecordAt f r
  if s.reach f a 16 then
    s.request f a 16 (.dma f a (leBytes 4 x.accepted ++ leBytes 4 (sqFlags x) ++ leBytes 8 (x.lastAsn.getD noneWord)))
  else
    ({ s with hep := { s.hep with owed := (s.hep.owed ++ [(f, r)]).eraseDups } }).askPages f a 16 |>.pumpReads

/-- R86: write a submission ring's Status Area record of an active function. -/
def writeSq (s : State) (f r : Nat) : State := if s.fnActive f then s.putSq f r else s

/-- R86: write a completion ring's Status Area record. -/
def writeCq (s : State) (f c : Nat) : State :=
  let x := s.cq (ringOf f c)
  let a := s.cqRecordAt f c
  s.request f a 8 (.dma f a (leBytes 4 x.posted ++ leBytes 4 x.full.toNat))

/-! ### Fetching and acceptance -/

/-- R88, R89, R91: the ring's descriptors may be fetched. -/
def mayFetch (s : State) (f r : Nat) : Bool :=
  let x := s.ring (ringOf f r)
  s.fnActive f && s.sqEnabled f r && !s.disp.stopped && !x.draining && !x.formatHold && !x.broken &&
    !x.fenced && !x.adoptedAway && s.fld JNL_STATUS JNL_STATUS.STATE == 3

/-- R91: issue one read for up to 32 new descriptors, up to the end of the ring. -/
def fetch (s : State) (f r : Nat) : State :=
  let x := s.ring (ringOf f r)
  let avail := (x.tail + 2 ^ 32 - x.fetchTo) % 2 ^ 32
  let busy := (s.hep.reads ++ s.hep.waiting).any (fun q => q.fn == f && match q.kind with
    | .descriptors r' _ _ => r' == r && !q.discard
    | _ => false)
  if s.mayFetch f r && decide (0 < avail) && !busy then
    let size := s.sqSize f r
    let n := min 32 (min avail (size - x.fetchTo % size))
    let addr := s.fld (RING_SQ_BASE f r) RING_SQ_BASE.ADDR * 4096 + x.fetchTo % size * 64
    (s.setRing (ringOf f r) { x with fetchTo := (x.fetchTo + n) % 2 ^ 32 }).issueRead
      { tag := 0, fn := f, kind := .descriptors r x.fetchTo n, addr := addr, len := 64 * n }
  else s

/-- R88, R89: issue one read of the whole Doorbell Area. -/
def readDoorbell (s : State) (f : Nat) (poll : Bool) : State :=
  if s.fnActive f && !s.disp.stopped then
    s.issueRead { tag := 0, fn := f, kind := .doorbell poll, addr := s.fld (RING_DBA f) RING_DBA.ADDR * 64, len := 256 }
  else s

/-- Records of the ring issued and not yet accepted. -/
def issuedCount (x : Ring) : Nat := (x.fetched.filter (fun d => d.issued.isSome)).length

/-- Acceptance Records issued module-wide and not yet accepted, of submission rings. -/
def issuedAll (s : State) : Nat :=
  s.disp.rings.foldl (fun n e => if e.1 % 17 = 16 then n else n + issuedCount e.2) 0

/-- R94: the ASN a tag already has in the ring's window, issued records included. -/
def tagSeen (x : Ring) (tag : Nat) : Option Nat :=
  match x.window.find? (fun w => w.tag == tag) with
  | some w => some w.asn
  | none => (x.fetched.find? (fun d => d.issued.isSome && leAt d.desc 8 8 == tag)).bind (·.issued)

/-- R36: the Acceptance Record of a descriptor with a candidate ASN. -/
def acceptRecord (s : State) (f r asn budget : Nat) (desc : Bytes) : Bytes :=
  let x := s.ring (ringOf f r)
  acceptBody (recFlags x.mirror.isSome (r == 16) false (s.fld JNL_MIRROR JNL_MIRROR.MODULE)) f r budget
    (if r = 16 then 0 else x.part) asn (leAt desc 8 8) (slice desc 24 32)

/-- What the outstanding descriptor reads of a ring bring is squashed (R84, R92). -/
def discardReads (s : State) (f r : Nat) : State :=
  let his := fun (q : ReadReq) => q.fn == f && match q.kind with
    | .descriptors r' _ _ => r' == r
    | _ => false
  { s with hep := { s.hep with
    reads := s.hep.reads.map (fun (q : ReadReq) => if his q then { q with discard := true } else q)
    waiting := s.hep.waiting.filter (fun q => !his q) } }

/-- R84: stop at a descriptor whose Format byte is not 0x01; what was fetched or asked for after it is dropped. -/
def holdFormat (s : State) (f r count : Nat) : State :=
  let rk := ringOf f r
  let x := s.ring rk
  let s := s.setRing rk { x with
    fetched := x.fetched.filter (fun d => d.issued.isSome || d.dupOf.isSome)
    fetchTo := count, formatHold := true, sleeping := true }
  ((s.discardReads f r).setFld (RING_SQ_STATUS f r) RING_SQ_STATUS.STATE 4).writeSq f r

/-- R91 step 4, R94: check each fetched descriptor in count order, and issue Acceptance Records: none at the count of
R93, and none that the write budget of R33 has no room for. -/
def issueFetched (f r : Nat) : Nat → State → State
  | 0, s => s
  | fuel + 1, s =>
    let rk := ringOf f r
    let x := s.ring rk
    match x.fetched.find? (fun d => d.issued.isNone && d.dupOf.isNone) with
    | none => s
    | some d =>
      if leAt d.desc 0 1 ≠ 1 then s.holdFormat f r d.count
      else
        match tagSeen x (leAt d.desc 8 8) with
        | some a =>
          let s := s.setRing rk { x with fetched := x.fetched.map (fun (e : Fetched) =>
            if e.count = d.count then { e with dupOf := some a } else e) }
          issueFetched f r fuel s
        | none =>
          if x.broken || x.fenced || x.adoptedAway || s.disp.stopped then s
          else if 65536 ≤ s.inFlight + s.issuedAll ∨ !s.mayAccept then s
          else
            let asn := x.nextAsn + issuedCount x
            let budget := if r = 16 then 0 else s.fld (UOW_PART_CFG x.part) UOW_PART_CFG.BUDGET
            let body := s.acceptRecord f r asn budget d.desc
            let s := s.setRing rk { x with fetched := x.fetched.map (fun (e : Fetched) =>
              if e.count = d.count then { e with issued := some asn, budget := budget } else e) }
            issueFetched f r fuel (s.writeRecord [body] (.acceptance rk asn) x.mirror)

/-- R94: put a duplicate-marked copy into the posting order: directly after its unposted original, or in
the slot's turn. Log 46 (DEDUCED). -/
def insertDup (x : Ring) (asn tag : Nat) : Ring :=
  let isIt : PostItem → Bool := fun i => match i with
    | .unit a => a == asn
    | .dup a _ => a == asn
  let insert := fun (l : List PostItem) =>
    let n := l.length - (l.reverse.takeWhile (fun i => !isIt i)).length
    l.take n ++ [PostItem.dup asn tag] ++ l.drop n
  if x.postOld.any isIt then { x with postOld := insert x.postOld }
  else if x.postQ.any (fun i => i == .unit asn) then { x with postQ := insert x.postQ }
  else { x with postQ := x.postQ ++ [.dup asn tag] }

/-- A duplicate of the descriptor accepted under `asn` waits for its completion (R94). -/
def dupWaits (x : Ring) (asn : Nat) : Bool :=
  let isIt : PostItem → Bool := fun i => match i with
    | .unit _ => false
    | .dup a _ => a == asn
  x.postOld.any isIt || x.postQ.any isIt || x.fetched.any (fun d => d.dupOf == some asn)

/-- R94: the ring's deduplication window takes one more descriptor; what falls out is kept while a duplicate of it
waits. -/
def pushWindow (x : Ring) (e : WinEntry) : Ring :=
  let w := x.window ++ [e]
  let n := w.length - 65536
  { x with window := w.drop n, leftWindow := x.leftWindow ++ (w.take n).filter (fun g => dupWaits x g.asn) }

/-- R21: the descriptor at the front of the ring becomes accepted under `asn`, with the restart budget that its
Acceptance Record holds (R36). -/
def accept (s : State) (f r asn budget : Nat) (desc : Bytes) : State :=
  let rk := ringOf f r
  let x := s.ring rk
  let tag := leAt desc 8 8
  let u : WorkUnit := {
    fn := f, ring := r, asn := asn, tag := tag, args := padTo 32 (slice desc 24 32)
    budget := budget, part := if r = 16 then 0 else x.part
    origin := s.fld JNL_MIRROR JNL_MIRROR.MODULE, tAccept := s.tb }
  let s := s.setRing rk { pushWindow x (WinEntry.mk asn tag none) with
    accepted := if x.stale = 0 then (x.accepted + 1) % 2 ^ 32 else x.accepted
    stale := x.stale - 1
    nextAsn := asn + 1, lastAsn := if x.stale = 0 then some asn else x.lastAsn
    floor := max x.floor (asn + 1 - 65536)
    postQ := x.postQ ++ [.unit asn] }
  let s := s.setUnit (unitKey rk asn) u
  if r ≠ 16 ∧ s.inFlight = 65536 then s.setBit UOW_EVENT UOW_EVENT.IN_FLIGHT_FULL else s

/-- R92: consume fetched slots strictly in count order: accepted once the record is durable (R21), or
answered as a duplicate (R94). Nothing is accepted on a ring that is fenced (R49), or that the partner adopted (R51). -/
def consume (f r : Nat) : Nat → State → State
  | 0, s => s
  | fuel + 1, s =>
    let rk := ringOf f r
    let x := s.ring rk
    match if x.fenced || x.adoptedAway then [] else x.fetched with
    | [] => s
    | d :: t =>
      match d.issued, d.dupOf with
      | some asn, _ =>
        if d.durable then consume f r fuel ((s.setRing rk { x with fetched := t }).accept f r asn d.budget d.desc) else s
      | none, some a =>
        let x := insertDup { x with fetched := t } a (leAt d.desc 8 8)
        consume f r fuel (s.setRing rk { x with
          accepted := if x.stale = 0 then (x.accepted + 1) % 2 ^ 32 else x.accepted
          stale := x.stale - 1 })
      | none, none => s

/-- Move a ring on after anything that can let it: check and issue, consume, write its record, fetch. -/
def driveRing (s : State) (f r : Nat) : State :=
  let rk := ringOf f r
  let before := (s.ring rk).accepted
  let s := issueFetched f r (s.ring rk).fetched.length s
  let s := consume f r (s.ring rk).fetched.length s
  let s := if (s.ring rk).accepted = before then s else s.writeSq f r
  s.fetch f r

/-- R92: squash the fetched descriptors of a ring from the first one that has neither an issued record nor
an answer as a duplicate, with whatever a read still outstanding brings. -/
def squash (s : State) (f r : Nat) : State :=
  let rk := ringOf f r
  let x := s.ring rk
  let keep := x.fetched.takeWhile (fun d => d.issued.isSome || d.dupOf.isSome)
  (s.discardReads f r).setRing rk { x with
    fetched := keep, fetchTo := (x.accepted + (keep.length - x.stale)) % 2 ^ 32 }

/-- R89: a tail count read for a ring. An older or invalid one does not move it. -/
def newTail (s : State) (f r t : Nat) (poll : Bool) : State :=
  let rk := ringOf f r
  let x := s.ring rk
  let size := s.sqSize f r
  let dist := (t + 2 ^ 32 - x.accepted) % 2 ^ 32
  let old := (x.tail + 2 ^ 32 - x.accepted) % 2 ^ 32
  if size < dist then
    let x' := { x with tailInvalid := true, unchanged := if poll then x.unchanged + 1 else x.unchanged }
    if x.tailInvalid then s.setRing rk x' else (s.setRing rk x').writeSq f r
  else
    let moved := decide (old < dist)
    let x' := { x with
      tail := if moved then t else x.tail
      tailInvalid := false
      sleeping := x.sleeping && !moved
      unchanged := if moved then 0 else if poll then x.unchanged + 1 else x.unchanged }
    let s := s.setRing rk x'
    let s := if x.sleeping && moved && s.fld (RING_SQ_STATUS f r) RING_SQ_STATUS.STATE == 2 then
        s.setFld (RING_SQ_STATUS f r) RING_SQ_STATUS.STATE 1 else s
    if x'.sleeping != x.sleeping || x.tailInvalid then s.writeSq f r else s

/-- R84, R88, R89: a wake for a ring clears SLEEPING and ends FORMAT_HOLD. -/
def wakeRing (s : State) (f r : Nat) : State :=
  let rk := ringOf f r
  let x := s.ring rk
  if x.sleeping || x.formatHold then
    let s := s.setRing rk { x with sleeping := false, formatHold := false, unchanged := 0 }
    let st := s.fld (RING_SQ_STATUS f r) RING_SQ_STATUS.STATE
    let s := if st = 2 ∨ st = 4 then s.setFld (RING_SQ_STATUS f r) RING_SQ_STATUS.STATE 1 else s
    s.writeSq f r
  else s

/-! ### Posting -/

/-- R98: a Completion Entry. -/
def complEntry (asn tag : Nat) (c : Compl) (ring : Nat) (dup : Bool) : Bytes :=
  leBytes 8 asn ++ leBytes 8 tag ++ leBytes 8 c.result ++ leBytes 4 c.finish ++ leBytes 2 c.status
    ++ leBytes 1 (c.restarts % 8)
    ++ leBytes 1 ((if ring = 16 then 0x20 else ring) + (if dup then 0x10 else 0))

/-- The entry the next item of a ring would post, if the item may be posted now. -/
def itemEntry (s : State) (f r : Nat) (i : PostItem) : Option Bytes :=
  let rk := ringOf f r
  match i with
  | .unit asn =>
    match s.unit? (unitKey rk asn) with
    | some u => if u.phase = .completed then
        some (complEntry asn u.tag ⟨u.status, u.result, u.finish.getD 0, u.restarts⟩ r false) else none
    | none => none
  | .dup asn tag =>
    match ((s.ring rk).window ++ (s.ring rk).leftWindow).find? (fun w => w.asn == asn) with
    | some w => w.compl.map (fun c => complEntry asn tag c r true)
    | none => none

/-- R98, R100: one entry goes into its slot of the completion ring, and counts as posted. -/
def postEntry (s : State) (f r c : Nat) (i : PostItem) (e : Bytes) : State :=
  let rk := ringOf f r
  let ck := ringOf f c
  let q := s.cq ck
  let s := s.request f (s.slotAt f c) 32 (.dma f (s.slotAt f c) e)
  let s := s.setCq ck { q with posted := (q.posted + 1) % 2 ^ 32, unsignalled := q.unsignalled + 1
                               coalAt := some (q.coalAt.getD s.tb) }
  match i with
  | .dup _ _ =>
    let x := s.ring rk
    s.setRing rk { x with leftWindow := x.leftWindow.filter (fun w => dupWaits x w.asn) }
  | .unit asn =>
    let x := s.ring rk
    let cp := (s.unit? (unitKey rk asn)).map (fun u => Compl.mk u.status u.result (u.finish.getD 0) u.restarts)
    let s := s.setRing rk { x with
      posted := some asn
      window := x.window.map (fun (w : WinEntry) => if w.asn = asn then { w with compl := cp } else w)
      leftWindow := x.leftWindow.map (fun (w : WinEntry) => if w.asn = asn then { w with compl := cp } else w) }
    let s := match s.unit? (unitKey rk asn) with
      | some u => s.meterUnit u false
      | none => s
    (s.delUnit (unitKey rk asn)).dropLive (unitKey rk asn)

/-- The items a ring may try, in order: the older unit first where both stand ready. Log 46 (DEDUCED). -/
def tryItems (x : Ring) : List (PostItem × Ring) :=
  (match x.postOld with
    | i :: t => [(i, { x with postOld := t })]
    | [] => []) ++
  (match x.postOld, x.postQ with
    | [], i :: t => [(i, { x with postQ := t })]
    | _ :: _, .dup a g :: t => [(.dup a g, { x with postQ := t })]
    | _, _ => [])

/-- R100, R131: post a ring's entries in order into freed slots; FULL when none is free. The count posted
is returned. -/
def postRing (f r : Nat) : Nat → State → Nat × State
  | 0, s => (0, s)
  | fuel + 1, s =>
    let rk := ringOf f r
    let x := s.ring rk
    let c := s.cqOf f r
    match (tryItems x).find? (fun p => (s.itemEntry f r p.1).isSome) with
    | none => (0, s)
    | some (i, x') =>
      match s.itemEntry f r i with
      | none => (0, s)
      | some e =>
        let q := s.cq (ringOf f c)
        if (q.posted + 2 ^ 32 - q.head) % 2 ^ 32 < s.cqSize f c then
          if !s.reach f (s.slotAt f c) 32 then (0, (s.askPages f (s.slotAt f c) 32).pumpReads) else
          let (n, s) := postRing f r fuel ((s.setRing rk x').postEntry f r c i e)
          (n + 1, s)
        else if q.full then (0, s)
        else
          (0, ((s.setCq (ringOf f c) { q with full := true }).setFld (RING_CQ_STATUS f c) RING_CQ_STATUS.STATE 2).writeCq f c)

/-- R131, R49, R51: a ring may post now. -/
def mayPost (s : State) (f r : Nat) : Bool :=
  let x := s.ring (ringOf f r)
  s.fnActive f && s.sqEnabled f r && s.cqEnabled f (s.cqOf f r) && !x.fenced && !x.adoptedAway && !x.broken

/-- R100: coalescing after a batch of `n` entries on completion ring `c`. -/
def signal (s : State) (f c n : Nat) : State :=
  if n = 0 then s
  else
    let cfg := s.reg (RING_CQ_CFG f c)
    let count := getFld cfg RING_CQ_CFG.COAL_COUNT
    let time := getFld cfg RING_CQ_CFG.COAL_US
    let q := s.cq (ringOf f c)
    if (count = 0 ∧ time = 0) ∨ (0 < count ∧ count ≤ q.unsignalled) then
      (s.setCq (ringOf f c) { q with unsignalled := 0, coalAt := none }).sendVector f (getFld cfg RING_CQ_CFG.VECTOR)
    else s

/-- A completion has been posted: rings whose fetched descriptors were left unaccepted at the count of R93 go on, in
key order. Log 46 (DEDUCED). -/
def resumeHeld (s : State) : State :=
  ((s.disp.rings.filter (fun e => e.2.fetched.any (fun d => d.issued.isNone && d.dupOf.isNone))).map (·.1)).foldl
    (fun s rk => s.driveRing (rk / 17) (rk % 17)) s

/-- Rings of function `f` that post to completion ring `c` now. -/
def postersOf (s : State) (f c : Nat) : List Nat := (List.range 17).filter (fun r => s.mayPost f r && s.cqOf f r == c)

/-- The ring holds an entry that only a free slot keeps from being posted. -/
def holdsEntry (s : State) (f r : Nat) : Bool := (tryItems (s.ring (ringOf f r))).any (fun p => (s.itemEntry f r p.1).isSome)

/-- R100: post to completion ring `c` of function `f` from every ring that posts to it, then the posted
index, then the message. FULL clears after posting into freed space, unless an entry is still held for a slot. Nothing is
posted before the pages of the slots and of the ring's Status Area record have translations (R73). Log 103 (DEDUCED). -/
def postCq (s : State) (f c : Nat) : State :=
  if !s.reach f (s.cqRecordAt f c) 8 then
    if (s.postersOf f c).any (fun r => s.holdsEntry f r) then (s.askPages f (s.cqRecordAt f c) 8).pumpReads else s
  else
  let (n, s) := (s.postersOf f c).foldl
    (fun (p : Nat × State) r =>
      let x := p.2.ring (ringOf f r)
      let (m, s') := postRing f r (x.postOld.length + x.postQ.length) p.2
      (p.1 + m, s')) (0, s)
  let q := s.cq (ringOf f c)
  let s := if 0 < n && q.full && !((s.postersOf f c).any (fun r => s.holdsEntry f r)) then
      (s.setCq (ringOf f c) { q with full := false }).setFld (RING_CQ_STATUS f c) RING_CQ_STATUS.STATE 1
    else s
  if n = 0 then s else ((s.writeCq f c).signal f c n).resumeHeld

/-- Post on every completion ring of a function, in ring order (R65, R72). -/
def postFn (s : State) (f : Nat) : State := (List.range 17).foldl (fun s c => s.postCq f c) s

/-! ### The course of a unit -/

/-- R121: the stem of a run: the ID of its exchange index 0. -/
def runStem (u : WorkUnit) (run : Nat) : Nat :=
  u.origin % 8 * 2 ^ 61 + u.fn % 2048 * 2 ^ 50 + u.ring % 16 * 2 ^ 46 + run % 8 * 2 ^ 43 + u.asn % 2 ^ 37 * 2 ^ 6

/-- Programs of a unit's run that have not ended. -/
def unitProgs (s : State) (k : Nat) : List ChanProg := s.chn.progs.filter (fun p => p.unit == some k)

/-- A request for the slot's binding is held back: Assay runs on a core of it (R199), or no executor of it is left
(R112). -/
def slotHeld (s : State) (pair : Nat) : Bool :=
  let a := s.fld (PAIR_STATUS (2 * pair)) PAIR_STATUS.STATE
  let b := s.fld (PAIR_STATUS (2 * pair + 1)) PAIR_STATUS.STATE
  a == 3 || b == 3 || ((a == 0 || a == 5) && (b == 0 || b == 5))

/-- The pair's binding after its run has ended: a draining pair takes its waiting request (R112), not before a
verdict of Assay (R199). -/
def freePair (s : State) (pair : Nat) : State :=
  let st := s.fld (UOW_PAIR_BIND pair) UOW_PAIR_BIND.STATE
  if s.slotHeld pair then s
  else if st = 4 then
    match s.disp.bindWait.get none pair with
    | some w =>
      let s := { s with disp := { s.disp with bindWait := s.disp.bindWait.del pair } }
      let w := BitVec.ofNat 64 w
      let part := getFld w UOW_PAIR_BIND.PARTITION
      if getFld w UOW_PAIR_BIND.EN = 1 then
        (s.setReg (UOW_PAIR_BIND pair) (BitVec.ofNat 64 (2 ^ 31 + 2 ^ 28 + part * 2 ^ 16))).askCrucible 1 pair part
      else s.setReg (UOW_PAIR_BIND pair) (BitVec.ofNat 64 (part * 2 ^ 16))
    | none => s.setFld (UOW_PAIR_BIND pair) UOW_PAIR_BIND.STATE 0
  else if st = 3 ∨ st = 6 then
    ((s.setFld (UOW_PAIR_BIND pair) UOW_PAIR_BIND.STATE 2).setFld (UOW_PAIR_BIND pair) UOW_PAIR_BIND.RING 0).setFld
      (UOW_PAIR_BIND pair) UOW_PAIR_BIND.FUNC 0
  else s

/-- A run ends on its executor: `psr.UNIT` clears, and the suspended world of the run ends (R157, R355). -/
def endRunProc (s : State) (e : Nat) : State :=
  let x := s.proc e
  s.setProc e { x with
    sp := x.sp.set 0 0 (putFld (x.sp.get 0 0) PSR.UNIT 0)
    suspended := none }

/-- The executor stops running what it ran; its slot is free once neither executor runs. Until then the registers
report the even executor (R113): bound and idle once it alone has stopped. -/
def stopExec (s : State) (e : Nat) : State :=
  let s := ((s.meterRunStop e).endRunProc e).setRun e .idle
  if s.run (e / 2 * 2) = .idle ∧ s.run (e / 2 * 2 + 1) = .idle then s.freePair (e / 2)
  else if e % 2 = 0 ∧ (s.fld (UOW_PAIR_BIND (e / 2)) UOW_PAIR_BIND.STATE = 3 ∨ s.fld (UOW_PAIR_BIND (e / 2)) UOW_PAIR_BIND.STATE = 6) then
    ((s.setFld (UOW_PAIR_BIND (e / 2)) UOW_PAIR_BIND.STATE 2).setFld (UOW_PAIR_BIND (e / 2)) UOW_PAIR_BIND.RING 0).setFld
      (UOW_PAIR_BIND (e / 2)) UOW_PAIR_BIND.FUNC 0
  else s

/-- R128 step 1: stop a unit's run on its executor. -/
def stopRun (s : State) (k : Nat) : State :=
  match s.unit? k with
  | none => s
  | some u =>
    match u.exec with
    | none => s
    | some e => (s.setUnit k { u with exec := none }).stopExec e

/-- R294: end every unit program of the run with 0x0D; the engine abandons its outstanding frames. -/
def stopPrograms (s : State) (k : Nat) : State :=
  let mine := s.unitProgs k
  let (gone, kept) := s.chn.steps.partition (fun t => match t.owner with
    | .program id => (mine.map (·.id)).contains id
    | .unit _ => false)
  let s := { s with
    chn := { s.chn with steps := kept }
    srx := { s.srx with assocs := s.srx.assocs.map (fun (e : Nat × Assoc) => (e.1, { e.2 with
      waiting := e.2.waiting.filter (fun w => !gone.any (fun t => t.xid == w.xid)) })) } }
  mine.foldl (fun s p => s.endProg { p with ended := some (0x0D, p.lastEntry, 0) }) s

/-- R37: write the Completion Record of a unit. Log 47 (DEDUCED). -/
def endUnit (s : State) (k status result : Nat) : State :=
  match s.unit? k with
  | none => s
  | some u =>
    if u.complIssued then s
    else
      let fin := u.finish.getD s.stamp
      let u' := { u with status := status, result := result, complIssued := true, finish := some fin }
      let s := s.setUnit k u'
      let s := match status with
        | 2 => (s.setBit UOW_EVENT UOW_EVENT.BUDGET_SPENT).bump UOW_BUDGET_SPENT UOW_BUDGET_SPENT.COUNT
        | 3 => s.setBit UOW_EVENT UOW_EVENT.PART_STOPPED
        | 4 => s.setBit UOW_EVENT UOW_EVENT.NOT_RUNNABLE
        | 5 => s.setBit UOW_EVENT UOW_EVENT.PEER_REFUSED
        | _ => s
      s.writeRecord [complSlot (unitFlags s u') u.fn u.ring u.restarts status u.asn result fin]
        (.completion [k]) (s.ring (keyRing k)).mirror

/-- R125: an aborting unit completes once every abort is acknowledged. Log 47 (DEDUCED). -/
def checkAborted (s : State) (k : Nat) : State :=
  match s.unit? k with
  | some u => if u.phase = .aborting ∧ u.aborts = [] then s.endUnit k u.status u.result else s
  | none => s

/-- Send an abort for each exchange of the current run that is still open at a peer (R124, R128). -/
def sendAborts (s : State) (k : Nat) : State :=
  match s.unit? k with
  | none => s
  | some u =>
    let xs := u.exchanges.filter (fun x => x.phase != .aborted)
    let s := s.setUnit k { u with
      aborts := u.aborts ++ xs.map (fun x => AbortOut.mk x.id x.dev 0)
      exchanges := [] }
    xs.foldl (fun s x => s.issueUnitStep k x.id x.dev (.abort 0)) s

/-- Enabled devices a partition owns (R128 step 2). -/
def devicesOf (s : State) (part : Nat) : List Nat :=
  (s.regs.map (·.1)).filterMap (fun a =>
    if 0x804000 ≤ a ∧ a < 0x814000 ∧ (a - 0x804000) % 0x40 = 0 then
      let d := (a - 0x804000) / 0x40
      let c := s.reg (CHN_DEV_CFG d)
      if getFld c CHN_DEV_CFG.EN = 1 ∧ getFld c CHN_DEV_CFG.OWNER_KIND = 1 ∧ getFld c CHN_DEV_CFG.OWNER = part
      then some d else none
    else none)

/-- R128 step 2: after a reset, one run-scope abort for each earlier run, to the target of every enabled
device the unit's partition owns. -/
def sendRunAborts (s : State) (k runs : Nat) : State :=
  match s.unit? k with
  | none => s
  | some u =>
    let outs := (List.range runs).flatMap (fun r => (s.devicesOf u.part).map (fun d => AbortOut.mk (runStem u r) d 1))
    let s := s.setUnit k { u with aborts := u.aborts ++ outs }
    outs.foldl (fun s x => s.issueUnitStep k x.id x.dev (.abort 1)) s

/-- R132: the Dispatcher voids a Commit Record that is issued and not yet durable: every block of it still outstanding
becomes a void block, in the dies that hold it already too. Log 47 (DEDUCED). -/
def voidCommit (s : State) (k : Nat) : State :=
  let mine := s.jnl.out.filter (fun x => x.what == .commit k)
  let blank := fun (x : BlockWrite) => closeBlock [] (seqEpoch x.seq)
  let s := mine.foldl (fun (s : State) x =>
    let put := fun (s : State) (d : Nat) (done : Bool) =>
      if done && s.dieOk d then s.storeBlock d (seqIndex x.seq) (blank x) else s
    (put (put s 0 x.done0) 1 x.done1).emit (.journalWrite x.seq (blank x))) s
  { s with jnl := { s.jnl with
    waiting := s.jnl.waiting.filter (fun r => r.what != .commit k)
    live := s.jnl.live.filter (fun r => !(r.unit == k && leAt (r.blocks.headD []) 0 1 == 3))
    out := s.jnl.out.map (fun (x : BlockWrite) =>
      if x.what = .commit k then { x with bytes := blank x, what := .carry, mirror := none } else x) } }

/-- R123, R124, R130: abort a unit's run; its completion carries `status` and `result`. -/
def abortUnit (s : State) (k status result : Nat) : State :=
  let s := ((s.stopRun k).stopPrograms k).voidCommit k
  match s.unit? k with
  | none => s
  | some u =>
    let s := s.setUnit k { u with phase := .aborting, closed := true, status := status, result := result
                                  finish := some (u.finish.getD s.stamp) }
    (s.sendAborts k).checkAborted k

/-- R123: a refused exchange, or a program error at a peer, ends a Preparing unit before its Commit Record
is issued. -/
def checkRefused (s : State) (k : Nat) : State :=
  match s.unit? k with
  | some u =>
    match u.refused with
    | some x => if u.phase = .preparing ∧ !u.commitIssued then s.abortUnit k 5 x else s
    | none => s
  | none => s

/-- R120, R122: `UCOMMIT` retires: the run ends, and the unit is Preparing with its result. -/
def commitRun (s : State) (k result : Nat) : State :=
  let s := s.stopRun k
  match s.unit? k with
  | none => s
  | some u => (s.setUnit k { u with phase := .preparing, result := result, finish := some s.stamp }).checkRefused k

/-- R127, R128: a restart cause reaches the Dispatcher. With the budget spent the unit ends with 0x0002,
once the aborts of its runs are acknowledged; otherwise its run is stopped, its exchanges are aborted, and
a Restart Record is written. Log 47 (DEDUCED). -/
def restartUnit (s : State) (k cause : Nat) : State :=
  match s.unit? k with
  | none => s
  | some u =>
    if u.complIssued then s
    else if u.restarts ≥ u.budget then s.abortUnit k 2 cause
    else
      let s := (s.stopRun k).stopPrograms k
      let s := match s.unit? k with
        | some u => s.setUnit k { u with phase := .restarting, closed := true, lastCause := cause, refused := none
                                         commitIssued := false, commitSent := false, finish := none }
        | none => s
      let s := s.sendAborts k
      s.writeRecord [restartBody (unitFlags s u) u.fn u.ring (u.restarts + 1) u.part u.asn cause] (.restart k)
        (s.ring (keyRing k)).mirror

/-- R128 step 4: the Restart Record is durable; the unit is queued again in its ASN position. -/
def restartDurable (s : State) (k : Nat) : State :=
  match s.unit? k with
  | none => s
  | some u =>
    if u.phase = .restarting then
      let s := s.setUnit k { u with phase := .queued, restarts := u.restarts + 1, closed := false }
      ((s.setBit UOW_EVENT UOW_EVENT.RESTART).bump UOW_RESTARTS UOW_RESTARTS.COUNT).meterUnit u true
    else s

/-- Units of a ring, in ASN order. -/
def ringUnits (s : State) (rk : Nat) : List (Nat × WorkUnit) :=
  s.disp.units.filter (fun e => keyRing e.1 == rk)

/-- R93, R132: the unit may start: its ASN is less than 4,096 above the ring's lowest unposted one, and no unit below it
is being restarted. -/
def startable (s : State) (rk : Nat) (u : WorkUnit) : Bool :=
  let us := (s.ringUnits rk).map (·.2)
  us.all (fun v => decide (u.asn < v.asn + 4096) && !(v.phase == .restarting && decide (v.asn < u.asn)))

/-- R22: every unit of lower ASN on the ring has ended, or all its commits are acknowledged.
Log 46 (DEDUCED). -/
def orderOk (s : State) (k : Nat) : Bool :=
  (s.ringUnits (keyRing k)).all (fun e => !decide (e.1 < k) || e.2.complIssued)

/-- R122 step 4: send the commit message of every exchange of a unit. -/
def sendCommit (s : State) (k : Nat) : State :=
  match s.unit? k with
  | none => s
  | some u =>
    if u.phase = .committing ∧ !u.commitSent ∧ !s.withheld (keyRing k) ∧ s.orderOk k then
      let s := s.setUnit k { u with commitSent := true }
      u.exchanges.foldl (fun s x => s.issueUnitStep k x.id x.dev .commit) s
    else s

/-- Send the commits of a ring that the ordering condition of R22 now lets go. -/
def sendCommits (s : State) (rk : Nat) : State :=
  (s.ringUnits rk).foldl (fun s e => s.sendCommit e.1) s

/-- R39, R125: the Commit Record of a unit is durable. A record issued before a stop is void (R132). -/
def commitDurable (s : State) (k : Nat) : State :=
  match s.unit? k with
  | none => s
  | some u =>
    if u.phase = .preparing ∧ u.commitIssued then
      (s.setUnit k { u with phase := .committing }).sendCommits (keyRing k)
    else s

/-- All addresses of a peer, as the devices `ds` join them: those that a device has beside one of `ms` are the peer's.
Log 140 (DEDUCED). -/
def joinMacs (s : State) (ds : List Nat) : Nat → List Nat → List Nat
  | 0, ms => ms
  | n + 1, ms =>
    s.joinMacs ds n ((ds.filter (fun d => (s.peerMacs d).any ms.contains)).foldl (fun l d => l ++ (s.peerMacs d).filter (fun m =>
      !l.contains m)) ms)

/-- R325: enabled devices, one for each target number of a peer. Log 140 (DEDUCED). -/
def reachedTargets (s : State) : List Nat :=
  let devs := (s.regs.map (·.1)).filterMap (fun a =>
    if 0x804000 ≤ a ∧ a < 0x814000 ∧ (a - 0x804000) % 0x40 = 0 ∧ s.bit (CHN_DEV_CFG ((a - 0x804000) / 0x40)) CHN_DEV_CFG.EN then
      some ((a - 0x804000) / 0x40) else none)
  devs.filter (fun d =>
    let same := devs.filter (fun e => s.fld (CHN_DEV_CFG e) CHN_DEV_CFG.TARGET == s.fld (CHN_DEV_CFG d) CHN_DEV_CFG.TARGET)
    let macs := s.joinMacs devs devs.length (s.peerMacs d)
    same.find? (fun e => (s.peerMacs e).any macs.contains) == some d)

/-- R50 step 3, R325: once every replayed Commit has its Durable ack, an abort with originator scope goes to each target,
with the adopted rings as selectors; an Abort holds 16 of them (R318). Log 140 (DEDUCED). -/
def checkOrigin (s : State) (k : Nat) : State :=
  let p := s.partner k
  let mine := s.disp.rings.filter (fun e => match e.2.adopted with
    | some a => a.1 == k
    | none => false)
  let open_ := s.disp.units.any (fun e => e.2.phase == .committing && !e.2.complIssued && mine.any (fun x => x.1 == keyRing e.1))
  if !p.abortDue || open_ then s
  else
    let s := s.setPartner k { p with abortDue := false }
    let sel := (mine.filterMap (fun e => e.2.adopted)).map (fun a => (a.2.1, a.2.2)) |>.filter (fun a => decide (a.2 < 16))
    let groups := (List.range ((sel.length + 15) / 16)).map (fun i => (sel.drop (16 * i)).take 16)
    s.reachedTargets.foldl (fun s d => groups.foldl (fun s g => s.issueUnitStep noneWord (k * 2 ^ 61) d (.abort 2) g) s) s

/-- R129: the abort that covers the earlier runs of an adopted unit is sent and acknowledged everywhere. -/
def originAborted (s : State) (u : WorkUnit) : Bool :=
  !u.foreign || (!(s.partner u.origin).abortDue &&
    s.chn.steps.all (fun t => t.owner != .unit noneWord || t.xid != u.origin * 2 ^ 61))

/-- R122 step 5: every durable acknowledgement is in. -/
def checkCommitted (s : State) (k : Nat) : State :=
  match s.unit? k with
  | some u =>
    if u.phase = .committing ∧ u.commitSent ∧ u.exchanges.all (fun x => x.phase == .committed) then
      let s := (s.endUnit k 0 u.result).sendCommits (keyRing k)
      if u.foreign then s.checkOrigin u.origin else s
    else s
  | none => s

/-- The Completion Records of units are durable: the units are Completed. -/
def complDurable (s : State) (ks : List Nat) : State :=
  ks.foldl (fun s k => match s.unit? k with
    | some u => (s.setUnit k { u with phase := .completed }).sendCommits (keyRing k)
    | none => s) s

/-- A record became durable (R21, R39, R128, R48). -/
def recordDurable (s : State) (w : WriteFor) : State :=
  match w with
  | .acceptance rk asn =>
    let x := s.ring rk
    let s := s.setRing rk { x with fetched := x.fetched.map (fun (d : Fetched) =>
      if d.issued = some asn then { d with durable := true } else d) }
    s.driveRing (rk / 17) (rk % 17)
  | .commit k => s.commitDurable k
  | .restart k => s.restartDurable k
  | .completion ks => s.complDurable ks
  | .carry => s
  | .foreign p n =>
    if s.jnl.foreign.any (fun r => r.partner == p && r.number == n) then
      let s := { s with jnl := { s.jnl with foreign := s.jnl.foreign.map (fun (r : ForeignRec) =>
        if r.partner = p && r.number == n then { r with durable := true } else r) } }
      s.sendSeam (.mirrorAck p n)
    else s

/-- Settle what the dies have completed, and act on every record that became durable, in log order. -/
def settle (s : State) : State :=
  let (ws, s) := s.settleWrites
  let s := if s.jnlOpen then (pumpLog s.jnl.waiting.length s.carryForward).headRegs else s
  ws.foldl (fun s w => s.recordDurable w) s

end State
end Sys2Proof.Machine
end

