-- ==== Sys2Proof/Machine/Recovery.lean ====
section
/-!
DEFINITION. Snapshot generations (R41), the recovery scan (R42, R43), the rebuilding of ASN series and of
units from the records found (R29, R436), replay, clean stops (R44), fencing and takeover (R49 to R51).
-/
namespace Sys2Proof.Machine
open Sys2Proof

/-! ### Records read back from the log -/

/-- One record read from the log: its type, the sequence of its first block, its header fields, its bodies
as they would be written again, and for a Commit Record its exchanges with their devices. -/
structure LogRec where
  kind : Nat
  seq : Nat
  flags : Nat
  fn : Nat
  /-- 16 for the admin ring -/
  ring : Nat
  b5 : Nat
  part : Nat
  asn : Nat
  bodies : List Bytes
  exs : List (Nat × Nat) := []
  deriving DecidableEq, Repr

namespace LogRec
def body (r : LogRec) : Bytes := r.bodies.headD []
def foreign (r : LogRec) : Bool := r.flags / 4 % 2 == 1
def origin (r : LogRec) : Nat := r.flags / 8 % 8
end LogRec

/-- The header fields that every record body begins with (R36 to R40). -/
def headRec (seq : Nat) (b : Bytes) : LogRec :=
  let flags := leAt b 1 1
  { kind := leAt b 0 1, seq := seq, flags := flags, fn := leAt b 2 2 % 2048
    ring := if flags / 2 % 2 = 1 then 16 else leAt b 4 1 % 16
    b5 := leAt b 5 1, part := leAt b 6 2 % 1024, asn := leAt b 8 8, bodies := [b] }

/-- R38: exchanges of a block of a Commit Record, with their devices: three in a first block, four in a
continuation. -/
def blockExs (b : Bytes) : List (Nat × Nat) :=
  let dev := fun i => leAt b (48 + 2 * i) 2 % 1024
  if leAt b 0 1 = 3 then (List.range 3).map (fun i => (leAt b (24 + 8 * i) 8, dev i))
  else (List.range 4).map (fun i => (leAt b (16 + 8 * i) 8, dev i))

/-- A Commit Record being gathered: what is read, its exchange count, the sequence and index of its next
continuation. -/
structure Gather where
  rcd : LogRec
  total : Nat
  next : Nat
  index : Nat

/-- R38, R39: the records of a list of blocks in log order. A Commit Record some block of which is missing
is not durable, and gives no record. -/
def readRecs : List (Nat × Bytes) → Option Gather → List LogRec
  | [], _ => []
  | (q, b) :: t, g =>
    match leAt b 0 1 with
    | 1 => headRec q (b.take 56) :: readRecs t none
    | 5 => headRec q (b.take 56) :: readRecs t none
    | 2 =>
      let s0 := headRec q (b.take 28)
      let b1 := slice b 32 28
      if leAt b1 0 1 = 2 then s0 :: headRec q b1 :: readRecs t none else s0 :: readRecs t none
    | 3 =>
      let r := headRec q (b.take 56)
      let n := leAt b 5 1
      let r := { r with exs := (blockExs b).take n }
      if n = 0 ∨ 64 < n then readRecs t none
      else if n ≤ 3 then r :: readRecs t none
      else readRecs t (some ⟨r, n, nextSeq q, 1⟩)
    | 4 =>
      match g with
      | none => readRecs t none
      | some g =>
        let c := headRec q (b.take 56)
        if q = g.next ∧ c.b5 = g.index ∧ c.asn = g.rcd.asn ∧ c.fn = g.rcd.fn ∧ c.ring = g.rcd.ring then
          let r := { g.rcd with bodies := g.rcd.bodies ++ [b.take 56], exs := (g.rcd.exs ++ blockExs b).take g.total }
          if r.exs.length = g.total then r :: readRecs t none
          else readRecs t (some ⟨r, g.total, nextSeq q, g.index + 1⟩)
        else readRecs t none
    | _ => readRecs t none

/-- R38, R43: Commit Records of which a block is lost at a damaged position, by the header of the block that stands:
the blocks of a record lie at the positions that follow its first. -/
def tornCommits (blocks : List (Nat × Bytes)) (dam : List Nat) : List LogRec :=
  if dam = [] then []
  else blocks.filterMap (fun e =>
    let kind := leAt e.2 0 1
    let i := seqIndex e.1
    let r := headRec e.1 (e.2.take 56)
    let first := if kind = 4 then (i + logBlocks - r.b5) % logBlocks else i
    let n := if kind = 4 then r.b5 + 1 else (r.b5 + 4) / 4
    if (kind = 3 ∨ kind = 4) ∧ ((List.range n).any (fun j => dam.contains ((first + j) % logBlocks))) then some r else none)

/-! ### Snapshot generations -/

/-- R41: a Ring snapshot, bytes 0 to 55. -/
def ringSnap (x : Ring) (enabled : Bool) (fn ring oldest : Nat) : Bytes :=
  let partner := match x.mirror, x.adopted with
    | some k, _ => k
    | none, some a => a.1
    | none, none => 0
  leBytes 1 0x11 ++
  leBytes 1 (x.mirror.isSome.toNat + 2 * enabled.toNat + 4 * x.broken.toNat + 8 * x.fenced.toNat
    + 16 * x.adopted.isSome.toNat + 32 * (partner % 8)) ++
  leBytes 2 fn ++ leBytes 1 (if ring = 16 then 0x80 else ring) ++ leBytes 1 x.size ++ leBytes 2 x.part ++
  leBytes 8 x.nextAsn ++ leBytes 8 (x.posted.getD noneWord) ++ leBytes 8 x.floor ++ leBytes 8 oldest ++ zeros 16

/-- R41: the header, bytes 0 to 55. -/
def snapHeader (clean : Bool) (count head tb : Nat) : Bytes :=
  leBytes 1 0x10 ++ leBytes 1 clean.toNat ++ leBytes 2 0 ++ leBytes 4 count ++ leBytes 8 head ++ leBytes 8 tb
    ++ zeros 32

namespace State

/-- Sequence of a ring's oldest live record, or the head where it has none. -/
def ringOldest (s : State) (rk : Nat) : Nat :=
  ((s.jnl.live.filter (fun r => keyRing r.unit == rk)).foldl (fun (m : Option Nat) r => match m with
    | none => some r.seq
    | some q => some (if seqLinear r.seq < seqLinear q then r.seq else q)) none).getD s.jnl.head

/-- R41: the Ring snapshots of every series that exists, in ring order. An adopted series with no local ring
carries its origin's function and ring. -/
def ringSnaps (s : State) : List Bytes :=
  (s.disp.rings.filter (fun e => e.2.exists_)).map (fun e =>
    let f := e.1 / 17
    let r := e.1 % 17
    let en := f < 1025 && s.sqEnabled f r
    ringSnap e.2 en (f % 1025) r (s.ringOldest e.1))

/-- R30: count the writes of `n` blocks of a generation on the physical rows of its slot. -/
def wearMeta (s : State) (d n first : Nat) : State :=
  let x := s.die d
  let s := s.setDie d { x with rowWrites := (List.range ((n + 15) / 16)).foldl (fun t i =>
    let row := x.rowMap.get (first + i) (first + i)
    t.set 0 row (t.get 0 row + min 16 (n - 16 * i))) x.rowWrites }
  s.wearRegs d

/-- R46: every 65,536 generations the physical rows behind the slot that is not current change places with
those of as many free log rows: here the rows that follow the 1,024 after the head, while nothing live lies
there. Log 48 (DEDUCED). -/
def wearExchange (s : State) (first : Nat) : State :=
  let rows := logBlocks / 16
  let head := seqIndex s.jnl.head / 16
  let ahead := (seqIndex (s.oldestLive.getD s.jnl.head) / 16 + rows - head) % rows
  if 0 < ahead ∧ ahead < 1024 + 16384 then s
  else
    [0, 1].foldl (fun s d =>
      let x := s.die d
      s.setDie d { x with rowMap := (List.range 16384).foldl (fun t i =>
        let a := first + i
        let b := 32768 + (head + 1024 + i) % rows
        (t.set a a (x.rowMap.get b b)).set b b (x.rowMap.get a a)) x.rowMap }) s

/-- R41: write one snapshot generation, into slot A where its number is even and into B where it is odd. It
is durable in every die in service when the command ends. Log 44 (DEDUCED). -/
def writeGeneration (s : State) (clean : Bool) : State :=
  let g := s.jnl.generation + 1
  let snaps := s.ringSnaps
  let blocks := (snapHeader clean snaps.length s.jnl.head s.tb :: snaps).map (fun b => closeBlock b g)
  let first := if g % 2 = 0 then 0 else 16384
  let put := fun (s : State) (d : Nat) =>
    if s.dieOk d then
      let x := s.die d
      (s.setDie d (if g % 2 = 0 then { x with genA := blocks } else { x with genB := blocks })).wearMeta d blocks.length first
    else s
  let s := put (put s 0) 1
  let s := { s with jnl := { s.jnl with generation := g } }
  if g % 65536 = 0 then s.wearExchange (16384 - first) else s

/-- R41: when the next generation is due. Log 44 (DEDUCED). -/
def snapPeriod (s : State) : Nat := ms (s.fld JNL_CFG JNL_CFG.SNAP_MS)

/-! ### Clean stops -/

/-- R44 steps 1 to 4: the Dispatcher stops fetching and starts no new Acceptance Record; the writes in
flight complete, the Completion Records already queued are written, and a generation with the clean-stop
flag; then the journal interface locks and STATE reads stopped. Before the scan has run, the journal writes
nothing (R439). Log 49 (DEDUCED). -/
def cleanStop (s : State) : State :=
  let s := { s with disp := { s.disp with stopped := true } }
  if s.fld JNL_STATUS JNL_STATUS.STATE = 3 ∨ s.fld JNL_STATUS JNL_STATUS.STATE = 2 then
    let s := s.setFld JNL_STATUS JNL_STATUS.STATE 4
    let s := { s with jnl := { s.jnl with waiting := s.jnl.waiting.filter (fun r => match r.what with
      | .completion _ => true
      | _ => false) } }
    let n := s.jnl.waiting.length
    let s := (s.flushWrites).settle
    let s := (List.range (n + 1)).foldl (fun s _ => (s.flushWrites).settle) s
    let s := s.writeGeneration true
    { s.setFld JNL_STATUS JNL_STATUS.STATE 5 with jnl.snapAt := none }
  else s

/-! ### The recovery scan -/

/-- What the scan decides about one log position. -/
inductive Settled where
  | stands (b : Bytes)
  /-- the copy in die `d` is rewritten from the other -/
  | rewrite (d : Nat) (b : Bytes)
  | void
  | damaged
  deriving DecidableEq, Repr

/-- R42: the copies of a position in the dies in service; an index never written in a die holds none. -/
def settleCopies (c0 c1 : Bytes) (window : Bool) : Settled :=
  match blockOk c0, blockOk c1 with
  | true, true =>
    if c0 = c1 then .stands c0
    else if window then .void
    else if blockEpoch c0 = blockEpoch c1 then .damaged
    else if blockEpoch c0 < blockEpoch c1 then .rewrite 0 c1
    else .rewrite 1 c0
  | true, false => .rewrite 1 c0
  | false, true => .rewrite 0 c1
  | false, false => if window then .void else .damaged

/-- Copy of a position for the scan: with one die failed, the surviving copy stands for both (R47).
Log 45 (DEDUCED). -/
def scanCopies (s : State) (i : Nat) : Bytes × Bytes :=
  let c0 := s.jnl.die0.log.get [] i
  let c1 := s.jnl.die1.log.get [] i
  if !s.dieOk 0 then (c1, c1) else if !s.dieOk 1 then (c0, c0) else (c0, c1)

/-- Indices of the log that either die in service holds, in index order. -/
def logIndices (s : State) : List Nat :=
  let l0 := if s.dieOk 0 then s.jnl.die0.log else []
  let l1 := if s.dieOk 1 then s.jnl.die1.log else []
  ((l1.foldl (fun (t : Tbl Bytes) e => Tbl.ins t e.1 e.2) l0)).map (·.1)

/-- R42: the head of the log: the highest position of the highest epoch that any passing block holds. -/
def scanHead (s : State) : Option (Nat × Nat) :=
  (s.logIndices).foldl (fun (m : Option (Nat × Nat)) i =>
    let (c0, c1) := s.scanCopies i
    [c0, c1].foldl (fun (m : Option (Nat × Nat)) b =>
      if blockOk b then
        match m with
        | none => some (blockEpoch b, i)
        | some (e, j) => if e < blockEpoch b ∨ (e = blockEpoch b ∧ j < i) then some (blockEpoch b, i) else m
      else m) m) none

/-- R42: position `i` lies within 31 positions of the head. Log 45 (DEDUCED). -/
def inWindow (head i : Nat) : Bool :=
  let d := (i + logBlocks - head) % logBlocks
  decide (d ≤ 31) || decide (logBlocks - d ≤ 31)

/-- A position becomes void in both dies. Log 45 (DEDUCED). -/
def voidPosition (s : State) (i : Nat) : State :=
  { s with jnl := { s.jnl with
    die0 := { s.jnl.die0 with log := s.jnl.die0.log.del i }
    die1 := { s.jnl.die1 with log := s.jnl.die1.log.del i } } }

/-- R42: settle every position; the blocks that stand, with their sequences in log order from the position
after the head, and the indices found damaged. Log 45 (DEDUCED). -/
def settlePositions (s : State) (head : Nat) : List (Nat × Bytes) × List Nat × State :=
  let idx := s.logIndices
  let order := (idx.filter (fun i => decide (head < i))) ++ (idx.filter (fun i => decide (i ≤ head)))
  let (bs, dam, s) := order.foldl (fun (p : List (Nat × Bytes) × List Nat × State) i =>
    let (bs, dam, s) := p
    let (c0, c1) := s.scanCopies i
    match settleCopies c0 c1 (inWindow head i) with
    | .stands b => ((mkSeq (blockEpoch b) i, b) :: bs, dam, s)
    | .rewrite d b =>
      let s := if s.dieOk d then (s.storeBlock d i b).recomputedBlock d (logRow i) else s
      ((mkSeq (blockEpoch b) i, b) :: bs, dam, s)
    | .void => (bs, dam, s.voidPosition i)
    | .damaged => (bs, i :: dam, s)) ([], [], s)
  (bs.reverse, dam.reverse, s)

/-- R47: a die of whose blocks more than 1% needed recomputation in the scan is declared failed. -/
def scanDieFail (s0 s : State) : State :=
  [0, 1].foldl (fun s d =>
    let n := s.fld (JNL_DIE_RECOMP d) JNL_DIE_RECOMP.COUNT - s0.fld (JNL_DIE_RECOMP d) JNL_DIE_RECOMP.COUNT
    if s.dieOk d ∧ logBlocks < 100 * n then s.failDie d else s) s

/-- A generation is valid where its header and its ring records all pass and carry one number. -/
def validGen (g : List Bytes) : Option (Nat × List Bytes) :=
  match g with
  | [] => none
  | h :: t =>
    if blockOk h ∧ leAt h 0 1 = 0x10 ∧ leAt h 4 4 ≤ t.length ∧
        (t.take (leAt h 4 4)).all (fun b => blockOk b && leAt b 0 1 == 0x11 && blockEpoch b == blockEpoch h) then
      some (blockEpoch h, h :: t.take (leAt h 4 4))
    else none

/-- The newest valid generation of the dies in service. -/
def newestGen (s : State) : Option (Nat × List Bytes) :=
  let gs := (if s.dieOk 0 then [s.jnl.die0.genA, s.jnl.die0.genB] else []) ++
    (if s.dieOk 1 then [s.jnl.die1.genA, s.jnl.die1.genB] else [])
  (gs.filterMap validGen).foldl (fun (m : Option (Nat × List Bytes)) g => match m with
    | none => some g
    | some h => if h.1 < g.1 then some g else m) none

/-! ### Rebuilding a series -/

/-- What the records of one series give: the ring, its units by ASN, the log indices to void, and its
live records. -/
structure Rebuilt where
  ring : Ring
  units : List (Nat × WorkUnit)
  voids : List Nat
  live : List LiveRec

/-- The newest record of a kind, by ASN. -/
def newestBy (rs : List LogRec) (kind : Nat) : Tbl LogRec :=
  (rs.filter (fun r => r.kind == kind)).foldl (fun (t : Tbl LogRec) r => Tbl.ins t r.asn r) []

/-- R40: the Restart Record with the highest number, by ASN: one carried forward (R34) can stand behind a later one. -/
def lastRestart (rs : List LogRec) : Tbl LogRec :=
  (rs.filter (fun r => r.kind == 5)).foldl (fun (t : Tbl LogRec) r =>
    match t.find? (fun e => e.1 == r.asn) with
    | some e => if e.2.b5 ≤ r.b5 then Tbl.ins t r.asn r else t
    | none => Tbl.ins t r.asn r) []

def findRec (t : Tbl LogRec) (asn : Nat) : Option LogRec := (t.find? (fun e => e.1 == asn)).map (·.2)

/-- R42: follow the Acceptance Records of a series from `next` on: the Next ASN reached, and the ASNs that
follow a gap. -/
def followAsns : List Nat → Nat → Nat × List Nat
  | [], n => (n, [])
  | a :: t, n => if a < n then followAsns t n else if a = n then followAsns t (n + 1) else (n, a :: t)

/-- R29: lowest ASN from which every descriptor up to `next` has its Acceptance Record in the log, and its
Completion Record too where it is posted. Log 48 (DEDUCED). -/
def dedupFloor (acc comp : Tbl LogRec) (posted : Option Nat) : Nat → Nat → Nat
  | 0, a => a
  | fuel + 1, a =>
    if a = 0 then 0
    else if (findRec acc (a - 1)).isSome &&
        ((findRec comp (a - 1)).isSome || (match posted with
          | none => true
          | some p => decide (p < a - 1))) then
      dedupFloor acc comp posted fuel (a - 1)
    else a

/-- The completion that a Completion Record holds (R37). -/
def recCompl (r : LogRec) : Compl := ⟨leAt r.body 6 2, leAt r.body 16 8, leAt r.body 24 4, r.b5⟩

/-- R436: the unit that the records of one ASN give: Completed, Committing, or to be restarted (Queued).
Log 47 (DEDUCED). -/
def unitFrom (acc comp com res : Tbl LogRec) (asn : Nat) : Option WorkUnit :=
  match findRec acc asn with
  | none => none
  | some a =>
    let rs := findRec res asn
    let u : WorkUnit := {
      fn := a.fn, ring := a.ring, asn := asn, tag := leAt a.body 16 8, args := slice a.body 24 32
      budget := a.b5 % 8, part := a.part, origin := a.origin, foreign := a.foreign
      restarts := (rs.map (·.b5)).getD 0, lastCause := (rs.map (fun r => leAt r.body 16 1)).getD 0 }
    match findRec comp asn, findRec com asn with
    | some c, _ =>
      let x := recCompl c
      some { u with phase := .completed, status := x.status, result := x.result, finish := some x.finish
                    restarts := x.restarts, complIssued := true, closed := true }
    | none, some c =>
      some { u with phase := .committing, closed := true, commitIssued := true, result := leAt c.body 16 8
                    exchanges := c.exs.map (fun e => Exchange.mk e.1 e.2 .held) }
    | none, none => some u

/-- R29, R42, R43, R436 step 1: rebuild one series at ring key `rk` from its records in log order. `next`,
`posted`, `first` and `floor` come from its Ring snapshot; `win` says whether an index lies in the window;
`dam` holds the damaged indices, `torn` the ASNs whose Commit Record lost a block to one. A live unit's records lie at
or after the ring's oldest live record; older ones of its ASN are of a series purged before. Of records that follow a
gap, those inside the window are voided and those outside it are kept, each as R42 has it, and the kept ones mark the
ring broken. Log 48 (DEDUCED). -/
def rebuild (rk : Nat) (x : Ring) (rs : List LogRec) (next : Nat) (posted : Option Nat) (first floor : Nat)
    (win : Nat → Bool) (dam : List Nat) (torn : List Nat) : Rebuilt :=
  let acc := newestBy rs 1
  let comp := newestBy rs 2
  let young := rs.filter (fun r => decide (seqLinear first ≤ seqLinear r.seq))
  let done := newestBy young 2
  let com := newestBy young 3
  let (n, after) := followAsns (acc.map (·.1)) next
  let gone := after.filter (fun a => ((findRec acc a).map (fun r => win (seqIndex r.seq))).getD false)
  let kept := after.filter (fun a => !gone.contains a)
  let n := match kept.getLast? with
    | some a => a + 1
    | none => n
  let lowest := max ((posted.map (· + 1)).getD 0) floor
  let lost := decide (lowest < next) && dam != [] &&
    (dam.contains (seqIndex first) || (List.range (next - lowest)).any (fun i => (findRec acc (lowest + i)).isNone))
  let isLive := fun (asn : Nat) =>
    (match posted with
      | none => true
      | some p => decide (p < asn)) && decide (asn < n) && !gone.contains asn &&
    ((findRec acc asn).map (fun r => decide (seqLinear first ≤ seqLinear r.seq))).getD false
  let asns := (acc.map (·.1)).filter isLive
  let units := asns.filterMap (fun a => (unitFrom acc done com (lastRestart young) a).map (fun u => (a, u)))
  let fl := max (max (dedupFloor acc comp posted 65536 n) floor) (n - 65536)
  let window := ((acc.map (·.1)).filter (fun a => decide (fl ≤ a) && decide (a < n) && !gone.contains a)).filterMap (fun a =>
    (findRec acc a).map (fun r => WinEntry.mk a (leAt r.body 16 8)
      (if isLive a then none else (findRec comp a).map recCompl)))
  { ring := { x with
      exists_ := true, nextAsn := n, floor := fl, posted := posted, window := window
      broken := x.broken || kept != [] || lost || torn.any (fun a => isLive a && (findRec com a).isNone && (findRec done a).isNone)
      postQ := [], postOld := units.map (fun e => .unit e.1) }
    units := units.map (fun e => (unitKey rk e.1, e.2))
    voids := gone.filterMap (fun a => (findRec acc a).map (fun r => seqIndex r.seq))
    live := (young.filter (fun r => isLive r.asn)).map (fun r => { unit := unitKey rk r.asn, seq := r.seq, blocks := r.bodies }) }

/-- Ring state that a start keeps of a series beside what the log and the snapshot give: the partner a
series is adopted by or from. Log 48 (DEDUCED). -/
def keptRing (x : Ring) : Ring := { adopted := x.adopted, adoptedAway := x.adoptedAway }

/-- The ring key of a Ring snapshot: a local ring, or an adopted series without one. -/
def snapKey (s : State) (b : Bytes) : Nat :=
  let f := leAt b 2 2 % 2048
  let r := if leAt b 4 1 / 128 = 1 then 16 else leAt b 4 1 % 16
  let k := leAt b 1 1 / 32
  let own := ringOf f r
  if leAt b 1 1 / 16 % 2 = 1 && (s.ring own).adopted.isNone then adoptKey k f r else own

/-- The ring that a Ring snapshot describes (R41). -/
def snapRing (x : Ring) (b : Bytes) : Ring :=
  let fl := leAt b 1 1
  { keptRing x with
    exists_ := true, part := leAt b 6 2 % 1024, size := leAt b 5 1
    mirror := if fl % 2 = 1 then some (fl / 32) else none
    broken := fl / 4 % 2 == 1, fenced := fl / 8 % 2 == 1 }

/-- Ring key that a record belongs to: for a partner's record, the ring bound to the adopted series. -/
def recKey (s : State) (r : LogRec) : Option Nat :=
  if r.foreign then
    (s.disp.rings.find? (fun e => e.2.adopted == some (r.origin, r.fn, r.ring))).map (·.1)
  else some (ringOf r.fn r.ring)

/-- R42: of the records of a series with a snapshot, those that belong to it: a record of an ASN that the snapshot's Next
ASN has not reached counts only after the generation's head, since an older one is of a series purged before. -/
def sinceSnap (head next : Nat) (rs : List LogRec) : List LogRec :=
  rs.filter (fun r => decide (r.asn < next) || decide (seqLinear head ≤ seqLinear r.seq))

/-- R436 step 1: every series from the generation taken and the records found. A partner's records held as a mirror and
not taken over stay live (R34). -/
def rebuildAll (s : State) (gen : Option (Nat × List Bytes)) (recs torn : List LogRec) (win : Nat → Bool) (dam : List Nat) :
    State :=
  let head := ((gen.map (fun g => leAt (g.2.headD []) 8 8)).getD 0)
  let snaps := ((gen.map (fun g => g.2.drop 1)).getD []).map (fun b => (s.snapKey b, b))
  let keyed := recs.filterMap (fun r => (s.recKey r).map (fun k => (k, r)))
  let tornOf := fun (k : Nat) => (torn.filter (fun r => s.recKey r == some k)).map (·.asn)
  let fresh := ((keyed.filter (fun e => decide (seqLinear head ≤ seqLinear e.2.seq) && e.2.kind == 1)).map (·.1)).eraseDups.filter
    (fun k => !(snaps.any (fun p => p.1 == k)))
  let outs := (snaps.map (fun p =>
      let b := p.2
      let posted := leAt b 16 8
      rebuild p.1 (snapRing (s.ring p.1) b) (sinceSnap head (leAt b 8 8) ((keyed.filter (fun e => e.1 == p.1)).map (·.2)))
        (leAt b 8 8) (if posted = noneWord then none else some posted) (leAt b 32 8) (leAt b 24 8) win dam (tornOf p.1)
        |> fun o => (p.1, o))) ++
    (fresh.map (fun k =>
      let rs := (keyed.filter (fun e => e.1 == k && decide (seqLinear head ≤ seqLinear e.2.seq))).map (·.2)
      let part := ((rs.head?).map (·.part)).getD 0
      (k, rebuild k { keptRing (s.ring k) with part := part } rs 0 none head 0 win dam (tornOf k))))
  let held := s.jnl.live.filter (fun r => s.jnl.foreign.any (fun x => r.unit == foreignKey x.partner x.number))
  let s := { s with disp := { s.disp with rings := [], units := [] }, jnl := { s.jnl with live := held } }
  outs.foldl (fun s o =>
    let s := s.setRing o.1 o.2.ring
    let s := { s with
      disp := { s.disp with units := o.2.units.foldl (fun (t : Tbl WorkUnit) e => Tbl.ins t e.1 e.2) s.disp.units }
      jnl := { s.jnl with live := s.jnl.live ++ o.2.live } }
    o.2.voids.foldl (fun s i => s.voidPosition i) s) s

/-- R53: the journal's own registers after a scan. Log 44 (DEDUCED). -/
def scanRegs (s : State) (clean damaged : Bool) : State :=
  let s := [0, 1].foldl (fun s d =>
    let x := s.die d
    let s := s.setFld (JNL_DIE_ROWS d) JNL_DIE_ROWS.SPARE_LEFT (21504 - x.sparesUsed)
    let s := s.setFld (JNL_DIE_ROWS d) JNL_DIE_ROWS.ROWS_RETIRED x.sparesUsed
    let s := s.setFld (JNL_DIE_ROWS d) JNL_DIE_ROWS.ROWS_WEAK
      ((x.recomputed.filter (fun e => (e.2.filter (fun t => decide (s.tb < t + sec 86400))).length == 1)).length)
    s.wearRegs d) s
  let s := s.setBit JNL_STATUS JNL_STATUS.DIE0_OK (s.dieOk 0)
  let s := s.setBit JNL_STATUS JNL_STATUS.DIE1_OK (s.dieOk 1)
  let s := s.setBit JNL_STATUS JNL_STATUS.SINGLE_DIE (s.dieOk 0 != s.dieOk 1)
  let s := s.setBit JNL_STATUS JNL_STATUS.CLEAN_START clean
  let s := s.setBit JNL_STATUS JNL_STATUS.DAMAGED damaged
  let adopted := s.disp.rings.filterMap (fun e => e.2.adopted.map (·.1))
  let fenced := s.disp.rings.filterMap (fun e => if e.2.fenced then e.2.mirror else none)
  let s := adopted.foldl (fun s k => s.setBit JNL_MIRROR ⟨16 + k % 8, 1⟩) s
  let s := fenced.foldl (fun s k => s.setBit JNL_MIRROR ⟨8 + k % 8, 1⟩) s
  s.headRegs

/-- R42, R43: the recovery scan. -/
def scan (s : State) : State :=
  let s := s.setFld JNL_STATUS JNL_STATUS.STATE 1
  let s := { s with jnl := { s.jnl with
    out := [], waiting := [], unacked := [], foreign := s.jnl.foreign.filter (fun r => r.durable) } }
  let gen : Option (Nat × List Bytes) := s.newestGen
  let number := match gen with
    | some g => g.1
    | none => s.jnl.generation
  let s := { s with jnl := { s.jnl with generation := number } }
  let clean := (gen.map (fun g => leAt (g.2.headD []) 1 1 % 2 == 1)).getD false
  match s.scanHead with
  | none =>
    let s := { s with jnl := { s.jnl with head := mkSeq 1 0 } }
    let s := s.rebuildAll gen [] [] (fun _ => false) []
    (s.scanRegs clean false).setFld JNL_STATUS JNL_STATUS.STATE 2
  | some (e, h) =>
    let s0 := s
    let (blocks, dam, s) := s.settlePositions h
    let s := scanDieFail s0 s
    let s := { s with jnl := { s.jnl with head := nextSeq (mkSeq e h) } }
    let s := s.rebuildAll gen (readRecs blocks none) (tornCommits blocks dam) (inWindow h) dam
    let new : List Nat := dam.filter (fun i => !s.jnl.damaged.contains i)
    let s := { s with jnl := { s.jnl with damaged := s.jnl.damaged ++ new } }
    let s := new.foldl (fun (s : State) _ => (s.setBit JNL_EVENT JNL_EVENT.DAMAGED).logEvent 1 blockJnl 3 0) s
    (s.scanRegs clean (dam != [])).setFld JNL_STATUS JNL_STATUS.STATE 2

/-! ### Replay -/

/-- R436 steps 3 and 4 for one unit; `cause` is 3 after a module reset and 4 after a power-on.
Log 47 (DEDUCED). -/
def replayUnit (s : State) (k cause : Nat) : State :=
  match s.unit? k with
  | none => s
  | some u =>
    let x := s.ring (keyRing k)
    if x.broken ∨ x.adoptedAway ∨ u.ring = 16 then s
    else match u.phase with
      | .committing => s.sendCommit k
      | .queued =>
        let s := s.sendRunAborts k (u.restarts + 1)
        match s.unit? k with
        | none => s
        | some u =>
          if u.restarts ≥ u.budget then (s.setUnit k { u with phase := .aborting }).endUnit k 2 cause
          else
            let u := { u with phase := .restarting, closed := true, lastCause := cause }
            (s.setUnit k u).writeRecord
              [restartBody (unitFlags s u) u.fn u.ring (u.restarts + 1) u.part u.asn cause] (.restart k) x.mirror
      | _ => s

/-- R436: replay every unit, in ring and ASN order. -/
def replayUnits (s : State) (cause : Nat) : State :=
  (s.disp.units.map (·.1)).foldl (fun s k => s.replayUnit k cause) s

/-! ### Fencing and takeover -/

/-- Rings mirrored to partner `k`, by key. -/
def mirroredTo (s : State) (k : Nat) : List Nat :=
  (s.disp.rings.filter (fun e => e.2.mirror == some k && !e.2.adoptedAway)).map (·.1)

/-- The status registers and records of a local ring follow its flags. -/
def showRing (s : State) (rk : Nat) : State :=
  let f := rk / 17
  let r := rk % 17
  if f < 1025 then
    let x := s.ring rk
    let st := if x.adoptedAway then 7 else if x.fenced then 6 else if x.broken then 5
      else if !s.sqEnabled f r then 0 else if x.draining then 3 else if x.formatHold then 4
      else if x.sleeping then 2 else 1
    (s.setFld (RING_SQ_STATUS f r) RING_SQ_STATUS.STATE st).writeSq f r
  else s

/-- R49: fence every ring mirrored to partner `k`. Log 50 (DEDUCED). -/
def fence (s : State) (k : Nat) : State :=
  let s := ((s.mirroredTo k).filter (fun rk => !(s.ring rk).fenced)).foldl (fun s rk => ((s.setRing rk { s.ring rk with fenced := true }).holdCommits rk).showRing rk) s
  let s := (s.setBit JNL_MIRROR ⟨8 + k, 1⟩).setBit JNL_MIRROR ⟨k, 1⟩ false
  s.setBit JNL_EVENT JNL_EVENT.MIRROR_LOST

/-- R51: contact with partner `k` has returned. What it has not acknowledged goes out to it again, unless it adopted the
rings. Log 50 (DEDUCED). -/
def contact (s : State) (k : Nat) (adopted : Bool) : State :=
  let rks := (s.mirroredTo k).filter (fun rk => (s.ring rk).fenced)
  let s := s.setBit JNL_MIRROR ⟨8 + k, 1⟩ false
  let s := if adopted then { s with jnl := { s.jnl with unacked := s.jnl.unacked.filter (fun x => x.partner != k) } }
    else s.resendMirror k
  rks.foldl (fun s rk =>
    if adopted then (s.setRing rk { s.ring rk with fenced := false, adoptedAway := true }).showRing rk
    else
      let s := (s.setRing rk { s.ring rk with fenced := false }).showRing rk
      ((s.driveRing (rk / 17) (rk % 17)).freeCommits rk).sendCommits rk) s

/-- R34, R50: the records held of partner `k` become records of the adopted series' own units, where those live on; a
record of the partner that is not yet durable is discarded. -/
def ownForeign (s : State) (k : Nat) : State :=
  let mine := fun (x : LiveRec) => s.jnl.foreign.any (fun r => r.partner == k && x.unit == foreignKey k r.number)
  let live := s.jnl.live.flatMap (fun (x : LiveRec) =>
    if !mine x then [x]
    else
      let one := fun (b : Bytes) (bs : List Bytes) =>
        let h := headRec 0 b
        let u := unitKey (adoptKey k h.fn h.ring) h.asn
        if (s.unit? u).isSome then [LiveRec.mk u x.seq bs] else []
      if isPair x.blocks then x.blocks.flatMap (fun b => one b [b]) else one (x.blocks.headD []) x.blocks)
  { s with jnl := { s.jnl with live := live, foreign := s.jnl.foreign.filter (fun r => r.partner != k) } }

/-- R50: take over the series that partner `k` mirrors to this module. Its units are rebuilt from the
records held; Committing units replay their commits, every other accepted unit restarts with cause 0x05. A snapshot
generation makes the adoption durable. Log 44 (DEDUCED). -/
def takeover (s : State) (k : Nat) : State :=
  let p := s.partner k
  let s := s.setPartner k { p with adopted := true }
  let s := (s.setBit JNL_EVENT JNL_EVENT.TAKEOVER).setBit JNL_MIRROR ⟨16 + k, 1⟩
  let held := s.jnl.foreign.filter (fun r => r.partner == k && r.durable)
  let recs := held.flatMap (fun r =>
    if isPair r.blocks then r.blocks.map (fun b => headRec r.number b) |>.filter (fun (x : LogRec) => x.kind == 2)
    else readRecs (r.blocks.zipIdx.map (fun b => (mkSeq 1 b.2, padTo 64 b.1))) none)
  let series := (recs.map (fun r => (r.fn, r.ring))).eraseDups
  let s := series.foldl (fun s fr =>
    let rk := adoptKey k fr.1 fr.2
    let mine := recs.filter (fun r => r.fn == fr.1 && r.ring == fr.2)
    let posted := (held.filter (fun r => let h := headRec 0 (r.blocks.headD []); h.fn == fr.1 && h.ring == fr.2)).foldl
      (fun (m : Option Nat) r => match r.posted, m with
        | some a, some b => some (max a b)
        | some a, none => some a
        | none, m => m) none
    let first := ((newestBy mine 1).head?.map (·.1)).getD 0
    let o := rebuild rk { part := ((mine.head?).map (·.part)).getD 0, adopted := some (k, fr.1, fr.2) } mine
      first posted 0 0 (fun _ => true) [] []
    let s := s.setRing rk o.ring
    { s with disp := { s.disp with units := o.units.foldl (fun (t : Tbl WorkUnit) e => Tbl.ins t e.1 e.2) s.disp.units } }) s
  let s := (s.ownForeign k).writeGeneration false
  let keys := (s.disp.units.map (·.1)).filter (fun q =>
    match (s.ring (keyRing q)).adopted with
    | some a => a.1 == k
    | none => false)
  let s := keys.foldl (fun s q => match s.unit? q with
    | some u => if u.phase = .committing then s.sendCommit q else s
    | none => s) s
  let s := s.setPartner k { s.partner k with abortDue := true }
  let s := s.checkOrigin k
  keys.foldl (fun s q => match s.unit? q with
    | some u => if u.phase = .queued then s.restartUnit q 5 else s
    | none => s) s

end State
end Sys2Proof.Machine
end

