-- ==== Sys2Proof/Machine/RingOps.lean ====
section
/-!
DEFINITION. Shared operations on rings: wakes and polls (R88, R89), enabling, draining and disabling (R92,
R103, R106), the resets of a function's ring page (R102), and the Resync Summary (R107 to R110).
-/
namespace Sys2Proof.Machine
open Sys2Proof

/-- R345: what `UOW_PARTn_STATUS.STATE` reads for a state of the partition's record. -/
def partUow : Nat → Nat
  | 1 => 4
  | 2 => 4
  | 3 => 3
  | 4 => 1
  | 5 => 2
  | 6 => 2
  | _ => 0

namespace State

/-! ### Wakes and polls -/

/-- R89: the poll interval of a function. -/
def pollPeriod (s : State) (f : Nat) : Nat := us (s.fld (RING_POLL f) RING_POLL.INTERVAL_US)

/-- The poll interval starts anew (R90). -/
def restartPoll (s : State) (f : Nat) : State := s.setFn f { s.fn f with pollAt := some (s.tb + s.pollPeriod f) }

def enabledSqs (s : State) (f : Nat) : List Nat := (List.range 17).filter (fun r => s.sqEnabled f r)

/-- R85, R89: a CQ head count read for a completion ring; an older count, or one past the posted index, does
not move it. -/
def newHead (s : State) (f c h : Nat) : State :=
  let ck := ringOf f c
  let q := s.cq ck
  if s.cqEnabled f c ∧ (h + 2 ^ 32 - q.head) % 2 ^ 32 ≤ (q.posted + 2 ^ 32 - q.head) % 2 ^ 32 then
    s.setCq ck { q with head := h }
  else s

/-- R89: a ring whose tail has not changed for SLEEP_AFTER polls sleeps; the Dispatcher then reads the
Doorbell Area once more, behind the write of SLEEPING: where that waits for a translation, the read follows it
(`atsResume`). -/
def sleepRing (s : State) (f r : Nat) : State :=
  let x := s.ring (ringOf f r)
  let n := s.fld (RING_POLL f) RING_POLL.SLEEP_AFTER
  if n ≠ 0 ∧ n ≤ x.unchanged ∧ !x.sleeping then
    let s := (s.setRing (ringOf f r) { x with sleeping := true }).showRing (ringOf f r)
    if s.hep.owed.contains (f, r) then s else s.readDoorbell f false
  else s

/-- R85, R89: a Doorbell Area has been read: CQ heads, then tails, then fetching; on a poll, idle rings go
to sleep. A function whose closing read wakes a ring is polled again. -/
def doorbellData (s : State) (f : Nat) (poll : Bool) (b : Bytes) : State :=
  let s := (List.range 17).foldl (fun s c => s.newHead f c (leAt b (if c = 16 then 0xC0 else 0x80 + 4 * c) 4)) s
  let s := (s.enabledSqs f).foldl (fun s r => s.newTail f r (leAt b (if r = 16 then 0x40 else 4 * r) 4) poll) s
  let s := if (s.fn f).pollAt.isNone ∧ (s.enabledSqs f).any (fun r => !(s.ring (ringOf f r)).sleeping) then s.restartPoll f else s
  let s := if poll then (s.enabledSqs f).foldl (fun s r => s.sleepRing f r) s else s
  (s.enabledSqs f).foldl (fun s r => s.driveRing f r) s

/-- R91: descriptors have arrived for a ring, from count `at_`. -/
def descriptorData (s : State) (f r at_ n : Nat) (b : Bytes) : State :=
  let rk := ringOf f r
  let x := s.ring rk
  let ds := (List.range n).map (fun i => Fetched.mk ((at_ + i) % 2 ^ 32) (padTo 64 (slice b (64 * i) 64)) none false none 0)
  (s.setRing rk { x with fetched := x.fetched ++ ds }).driveRing f r

/-- A descriptor read brought nothing: the ring fetches again from its first slot not fetched.
Log 94 (DEDUCED). -/
def unfetch (s : State) (f r : Nat) : State :=
  let rk := ringOf f r
  let x := s.ring rk
  s.setRing rk { x with fetchTo := (x.accepted + (x.fetched.length - x.stale)) % 2 ^ 32 }

/-- Forget a read and what it would have brought. Log 94 (DEDUCED). -/
def dropRead (s : State) (q : ReadReq) : State :=
  let s := { s with hep := { s.hep with reads := s.hep.reads.filter (fun x => x.tag != q.tag) } }
  match q.kind with
  | .descriptors r _ _ => if q.discard then s else s.unfetch q.fn r
  | _ => s

/-! ### Enabling and draining -/

/-- R101, R96: tables of the dedup pool that no series holds. -/
def dedupFree (s : State) : Nat :=
  s.fld RING_DEDUP_POOL RING_DEDUP_POOL.TOTAL
    - (s.disp.rings.filter (fun e => e.2.exists_ && decide (e.1 < 17425))).length

/-- R134: the function that owns partition `p`. -/
def partFunc (s : State) (p : Nat) : Nat := s.fld (UOW_PART_CFG p) UOW_PART_CFG.FUNC

/-- R58, R106: rings a function may enable. -/
def ringCount (s : State) (f : Nat) : Nat := if f = 0 then 16 else (s.fn f).ringCount

/-- R103: the first condition behind the ERR codes that fails, or 0. Log 55 (DEDUCED). -/
def sqErr (s : State) (f r : Nat) : Nat :=
  let cfg := s.reg (RING_SQ_CFG f r)
  let size := getFld cfg RING_SQ_CFG.SIZE
  let part := getFld cfg RING_SQ_CFG.PARTITION
  let x := s.ring (ringOf f r)
  if size < 6 ∨ 16 < size then 1
  else if r ≠ 16 ∧ s.partFunc part ≠ f then 2
  else if !s.cqEnabled f (s.cqOf f r) then 3
  else if !x.exists_ ∧ s.dedupFree = 0 then 4
  else if r ≠ 16 ∧ s.ringCount f ≤ r then 5
  else if s.fld (HEP_FN_STATE f) HEP_FN_STATE.TDI ≠ 0 then 6
  else if r ≠ 16 ∧ x.exists_ ∧ x.part ≠ part then 7
  else if s.fld (RING_DBA f) RING_DBA.ADDR = 0 ∨ s.fld (RING_STA f) RING_STA.ADDR = 0 then 8
  else 0

/-- R103: write a submission ring's Status Area record, orphaned functions included. -/
def writeSqOrphan (s : State) (f r : Nat) : State :=
  if s.fld (HEP_FN_STATE f) HEP_FN_STATE.STATE = 3 ∧ (s.fn f).bme ∧ !s.bit HEP_FREEZE HEP_FREEZE.FROZEN then s.putSq f r else s

/-- R103: enable a submission ring with the fields of `v`, or record the failing condition. -/
def sqEnable (s : State) (f r : Nat) (v : W64) : State :=
  if s.sqEnabled f r then s
  else
    let s := [RING_SQ_CFG.PARTITION, RING_SQ_CFG.CQ, RING_SQ_CFG.SIZE].foldl
      (fun s g => s.setFld (RING_SQ_CFG f r) g (getFld v g)) s
    let e := s.sqErr f r
    let s := s.setFld (RING_SQ_STATUS f r) RING_SQ_STATUS.ERR e
    if e ≠ 0 then s
    else
      let rk := ringOf f r
      let x := s.ring rk
      let s := s.setBit (RING_SQ_CFG f r) RING_SQ_CFG.EN
      let s := s.meterMem
      let s := s.setRing rk { x with
        exists_ := true
        part := if x.exists_ then x.part else if r = 16 then 0 else s.fld (RING_SQ_CFG f r) RING_SQ_CFG.PARTITION
        size := s.fld (RING_SQ_CFG f r) RING_SQ_CFG.SIZE
        tail := 0, accepted := 0, fetchTo := 0, stale := x.fetched.length, unchanged := 0
        sleeping := false, formatHold := false, tailInvalid := false, lastAsn := none, draining := false }
      (((s.showRing rk).writeSqOrphan f r).restartPoll f).readDoorbell f false

/-- R92, R105: start a drain: fetching stops, and fetched descriptors are squashed. -/
def startDrain (s : State) (f r : Nat) (unit : Option Nat) : State :=
  let rk := ringOf f r
  let s := s.squash f r
  let s := s.setRing rk { s.ring rk with draining := true, drainFor := unit }
  s.showRing rk

/-- R105: the ring holds nothing that the drain waits for. -/
def drained (s : State) (f r : Nat) : Bool :=
  let x := s.ring (ringOf f r)
  x.draining && x.fetched == [] && (s.ringUnits (ringOf f r)) == [] && x.postQ == [] && x.postOld == []

/-- Disable a completion ring. -/
def cqDisable (s : State) (f c : Nat) : State :=
  let s := s.setBit (RING_CQ_CFG f c) RING_CQ_CFG.EN false
  (s.setFld (RING_CQ_STATUS f c) RING_CQ_STATUS.STATE 0).setCq (ringOf f c) {}

/-- R106: a `VF_SET_RINGS` completes once every submission ring at or above the new count is disabled.
Log 59 (DEDUCED). -/
def checkSetRings (s : State) (f : Nat) : State :=
  let x := s.fn f
  match x.setRings with
  | none => s
  | some (k, prev) =>
    if (List.range 16).any (fun r => decide (x.ringCount ≤ r) && s.sqEnabled f r) then s
    else
      let s := (List.range 16).foldl (fun s c =>
        if x.ringCount ≤ c ∧ s.cqEnabled f c then s.cqDisable f c else s) s
      (s.setFn f { s.fn f with setRings := none }).endUnit k 0 prev

/-- R105: the drain of a ring is complete. -/
def drainDone (s : State) (f r : Nat) : State :=
  let rk := ringOf f r
  let x := s.ring rk
  if !s.drained f r then s
  else
    let s := s.setBit (RING_SQ_CFG f r) RING_SQ_CFG.EN false
    let s := (s.setRing rk { x with draining := false, drainFor := none, sleeping := false, formatHold := false }).showRing rk
    let s := match x.drainFor with
      | some k => s.endUnit k 0 x.nextAsn
      | none => s
    s.checkSetRings f

/-- R103: a write of 0 to EN. -/
def sqDisable (s : State) (f r : Nat) : State :=
  if s.sqEnabled f r ∧ !(s.ring (ringOf f r)).draining then s.startDrain f r none else s

/-- R102: a VECTOR value that the ring's function has. -/
def vectorOk (f v : Nat) : Bool := decide (v < if f = 0 then 24 else 16)

/-- R103: a write to `RING_CQn_CFG`. A completion ring of a VF at or above its ring count, for which no ERR code stands,
is enabled. Log 105 (DEDUCED). -/
def cqCfgWrite (s : State) (f c : Nat) (v : W64) : State :=
  let a := RING_CQ_CFG f c
  let st := RING_CQ_STATUS f c
  let vec := getFld v RING_CQ_CFG.VECTOR
  let coal := fun (s : State) =>
    let s := s.setFld a RING_CQ_CFG.COAL_COUNT (getFld v RING_CQ_CFG.COAL_COUNT)
    s.setFld a RING_CQ_CFG.COAL_US (getFld v RING_CQ_CFG.COAL_US)
  if s.cqEnabled f c then
    let s := coal s
    let s := if vectorOk f vec then s.setFld a RING_CQ_CFG.VECTOR vec else s.setFld st RING_CQ_STATUS.ERR 2
    if getFld v RING_CQ_CFG.EN = 1 then s
    else if (s.enabledSqs f).any (fun r => s.cqOf f r == c) then s.setFld st RING_CQ_STATUS.ERR 1
    else s.cqDisable f c
  else
    let s := (coal s).setFld a RING_CQ_CFG.VECTOR vec
    let size := getFld v RING_CQ_CFG.SIZE
    let s := s.setFld a RING_CQ_CFG.SIZE size
    if getFld v RING_CQ_CFG.EN = 0 then s
    else if size < 6 ∨ 16 < size ∨ !vectorOk f vec then s.setFld st RING_CQ_STATUS.ERR 2
    else
      let s := (s.setBit a RING_CQ_CFG.EN).setFld st RING_CQ_STATUS.ERR 0
      let s := s.setCq (ringOf f c) {}
      s.setFld st RING_CQ_STATUS.STATE (if s.fld (HEP_FN_STATE f) HEP_FN_STATE.STATE = 3 then 3 else 1)

/-! ### Resets of a function's rings -/

/-- R106: a reset ends the drains of a function's rings and disables them. The fetched descriptors whose
records are issued, and the duplicates answered before them, are still consumed (R92). -/
def resetRing (s : State) (f r : Nat) : State :=
  let rk := ringOf f r
  let s := s.squash f r
  let x := s.ring rk
  let s := s.setRing rk { x with
    tail := 0, accepted := 0, fetchTo := 0, stale := x.fetched.length, unchanged := 0, sleeping := false
    formatHold := false, tailInvalid := false, lastAsn := none, draining := false, drainFor := none
    postOld := x.postOld ++ x.postQ, postQ := [] }
  match x.drainFor with
  | some k => s.endUnit k 0 x.nextAsn
  | none => s

/-- Register keys of a function's ring page (R102). -/
def inRingPage (f a : Nat) : Bool := decide (ringPage f ≤ a) && decide (a < ringPage f + 0x1000)

/-- R102: reset a function's ring page, its rings and its completion rings. -/
def resetRings (s : State) (f : Nat) : State :=
  let s := (List.range 17).foldl (fun s r => (s.resetRing f r).setCq (ringOf f r) {}) s
  let s := s.resetWhere (inRingPage f)
  let x := s.fn f
  let s := s.setFn f { x with setRings := none, pollAt := none }
  match x.setRings with
  | some (k, prev) => s.endUnit k 0 prev
  | none => s

/-! ### The Resync Summary -/

def fnUnits (s : State) (f : Nat) : List (Nat × WorkUnit) :=
  s.disp.units.filter (fun e => keyRing e.1 / 17 == f)

/-- A unit has committed or ended (R109). -/
def unitPast (u : WorkUnit) : Bool := u.phase == .committing || u.phase == .completed || u.complIssued

/-- R109: one ring record. -/
def ringRecord (s : State) (f r : Nat) : Bytes :=
  let x := s.ring (ringOf f r)
  let us := (s.ringUnits (ringOf f r)).map (·.2)
  let exec := ((us.filter (fun u => !unitPast u)).head?.map (·.asn)).getD x.nextAsn
  let held := (us.filter (fun u => u.phase == .completed)).length
  let en := s.sqEnabled f r
  let c := s.cqOf f r
  let cru := s.fld (CRU_PART x.part) CRU_PART.STATE
  leBytes 1 (if r = 16 then 0x80 else r) ++
  leBytes 1 (en.toNat + 2 * x.mirror.isSome.toNat + 4 * x.broken.toNat + 8 * x.fenced.toNat
    + 16 * x.adopted.isSome.toNat + 32 * x.adoptedAway.toNat + 64 * x.draining.toNat + 128 * x.formatHold.toNat) ++
  leBytes 2 x.part ++ leBytes 1 (if r = 16 then 0 else partUow cru) ++ leBytes 1 (if en then x.size else 0) ++
  leBytes 1 (if r = 16 then 0x80 else c) ++ leBytes 1 (x.mirror.getD 0) ++
  leBytes 4 x.accepted ++ leBytes 4 (s.cq (ringOf f c)).posted ++ leBytes 8 x.nextAsn ++ leBytes 8 exec ++
  leBytes 8 (if exec = 0 then noneWord else exec - 1) ++ leBytes 8 (x.posted.getD noneWord) ++ leBytes 8 x.floor ++
  leBytes 4 us.length ++ leBytes 4 held

/-- R108: rings that have a record: the admin ring, then each ring enabled or with units in flight. -/
def summaryRings (s : State) (f : Nat) : List Nat :=
  16 :: (List.range 16).filter (fun r => s.sqEnabled f r || s.ringUnits (ringOf f r) != [])

/-- R108: the Resync Summary of a function, as captured now. -/
def summary (s : State) (f : Nat) : Bytes :=
  let rs := s.summaryRings f
  let us := (s.fnUnits f).map (·.2)
  let st := s.reg JNL_STATUS
  let life := fun d => s.fld (JNL_DIE_LIFE d) JNL_DIE_LIFE.LIFE_USED
  let spare := fun d => s.fld (JNL_DIE_ROWS d) JNL_DIE_ROWS.SPARE_LEFT
  let head := leBytes 2 1 ++ leBytes 2 f ++ leBytes 2 rs.length ++ leBytes 2 (256 + 64 * rs.length) ++
    leBytes 8 s.tb ++ leBytes 8 s.jnl.bootCount ++
    leBytes 1 (s.fld (HEP_FN_STATE f) HEP_FN_STATE.STATE) ++ leBytes 1 (s.fld (HEP_FN_STATE f) HEP_FN_STATE.TDI) ++
    leBytes 1 (s.fld HEP_FREEZE HEP_FREEZE.FROZEN) ++ leBytes 1 (s.fld HEP_FREEZE HEP_FREEZE.CAUSE) ++
    leBytes 4 (us.filter (fun u => u.phase == .completed)).length ++ leBytes 4 us.length ++ leBytes 4 s.inFlight ++
    leBytes 1 (s.fld FLT_STATUS FLT_STATUS.UNCLEARED) ++ leBytes 1 (getFld st JNL_STATUS.STATE) ++
    leBytes 2 (getFld st JNL_STATUS.DIE0_OK + 2 * getFld st JNL_STATUS.DIE1_OK + 4 * getFld st JNL_STATUS.SINGLE_DIE
      + 8 * getFld st JNL_STATUS.DAMAGED + 16 * getFld st JNL_STATUS.CLEAN_START) ++
    leBytes 2 (max (life 0) (life 1)) ++ leBytes 2 (min (spare 0) (spare 1)) ++ leBytes 4 (s.reg JNL_MIRROR).toNat ++
    leBytes 4 (s.fld CLK_STATUS CLK_STATUS.COARSE) ++ zeros 192 ++ leBytes 4 ((s.fn f).resyncs + 1)
  let recs := (rs.map (fun r => s.ringRecord f r)).flatten
  head ++ leBytes 4 (Crypto.crc32c (head ++ zeros 4 ++ recs)) ++ recs

/-- R65, R110: `RESYNC` of an orphaned, enabled function whose rings are set up again ends the orphaned state; its held
entries are posted after the capture, and it starts fetching. Log 50 (DEDUCED). -/
def endOrphan (s : State) (f : Nat) : State :=
  if s.fld (HEP_FN_STATE f) HEP_FN_STATE.STATE = 3 ∧ (s.fn f).bme ∧ (f = 0 ∨ (s.fn f).present) ∧ s.enabledSqs f ≠ [] then
    let s := (s.fnMoved f).setFld (HEP_FN_STATE f) HEP_FN_STATE.STATE 1
    let s := (List.range 17).foldl (fun s c =>
      if s.cqEnabled f c then s.setFld (RING_CQ_STATUS f c) RING_CQ_STATUS.STATE 1 else s) s
    ((s.postFn f).readDoorbell f false).restartPoll f
  else s

/-- R107: write the summary of function `f` by DMA of function `via`. Log 50 (DEDUCED). -/
def writeSummary (s : State) (via f addr : Nat) : State :=
  let s := s.dmaWrite via addr (s.summary f)
  s.setFn f { s.fn f with resyncs := (s.fn f).resyncs + 1 }

/-- R107: the GO of function `f`'s page ends with code `e`. -/
def resyncEnd (s : State) (f e : Nat) : State :=
  let s := { s with hep := { s.hep with goWait := s.hep.goWait.filter (fun (q : GoWait) => q.via != f) } }
  let s := (s.setFld (RING_RESYNC_CTL f) RING_RESYNC_CTL.ERR e).setBit (RING_RESYNC_CTL f) RING_RESYNC_CTL.BUSY false
  s.setBit (RING_RESYNC_CTL f) RING_RESYNC_CTL.DONE

/-- R107, R73: a summary goes to its buffer once that has translations and its function may send; a buffer that is
shorter than the summary as it is then receives nothing. -/
def resyncWrite (s : State) (q : GoWait) : State :=
  let n := 256 + 64 * (s.summaryRings q.fn).length
  if q.len < n then s.resyncEnd q.via 2
  else if s.mayRequest q.via ∧ s.reach q.via q.addr n then ((s.writeSummary q.via q.fn q.addr).resyncEnd q.via 0).endOrphan q.fn
  else
    let s := { s with hep := { s.hep with goWait := (s.hep.goWait.filter (fun (y : GoWait) => y.via != q.via)) ++ [q] } }
    ((s.setBit (RING_RESYNC_CTL q.via) RING_RESYNC_CTL.BUSY).askPages q.via q.addr n).pumpReads

/-- The `RESYNC` of function `f`'s page that is in progress goes on, if it can. -/
def resumeGo (s : State) (f : Nat) : State :=
  (s.hep.goWait.filter (fun q => q.via == f)).foldl (fun s q => s.resyncWrite q) s

/-- R110: function `f` is reset during register-triggered `RESYNC`s of it: those on the pages that `p` takes end with
ERR 5. Log 133 (DEDUCED). -/
def resyncReset (s : State) (f : Nat) (p : Nat → Bool) : State :=
  (s.hep.goWait.filter (fun q => (q.via == f || q.fn == f) && p q.via)).foldl (fun s q => s.resyncEnd q.via 5) s

/-- R107, R102: a GO write to `RING_RESYNC_CTL` of function `f`'s page. A FUNC of 1,025 to 2,047, which the register's row
leaves out of its range, is ignored, and the GO takes the function named before. While BUSY is set the GO is ignored, and
the `RESYNC` in progress keeps the function, buffer and length that its own GO found. Log 99 (DEDUCED). A function in a
function-level reset is summarised too. -/
def resyncGo (s : State) (f : Nat) (v : W64) : State :=
  let a := RING_RESYNC_CTL f
  let busy := s.bit a RING_RESYNC_CTL.BUSY
  let s := s.setFld a RING_RESYNC_CTL.LEN (getFld v RING_RESYNC_CTL.LEN)
  let s := if f = 0 ∧ getFld v RING_RESYNC_CTL.FUNC ≤ 1024 then
      s.setFld a RING_RESYNC_CTL.FUNC (getFld v RING_RESYNC_CTL.FUNC) else s
  let s := if getFld v RING_RESYNC_CTL.DONE = 1 then s.setBit a RING_RESYNC_CTL.DONE false else s
  let g := if f = 0 then s.fld a RING_RESYNC_CTL.FUNC else f
  let st := s.fld (HEP_FN_STATE g) HEP_FN_STATE.STATE
  if busy then s
  else if s.bit HEP_FREEZE HEP_FREEZE.FROZEN then s.resyncEnd f 1
  else if st = 0 ∨ !(g = 0 ∨ (s.fn g).present) then s.resyncEnd f 3
  else if 64 * s.fld a RING_RESYNC_CTL.LEN < 256 + 64 * (s.summaryRings g).length then s.resyncEnd f 2
  else if !s.mayRequest f then s.resyncEnd f 4
  else s.resyncWrite ⟨f, g, s.fld (RING_RESYNC_ADDR f) RING_RESYNC_ADDR.ADDR * 64, 64 * s.fld a RING_RESYNC_CTL.LEN⟩

end State
end Sys2Proof.Machine
end

