-- ==== Sys2Proof/Machine/HepOps.lean ====
section
/-!
DEFINITION. Shared operations of the endpoint: discarded writes (R63), resets of functions (R64 to R69, R456),
freeze and release (R70 to R72), streams and TDIs (R74, R75), and peer windows (R76 to R79).
-/
namespace Sys2Proof.Machine
open Sys2Proof

def freezeCode : FreezeCause → Nat
  | .dlProtocol => 1
  | .flowControl => 2
  | .malformedTlp => 3
  | .receiverOverflow => 4
  | .poisonedCompletion => 5
  | .completionTimeout => 6
  | .ecrc => 7
  | .ideCheck => 8
  | .internalError => 9
  | .electricalIdle => 0x10
  | .recoveryEntries => 0x11

namespace State

/-- R63: a discarded write to BAR 0 (`bar` 0) or BAR2 (`bar` 1) of function `f`. Log 40 (DEDUCED). -/
def mmioDiscard (s : State) (f bar off : Nat) : State :=
  let s := s.bumpSat HEP_MMIO_ERR HEP_MMIO_ERR.COUNT
  let s := s.setBit HEP_EVENT HEP_EVENT.MMIO_DISCARD
  if s.bit HEP_MMIO_ERR HEP_MMIO_ERR.VALID then s
  else
    let s := (s.setBit HEP_MMIO_ERR HEP_MMIO_ERR.VALID).setFld HEP_MMIO_ERR HEP_MMIO_ERR.FUNC f
    (s.setFld HEP_MMIO_ERR HEP_MMIO_ERR.BAR bar).setFld HEP_MMIO_ERR HEP_MMIO_ERR.OFFSET off

/-- R20, R457: the write is one the endpoint accepts: 4 or 8 bytes, naturally aligned. Log 40 (DEDUCED). -/
def barWriteOk (w : BarWrite) : Bool :=
  w.whole && (w.size == 4 || w.size == 8) && w.offset % w.size == 0

/-! ### Functions -/

/-- The function is there: the PF, or a VF under VF Enable (R57). -/
def fnPresent (s : State) (f : Nat) : Bool := f == 0 || (s.fn f).present

def fnState (s : State) (f : Nat) : Nat := s.fld (HEP_FN_STATE f) HEP_FN_STATE.STATE
def setFnState (s : State) (f st : Nat) : State :=
  (if s.fnState f = st then s else s.fnMoved f).setFld (HEP_FN_STATE f) HEP_FN_STATE.STATE st
/-- R69: Acceptance Records of the function are issued and not yet durable: their descriptors will be accepted. -/
def fnIssued (s : State) (f : Nat) : Bool :=
  (List.range 17).any (fun r => (s.ring (ringOf f r)).fetched.any (fun d => d.issued.isSome))
/-- R65, R69: the state a function enters after a reset. -/
def afterReset (s : State) (f : Nat) : State := s.setFnState f (if s.fnUnits f = [] ∧ !s.fnIssued f then 0 else 3)

/-- Keys of the MSI-X table and PBA of a function (R56). Log 41 (DEDUCED). -/
def inMsix (f a : Nat) : Bool :=
  (decide (msixTable f ≤ a) && decide (a < msixTable f + 16 * msixVectors f)) || a == msixPba f

/-- R67 step 4: reset a function's configuration state, MSI-X table, translation cache entries and ring
setup. `sticky` keeps the sticky configuration bits, which are those of the AER status and the ECRC enables. A `RESYNC`
in progress on its page or of the function ends with ERR 5 (R110). Log 106 (DEDUCED). Log 133 (DEDUCED). -/
def resetFn (s : State) (f : Nat) (sticky : Bool) : State :=
  let cut := (s.hep.goWait.filter (fun q => q.via == f || q.fn == f)).map (·.via)
  let s := s.resetRings f
  let s := s.resetWhere (inMsix f)
  let x := s.fn f
  let s := s.setFn f { x with
    bme := false, msixEn := false, msixMask := false, ats := false, d3 := false, flrEnd := none, stream := none
    aer := if sticky then x.aer else []
    ecrcGen := sticky && x.ecrcGen, ecrcCheck := sticky && x.ecrcCheck
    cfg := [] }
  let s := { s with hep := { s.hep with
    ats := s.hep.ats.filter (fun e => e.1 / 2 ^ 52 != f), heldMsgs := s.hep.heldMsgs.filter (fun m => m.1 != f) } }
  cut.foldl (fun s p => s.resyncEnd p 5) (s.dropWaiting (· == f))

/-- R106: the values of a VF at VF enable. -/
def vfDefaults (s : State) (f : Nat) : State :=
  let x := s.fn f
  s.setFn f { x with ringCount := 1, meterClass := 0, nextClass := 0, keyQuota := 16, weight := 16 }

/-- VF Enable is cleared: every VF is reset and leaves (R64, R456). -/
def clearVfEnable (s : State) (sticky : Bool) : State :=
  let vfs := s.presentFns.drop 1
  let s := vfs.foldl (fun s f =>
    let s := (s.resetFn f sticky).vfDefaults f
    let s := s.setFn f { s.fn f with present := false }
    (s.setTdi f 0).afterReset f) s
  { s with hep := { s.hep with vfEnable := false } }

/-- Register keys of the HEP and WIN blocks (R80, R81). -/
def inHep (a : Nat) : Bool := decide (a < 0x2008)
def inWin (a : Nat) : Bool := decide (0x1400000 ≤ a) && decide (a < 0x1401018)

/-- R64: reset the WIN registers; BUSY clears once the old-set accesses finish (R79). -/
def resetWin (s : State) : State :=
  let busy := s.bit WIN_COMMIT WIN_COMMIT.BUSY
  (s.resetWhere inWin).setBit WIN_COMMIT WIN_COMMIT.BUSY busy

/-- R64: every stream is insecure. -/
def insecureAll (s : State) : State :=
  let ide := s.hep.ide.map (fun (e : Nat × IdeStream) => (e.1, { e.2 with secure := false }))
  ({ s with hep := { s.hep with ide := ide } }).setBit HEP_LINK_STATUS HEP_LINK_STATUS.LINK_IDE false

/-- The link goes down: nothing outstanding comes back. Log 42 (DEDUCED). -/
def linkDown (s : State) : State :=
  let s := { s with hep := { s.hep with l0 := false, reads := [], invals := [], heldMsgs := [], pfFlr := none } }
  (s.dropWaiting (fun _ => true)).setReg HEP_LINK_STATUS 0

/-- R64: the settings of the PF that no function holds: its SR-IOV capability and its completion timeout. -/
def resetSriov (s : State) : State :=
  { s with hep := { s.hep with numVfs := 0, ari := false, pageSize := 4096, vfBar := (0, 0), cplTimeout := none } }

/-- R64: PERST# (`power` true) or a hot reset, link disable or Data Link Layer Down. -/
def endpointReset (s : State) (perst : Bool) : State :=
  let s := if s.fnState 0 = 0 ∧ s.tdi 0 = 0 then s else s.fnMoved 0
  let s := ((s.resetFn 0 (!perst)).clearVfEnable (!perst)).resetSriov
  let s := (s.linkDown).insecureAll.resetWin
  let s := if perst then s.resetWhere inHep else
    ((s.setBit HEP_FREEZE HEP_FREEZE.FROZEN false).setBit HEP_EVENT HEP_EVENT.LINK_DOWN)
  let fs := ((s.disp.units.map (fun e => keyRing e.1 / 17)).filter (fun f => decide (f < 1025))).eraseDups
  let s := fs.foldl (fun s f => (s.setTdi f 0).afterReset f) s
  (s.setTdi 0 0).afterReset 0

/-! ### Function-level resets -/

/-- R67 steps 1 to 3, R110: fetching stops, fetched descriptors are squashed, no request that waits is issued, and the drain
begins. -/
def beginFlr (s : State) (f : Nat) : State :=
  let s := (List.range 17).foldl (fun s r => s.squash f r) s
  let s := ((s.tdiError f).setFnState f 2).resyncReset f (· != f)
  ({ s with hep := { s.hep with
    reads := s.hep.reads.map (fun (q : ReadReq) => if q.fn = f then { q with discard := true } else q) } }).dropWaiting (· == f)

/-- R67 steps 4 and 5 for a VF. -/
def endFlr (s : State) (f : Nat) : State :=
  let s := (s.resetFn f true).afterReset f
  s.setBit HEP_EVENT HEP_EVENT.FLR_DONE

/-- R456 steps 4 and 5. -/
def endPfFlr (s : State) : State :=
  let own := (s.hep.fns.filter (fun e => e.2.flrEnd.isSome)).map (fun e => (e.1, e.2.flrEnd))
  let s := ((s.resetFn 0 true).clearVfEnable true).resetSriov
  let s := own.foldl (fun s p => (s.setFn p.1 { s.fn p.1 with flrEnd := p.2 }).setFnState p.1 2) s
  let s := { s with hep := { s.hep with pfFlr := none } }
  ((s.resetWin).setTdi 0 0).afterReset 0 |>.setBit HEP_EVENT HEP_EVENT.FLR_DONE

/-- R69: quarantine the outstanding tags of the functions that satisfy `p`. -/
def quarantine (s : State) (p : Nat → Bool) : State :=
  { s with hep := { s.hep with
    reads := s.hep.reads.map (fun (q : ReadReq) => if p q.fn then { q with quarantined := true } else q) } }

/-- The drain waits for no read of a function that satisfies `p`. -/
def readsDone (s : State) (p : Nat → Bool) : Bool := !(s.hep.reads.any (fun q => p q.fn && !q.quarantined))

/-! ### Address translation -/

/-- R73: a translation has come for function `f`, was refused, or has to be asked for again: what waits for one goes on.
A Status Area record that tells of a sleeping ring is followed by the closing read of R89. Log 103 (DEDUCED). -/
def atsResume (s : State) (f : Nat) : State :=
  let s := s.pumpReads
  let mine := (s.hep.owed.filter (fun e => e.1 == f)).map (·.2)
  let s := { s with hep := { s.hep with owed := s.hep.owed.filter (fun e => e.1 != f) } }
  let s := mine.foldl (fun s r => (s.writeSq f r).writeSqOrphan f r) s
  let s := if mine.any (fun r => (s.ring (ringOf f r)).sleeping && !s.hep.owed.contains (f, r)) then s.readDoorbell f false else s
  let s := s.resumeGo f
  let s := if f = 0 then s.flushPf else s
  s.postFn f

/-- A function may send again: its messages go out and what waits is taken up; a running, enabled one posts its held
entries and has its Doorbell Area read. -/
def resumeFn (s : State) (f : Nat) : State :=
  let s := s.flushMsgs f
  if s.fnActive f then
    let s := s.atsResume f
    if s.enabledSqs f = [] then s else (s.readDoorbell f false).restartPoll f
  else if s.mayRequest f then s.atsResume f
  else s

/-- The translated page that a Translation Completion gives for page `p`: bits 1:0 permit the access, bit 2 leaves
requests to the page untranslated, and bit 11 says that the address bits above it, up to the lowest that reads 0, lie
inside a larger page. Log 108 (PRESUMED). -/
def translationOf (b : Bytes) (p : Nat) : Option (Option Nat) :=
  let w := leAt b 0 8
  if w % 4 = 0 then none
  else if w.testBit 2 then some none
  else
    let low := fun (n : Nat) => w / 4096 / 2 ^ n * 2 ^ n + p % 2 ^ n
    if !w.testBit 11 then some (some (w / 4096))
    else match (List.range 52).find? (fun i => !(w / 4096).testBit i) with
      | some i => some (some (low (i + 1)))
      | none => none

/-- R73: the translation of page `p` of function `f` goes into the cache, which drops its oldest entry beyond 4,096; one
that is refused ends the reads and writes that waited for it, and a `RESYNC` with ERR 4 (R107). Log 103 (DEDUCED). -/
def translated (s : State) (f p : Nat) (b : Bytes) : State :=
  match translationOf b p with
  | some v =>
    let c := s.hep.ats.filter (fun e => e.1 != atsKey f p) ++ [(atsKey f p, v)]
    ({ s with hep := { s.hep with ats := c.drop (c.length - 4096) } }).atsResume f
  | none =>
    let lost := s.hep.waiting.filter (fun q => q.fn == f && q.kind != .translation && (pagesOf q.addr q.len).contains p)
    let s := { s with hep := { s.hep with
      waiting := s.hep.waiting.filter (fun q => !lost.contains q)
      pfOut := if f ≠ 0 then s.hep.pfOut else s.hep.pfOut.filter (fun o => match o with
        | .write a d => !(pagesOf a d.length).contains p
        | .message _ => true) } }
    let s := lost.foldl (fun s q => match q.kind with
      | .descriptors r _ _ => s.unfetch f r
      | _ => s) s
    let gos := s.hep.goWait.filter (fun q => q.via == f && (pagesOf q.addr (256 + 64 * (s.summaryRings q.fn).length)).contains p)
    (gos.foldl (fun s q => s.resyncEnd q.via 4) s).flushPf

/-! ### Freeze -/

/-- R74: a stream becomes insecure: TDIs bound to it enter ERROR (R75). -/
def loseStream (s : State) (st : Nat) : State :=
  let x := s.hep.ide.get {} st
  let s := { s with hep := { s.hep with ide := s.hep.ide.set {} st { x with secure := false } } }
  let s := if st = 0 then s.setBit HEP_LINK_STATUS HEP_LINK_STATUS.LINK_IDE false else s
  s.unbind st

/-- R70, R71: a containment trigger, logged in AER of function `f`. The surprise-down precursors have no AER
status bit. -/
def freeze (s : State) (c : FreezeCause) (f : Nat) : State :=
  let code := freezeCode c
  let s := if code < 0x10 then s.setFn f { s.fn f with aer := (code :: (s.fn f).aer).eraseDups } else s
  if s.bit HEP_FREEZE HEP_FREEZE.FROZEN then s
  else
    let s := (s.setBit HEP_FREEZE HEP_FREEZE.FROZEN).setFld HEP_FREEZE HEP_FREEZE.CAUSE code
    ({ s with hep := { s.hep with pfOut := [] } }).setBit HEP_EVENT HEP_EVENT.FROZE

/-- R72: a write of 1 to RELEASE. It changes nothing while the endpoint is not frozen. Log 101 (DEDUCED). -/
def release (s : State) : State :=
  if !s.bit HEP_FREEZE HEP_FREEZE.FROZEN then s
  else
    let code := s.fld HEP_FREEZE HEP_FREEZE.CAUSE
    if s.hep.l0 && s.bit HEP_LINK_STATUS HEP_LINK_STATUS.DL_UP && !(s.hep.fns.any (fun e => e.2.aer.contains code)) then
      let s := (s.setBit HEP_FREEZE HEP_FREEZE.FROZEN false).setBit HEP_FREEZE HEP_FREEZE.REFUSED false
      let s := s.setBit HEP_EVENT HEP_EVENT.RELEASED
      s.presentFns.foldl (fun s f =>
        let s := (s.enabledSqs f).foldl (fun s r => s.writeSq f r) s
        s.resumeFn f) s
    else s.setBit HEP_FREEZE HEP_FREEZE.REFUSED

/-! ### MSI-X -/

/-- R56: pending vectors that are no longer masked go out. -/
def flushPba (s : State) (f : Nat) : State :=
  (List.range (msixVectors f)).foldl (fun s v =>
    if s.bit (msixPba f) ⟨v, 1⟩ ∧ (s.fn f).msixEn ∧ !(s.fn f).msixMask ∧ !s.bit (MSIX_CTRL f v) ⟨0, 1⟩ then
      (s.setBit (msixPba f) ⟨v, 1⟩ false).sendVector f v
    else s) s

/-! ### Peer windows -/

/-- R77: a Completer Abort for a BAR4 TLP: its count, its log, and its completion or AER report. -/
def completerAbort (s : State) (reason off : Nat) (write : Bool) : State :=
  let s := s.bump WIN_CA_COUNT WIN_CA_COUNT.COUNT
  let s := if s.bit WIN_CA_LOG WIN_CA_LOG.VALID then s
    else s.setReg WIN_CA_LOG (BitVec.ofNat 64 (2 ^ 63 + reason * 2 ^ 60 + off / 2 ^ 38 % 64 * 2 ^ 54 + off % 2 ^ 44))
  if write then s.setFn 0 { s.fn 0 with aer := (0x40 :: (s.fn 0).aer).eraseDups } else s.emitTlp 0 (.cpl 0 4 [])

/-- R364: count window bytes, for the window's partition and for each function whose mask has the slot. -/
def meterWindow (s : State) (w part n : Nat) : State :=
  let add := fun (s : State) (k : Nat) => let m := s.meter k; s.setMeter k { m with window := m.window + n }
  let fs := (s.hep.fns.filter (fun e => e.2.windows.testBit w)).map (·.1)
  fs.foldl (fun s f => add s (meterFn f)) (add s part)

/-- R61: bytes of a VF's BAR0. -/
def vfBarSize (s : State) : Nat := max 0x4000 s.hep.pageSize

/-- R54, R214: the completions of a window read at `off`, of memory at `a`; one that carries a poisoned line is poisoned. -/
def completeMem (s : State) (off a : Nat) (b : Bytes) : State :=
  (payloadsOf off b).foldl (fun s p =>
    let o := Output.cpl 0 0 p.2
    s.emitTlp 0 (if s.anyPoison (a + (p.1 - off)) p.2.length then .poisoned o else o)) s

/-- R76, R77, R79: one BAR4 TLP. A TLP that crosses into the next slot is refused for that before its window's
size is looked at. Log 28 (DEDUCED). -/
def windowTlp (s : State) (write : Bool) (off len : Nat) (data : Bytes) : State :=
  let w := off / 2 ^ 38 % 64
  let o := off % 2 ^ 38
  let ctl := s.reg (WIN_ACTIVE_CTL w)
  if 2 ^ 38 < o + len then s.completerAbort 5 off write
  else if getFld ctl WIN_ACTIVE_CTL.EN = 0 then s.completerAbort 1 off write
  else if 2 ^ getFld ctl WIN_ACTIVE_CTL.SIZE < o + len then s.completerAbort 2 off write
  else if getFld ctl (if write then WIN_ACTIVE_CTL.WRITE_OK else WIN_ACTIVE_CTL.READ_OK) = 0 then
    s.completerAbort 3 off write
  else
    let a := s.fld (WIN_ACTIVE_TARGET w) WIN_ACTIVE_TARGET.ADDR * 4096 + o
    let part := getFld ctl WIN_ACTIVE_CTL.PARTITION
    if write then
      match s.memWrite (.onBehalf part) 3 a (padTo len data) with
      | (true, s) => s.meterWindow w part len
      | (false, s) => s.completerAbort 4 off true
    else
      match s.memRead (.onBehalf part) 3 a len with
      | (some d, s) => (s.meterWindow w part len).completeMem off a d.1
      | (none, s) => s.completerAbort 4 off false

/-- R78: a GO write for window `w`. BUSY stays set until the TLPs under the old set have finished.
Log 43 (DEDUCED). -/
def winCommit (s : State) (w : Nat) : State :=
  if s.bit WIN_COMMIT WIN_COMMIT.BUSY then s
  else
    let s := s.setFld WIN_COMMIT WIN_COMMIT.WINDOW w
    let c := s.reg (WIN_SHADOW_CTL w)
    let t := s.reg (WIN_SHADOW_TARGET w)
    let size := getFld c WIN_SHADOW_CTL.SIZE
    if size < 12 ∨ 38 < size ∨
        s.fld MEM_TOP MEM_TOP.TOP * 2 ^ 21 < getFld t WIN_SHADOW_TARGET.ADDR * 4096 + 2 ^ size ∨
        s.fld (CRU_PART (getFld c WIN_SHADOW_CTL.PARTITION)) CRU_PART.STATE = 0 then
      s.setBit WIN_COMMIT WIN_COMMIT.ERROR
    else
      let s := (s.setReg (WIN_ACTIVE_CTL w) c).setReg (WIN_ACTIVE_TARGET w) t
      (s.setBit WIN_COMMIT WIN_COMMIT.ERROR false).setBit WIN_COMMIT WIN_COMMIT.BUSY

end State

/-- R412 step 3: in Quench a non-posted request to function `g` gets Unsupported Request `ur`; else as `onLive`.
Log 43 (DEDUCED). -/
def onServed (s : State) (g : Nat) (ur : Output) (f : State → State) : Host.Outcome State Fault Refusal :=
  .next (if s.live then f s else if s.flt.quenched && s.phase != .off && !s.hep.perst then s.emitTlp g ur else s)

end Sys2Proof.Machine
end

