-- ==== Sys2Proof/Machine/Caches.lean ====
section
/-!
DEFINITION. Caches, shared operations: the L1s and store buffers of the cores (R201, R202), ways, twins and dirty limits
(R204, R206), and what a line does with an access (R208, R213, R221). Caches are numbered 0 to 3 for the Hearths and
4 + n for the L2 of global cluster n; homes 0 to 23 are the home agents and 24 + d is the Hearth of die d.
-/
namespace Sys2Proof.Machine
open Sys2Proof

/-- R210: message codes of `Output.coh`. Log 129 (DEDUCED). -/
inductive Msg where
  | wbD | wbClean | ioData
  | data | dataE | dataD | grant | ack | invAck | fwdAck | nack | wbAck | wbStale | chkOk | chkRef
  | fwdS | fwdX | fwdPeek | inv | recall | recallDiscard
  | rdS | rdX | upg | chk | ioRd | ioWr
  deriving DecidableEq, Repr

def Msg.code (m : Msg) : Nat := m.ctorIdx

/-- The agent number of every I/O agent at a home (R210). -/
def ioAgent : Nat := 44
/-- Number of a home as a sender or receiver of messages. -/
def homeNode (h : Nat) : Nat := 64 + h

def isHearth (c : Nat) : Bool := decide (c < 4)
/-- The home of a line for a cache: its home agent for a Hearth, its die's Hearth for an L2.
Log 15 (DEDUCED). -/
def homeFor (c l : Nat) : Nat := if isHearth c then lineHome l else 24 + (c - 4) / 10
/-- R201, R228: set of a line in a cache; the L2's set is the line number modulo 8,192 (log 15). -/
def cacheSet (c l : Nat) : Nat := if isHearth c then hearthSet l else l % 8192
/-- R201: ways of a cache: 20 in a Hearth, 16 in an L2. Log 15 (DEDUCED). -/
def cacheWays (c : Nat) : Nat := if isHearth c then 20 else 16
/-- R201: the half of its set that a way lies in. -/
def wayHalf (c w : Nat) : Nat := w / (cacheWays c / 2)
/-- R204: dirty lines a set may hold. -/
def dirtyLimit (c : Nat) : Nat := if isHearth c then 5 else 4
def wayKey (c set way : Nat) : Nat := (c * 2 ^ 18 + set) * 32 + way

/-- The line is dirty in its cache, and has a twin (R204). -/
def CacheLine.isDirty (x : CacheLine) : Bool := x.st == .M || x.st == .O || (x.st == .UX && x.dirty)
/-- The line is in one of the stable states that hold data (R208). -/
def CacheLine.stable (x : CacheLine) : Bool := x.st == .M || x.st == .O || x.st == .E || x.st == .S
/-- A load hits the line (R208). -/
def CacheLine.readable (x : CacheLine) : Bool := x.stable || x.st == .UX

/-- R213: the world that a tag names. -/
def tagWorld (t : Nat) : World := if t = 0 then .opened else .sealed (t - 1)
def worldTag : World → Nat
  | .sealed p => p + 1
  | _ => 0

/-- R12: global core number of physical core `k` of a cluster. -/
def coreOf (cluster k : Nat) : Nat := 9 * cluster + k

/-- R201: the arrays of the L1s: sets, ways, and number as a cache for `wayKey`. Log 121 (DESIGN CHOICE). -/
def l1Set (l : Nat) : Nat := l % 256
def l1Array (core : Nat) (data : Bool) : Nat := 2 * core + data.toNat
def l1Ways : Nat := 8

namespace State

def cline (s : State) (c l : Nat) : CacheLine := s.coh.lines.get {} (c * 2 ^ 42 + l)
def setCline (s : State) (c l : Nat) (x : CacheLine) : State :=
  { s with coh := { s.coh with lines := s.coh.lines.set {} (c * 2 ^ 42 + l) x } }

/-- R210: a message of the caches leaves, with its flags. Log 129 (DEDUCED). -/
def sendCoh (s : State) (m : Msg) (src dst l : Nat) (flags : Nat := 0) : State := s.emit (.coh m.code src dst l flags)
def isDead (s : State) (a : Nat) : Bool := s.coh.dead.contains a || (decide (4 ≤ a) && decide (a < 44) && s.coh.dead.contains ((a - 4) / 10))

/-- The next instant of use. -/
def useClock (s : State) : Nat × State := (s.coh.clock + 1, { s with coh := { s.coh with clock := s.coh.clock + 1 } })

/-- Give a line its place as the most recently used. -/
def stampLine (s : State) (c l : Nat) : State :=
  let (t, s) := s.useClock
  s.setCline c l { s.cline c l with used := t }

/-- Cores that run a view (R200). -/
def viewCores (s : State) (v : Nat) : List Nat :=
  let a := s.fld (PAIR_STATUS v) PAIR_STATUS.CORE_A
  let b := s.fld (PAIR_STATUS v) PAIR_STATUS.CORE_B
  (if b = 15 then [a] else [a, b]).map (coreOf (v / 8))

/-! ### The L1s -/

def hasL1 (s : State) (i l : Nat) : Bool := s.coh.l1.any (fun e => e.1 == i * 2 ^ 42 + l)

/-- R202: the lines `l` in the L1 arrays that `which` names go. -/
def dropL1s (s : State) (which : Nat → Bool) (l : Nat) : State :=
  { s with coh := { s.coh with l1 := s.coh.l1.filter (fun e => !(e.1 % 2 ^ 42 == l && which (e.1 / 2 ^ 42))) } }

/-- R202: the L2 of cache number `c` gives a line up: every L1 copy in its cluster goes first. -/
def dropL1 (s : State) (c l : Nat) : State := if isHearth c then s else s.dropL1s (fun i => i / 18 == c - 4) l

/-- R202: a store of executor `e` is written: the copies of every other core of the cluster go. A core's own
instruction cache keeps its copy (`FENCEI`). -/
def dropOthers (s : State) (e l : Nat) : State :=
  let own := s.viewCores e
  s.dropL1s (fun i => i / 18 == e / 8 && !own.contains (i / 2)) l

/-- R202, R206: fill a line into one L1 array: a way in service that holds nothing, else the one used longest ago.
Log 121 (DESIGN CHOICE). -/
def fillL1 (s : State) (i l : Nat) : State :=
  if s.hasL1 i l then s
  else
    let set := l1Set l
    let here := s.coh.l1.filter (fun e => e.1 / 2 ^ 42 == i && l1Set (e.1 % 2 ^ 42) == set)
    let ways := (List.range l1Ways).filter (fun w => !(s.coh.ways.get {} (wayKey (64 + i) set w)).off)
    let (t, s) := s.useClock
    let put := fun (s : State) (w : Nat) => { s with coh := { s.coh with
      l1 := s.coh.l1.set ⟨0, 0⟩ (i * 2 ^ 42 + l) ⟨w, t⟩ } }
    match ways.find? (fun w => here.all (fun e => e.2.way != w)) with
    | some w => put s w
    | none =>
      match here.foldl (fun (m : Option (Nat × L1Line)) e => match m with
        | none => some e
        | some y => some (if e.2.used < y.2.used then e else y)) none with
      | some v => put { s with coh := { s.coh with l1 := s.coh.l1.filter (fun e => e.1 != v.1) } } v.2.way
      | none => s

/-- R202: an executor's access fills the L1s of its cores, both of a compared pair's; a store allocates nothing. -/
def fillL1s (s : State) (a : MemAccess) (l : Nat) : State :=
  if a.kind = .store then s
  else (s.viewCores a.proc).foldl (fun s k => s.fillL1 (l1Array k (a.kind == .load)) l) s

/-- Every L1 that the access would fill holds the line. -/
def inL1s (s : State) (a : MemAccess) (l : Nat) : Bool :=
  (s.viewCores a.proc).all (fun k => s.hasL1 (l1Array k (a.kind == .load)) l)

/-! ### Store buffers -/

/-- R140: stores of an executor that no other processor sees yet. -/
def buffered (s : State) (e : Nat) : List BufStore := s.coh.stores.filter (fun b => b.proc == e)

/-- R202, R212: the L2 holds the line in M: the executor's waiting stores to it are written, in order.
Log 130 (DEDUCED). -/
def writeBuffered (s : State) (e l : Nat) : State :=
  let mine := fun (b : BufStore) => b.proc == e && b.line == l
  match s.coh.stores.filter mine with
  | [] => s
  | bs =>
    let s := { s with coh := { s.coh with stores := s.coh.stores.filter (fun b => !mine b) } }
    (bs.foldl (fun s b => s.keyedWrite b.key b.addr b.data) s).dropOthers e l

/-- R151, R353: L1 arrays of an executor's cores hold nothing: the data arrays, the instruction arrays, or both. -/
def emptyL1s (s : State) (e : Nat) (data : List Bool) : State :=
  let own := (s.viewCores e).flatMap (fun k => data.map (l1Array k))
  { s with coh := { s.coh with l1 := s.coh.l1.filter (fun x => !own.contains (x.1 / 2 ^ 42)) } }

/-- R212: what executor `e` reads: memory, with its own waiting stores over it, oldest first. -/
def ownView (s : State) (e a : Nat) (d : Bytes) : Bytes :=
  (s.buffered e).foldl (fun d b => (List.range d.length).map (fun i =>
    if b.addr ≤ a + i ∧ a + i < b.addr + b.data.length then b.data.getD (a + i - b.addr) 0 else d.getD i 0)) d

/-! ### Sets, ways and twins -/

/-- Lines of a cache that hold a way of one set. -/
def setLines (s : State) (c set : Nat) : List (Nat × CacheLine) :=
  s.coh.lines.filterMap (fun e =>
    let l := e.1 % 2 ^ 42
    if e.1 / 2 ^ 42 = c ∧ cacheSet c l = set ∧ e.2.way.isSome then some (l, e.2) else none)

/-- R207: the Hearth runs clean-only: one half is off, or is about to go off (R398). -/
def cleanOnly (s : State) (c : Nat) : Bool :=
  isHearth c && (s.bit (COH_HEARTH c) COH_HEARTH.CLEAN_ONLY ||
    [0, 1].any (fun k => s.fld (PWR_DOM (40 + 2 * c + k)) PWR_DOM.STATE == 3))

/-- R206, R207: a way that may hold a line: not disabled, and in a half that is powered. -/
def wayUsable (s : State) (c set w : Nat) : Bool :=
  !(s.coh.ways.get {} (wayKey c set w)).off &&
    !(isHearth c && s.bit (COH_HEARTH c) COH_HEARTH.CLEAN_ONLY &&
      s.fld (COH_HEARTH c) COH_HEARTH.HALF_ON >>> wayHalf c w % 2 == 0)

/-- A usable way of a set that holds nothing and satisfies `ok`. -/
def freeWay (s : State) (c set : Nat) (ok : Nat → Bool) : Option Nat :=
  let taken := (s.setLines c set).flatMap (fun x => x.2.way.toList ++ x.2.twin.toList)
  (List.range (cacheWays c)).find? (fun w => s.wayUsable c set w && ok w && !taken.contains w)

/-- R206: ways of a half that are disabled. -/
def waysOff (s : State) (c set half : Nat) : Nat :=
  ((List.range (cacheWays c)).filter (fun w => wayHalf c w == half && (s.coh.ways.get {} (wayKey c set w)).off)).length

/-- R204, R206: the dirty limit falls by one for each way disabled in the half with fewer usable ways. -/
def limitOf (s : State) (c set : Nat) : Nat := dirtyLimit c - max (s.waysOff c set 0) (s.waysOff c set 1)

/-- The least recently used line among some. -/
def lru (ls : List (Nat × CacheLine)) : Option (Nat × CacheLine) :=
  ls.foldl (fun m x => match m with
    | none => some x
    | some y => some (if x.2.used < y.2.used then x else y)) none

/-- R204: a cleaning writeback. -/
def cleanLine (s : State) (c l : Nat) : State :=
  (s.setCline c l { s.cline c l with cleaning := true }).sendCoh .wbD c (homeNode (homeFor c l)) l 1

/-- What the snoop directory of a Hearth says of a line. -/
def snoopDir (s : State) (c l : Nat) : DirState := (s.coh.homes.get {} ((24 + c) * 2 ^ 42 + l)).dir

/-- The cluster level still tracks the line of a Hearth: its L2s hold it (R201). -/
def tracked (s : State) (c l : Nat) : Bool := isHearth c && s.snoopDir c l != .I

/-- An L2 owns the line of a Hearth: where it is dirty, the L2 has its data and its twin. Log 60 (DEDUCED). -/
def ownedBelow (s : State) (c l : Nat) : Bool :=
  isHearth c && (match s.snoopDir c l with
    | .X _ | .O _ _ => true
    | _ => false)

/-- R208: a line leaves its cache by replacement. A clean copy that a Hearth shares with its L2s goes without a message:
the die-level state stays (R201, R208). -/
def replaceLine (s : State) (c l : Nat) : State :=
  let x := s.cline c l
  let h := homeNode (homeFor c l)
  let out : CacheLine := { x with st := .WB, way := none, twin := none, cleaning := false }
  if s.tracked c l && !x.isDirty then s.setCline c l { x with way := none, twin := none }
  else
    let s := s.dropL1 c l
    match x.st with
    | .M | .O => (s.setCline c l { out with dirty := true }).sendCoh .wbD c h l
    | .E => (s.setCline c l { out with dirty := false }).sendCoh .wbClean c h l
    | .S => s.setCline c l {}
    | _ => s

/-- A line that may leave to make room: stable, with nothing under way on it. A dirty line that a Hearth's L2s hold stays. -/
def mayLeave (s : State) (c l : Nat) (x : CacheLine) : Bool :=
  x.stable && !x.cleaning && x.waits.isEmpty && x.chk.isNone && !(x.isDirty && s.tracked c l)

/-- A way for line `l` that satisfies `ok`: a free one, else that of the least recently used line that `victim` allows. -/
def takeWay (s : State) (c l : Nat) (ok : Nat → Bool) (victim : CacheLine → Bool) : Option Nat × State :=
  let set := cacheSet c l
  match s.freeWay c set ok with
  | some w => (some w, s)
  | none =>
    match lru ((s.setLines c set).filter (fun x => x.1 != l && s.mayLeave c x.1 x.2 && victim x.2)) with
    | some (v, _) =>
      let s := s.replaceLine c v
      (s.freeWay c set ok, s)
    | none => (none, s)

/-- The line gets the way of its primary copy. -/
def placeLine (s : State) (c l : Nat) : State :=
  if (s.cline c l).way.isSome then s
  else match s.takeWay c l (fun _ => true) (fun _ => true) with
    | (some w, s) => s.setCline c l { s.cline c l with way := some w }
    | (none, s) => s

/-- R204: the line is about to become dirty: it gets a twin in the other half, in the place of a clean line if need be.
At the set's limit the least recently used dirty line is cleaned first, and the answer is `false`. -/
def readyDirty (s : State) (c l : Nat) : Bool × State :=
  let s := s.placeLine c l
  let x := s.cline c l
  let set := cacheSet c l
  let ds := (s.setLines c set).filter (fun y => y.1 != l && (y.2.isDirty || y.2.twin.isSome))
  if s.cleanOnly c || x.twin.isSome then (true, s)
  else if ds.length < s.limitOf c set then
    match x.way with
    | none => (false, s)
    | some w =>
      match s.takeWay c l (fun v => wayHalf c v != wayHalf c w)
          (fun y => !y.isDirty && (y.way.map (wayHalf c)) != some (wayHalf c w)) with
      | (some v, s) => (true, s.setCline c l { s.cline c l with twin := some v })
      | (none, s) => (false, s)
  else match lru (ds.filter (fun y => y.2.st == .M || y.2.st == .O)) with
    | some (v, y) => (false, if y.cleaning then s else s.cleanLine c v)
    | none => (false, s)

/-! ### Accesses to a line -/

/-- Send the request a line wants to its home. -/
def sendWant (s : State) (c l : Nat) : State :=
  match (s.cline c l).want with
  | some .rds => s.sendCoh .rdS c (homeNode (homeFor c l)) l
  | some .rdx => s.sendCoh .rdX c (homeNode (homeFor c l)) l
  | some .upg => s.sendCoh .upg c (homeNode (homeFor c l)) l
  | _ => s

/-- The line goes into a transient state for a request, which is sent. -/
def askFor (s : State) (c l : Nat) (st : LineState) (k : ReqKind) (tag : Nat) : State :=
  let x := s.cline c l
  (s.setCline c l { x with
    st := st, want := some k, tag := tag, dirty := x.st == .O, haveData := false, haveGrant := false }).sendWant c l

/-- R208, R221: the access waits for the line. -/
def waitFor (s : State) (c l : Nat) (a : MemAccess) : State :=
  let x := s.cline c l
  if x.waits.contains a then s else s.setCline c l { x with waits := x.waits ++ [a] }

/-- R202, R208: a load or fetch hits: the L1s of its cores hold the line from now on. -/
def hitLine (s : State) (c l : Nat) (a : MemAccess) : State := if s.inL1s a l then s else (s.fillL1s a l).stampLine c l

/-- R208, Load and Store columns: an access reaches a line of an L2. A hit by a requester of another world is a world
miss, which the home agent answers (R213). -/
def cacheAccess (s : State) (c l : Nat) (a : MemAccess) : State :=
  let x := s.cline c l
  let store := a.kind == .store
  if x.readable && x.tag != a.tag then
    let s := s.waitFor c l a
    if x.chk.isSome then s
    else (s.setCline c l { s.cline c l with chk := some (a.tag, store) }).sendCoh .chk c (homeNode (lineHome l)) l
  else match x.st, store with
  | .M, true => (s.writeBuffered a.proc l).stampLine c l
  | .E, true =>
    match s.readyDirty c l with
    | (true, s) => ((s.setCline c l { s.cline c l with st := .M }).writeBuffered a.proc l).stampLine c l
    | (false, s) => s.waitFor c l a
  | .S, true | .O, true =>
    if x.want.isSome then s.waitFor c l a
    else match s.readyDirty c l with
    | (true, s) => (s.waitFor c l a).askFor c l .UX .upg a.tag
    | (false, s) => s.waitFor c l a
  | .I, true =>
    if x.want.isSome then s.waitFor c l a
    else match s.readyDirty c l with
      | (true, s) => (s.waitFor c l a).askFor c l .IX .rdx a.tag
      | (false, s) => s.waitFor c l a
  | .I, false =>
    let s := (if x.want.isSome then s else s.placeLine c l).waitFor c l a
    -- every way of the set may be in use by lines with work under way: the access waits for one
    if x.want.isSome || (s.cline c l).way.isNone then s else s.askFor c l .IS .rds a.tag
  | .M, false | .O, false | .E, false | .S, false | .UX, false => s.hitLine c l a
  | .IS, _ | .IX, _ | .WB, _ | .UX, true => s.waitFor c l a

/-- The accesses that wait for a line are made again, in order. -/
def rerun (s : State) (c l : Nat) : State :=
  let x := s.cline c l
  if x.waits.isEmpty then s else x.waits.foldl (fun s a => s.cacheAccess c l a) (s.setCline c l { x with waits := [] })

/-- R204: a twin has been freed in a set: the accesses that wait for one are made again. -/
def rerunSet (s : State) (c set : Nat) : State :=
  let ls := s.coh.lines.filterMap (fun e =>
    let l := e.1 % 2 ^ 42
    if e.1 / 2 ^ 42 = c ∧ cacheSet c l = set ∧ !e.2.waits.isEmpty ∧ e.2.want.isNone ∧ e.2.chk.isNone ∧ e.2.st ≠ .WB then some l
    else none)
  ls.foldl (fun s l => s.rerun c l) s

/-- The line is no longer in the cache: its ways are free, and every L1 copy has gone (R202). -/
def emptyLine (s : State) (c l : Nat) : State := (s.dropL1 c l).setCline c l { waits := (s.cline c l).waits }

/-- The L2 of an executor. -/
def cacheOf (e : Nat) : Nat := 4 + e / 8

/-- R202, R208, R213: an access of a main core to a line. -/
def touchLine (s : State) (e l : Nat) (k : MemUse) (w : World) : State :=
  s.cacheAccess (cacheOf e) l ⟨e, k, worldTag w⟩

/-- R240: an access of executor `e` hits its L2, for its own world. -/
def hits (s : State) (e : Nat) (w : World) (l : Nat) : Bool :=
  let x := s.cline (cacheOf e) l
  x.readable && x.tag == worldTag w

/-- R212: the L2 of executor `e` can write line `l` for world `w` at once: it holds the line in M, or in E with room for
a twin. Log 130 (DEDUCED). -/
def canWrite (s : State) (e l : Nat) (w : World) : Bool :=
  let x := s.cline (cacheOf e) l
  x.tag == worldTag w && (x.st == .M || (x.st == .E && (s.readyDirty (cacheOf e) l).1))

end State
end Sys2Proof.Machine
end

