-- ==== Sys2Proof/Machine/Proc.lean ====
section
/-!
DEFINITION. The processors: profiles (R135), registers (R136 to R138), address translation (R139, R241),
exception entry and return with world exits (R155, R156, R158, R353 to R355), and the wrapper every
instruction runs in.
-/
namespace Sys2Proof.Machine
open Sys2Proof

/-- R135. -/
inductive Profile where
  | main | channel | controller
  deriving DecidableEq, Repr

def profile : Proc → Profile
  | .exec _ => .main
  | .engine _ => .channel
  | _ => .controller

/-- Processor number, as `State.procs` is keyed. -/
def procNo : Proc → Nat
  | .exec e => e.val
  | .engine e => 320 + e.val
  | .anvilA => 384
  | .anvilB => 385
  | .crucible => 386
  | .sequencer => 387

/-- R137: numbers of special registers. -/
def spPsr : Nat := 0x000
def spEpc : Nat := 0x001
def spEpsr : Nat := 0x002
def spEcause : Nat := 0x003
def spEaddr : Nat := 0x004
def spEvbase : Nat := 0x005
def spEscratch : Nat := 0x006
def spTcmp : Nat := 0x007
def spFpc : Nat := 0x008
def spIfc : Nat := 0x009
def spAmc (n : Nat) : Nat := 0x010 + n
def spAms (n : Nat) : Nat := 0x018 + n
def spBk : Nat := 0x020
def spPairid : Nat := 0x030
def spTb : Nat := 0x031
def spHepc : Nat := 0x040
def spHepsr : Nat := 0x041
def spHcause : Nat := 0x042
def spHeaddr : Nat := 0x043
def spHevbase : Nat := 0x044
def spHscratch : Nat := 0x045
def spHtcmp : Nat := 0x046
def spHexit : Nat := 0x047

namespace ProcState

/-- R137: the value of a special register. Log 6 (DESIGN CHOICE). -/
def getSp (x : ProcState) (n : Nat) : W64 := x.sp.get 0 n
def setSp (x : ProcState) (n : Nat) (v : W64) : ProcState := { x with sp := x.sp.set 0 n v }
/-- R136: `g0` reads as zero. -/
def getG (x : ProcState) (r : RegNo) : W64 := if r.val = 0 then 0 else x.g.get 0 r.val
/-- R136: a write to `g0` is discarded. -/
def setG (x : ProcState) (r : RegNo) (v : W64) : ProcState :=
  if r.val = 0 then x else { x with g := x.g.set 0 r.val v }
def getF (x : ProcState) (r : RegNo) : W64 := x.f.get 0 r.val
def setF (x : ProcState) (r : RegNo) (v : W64) : ProcState := { x with f := x.f.set 0 r.val v }
def psr (x : ProcState) : W64 := x.getSp spPsr
/-- R136: bits 1:0 of the program counter are always zero. -/
def setPc (x : ProcState) (v : W64) : ProcState :=
  { x with pc := v &&& 0xFFFFFFFFFFFFFFFC#64, waiting := false }
/-- Continue with the next instruction. -/
def next (x : ProcState) : ProcState := x.setPc (x.pc + 4)

end ProcState

namespace State

/-- Privilege level: 0 problem, 1 supervisor, 2 hypervisor. The channel and controller profiles run at
supervisor level only (R135). -/
def level (s : State) (p : Proc) : Nat :=
  match profile p with
  | .main => getFld (s.proc (procNo p)).psr PSR.PL
  | _ => 1

/-- Change a processor's own registers. -/
def onProc (s : State) (p : Proc) (f : ProcState → ProcState) : State :=
  s.setProc (procNo p) (f (s.proc (procNo p)))

/-! ### Interrupts (R137, R157) -/

/-- The interrupt causes. Log 93 (DESIGN CHOICE). -/
def irqPending (s : State) (p : Proc) (cause : Nat) : Bool :=
  let x := s.proc (procNo p)
  match cause with
  | 0x18 => x.getSp spTcmp != 0 && decide ((x.getSp spTcmp).toNat ≤ s.tb)
  | 0x19 => x.ext
  | 0x1A => profile p == .main && x.getSp spHtcmp != 0 && decide ((x.getSp spHtcmp).toNat ≤ s.tb)
  | 0x1B => x.hext
  | _ => false

/-- R157: the processor's level and `psr` let the interrupt be taken now. -/
def irqAllowed (s : State) (p : Proc) (cause : Nat) : Bool :=
  let x := s.proc (procNo p)
  let ie := getFld x.psr PSR.IE == 1
  let unit := getFld x.psr PSR.UNIT == 1
  if cause = 0x18 ∨ cause = 0x19 then s.level p != 2 && ie
  else !unit && (s.level p != 2 || ie)

/-- An interrupt is pending at a level it may be taken at. Log 52 (DEDUCED). -/
def irqReady (s : State) (p : Proc) : Bool :=
  [0x18, 0x19, 0x1A, 0x1B].any (fun c => s.irqPending p c && s.irqAllowed p c)

/-- The processor's part of the module is in service, and it is not stopped. Log 12 (DEDUCED). -/
def inService (s : State) (p : Proc) : Bool :=
  s.live && !(s.proc (procNo p)).stopped &&
    (match p with
     | .exec e => s.fld (PAIR_STATUS e.val) PAIR_STATUS.STATE == 1 &&
        [1, 2, 3].contains (s.fld (PWR_DOM (e.val / 8)) PWR_DOM.STATE)
     | .engine e => s.fld (CHN_ENG e.val) CHN_ENG.STATE == 1
     | .anvilA => s.anv.a.restartBy.isNone
     | .anvilB => s.anv.b.restartBy.isNone
     | .crucible => decide (s.fld CRU_STATUS CRU_STATUS.STATE ≤ 1)
     | .sequencer => true)

/-- The processor executes instructions now: it is in service, waits for no world exit (R353), and not in `IDLE` without
an interrupt to take (R151). -/
def procRuns (s : State) (p : Proc) : Bool :=
  s.inService p && (s.proc (procNo p)).exitDue.isNone && (!(s.proc (procNo p)).waiting || s.irqReady p)

/-! ### Worlds and translation -/

/-- World that the processor's accesses carry (R240). -/
def procWorld (s : State) (p : Proc) : World :=
  let x := s.proc (procNo p)
  if s.level p = 2 then .opened
  else if getFld x.psr PSR.SEALED = 1 then .sealed (x.part.getD 0) else .opened

/-- R158, R241, R253: the partition whose world code below hypervisor level that is not sealed belongs to on executor `e`:
the one that the pair's `UOW_PAIRn_BIND` names, where it is registered and not sealed. Log 54 (DEDUCED). -/
def openPart (s : State) (e : Nat) : Option Nat :=
  let p := s.fld (UOW_PAIR_BIND (e / 2)) UOW_PAIR_BIND.PARTITION
  let st := s.fld (CRU_PART p) CRU_PART.STATE
  if st = 1 ∨ st = 2 then some p else none

/-- R344: the segment map of a registration block. -/
def blockSegs (b : Bytes) : List (W64 × W64) :=
  (List.range 16).map (fun i => (BitVec.ofNat 64 (leAt b (64 + 16 * i) 8), BitVec.ofNat 64 (leAt b (72 + 16 * i) 8)))

end State

/-- The kind of an access: its alignment and access causes (R155), and the segment permission bit (R241). -/
inductive Acc where
  | fetch | load | store
  deriving DecidableEq, Repr

def Acc.align : Acc → Nat
  | .fetch => 0x03
  | .load => 0x05
  | .store => 0x06
def Acc.fault : Acc → Nat
  | .fetch => 0x04
  | .load => 0x07
  | .store => 0x08
def Acc.perm : Acc → Fld
  | .fetch => ⟨3, 1⟩
  | .store => ⟨2, 1⟩
  | .load => ⟨1, 1⟩

/-- R241: translate an address through a segment map; the lowest-numbered valid descriptor decides. -/
def segTranslate (segs : List (W64 × W64)) (a : Nat) (acc : Acc) (problem : Bool) : Option Nat :=
  match segs.find? (fun d =>
    let base := getFld d.1 ⟨21, 27⟩
    getFld d.1 ⟨0, 1⟩ == 1 && decide (base ≤ a / 2 ^ 21) && decide (a / 2 ^ 21 < base + getFld d.2 ⟨0, 20⟩)) with
  | none => none
  | some d =>
    if getFld d.1 acc.perm = 1 && (!problem || getFld d.1 ⟨4, 1⟩ == 1) then
      some ((getFld d.2 ⟨21, 27⟩ * 2 ^ 21 + (a - getFld d.1 ⟨21, 27⟩ * 2 ^ 21)) % 2 ^ 48)
    else none

/-- R139: bits 63:48 equal bit 47. -/
def canonical (a : Nat) : Bool := a / 2 ^ 47 == 0 || a / 2 ^ 47 == 2 ^ 17 - 1

namespace State

/-- The physical address of an access, or `none` for an access fault found before any cache access. -/
def translate (s : State) (p : Proc) (a : W64) (acc : Acc) : Option Nat :=
  if !canonical a.toNat then none
  else match profile p with
    | .main =>
      if s.level p = 2 then some (a.toNat % 2 ^ 48)
      else segTranslate (s.proc (procNo p)).segs (a.toNat % 2 ^ 48) acc (s.level p == 0)
    | _ => some (a.toNat % 2 ^ 48)

/-! ### Exception entry and return -/

/-- R156: entry to supervisor level. -/
def enterSup (x : ProcState) (cause : Nat) (irq : Bool) (eaddr : W64) (save : W64) : ProcState :=
  let old := x.psr
  let x := ((x.setSp spEpc save).setSp spEpsr old).setSp spEcause
    (BitVec.ofNat 64 (cause + if irq then 2 ^ 63 else 0))
  let x := x.setSp spEaddr eaddr
  let x := x.setSp spPsr (putFld (putFld (putFld old PSR.PL 1) PSR.EXL 1) PSR.IE 0)
  x.setPc (x.getSp spEvbase + BitVec.ofNat 64 (0x40 * cause))

/-- R156: entry to hypervisor level, with what is saved given. -/
def enterHyp (x : ProcState) (cause : Nat) (irq : Bool) (eaddr save savePsr : W64) : ProcState :=
  let old := x.psr
  let x := ((x.setSp spHepc save).setSp spHepsr savePsr).setSp spHcause
    (BitVec.ofNat 64 (cause + if irq then 2 ^ 63 else 0))
  let x := x.setSp spHeaddr eaddr
  let x := x.setSp spPsr (putFld (putFld (putFld old PSR.PL 2) PSR.EXL 1) PSR.IE 0)
  x.setPc (x.getSp spHevbase + BitVec.ofNat 64 (0x40 * cause))

/-- R354: the save slot of an executor. Log 90 (DEDUCED). -/
def saveSlot (x : ProcState) (resume : W64) (cause exits : Nat) : Bytes :=
  ((List.range 64).map (fun i => leBytes 8 (if i = 0 then 0 else (x.g.get 0 i).toNat))).flatten ++
  ((List.range 64).map (fun i => leBytes 8 (x.f.get 0 i).toNat)).flatten ++
  leBytes 8 x.lk.toNat ++ leBytes 8 resume.toNat ++ leBytes 8 x.psr.toNat ++
  ([spEpc, spEpsr, spEcause, spEaddr, spEvbase, spEscratch, spTcmp, spFpc, spIfc].map
    (fun n => leBytes 8 (x.getSp n).toNat)).flatten ++
  ((List.range 16).map (fun i => leBytes 8 (x.getSp (0x010 + i)).toNat)).flatten ++
  leBytes 8 cause ++ leBytes 8 exits ++ zeros 784

/-- R355: the registers of a save slot, put back. Log 90 (DEDUCED). -/
def loadSlot (x : ProcState) (b : Bytes) : ProcState :=
  let w := fun (o : Nat) => BitVec.ofNat 64 (leAt b o 8)
  let x := { x with
    g := (List.range 63).foldl (fun t i => t.set 0 (i + 1) (w (8 * (i + 1)))) []
    f := (List.range 64).foldl (fun t i => t.set 0 i (w (512 + 8 * i))) []
    lk := w 1024 }
  let x := x.setSp spPsr (w 1040)
  let x := ([spEpc, spEpsr, spEcause, spEaddr, spEvbase, spEscratch, spTcmp, spFpc, spIfc].zipIdx).foldl
    (fun (x : ProcState) n => x.setSp n.1 (w (1048 + 8 * n.2))) x
  let x := (List.range 16).foldl (fun (x : ProcState) i => x.setSp (0x010 + i) (w (1120 + 8 * i))) x
  x.setPc (w 1032)

/-- R353: Burnish. Log 90 (DEDUCED). -/
def burnish (x : ProcState) : ProcState :=
  { x with g := [], f := [], lk := 0, sp := x.sp.filter (fun e => decide (0x040 ≤ e.1)) }

/-- Address of an executor's save slot in its partition's space, and its physical address (R354). -/
def slotAddr (s : State) (part e : Nat) : Option Nat :=
  let b := (s.partRec part).block
  segTranslate (blockSegs b) ((leAt b 40 8 + 2048 * e) % 2 ^ 48) .store false

/-- A Class 2 event stops a partition; DETAIL names the executor (R410). -/
def stopPartEvent (s : State) (part block cause e : Nat) : State := s.logEvent 2 block cause part e

/-- R350: a service run ends; the next may start 10 ms later. -/
def endService (s : State) (e part : Nat) : State :=
  let s := s.stopExec e
  let x := s.partRec part
  s.setPartRec part { x with serviceOn := none, serviceAt := s.tb + ms 10 }

/-- R158, R353, R354: a world exit from a sealed partition, once the store buffer is empty; the L1s are emptied. `hepc`
is 0 also where R160 speaks of the partition's next instruction: that address stands in the slot. Log 13 (DEDUCED).
Log 90 (DEDUCED). Log 111 (DEDUCED). Log 128 (DEDUCED). Log 126 (DEDUCED). -/
def worldExit (s : State) (e cause : Nat) (irq : Bool) (resume hexit : W64) : State :=
  let x := { s.proc e with exitDue := none }
  let part := x.part.getD 0
  let n := x.exits.get 0 part + 1
  let slot := saveSlot x resume (cause + if irq then 2 ^ 63 else 0) n
  let (ok, s) := match s.slotAddr part e with
    | some a => s.memWrite (.sealed part) 1 a slot
    | none => (false, s)
  let service := s.run e == .service part
  let y := burnish { x with exits := x.exits.set 0 part n }
  let y := y.setSp spHexit hexit
  let y := enterHyp y cause irq 0 0 (BitVec.ofNat 64 1)
  let y := { y with
    part := none, segs := []
    suspended := if service && cause == 0x14 then none
      else some (Suspended.mk part (getFld x.psr PSR.WTAG) (getFld x.psr PSR.UNIT == 1) service) }
  let s := (s.setProc e y).emptyL1s e [false, true]
  let s := if service && cause == 0x14 then s.endService e part else s.meterRunStop e
  if ok then s else s.stopPartEvent part blockCru causeNone e

/-- Entry to hypervisor level from executor `e`: a world exit when a sealed partition runs (R158), which waits until the
store buffer has drained (R353). Log 126 (DEDUCED). -/
def toHyp (s : State) (e cause : Nat) (irq : Bool) (eaddr save hexit : W64) (wexit : Bool) : State :=
  let x := s.proc e
  if getFld x.psr PSR.SEALED = 1 && getFld x.psr PSR.PL != 2 then
    if s.buffered e = [] then s.worldExit e cause irq save hexit
    else s.setProc e { x with exitDue := some ⟨cause, irq, save, hexit⟩ }
  else
    let y := enterHyp x cause irq eaddr save x.psr
    s.setProc e (if wexit then y.setSp spHexit hexit else y)

/-- R353: the world exits whose store buffers have drained are taken. Log 126 (DEDUCED). -/
def exitsTaken (s : State) : State :=
  s.procs.foldl (fun s p => match (s.proc p.1).exitDue with
    | some x => if s.buffered p.1 = [] then s.worldExit p.1 x.cause x.irq x.resume x.hexit else s
    | none => s) s

/-- R358, R359 step 1: hardware restarts Crucible alone; the third restart within 10 minutes leaves it
failed. `bit` is the cause of the event. Log 12 (DEDUCED). -/
def crucibleRestart (s : State) (bit : Nat) : State :=
  let st := s.fld CRU_STATUS CRU_STATUS.STATE
  if st = 2 ∨ st = 3 then s
  else
    let recent := s.tb :: s.cru.restarts.filter (fun t => decide (s.tb < t + sec 600))
    let s := { s with
      cru := { s.cru with restarts := recent, wdogAt := none }
      hep := { s.hep with spdmSessions := [] }
      procs := s.procs.del 386 }
    let s := s.endSessions
    if 3 ≤ recent.length then (s.setFld CRU_STATUS CRU_STATUS.STATE 3).logEvent 3 blockCru bit 0
    else (s.setFld CRU_STATUS CRU_STATUS.STATE 2).logEvent 0 blockCru bit 0

/-- R155, R156: take exception `cause` on processor `p`; `pc` is what is saved. A second synchronous
exception under EXL is a double fault, and at hypervisor level stops the pair with a Class 3 event. An engine or a
controller has no hypervisor level: cause 0x15 enters supervisor level there, and under EXL Crucible restarts (R358) and
the others execute nothing more. Log 12 (DEDUCED). -/
def raise (s : State) (p : Proc) (cause : Nat) (eaddr : W64) : State :=
  let n := procNo p
  let x := s.proc n
  let exl := getFld x.psr PSR.EXL == 1
  match p with
  | .exec e =>
    if s.level p = 2 then
      if exl then
        (s.setProc n { x with stopped := true }).logEvent 3 blockPair causeNone (e.val / 2)
      else s.setProc n (enterHyp x cause false eaddr x.pc x.psr)
    else if cause = 0x0E ∨ cause = 0x14 ∨ cause = 0x15 then s.toHyp n cause false eaddr x.pc 0 false
    else if exl then s.toHyp n 0x13 false (x.getSp spEpc) x.pc 0 false
    else s.setProc n (enterSup x cause false eaddr x.pc)
  | .crucible => if exl then s.crucibleRestart causeNone else s.setProc n (enterSup x cause false eaddr x.pc)
  | _ =>
    if exl then s.setProc n { x with stopped := true }
    else s.setProc n (enterSup x cause false eaddr x.pc)

/-! ### The wrapper of every instruction -/

/-- R335, R429, R430: the controller addresses that instructions and loads may reach: first, last, writable
kind left to the store. -/
def ctlMapped (p : Proc) (a : Nat) : Bool :=
  let inR := fun (lo hi : Nat) => decide (lo ≤ a) && decide (a ≤ hi)
  match p with
  | .crucible => inR 0 0x2FFFFF || inR 0x300000 0x3000FF || inR 0x310000 0x3103FF || inR 0x320000 0x32000F ||
      inR 0x330000 0x330FFF || inR 0x340000 0x34FFFF || inR 0x400000 0x7FFFFF
  | .sequencer => inR 0 0x3FFFF || inR 0x100000 0x10FFFF || inR 0x200000 0x200017 || inR 0x210000 0x212FFF ||
      inR 0x220000 0x22001B || inR 0x220020 0x220023 || inR 0x230000 0x2300FF
  | .anvilA | .anvilB => inR 0 0x1FFFFF || inR 0x200000 0x200003 || inR 0x210000 0x210003 || inR 0x220000 0x22007F ||
      inR 0x230000 0x23FFFF || inR 0x240000 0x240003 || inR 0x250000 0x25000F || inR 0x260000 0x260003 ||
      inR 0x300000 0x33FFFF || inR 0x400000 0x8FFFFF
  | _ => false

/-- R126, R155, R214: processor `p` consumes a poisoned line: within a unit run the unit is restarted with
cause 0x02; outside one it is a machine check. -/
def consumePoison (s : State) (p : Proc) (line : Nat) : State :=
  match p with
  | .exec e =>
    match s.run e.val, getFld (s.proc e.val).psr PSR.UNIT with
    | .unit k, 1 => s.restartUnit k 2
    | _, _ => s.raise p 0x15 (BitVec.ofNat 64 (64 * line))
  | _ => s.raise p 0x15 (BitVec.ofNat 64 (64 * line))

/-- What a fetch of the instruction at pc meets: nothing, an access fault, or a poisoned line. -/
inductive Fetch where
  | ok | fault | poison (line : Nat)
  deriving DecidableEq, Repr

/-- R240: a fetch of a main core hits its L2. -/
def fetchHits (s : State) (p : Proc) (l : Nat) : Bool :=
  match p with
  | .exec e => s.hits e.val (s.procWorld p) l
  | _ => false

/-- The fetch of the instruction at the program counter (R139, R155, R214, R240, R241). Log 16 (DEDUCED). -/
def fetchCheck (s : State) (p : Proc) : Fetch :=
  let pc := (s.proc (procNo p)).pc
  match profile p with
  | .controller => if pc.toNat < 2 ^ 24 && ctlMapped p pc.toNat then .ok else .fault
  | _ =>
    match s.translate p pc .fetch with
    | none => .fault
    | some a =>
      if 2 ^ 47 ≤ a then .ok
      else if memLimit ≤ a || !s.memOn then .fault
      else if s.fetchHits p (lineOf a) || (s.regionCheck (s.procWorld p) a false).2.isSome then
        (if s.poisoned (lineOf a) then .poison (lineOf a) else .ok)
      else .fault

/-- R202, R213: the fetch goes through the instruction cache of a main core, and the L2. Log 16 (DEDUCED). -/
def fetched (s : State) (p : Proc) : State :=
  match p with
  | .exec e => match s.translate p (s.proc e.val).pc .fetch with
    | some a => if a < memLimit then s.touchLine e.val (lineOf a) .fetch (s.procWorld p) else s
    | none => s
  | _ => s

/-- R148, R151: every earlier store of the processor is visible. -/
def storesDone (s : State) (p : Proc) : Bool :=
  match p with
  | .exec e => s.buffered e.val == []
  | _ => true

/-- R151, R202: the instruction caches of a main core's cores hold nothing. -/
def dropFetched (s : State) (p : Proc) : State :=
  match p with
  | .exec e => s.emptyL1s e.val [false]
  | _ => s

/-- Run one instruction: nothing happens on a processor that executes none; a fetch that fails takes its
exception; otherwise `body`. Log 16 (DEDUCED). -/
def instr (p : Proc) (s : State) (body : State → State) : Host.Outcome State Fault Refusal :=
  .next (if s.procRuns p then
      match s.fetchCheck p with
      | .ok => body (s.fetched p)
      | .fault =>
        let s := match profile p, s.translate p (s.proc (procNo p)).pc .fetch with
          | .controller, _ => s
          | _, none => s
          | _, some a => if memLimit ≤ a || !s.memOn then s else s.logRefusal 1 (s.regionCheck (s.procWorld p) a false).1 a
        s.raise p 0x04 (s.proc (procNo p)).pc
      | .poison l => s.consumePoison p l
    else s)

/-- Illegal instruction (R142, R135): cause 0x01 with the instruction's address. -/
def illegal (s : State) (p : Proc) : State := s.raise p 0x01 (s.proc (procNo p)).pc
/-- Privileged instruction: cause 0x02. -/
def privileged (s : State) (p : Proc) : State := s.raise p 0x02 (s.proc (procNo p)).pc

/-- The instruction writes `v` to `g` register `d` and ends. -/
def writeG (s : State) (p : Proc) (d : RegNo) (v : W64) : State := s.onProc p (fun x => (x.setG d v).next)
def gReg (s : State) (p : Proc) (r : RegNo) : W64 := (s.proc (procNo p)).getG r
def fReg (s : State) (p : Proc) (r : RegNo) : W64 := (s.proc (procNo p)).getF r
/-- The instruction ends with no other effect. -/
def advance (s : State) (p : Proc) : State := s.onProc p ProcState.next

/-! ### Interrupts -/

/-- R155, R157: the external interrupt to the partition, of which no rule names a source, comes with the command that takes
it, and is pending until it is taken. Log 52 (DEDUCED). -/
def extArrives (s : State) (p : Proc) (cause : Nat) : State :=
  if cause = 0x19 ∧ s.inService p then s.onProc p (fun x => { x with ext := true }) else s

/-- R157: take interrupt `cause` between two retirement rounds. -/
def takeIrq (s : State) (p : Proc) (cause : Nat) : State :=
  let s := s.extArrives p cause
  let n := procNo p
  let x := s.proc n
  if s.inService p && x.exitDue.isNone && s.irqPending p cause && s.irqAllowed p cause then
    let x := { x with
      ext := x.ext && cause != 0x19
      hext := x.hext && cause != 0x1B }
    let s := s.setProc n x
    if cause = 0x18 ∨ cause = 0x19 then s.setProc n (enterSup x cause true 0 x.pc)
    else s.toHyp n cause true 0 x.pc 0 false
  else s

end State
end Sys2Proof.Machine
end

