-- ==== Sys2Proof/Machine/CohOps.lean ====
section
/-!
DEFINITION. Homes and directories, shared operations: what a home does with a request (R211 to R218), the requests of I/O
agents, and dead and silent agents (R219, R220).
-/
namespace Sys2Proof.Machine
open Sys2Proof

/-- R216: entries of its pool that an open transaction of a home can still need: for a forward's answer and its data, for
each InvAck, and for the answer to the requester. Log 122 (DEDUCED). -/
def HomeTrans.needs (t : HomeTrans) : Nat := (if t.fwd.isSome && !t.answered then 2 else 0) + t.invs.length + 1

/-- An IoWr of the whole line (R211). -/
def IoReq.full (q : IoReq) : Bool := q.off == 0 && q.data.length == 64

/-- A directory entry's contents without the agents of a list (R219, R220). -/
def DirState.without (d : DirState) (gone : List Nat) : DirState :=
  let rest := fun (ss : List Nat) => ss.filter (fun a => !gone.contains a)
  let shared := fun (ss : List Nat) => if rest ss = [] then DirState.I else .S (rest ss)
  match d with
  | .I => .I
  | .S ss => shared ss
  | .X o => if gone.contains o then .I else .X o
  | .O o ss => if gone.contains o then shared ss else .O o (rest ss)

/-- R211: what an entry holds once a read by `t.requester` has ended. -/
def DirState.read (d : DirState) (t : HomeTrans) : DirState :=
  let r := t.requester
  match d with
  | .X o => if t.dirty then .O o [r] else if t.kept then .S [o, r] else .S [r]
  | .O o ss => if t.dirty || t.kept then .O o (r :: ss.filter (· != r)) else .S (r :: ss.filter (· != r))
  | .S ss => .S (r :: ss.filter (· != r))
  | .I => .S [r]

namespace State

def home (s : State) (h l : Nat) : HomeEntry := s.coh.homes.get {} (h * 2 ^ 42 + l)
def setHome (s : State) (h l : Nat) (x : HomeEntry) : State :=
  { s with coh := { s.coh with homes := s.coh.homes.set {} (h * 2 ^ 42 + l) x } }

/-! ### Poisoning by caches and homes -/

/-- R214, R224: a cache or a home poisons a line. -/
def cohPoison (s : State) (l cause : Nat) : State :=
  let s := (s.setPoison l true).setBit COH_EVENT COH_EVENT.LINE_POISONED
  let s := s.bump COH_POISONED COH_POISONED.COUNT
  if s.bit COH_POISON_LOG COH_POISON_LOG.VALID then s
  else s.setReg COH_POISON_LOG (BitVec.ofNat 64 (2 ^ 63 + cause * 2 ^ 60 + l % 2 ^ 42 * 64))

/-! ### Requests of I/O agents -/

/-- The request of the I/O agents for line `l` that is at its home or is to be sent again. -/
def ioHead (s : State) (l : Nat) : Option IoReq := s.coh.io.find? (fun q => q.line == l)

/-- Change the first request for a line, or take it out. -/
def onIo (f : IoReq → Option IoReq) (l : Nat) : List IoReq → List IoReq
  | [] => []
  | q :: t => if q.line = l then (f q).toList ++ t else q :: onIo f l t

/-- R215: the request for line `l` is complete; one that waits behind it is sent next. -/
def ioDone (s : State) (l : Nat) : State :=
  let rest := onIo (fun _ => none) l s.coh.io
  { s with coh := { s.coh with io := onIo (fun q => some { q with retryAt := some s.tb }) l rest } }

/-- R211: the home agent answers an IoRd. A line in poison form is not decrypted (R238). -/
def ioAnswer (s : State) (h l : Nat) (q : IoReq) : State :=
  let s := s.sendCoh .data (homeNode h) ioAgent l
  let d := if s.poisoned l then poisonForm else s.lineUnder q.key l
  (if q.moved then s else s.emit (.ioData l d (s.poisoned l))).ioDone l

/-- R211, R214: the home agent writes what an IoWr carries. -/
def ioStore (s : State) (h l : Nat) (q : IoReq) : State :=
  let s := if q.moved then s
    else ((s.beforeWrite l).keyedWrite q.key (64 * l + q.off) q.data).noteWrite l q.full
  (s.sendCoh .ack (homeNode h) ioAgent l).ioDone l

/-- R235: the home agent writes a whole line that a cache has sent it, or that it poisons. -/
def homeWrites (s : State) (h l : Nat) : State := if h < 24 then (s.beforeWrite l).noteWrite l else s

/-! ### Homes -/

/-- R215, R216: answer Nack; a request for a Busy line gets its place in the wait list. -/
def nackTo (s : State) (h l r : Nat) : State :=
  let e := s.home h l
  let s := if e.busy.isSome && !e.waits.contains r then s.setHome h l { e with waits := e.waits ++ [r] } else s
  (s.bump COH_NACKS COH_NACKS.COUNT).sendCoh .nack (homeNode h) r l

/-- R216: reservation slots in use at a home. -/
def resvUsed (s : State) (h : Nat) : Nat :=
  (s.coh.homes.filter (fun e => e.1 / 2 ^ 42 == h && e.2.reserved.isSome)).length

def resvRegs (s : State) (h : Nat) : State :=
  if h < 24 then s.setFld (COH_HOME h) COH_HOME.RESV_USED (s.resvUsed h) else s

/-- R216, R228: the reservation slots that serve line `l`: those of its home agent, or of its slice of a Hearth. -/
def samePool (h l k : Nat) : Bool :=
  k / 2 ^ 42 == h && (decide (h < 24) || hearthSet (k % 2 ^ 42) % 20 == hearthSet l % 20)

/-- R216, R228: a home agent has 32 slots, a slice of a Hearth 16. -/
def resvFree (s : State) (h l : Nat) : Bool :=
  decide ((s.coh.homes.filter (fun e => samePool h l e.1 && e.2.reserved.isSome)).length < (if h < 24 then 32 else 16))

/-- Consecutive Nacks of the request of agent `r` for a line (R215). -/
def nacksOf (s : State) (l r : Nat) : Nat :=
  if r = ioAgent then ((s.ioHead l).map (·.nacks)).getD 0 else (s.cline r l).nacks

/-- R216, ageing mode: a request that was Nacked eight times reserves the line, if a slot is free and no starved request
that came before it waits for one. -/
def tryReserve (s : State) (h l r : Nat) : State :=
  let e := s.home h l
  let me := (h * 2 ^ 42 + l, r)
  if s.fld COH_STATUS COH_STATUS.MODE = 0 && decide (8 ≤ s.nacksOf l r) && e.reserved.isNone then
    let before := s.coh.starved.takeWhile (· != me)
    if s.resvFree h l && !before.any (fun x => samePool h l x.1) then
      let s := { s with coh := { s.coh with starved := s.coh.starved.filter (· != me) } }
      (((s.setHome h l { e with reserved := some r }).bump COH_STARVED COH_STARVED.COUNT).setBit COH_EVENT
        COH_EVENT.STARVED).resvRegs h
    else if s.coh.starved.contains me then s
    else { s with coh := { s.coh with starved := s.coh.starved ++ [me] } }
  else s

/-- R216, ageing mode: after admitting a request, as many entries of the home's pool remain free as its open transactions
can still need. Log 122 (DEDUCED). -/
def admits (s : State) (h : Nat) : Bool :=
  let used := (s.coh.homes.map (fun e =>
    if e.1 / 2 ^ 42 = h then e.2.held.length + ((e.2.busy.map (·.needs)).getD 0) else 0)).sum
  s.fld COH_STATUS COH_STATUS.MODE != 0 || decide (used + 3 + (if h < 24 then 3 else 9) ≤ Config.poolEntries h)

/-- Entries of a directory set in use, other than the line's own; a line that waits for room has none yet. -/
def dirSet (s : State) (h l : Nat) : List (Nat × HomeEntry) :=
  let setOf := fun (x : Nat) => if h < 24 then homeSet (lineRow x) else hearthSet x
  s.coh.homes.filterMap (fun e =>
    let k := e.1 % 2 ^ 42
    if e.1 / 2 ^ 42 = h ∧ k ≠ l ∧ setOf k = setOf l ∧ (e.2.dir ≠ .I ∨ e.2.busy.any (!·.room)) then some (k, e.2) else none)

/-- R220: the expiry of a wait for an answer: 20 µs in the guarded regime. -/
def snoopDue (s : State) : Option Nat :=
  if s.bit COH_STATUS COH_STATUS.GUARDED then some (s.tb + us 20) else none

/-- Open Busy on a line, and send its forward and its Invs; a dead agent is counted answered (R219).
Log 60 (DEDUCED). -/
def openBusy (s : State) (h l : Nat) (t : HomeTrans) (m : Option (Msg × Nat)) (invs : List Nat) : State :=
  let invs := invs.filter (fun a => !s.isDead a)
  let s := s.setHome h l { s.home h l with busy := some { t with
    fwd := m.map (·.2)
    invs := invs
    answered := m.isNone
    timeout := s.snoopDue } }
  let s := match m with
    | some (x, o) => s.sendCoh x (homeNode h) o l
    | none => s
  invs.foldl (fun s a => s.sendCoh .inv (homeNode h) a l) s

/-- A line becomes dirty at die level: a Hearth gets dirty data from a cluster. In clean-only operation it goes
home at once (R207, R208). Otherwise it takes its twin; at the set's limit the least recently used dirty line is cleaned
for it first (R204), and `settleSet` gives it the twin that this frees. Log 60 (DEDUCED). -/
def hearthDirty (s : State) (h l : Nat) : State :=
  let c := h - 24
  let x := s.cline c l
  if decide (24 ≤ h) && (x.st == .E || x.st == .M || x.st == .O) then
    let s := s.setCline c l { x with st := if x.st == .E then .M else x.st, haveData := true }
    if s.cleanOnly c then (if x.cleaning then s else s.cleanLine c l) else (s.readyDirty c l).2
  else s

/-- R219: the dirty owner of a line is dead or silent: the line is recovered from a surviving sharer of an O line, or
poisoned. A home agent writes it to memory; at a Hearth it is then dirty at die level. Log 60 (DEDUCED). -/
def lostOwner (s : State) (h l cause : Nat) (sharers : List Nat) : State :=
  let s := if sharers.any (fun a => !s.isDead a) then s else s.cohPoison l cause
  (s.homeWrites h l).hearthDirty h l

def setDir (s : State) (h l : Nat) (d : DirState) : State :=
  let s := { s with coh := { s.coh with clock := s.coh.clock + 1 } }
  s.setHome h l { s.home h l with dir := d, used := s.coh.clock }

/-- A request is served: its place in the wait list and its reservation end. -/
def doneWith (s : State) (h l r : Nat) : State :=
  let e := s.home h l
  let s := { s with coh := { s.coh with starved := s.coh.starved.filter (· != (h * 2 ^ 42 + l, r)) } }
  (s.setHome h l { e with waits := e.waits.filter (· != r), reserved := if e.reserved = some r then none else e.reserved }).resvRegs h

/-- Judge one writeback at a line that is not Busy (R211). -/
def judgeWb (s : State) (h l a : Nat) (dirty keep : Bool) : State :=
  let e := s.home h l
  let owner := match e.dir with
    | .X o => o == a
    | .O o _ => o == a
    | _ => false
  if owner then
    let d := match e.dir with
      | .X o => if dirty && keep then DirState.X o else .I
      | .O o ss => if dirty then (if keep then .S (o :: ss.filter (· != o)) else .S ss) else .O o ss
      | d => d
    let s := s.setDir h l d
    let s := if dirty then (s.homeWrites h l).hearthDirty h l else s
    s.sendCoh .wbAck (homeNode h) a l
  else (s.bump COH_STALE_WB COH_STALE_WB.COUNT).sendCoh .wbStale (homeNode h) a l

/-- Judge the writebacks held while the line was Busy. -/
def judgeHeld (s : State) (h l : Nat) : State :=
  let e := s.home h l
  e.held.foldl (fun s w => s.judgeWb h l w.1 w.2.1 w.2.2) (s.setHome h l { e with held := [] })

/-- R211: close Busy once the FwdAck and every InvAck are in: the entry's new contents, the answer to the
requester, and the writebacks held meanwhile. A dead requester gets nothing: dirty data that was on its way to it is lost
(R219). -/
def closeBusy (s : State) (h l : Nat) : State :=
  let e := s.home h l
  match e.busy with
  | none => s
  | some t =>
    if !t.answered || t.invs != [] || t.outer || t.room then s
    else
      let s := (s.setHome h l { e with busy := none }).doneWith h l t.requester
      let n := homeNode h
      let r := t.requester
      let gone := s.isDead r
      let s := match t.kind with
        | .rds =>
          (if t.sent || gone then s else s.sendCoh .data n r l).setDir h l
            (if gone then (e.dir.read t).without [r] else e.dir.read t)
        | .rdx =>
          if gone then (if t.sent && t.dirty then s.lostOwner h l 2 [] else s).setDir h l .I
          else (if t.sent then s.sendCoh .grant n r l else s.sendCoh .dataE n r l).setDir h l (.X r)
        | .upg =>
          if gone then (match e.dir with
            | .O _ _ => s.lostOwner h l 2 []
            | _ => s).setDir h l .I
          else (s.sendCoh .grant n r l).setDir h l (.X r)
        | .iord => t.io.elim s (fun q => s.ioAnswer h l q)
        | .iowr => t.io.elim s (fun q => (s.setDir h l .I).ioStore h l q)
        | .evict =>
          -- R218: the Hearth keeps its line; without one, the die's data or WbClean goes to the home agent
          let s := s.setDir h l .I
          if h < 24 ∨ (s.cline (h - 24) l).way.isSome then s else s.replaceLine (h - 24) l
        | .lower => s.setDir h l .I
      s.judgeHeld h l

/-- The set of line `l` in a directory has room for it. -/
def dirHasRoom (s : State) (h l : Nat) : Bool :=
  (s.home h l).dir != .I || decide ((s.dirSet h l).length < (if h < 24 then 16 else 12))

/-- R218: make room in a full directory set: recall the least recently used entry that is not pinned. The
answer is `false` where every entry is pinned. -/
def dirRoom (s : State) (h l : Nat) : Bool × State :=
  let ls := s.dirSet h l
  if s.dirHasRoom h l then (true, s)
  else
    let free := ls.filter (fun x => x.2.busy.isNone)
    match free.foldl (fun m x => match m with
      | none => some x
      | some (y : Nat × HomeEntry) => some (if x.2.used < y.2.used then x else y)) none with
    | none =>
      let s := s.setBit COH_EVENT COH_EVENT.SET_PINNED
      (false, if h < 24 then s.bumpSat (COH_HOME h) COH_HOME.PINNED_NACKS
        else s.bumpSat (COH_HEARTH (h - 24)) COH_HEARTH.PINNED_NACKS)
    | some (v, x) =>
      let t : HomeTrans := { kind := .evict, requester := homeNode h }
      let s := match x.dir with
        | .X o =>
          if s.isDead o then (s.lostOwner h v 2 []).openBusy h v t none []
          else s.openBusy h v t (some (.recall, o)) []
        | .O o ss =>
          if s.isDead o then (s.lostOwner h v 2 ss).openBusy h v t none ss
          else s.openBusy h v t (some (.recall, o)) ss
        | .S ss => s.openBusy h v t none ss
        | .I => s
      (true, s.closeBusy h v)

/-- The die-level state a Hearth needs before it serves a request of its clusters (R208): any copy for a
read, ownership for the rest. -/
def outerOk (s : State) (h l : Nat) (k : ReqKind) : Bool :=
  if h < 24 then true
  else
    let st := (s.cline (h - 24) l).st
    match k with
    | .rds => (s.cline (h - 24) l).readable
    | _ => [LineState.M, .E].contains st

/-- R211: serve a request at a home whose line is free. -/
def serveFree (s : State) (h l : Nat) (k : ReqKind) (r : Nat) (io : Option IoReq := none) : State :=
  let e := s.home h l
  let n := homeNode h
  let t : HomeTrans := { kind := k, requester := r, io := io }
  let back := if io.any (·.full) then Msg.recallDiscard else .recall
  let own := fun (s : State) (t : HomeTrans) (o : Nat) (ss : List Nat) (m : Msg) (invs : List Nat) =>
    if s.isDead o then ((s.lostOwner h l 2 ss).setDir h l (e.dir.without [o])).openBusy h l t none invs
    else s.openBusy h l t (some (m, o)) invs
  let s := match k, e.dir with
    | .rds, .I => ((s.doneWith h l r).sendCoh .dataE n r l).setDir h l (.X r)
    | .rds, .S ss => ((s.doneWith h l r).sendCoh .data n r l).setDir h l (.S (r :: ss.filter (· != r)))
    | .rds, .X o => own s t o [] .fwdS []
    | .rds, .O o ss => own s t o ss .fwdS []
    | .rdx, .I | .upg, .I => ((s.doneWith h l r).sendCoh .dataE n r l).setDir h l (.X r)
    | .rdx, .S ss => s.openBusy h l { t with kind := .rdx } none (ss.filter (· != r))
    | .upg, .S ss =>
      if ss.contains r then s.openBusy h l t none (ss.filter (· != r))
      else s.openBusy h l { t with kind := .rdx } none ss
    | .rdx, .X o | .upg, .X o => own s { t with kind := .rdx } o [] .fwdX []
    | .rdx, .O o ss => own s t o ss .fwdX ss
    | .upg, .O o ss => if o = r then s.openBusy h l t none ss else own s { t with kind := .rdx } o ss .fwdX ss
    | .iord, .X o => own s t o [] .fwdPeek []
    | .iord, .O o ss => own s t o ss .fwdPeek []
    | .iord, _ => io.elim s (fun q => ((s.doneWith h l r).readLine l [] false).ioAnswer h l q)
    | .iowr, .I => io.elim s (fun q => (s.doneWith h l r).ioStore h l q)
    | .iowr, .S ss => s.openBusy h l t none ss
    | .iowr, .X o => own s t o [] back []
    | .iowr, .O o ss => own s t o ss back ss
    | .evict, _ | .lower, _ => s
  s.closeBusy h l

/-- R204, R208: the lines of a set of a Hearth that no cluster owns find their place before a request is served there, and
when a twin is freed: a dirty line gets its way and its twin; one that no cluster holds gets its way if it has data, and
is given up if not. Log 60 (DEDUCED). -/
def settleSet (s : State) (c set : Nat) : State :=
  let ls := s.coh.lines.filterMap (fun e =>
    let l := e.1 % 2 ^ 42
    if e.1 / 2 ^ 42 = c ∧ cacheSet c l = set ∧ e.2.stable ∧ !e.2.cleaning ∧ !s.ownedBelow c l ∧
        ((e.2.way.isNone ∧ !s.tracked c l) ∨ (e.2.isDirty ∧ e.2.twin.isNone)) then some l else none)
  ls.foldl (fun s l =>
    let x := s.cline c l
    if x.isDirty then (s.readyDirty c l).2
    else if x.haveData then s.placeLine c l
    else s.replaceLine c l) s

/-- Serve a request at a home that has room for its entry. A Hearth first gets the line, its ownership, or leave for the
requester's world (R213), from the home agent. -/
def serveRoom (s : State) (h l : Nat) (k : ReqKind) (r : Nat) (io : Option IoReq := none) : State :=
  let c := h - 24
  let x := s.cline c l
  let tag := (s.cline r l).tag
  if h < 24 ∨ (s.outerOk h l k ∧ x.tag = tag) then s.serveFree h l k r io
  else
    let s := s.setHome h l { s.home h l with busy := some { kind := k, requester := r, io := io, outer := true } }
    if x.readable && x.tag != tag then
      if x.chk.isSome then s
      else (s.setCline c l { x with chk := some (tag, k != .rds) }).sendCoh .chk c (homeNode (lineHome l)) l
    else match x.st with
    | .I =>
      if x.want.isSome then s
      else (s.placeLine c l).askFor c l (if k == .rds then .IS else .IX) (if k == .rds then .rds else .rdx) tag
    | .S | .O => if x.want.isSome then s else s.askFor c l .UX .upg tag
    | _ => s

/-- The request that a line has been Busy for is served; if that leaves it free, what was held meanwhile is judged. -/
def serveNow (s : State) (h l : Nat) (t : HomeTrans) : State :=
  let s := (s.setHome h l { s.home h l with busy := none }).serveRoom h l t.kind t.requester t.io
  if (s.home h l).busy.isNone then s.judgeHeld h l else s

/-- R218: an eviction has made room: the requests that wait for it are served. -/
def roomMade (s : State) (h l : Nat) : State :=
  let set := fun (x : Nat) => if h < 24 then homeSet (lineRow x) else hearthSet x
  let waiting := s.coh.homes.filterMap (fun e =>
    let n := e.1 % 2 ^ 42
    if e.1 / 2 ^ 42 = h ∧ set n = set l ∧ e.2.busy.any (·.room) then some n else none)
  waiting.foldl (fun s n => match (s.home h n).busy with
    | some t => if t.room && s.dirHasRoom h n then s.serveNow h n t else s
    | none => s) s

/-- The die-level transaction a Hearth waited for has ended: it serves the request it holds. -/
def outerDone (s : State) (c l : Nat) : State :=
  if isHearth c then
    let h := 24 + c
    match (s.home h l).busy with
    | some t => if t.outer then s.serveNow h l t else s
    | none => s
  else s

/-! ### Forwards at a cache -/

/-- The requester of the home's open transaction: where a forwarded line goes. -/
def fwdTarget (s : State) (h l : Nat) : Nat := ((s.home h l).busy.map (·.requester)).getD ioAgent

/-- R208: answer a forward with data, or without, to the requester, and FwdAck to the home: whether data went, whether it
was dirty, whether a copy was kept. Log 136 (DEDUCED). -/
def answerFwd (s : State) (a l : Nat) (m : Option Msg) (dirty kept : Bool) : State :=
  let h := homeFor a l
  let s := s.sendCoh (m.getD .ack) a (fwdTarget s h l) l
  s.sendCoh .fwdAck a (homeNode h) l (m.isSome.toNat + 2 * dirty.toNat + 4 * kept.toNat)

/-- The line goes to another state and keeps its primary copy; its twin goes where it is no longer dirty (R204). -/
def lowerLine (s : State) (a l : Nat) (st : LineState) : State :=
  let x := s.cline a l
  s.setCline a l { x with st := st, twin := if st = .O then x.twin else none }

/-- R207: in clean-only operation a line that stays dirty goes home. -/
def cleanKept (s : State) (a l : Nat) : State :=
  let x := s.cline a l
  if s.cleanOnly a && x.isDirty && !x.cleaning then s.cleanLine a l else s

/-- The line leaves the cache; a request for it that was Nacked is still sent again at its time (R215). -/
def leaveLine (s : State) (a l : Nat) : State :=
  let x := s.cline a l
  let s := s.emptyLine a l
  if x.want.isSome then
    s.setCline a l { s.cline a l with want := some .rdx, nacks := x.nacks, retryAt := x.retryAt, tag := x.tag }
  else s

/-- The line leaves the cache for a forward, an Inv or a Recall, which `say` answers; the accesses that wait for it are
made again, as from I, and those of its set that wait for a way or a twin (R204, R208, R221). -/
def giveUp (s : State) (a l : Nat) (say : State → State) : State :=
  ((say (s.leaveLine a l)).rerun a l).rerunSet a (cacheSet a l)

/-- A line in UX has lost the copy it upgrades from (R208). -/
def toIX (s : State) (a l : Nat) : State :=
  (s.dropL1 a l).setCline a l { s.cline a l with st := .IX, dirty := false }

/-- R208, column FwdS. -/
def answerS (s : State) (a l : Nat) : State :=
  let x := s.cline a l
  match x.st with
  | .M => ((s.lowerLine a l .O).answerFwd a l (some .data) true true).cleanKept a l
  | .O => (s.answerFwd a l (some .data) true true).cleanKept a l
  | .E => (s.lowerLine a l .S).answerFwd a l (some .data) false true
  | .S => s
  | .UX => if x.dirty then s.answerFwd a l (some .data) true true else s
  | .WB => s.answerFwd a l (if x.dirty then some .data else none) x.dirty false
  | .I | .IS | .IX => s.answerFwd a l none false false

/-- R208, column FwdX. -/
def answerX (s : State) (a l : Nat) : State :=
  let x := s.cline a l
  match x.st with
  | .M | .O => s.giveUp a l fun s => s.answerFwd a l (some .dataD) true false
  | .E => s.giveUp a l fun s => s.answerFwd a l (some .data) false false
  | .S => s
  | .UX => if x.dirty then (s.toIX a l).answerFwd a l (some .dataD) true false else s
  | .WB => s.answerFwd a l (if x.dirty then some .dataD else none) x.dirty false
  | .I | .IS | .IX => s.answerFwd a l none false false

/-- R208, column Inv. -/
def answerInv (s : State) (a l : Nat) : State :=
  let x := s.cline a l
  let say := fun (s : State) => s.sendCoh .invAck a (homeNode (homeFor a l)) l
  match x.st with
  | .M | .O | .E => s
  | .S => s.giveUp a l say
  | .UX => if x.dirty then s else say (s.toIX a l)
  | .I | .IS | .IX | .WB => say s

/-- R208, column Recall: `discard` answers without data (R211). Log 60 (DEDUCED). -/
def answerRecall (s : State) (a l : Nat) (discard : Bool) : State :=
  let x := s.cline a l
  let h := homeNode (homeFor a l)
  let ack := fun (s : State) => s.sendCoh .ack a h l
  let back := fun (s : State) => if discard then ack s else s.sendCoh .wbD a h l 2
  match x.st with
  | .M | .O => s.giveUp a l back
  | .E => s.giveUp a l ack
  | .S => s
  | .UX => if x.dirty then back (s.toIX a l) else s
  | .WB => if x.dirty then back s else ack s
  | .I | .IS | .IX => ack s

/-- R208: a cache answers a forward, an Inv or a Recall from its line. -/
def answerFrom (s : State) (a l : Nat) : FwdKind → State
  | .fwdS => s.answerS a l
  | .fwdX => s.answerX a l
  | .inv => s.answerInv a l
  | .recall => s.answerRecall a l false
  | .discard => s.answerRecall a l true

/-- R201, R208: what a Hearth asks of its clusters before it answers: the owner it recalls the line from, and the sharers it
invalidates. Clusters that share a line keep it where the die goes on sharing it. Log 60 (DEDUCED). -/
def lowerOf (s : State) (c l : Nat) (k : FwdKind) : Option (Option Nat × List Nat) :=
  match s.snoopDir c l with
  | .I => none
  | .X o => some (some o, [])
  | .O o ss => some (some o, ss)
  | .S ss => if k = .fwdS then none else some (none, ss)

/-- A Hearth answers its home agent, and the request of a cluster that waited for the die meanwhile goes on. -/
def dieAnswer (s : State) (c l : Nat) (k : FwdKind) : State :=
  let h := 24 + c
  let s := (s.setHome h l { s.home h l with fwd := none }).answerFrom c l k
  match (s.home h l).parked with
  | some (k, r) => (s.setHome h l { s.home h l with
      parked := none, busy := some { kind := k, requester := r, outer := true } }).outerDone c l
  | none => s

/-- R207, R208: a Hearth takes the line from the clusters that hold it, and then answers with what they gave back.
Log 60 (DEDUCED). -/
def dieTake (s : State) (c l : Nat) (k : FwdKind) : State :=
  let h := 24 + c
  match s.lowerOf c l k with
  | none => s.dieAnswer c l k
  | some (o, ss) =>
    let t : HomeTrans := { kind := .lower, requester := homeNode h }
    let s := match o with
      | some o => if s.isDead o then (s.lostOwner h l 2 ss).openBusy h l t none ss else s.openBusy h l t (some (.recall, o)) ss
      | none => s.openBusy h l t none ss
    let s := s.closeBusy h l
    if (s.home h l).busy.isNone then s.dieAnswer c l k else s.setHome h l { s.home h l with fwd := some k }

/-- R208: a forward, Inv or Recall reaches a Hearth. It waits for a transaction between the Hearth and its clusters, and
goes before one that waits for the die. Log 60 (DEDUCED). -/
def dieForward (s : State) (c l : Nat) (k : FwdKind) : State :=
  let h := 24 + c
  let e := s.home h l
  match e.busy with
  | none => s.dieTake c l k
  | some t =>
    if t.room then s.answerFrom c l k
    else if t.outer then (s.setHome h l { e with busy := none, parked := some (t.kind, t.requester) }).dieTake c l k
    else s.setHome h l { e with fwd := some k }

/-- R208: a forward, an Inv or a Recall reaches a cache. -/
def forwarded (s : State) (a l : Nat) (k : FwdKind) : State :=
  if isHearth a then s.dieForward a l k else s.answerFrom a l k

/-- Close Busy; then what the home agent asks of the line is done, and what waited for the entry's room. -/
def closeAll (s : State) (h l : Nat) : State :=
  let s := s.closeBusy h l
  let e := s.home h l
  if e.busy.isSome then s
  else
    let s := match e.fwd with
      | some k => s.dieTake (h - 24) l k
      | none => s
    s.roomMade h l

/-- R211, R215, R216, R218: a request reaches a home. -/
def serve (s : State) (h l : Nat) (k : ReqKind) (r : Nat) (io : Option IoReq := none) : State :=
  if s.isDead r then s
  else
    let s := if h < 24 then s else s.settleSet (h - 24) (hearthSet l)
    let s := s.tryReserve h l r
    let e := s.home h l
    let blocked := match e.reserved with
      | some a => a != r
      | none => match e.waits with
        | a :: _ => a != r
        | [] => false
    if e.busy.isSome || blocked || !s.admits h then s.nackTo h l r
    else
      let alloc := k != .iord && k != .iowr
      let (ok, s) := if alloc then s.dirRoom h l else (true, s)
      if !ok then s.nackTo h l r
      else if alloc && !s.dirHasRoom h l then
        -- the line waits while the victim's answers are out
        s.setHome h l { s.home h l with busy := some { kind := k, requester := r, io := io, room := true } }
      else s.serveRoom h l k r io

/-- An answer to a forward, Inv or Recall that no home waits for any more (R220, R224). -/
def lateAnswer (s : State) : State :=
  (s.bump COH_LATE_RESP COH_LATE_RESP.COUNT).setBit COH_EVENT COH_EVENT.LATE_RESPONSE

/-- An agent's answer to the forward or Recall of an open transaction. -/
def fwdAnswer (s : State) (h l a : Nat) (sent dirty kept : Bool) : State :=
  let e := s.home h l
  match e.busy with
  | some t =>
    if t.fwd = some a && !t.answered then
      let s := if dirty && (t.kind == .iowr || t.kind == .evict || t.kind == .lower) then
        (s.homeWrites h l).hearthDirty h l else s
      (s.setHome h l { e with busy := some { t with answered := true, sent := sent, dirty := dirty, kept := kept } }).closeAll h l
    else s.lateAnswer
  | none => s.lateAnswer

/-- R219: every home's waits on a dead agent end at once, and its own requests and places are discarded; a transaction of
its own still takes the answers of live agents. -/
def closeDead (s : State) (a : Nat) : State :=
  (s.coh.homes.map (·.1)).foldl (fun s k =>
    let h := k / 2 ^ 42
    let l := k % 2 ^ 42
    let e := s.home h l
    let e := { e with
      waits := e.waits.filter (· != a), held := e.held.filter (fun w => w.1 != a)
      parked := e.parked.filter (fun x => x.2 != a)
      reserved := if e.reserved = some a then none else e.reserved }
    let s := (s.setHome h l e).resvRegs h
    match e.busy with
    | none => s
    | some t =>
      if t.requester = a ∧ (t.outer ∨ t.room) then
        ((s.setHome h l { e with busy := none }).judgeHeld h l).roomMade h l
      else
        let waited := t.fwd == some a && !t.answered
        let ss := match e.dir with
          | .O _ ss => ss
          | _ => []
        let s := if waited then (s.lostOwner h l 2 ss).setDir h l (e.dir.without [a]) else s
        let e := s.home h l
        let s := s.setHome h l { e with busy := some { t with
          answered := t.answered || waited, invs := t.invs.filter (· != a) } }
        s.closeAll h l) s

/-- R219: Anvil firmware declares an agent dead: the L2 of a cluster (4 + n), or a C-die (0 to 3). -/
def declareDead (s : State) (a : Nat) : State :=
  if s.coh.dead.contains a then s
  else
    let s := { s with coh := { s.coh with dead := a :: s.coh.dead, sweeping := a :: s.coh.sweeping } }
    let s := if a < 4 then s.setBit COH_STATUS ⟨16 + a, 1⟩
      else (s.setBit COH_DEAD_CLUSTERS ⟨a - 4, 1⟩).setFld (COH_L2 (a - 4)) COH_L2.STATE 3
    let s := s.setBit COH_EVENT COH_EVENT.AGENT_DEAD
    let s := { s with coh := { s.coh with
      lines := s.coh.lines.filter (fun e => e.1 / 2 ^ 42 != a)
      l1 := s.coh.l1.filter (fun e => e.1 / 2 ^ 42 / 18 + 4 != a)
      stores := s.coh.stores.filter (fun b => cacheOf b.proc != a)
      starved := s.coh.starved.filter (fun x => x.2 != a) } }
    s.closeDead a

/-- R219: a home removes a dead agent from its entries; a line it owned dirty is poisoned first. -/
def sweepHome (s : State) (h a : Nat) : State :=
  (s.coh.homes.filter (fun e => e.1 / 2 ^ 42 == h)).foldl (fun s x =>
    let l := x.1 % 2 ^ 42
    let e := s.home h l
    if e.busy.isSome then s
    else match e.dir with
      | .X o => if o = a then (s.lostOwner h l 2 []).setDir h l .I else s
      | .O o ss =>
        let ss' := ss.filter (· != a)
        if o = a then (s.lostOwner h l 2 ss').setDir h l (if ss' = [] then .I else .S ss') else s.setDir h l (.O o ss')
      | .S ss =>
        let ss' := ss.filter (· != a)
        s.setDir h l (if ss' = [] then .I else .S ss')
      | .I => s) s

end State
end Sys2Proof.Machine
end

