-- ==== Sys2Proof/Machine/PairOps.lean ====
section
/-!
DEFINITION. Compared pairs, shared operations: outcomes of an event (R187 to R190), retirement (R189, R197)
and the loss of a cluster (R191).
-/
namespace Sys2Proof.Machine
open Sys2Proof

namespace State

def pairSt (s : State) (v : Nat) : PairState := s.prs.pairs.get {} v
def setPairSt (s : State) (v : Nat) (x : PairState) : State :=
  { s with prs := { s.prs with pairs := s.prs.pairs.set {} v x } }
def viewState (s : State) (v : Nat) : Nat := s.fld (PAIR_STATUS v) PAIR_STATUS.STATE
def setViewState (s : State) (v n : Nat) : State := s.setFld (PAIR_STATUS v) PAIR_STATUS.STATE n
/-- Views of a slot: one in compared mode, two in split mode (R197). -/
def slotViews (s : State) (pair : Nat) : List Nat := if s.isSplit pair then [2 * pair, 2 * pair + 1] else [2 * pair]
/-- A view that has left service: retired, or unusable from start-up on (R191, R194). -/
def viewOut (s : State) (v : Nat) : Bool := s.viewState v == 5 || s.viewState v == 0

/-- Power a core down until power-on. -/
def coreDown (s : State) (core : Nat) : State :=
  { s with prs := { s.prs with condemned := s.prs.condemned.set false core true } }

/-- R200: `PAIR_LAST` at the end of an event. -/
def pairLast (s : State) (v outcome condemned codeA codeB : Nat) : State :=
  let x := s.pairSt v
  s.setReg (PAIR_LAST v) (BitVec.ofNat 64 (x.first / 2 ^ 10 % 2 ^ 32 * 2 ^ 32 + x.lane * 2 ^ 20 + outcome * 2 ^ 16 +
    condemned * 2 ^ 12 + codeB * 2 ^ 8 + codeA * 2 ^ 4))

/-- R192: log a pair's event; DETAIL is `PAIR_LAST` (R410). -/
def pairEvent (s : State) (v cls bit : Nat) : State :=
  (s.setBit (PAIR_EVENT v) ⟨bit, 1⟩).logEvent cls blockPair bit (v / 2) (s.reg (PAIR_LAST v)).toNat

/-- What an executor's store buffer holds goes with its processor (R140). -/
def dropStores (s : State) (e : Nat) : State :=
  { s with coh := { s.coh with
    stores := s.coh.stores.filter (fun b => b.proc != e)
    lines := s.coh.lines.map (fun x => (x.1, { x.2 with waits := x.2.waits.filter (fun a => a.proc != e) })) } }

/-- R184: stores of rounds that have retired are still written; the loads and fetches that wait are gone. -/
def dropLoads (s : State) (e : Nat) : State :=
  { s with coh := { s.coh with
    lines := s.coh.lines.map (fun x => (x.1, { x.2 with waits := x.2.waits.filter (fun a => a.proc != e || a.kind == .store) })) } }

/-- What runs on an executor ends by the loss of its processor: a unit restarts with cause 0x01 (R126). -/
def loseRun (s : State) (e : Nat) : State :=
  match s.run e with
  | .unit k => s.restartUnit k 1
  | .service p => s.endService e p
  | .idle => s

/-- A view leaves service with the state given; the slot's binding is lost once no executor of it is left, and a request
that waited for the verdict takes effect where the other executor is left and idle (R112, R189, R197, R199). -/
def viewGone (s : State) (v st : Nat) : State :=
  let s := (s.setViewState v st).loseRun v
  let s := (s.setProc v {}).dropLoads v
  if (s.slotViews (v / 2)).all s.viewOut then
    let s := { s with disp := { s.disp with bindWait := s.disp.bindWait.del (v / 2) } }
    s.setReg (UOW_PAIR_BIND (v / 2)) (BitVec.ofNat 64 (5 * 2 ^ 28))
  else if s.run (v / 2 * 2) = .idle ∧ s.run (v / 2 * 2 + 1) = .idle then s.freePair (v / 2)
  else s

/-- A retirement that no mismatch led to is an event of its own, on no lane (R200). -/
def freshEvent (s : State) (v : Nat) : State := s.setPairSt v { s.pairSt v with first := s.tb, lane := 15 }

/-- R191, R404: the supply of lost cluster `c` is off, whatever its domain was doing. -/
def domainGone (s : State) (c : Nat) : State :=
  let s := ((s.setFld (PWR_DOM c) PWR_DOM.ON 0).setFld (PWR_DOM c) PWR_DOM.STATE 0).setBit PWR_DOMAINS ⟨c, 1⟩ false
  { s with pwr := { s.pwr with doms := s.pwr.doms.del c, ramp := s.pwr.ramp.del c, vWait := s.pwr.vWait.del c } }

/-- R191: a cluster goes. Every pair and split executor is retired, the spare is unusable, units restart
with cause 0x01, the power domain goes off, and the homes treat the cluster as dead. -/
def clusterGone (s : State) (c : Nat) : State :=
  let s := { s with prs := { s.prs with lost := s.prs.lost.set false c true } }
  let views := ((List.range 4).map (fun k => s.slotViews (4 * c + k))).flatten
  let s := views.foldl (fun s v =>
    let s := if s.viewOut v then s
      else
        let s := (s.viewCores v).foldl (fun s k => s.coreDown k) s
        let s := if s.viewState v = 1 ∨ s.viewState v = 6 then s.freshEvent v else s
        (s.viewGone v 5).pairLast v 5 15 0 0
    (s.setBit (PAIR_INJECT v) PAIR_INJECT.BUSY false).setBit (PAIR_EVENT v) PAIR_EVENT.CLUSTER_LOST) s
  let s := s.setFld (SPARE_STATUS c) SPARE_STATUS.STATE 3
  let s := (s.domainGone c).declareDead (4 + c)
  s.setBit COH_STATUS COH_STATUS.GUARDED

/-- R192, R421: the loss of cluster `c` is logged as one Class 1 event for each of its pairs. -/
def logCluster (s : State) (c : Nat) : State :=
  (List.range 4).foldl (fun s k => s.logEvent 1 blockPair 5 (4 * c + k) (s.reg (PAIR_LAST (8 * c + 2 * k))).toNat) s

/-- R191, R192: cluster `c` is lost. Log 53 (DEDUCED). -/
def clusterLost (s : State) (c : Nat) : State :=
  if s.prs.lost.get false c then s else (s.clusterGone c).logCluster c

/-- R191: the cluster is lost once all four of its pairs are retired. -/
def checkCluster (s : State) (c : Nat) : State :=
  if (List.range 4).all (fun k => (s.slotViews (4 * c + k)).all s.viewOut) then s.clusterLost c else s

/-- R189, R192: a pair or split executor is retired with what `PAIR_LAST` reads; 0 in place of 5 for one
that injection found unusable (R195). -/
def retireView (s : State) (v st condemned codeA codeB : Nat) : State :=
  let s := (s.viewCores v).foldl (fun s k => s.coreDown k) s
  let s := s.pairLast v 4 condemned codeA codeB
  let s := (s.viewGone v st).pairEvent v 1 4
  s.checkCluster (v / 8)

/-- The pair resumes after Assay or substitution; pair time counts again (R185). -/
def resumeView (s : State) (v : Nat) : State :=
  let s := s.setViewState v 1
  let s := s.setPairSt v { s.pairSt v with assayAt := none, used := 0 }
  match s.run v with
  | .idle => if s.run (v / 2 * 2) = .idle ∧ s.run (v / 2 * 2 + 1) = .idle then s.freePair (v / 2) else s
  | _ => s.meterRunStart v

end State
end Sys2Proof.Machine
end

