-- ==== Sys2Proof/Machine/Units.lean ====
section
/-!
DEFINITION. Commands of the Work Dispatcher on units: bindings and confirmations (R111, R112, R348), starting
units and service runs (R114 to R116, R350), the Commit Record (R122), restarts (R128) and stopped partitions
(R130).
-/
namespace Sys2Proof.Machine
open Sys2Proof

namespace State

/-! ### Bindings -/

/-- Either executor of a slot runs something. -/
def slotBusy (s : State) (pair : Nat) : Bool := s.run (2 * pair) != .idle || s.run (2 * pair + 1) != .idle

/-- Assay runs on a core of the slot. -/
def slotAssay (s : State) (pair : Nat) : Bool := s.viewState (2 * pair) == 3 || s.viewState (2 * pair + 1) == 3

/-- Partition of what a slot runs. -/
def slotPart (s : State) (pair : Nat) : Option Nat :=
  let one := fun (e : Nat) => match s.run e with
    | .idle => none
    | .service p => some p
    | .unit k => (s.unit? k).map (·.part)
  match one (2 * pair) with
  | some p => some p
  | none => one (2 * pair + 1)

/-- What a slot reports of its even executor: 3 a unit, 6 a service run, 2 bound and idle (R113, R134). -/
def runningState (s : State) (pair : Nat) : Nat :=
  match s.run (2 * pair) with
  | .unit _ => 3
  | .service _ => 6
  | .idle => 2

/-- R111: a binding request on a pair that runs nothing. -/
def applyBind (s : State) (pair : Nat) (en : Bool) (part : Nat) : State :=
  let a := UOW_PAIR_BIND pair
  if en then
    if s.fld a UOW_PAIR_BIND.STATE = 2 ∧ s.fld a UOW_PAIR_BIND.PARTITION = part then s
    else (s.setReg a (BitVec.ofNat 64 (2 ^ 31 + 2 ^ 28 + part * 2 ^ 16))).askCrucible 1 pair part
  else s.setReg a (BitVec.ofNat 64 (part * 2 ^ 16))

/-- R112, R199: a write to `UOW_PAIRn_BIND`. Log 55 (DEDUCED). -/
def bindWrite (s : State) (pair : Nat) (v : W64) : State :=
  let a := UOW_PAIR_BIND pair
  let en := getFld v UOW_PAIR_BIND.EN == 1
  let part := getFld v UOW_PAIR_BIND.PARTITION
  if s.fld a UOW_PAIR_BIND.STATE = 5 then s
  else if s.slotBusy pair || s.slotAssay pair then
    let old := (s.slotPart pair).getD (s.fld a UOW_PAIR_BIND.PARTITION)
    let s := (s.setBit a UOW_PAIR_BIND.EN en).setFld a UOW_PAIR_BIND.PARTITION part
    if en && old == part then
      ({ s with disp := { s.disp with bindWait := s.disp.bindWait.del pair } }).setFld a UOW_PAIR_BIND.STATE
        (s.runningState pair)
    else
      ({ s with disp := { s.disp with bindWait := s.disp.bindWait.set none pair (some v.toNat) } }).setFld a
        UOW_PAIR_BIND.STATE 4
  else s.applyBind pair en part

/-! ### Confirmations -/

/-- R361, R363: the power domains that hold what Crucible is asked to confirm; a device's are the quarters of its paths. -/
def confirmDoms (s : State) (kind index : Nat) : List Nat :=
  match kind with
  | 1 => [index / 4]
  | 2 => [58 + index / 64]
  | 3 => [56 + index / 64]
  | 4 => [52 + index / 64]
  | _ => ((List.range 4).filter (fun p => s.bit (CHN_DEV_PATH index p) CHN_DEV_PATH.VALID)).map
      (fun p => 52 + s.fld (CHN_DEV_PATH index p) CHN_DEV_PATH.PORT / 4)

/-- R348, R363: Crucible confirms only for a partition being restored or running, no binding of a split slot
without SPLIT_OK, and nothing for a domain that drains. -/
def confirms (s : State) (kind index part : Nat) : Bool :=
  let st := s.fld (CRU_PART part) CRU_PART.STATE
  (st == 3 || st == 4) &&
    !(kind == 1 && s.isSplit index && s.fld (CRU_PART part) CRU_PART.SPLIT_OK == 0) &&
    (s.confirmDoms kind index).all (fun d => s.fld (PWR_DOM d) PWR_DOM.STATE != 2)

/-- R253, R273, R292: the answer for the owner of a queue. -/
def queueAnswer (s : State) (status : Nat) (stateF errF : Fld) (event : Nat) (bit : Fld) (ok : Bool) : State :=
  if s.fld status stateF ≠ 1 then s
  else if ok then s.setFld status stateF 2
  else ((s.setFld status stateF 0).setFld status errF 2).setBit event bit

/-- R302: the answer for the owner of a device. A refused device keeps awaiting. -/
def deviceAnswer (s : State) (d : Nat) (ok : Bool) : State :=
  if s.fld (CHN_DEV_CFG d) CHN_DEV_CFG.STATE ≠ 1 then s
  else if ok then
    s.setFld (CHN_DEV_CFG d) CHN_DEV_CFG.STATE (if (List.range 4).any (fun k => s.pathUp d k) then 2 else 3)
  else s.setBit CHN_EVENT CHN_EVENT.OWNER_REFUSED

/-- R111: the answer for a binding. -/
def bindAnswer (s : State) (pair part : Nat) (ok : Bool) : State :=
  let a := UOW_PAIR_BIND pair
  if s.fld a UOW_PAIR_BIND.STATE ≠ 1 ∨ s.fld a UOW_PAIR_BIND.PARTITION ≠ part then s
  else if ok then s.setFld a UOW_PAIR_BIND.STATE 2
  else ((s.setBit a UOW_PAIR_BIND.EN false).setFld a UOW_PAIR_BIND.STATE 0).setBit UOW_EVENT UOW_EVENT.BIND_REFUSED

/-- Crucible answers one question; while it restarts the question waits (R359, R360). -/
def answer (s : State) (kind index : Nat) : State :=
  match s.cru.confirms.find? (fun c => c.1 == kind && c.2.1 == index) with
  | none => s
  | some c =>
    if s.fld CRU_STATUS CRU_STATUS.STATE ≠ 1 then s
    else
      let part := c.2.2
      let ok := s.confirms kind index part
      let s := { s with cru := { s.cru with confirms := s.cru.confirms.erase c } }
      match kind with
      | 1 => s.bindAnswer index part ok
      | 2 => s.queueAnswer (SWG_Q_STATUS index) SWG_Q_STATUS.STATE SWG_Q_STATUS.ERR SWG_EVENT SWG_EVENT.OWNER_REFUSED ok
      | 3 => s.queueAnswer (CIP_Q_STATUS index) CIP_Q_STATUS.STATE CIP_Q_STATUS.ERR CIP_EVENT CIP_EVENT.OWNER_REFUSED ok
      | 4 => s.queueAnswer (CHN_Q_STATUS index) CHN_Q_STATUS.STATE CHN_Q_STATUS.ERR CHN_EVENT CHN_EVENT.OWNER_REFUSED ok
      | _ => s.deviceAnswer index ok

/-! ### Starting a run -/

/-- An executor that a new run of partition `p` may take: its slot is bound to `p` and not draining, it runs
nothing, executes, and its cluster stays on (R114, R195, R362, R398). -/
def execIdleFor (s : State) (p e : Nat) : Bool :=
  let pair := e / 2
  let st := s.fld (UOW_PAIR_BIND pair) UOW_PAIR_BIND.STATE
  s.bit (UOW_PAIR_BIND pair) UOW_PAIR_BIND.EN && s.fld (UOW_PAIR_BIND pair) UOW_PAIR_BIND.PARTITION == p &&
    (st == 2 || st == 3 || st == 6) && s.run e == .idle && s.viewState e == 1 &&
    (e % 2 == 0 || s.isSplit pair) && !s.bit (PAIR_INJECT (2 * pair)) PAIR_INJECT.BUSY &&
    s.fld (PWR_DOM (pair / 4)) PWR_DOM.STATE == 1

/-- R116: the state an executor enters a partition with: at `entry`, with `g1` on as given. -/
def enterPart (s : State) (p e entry : Nat) (gs : List Nat) (unit : Bool) : State :=
  let b := (s.partRec p).block
  let x := s.proc e
  let g := (gs ++ [e / 2, e]).zipIdx.foldl (fun (t : Tbl W64) v => t.set 0 (v.2 + 1) (BitVec.ofNat 64 v.1)) []
  let g := g.set 0 62 (BitVec.ofNat 64 (leAt b 24 8 + (e + 1) * leAt b 4 4))
  let psr := 1 + 2 ^ 4 + (if unit then 2 ^ 5 else 0) + s.fld (CRU_PART p) CRU_PART.WTAG * 2 ^ 16
  let y : ProcState := { x with
    g := g, f := [], lk := 0, sp := x.sp.filter (fun r => decide (0x040 ≤ r.1))
    part := some p, segs := blockSegs b, waiting := false, suspended := none }
  let y := (y.setSp spPsr (BitVec.ofNat 64 psr)).setSp spEvbase (BitVec.ofNat 64 (leAt b 32 8))
  (s.setProc e (y.setPc (BitVec.ofNat 64 entry))).meterRunStart e

/-- R113, R134: the slot reports what runs on its even executor. -/
def showRun (s : State) (e st fn ring asn : Nat) : State :=
  let a := UOW_PAIR_BIND (e / 2)
  if e % 2 = 0 then
    let s := s.setFld a UOW_PAIR_BIND.STATE st
    let s := (s.setFld a UOW_PAIR_BIND.FUNC fn).setFld a UOW_PAIR_BIND.RING ring
    s.setFld (UOW_PAIR_ASN (e / 2)) UOW_PAIR_ASN.ASN asn
  else s

/-- R116: start a unit on an executor. -/
def startUnit (s : State) (k e : Nat) (u : WorkUnit) : State :=
  let s := s.setUnit k { u with phase := .executing, exec := some e, closed := false, exchanges := [], refused := none }
  let s := s.setRun e (.unit k)
  let s := s.showRun e 3 u.fn u.ring u.asn
  s.enterPart u.part e (leAt (s.partRec u.part).block 8 8)
    [leAt u.args 0 8, leAt u.args 8 8, leAt u.args 16 8, leAt u.args 24 8, u.asn, u.restarts] true

/-- Units of a ring that execute or prepare (R114). -/
def ringRunning (s : State) (rk : Nat) : Nat :=
  ((s.ringUnits rk).filter (fun e => e.2.phase == .executing || e.2.phase == .preparing)).length

/-- The Dispatcher starts and ends units of the ring: it is not broken (R43) and no partner has adopted it (R51). -/
def ringServed (s : State) (rk : Nat) : Bool :=
  let x := s.ring rk
  !x.broken && !x.adoptedAway

/-- The queued unit of lowest ASN on a ring. -/
def firstQueued (s : State) (rk : Nat) : Option (Nat × WorkUnit) :=
  (s.ringUnits rk).find? (fun e => e.2.phase == .queued && !e.2.complIssued)

/-- Rings with a queued unit of partition `p`, in the round-robin order that follows the last one served.
Log 51 (DEDUCED). -/
def ringsInTurn (s : State) (p : Nat) : List Nat :=
  let rks := ((s.disp.units.filter (fun e => e.2.part == p && e.2.ring != 16 && e.2.phase == .queued && !e.2.complIssued)).map
    (fun e => keyRing e.1)).eraseDups.filter s.ringServed
  let t := s.disp.turn.get 0 p
  rks.filter (fun rk => decide (t ≤ rk)) ++ rks.filter (fun rk => decide (rk < t))

/-- The partition's turn passes ring `rk`. -/
def passTurn (s : State) (p rk : Nat) : State := { s with disp := { s.disp with turn := s.disp.turn.set 0 p (rk + 1) } }

/-- R114, R115: the Dispatcher serves partition `p` once, with executor `e` if it starts a unit.
Log 51 (DEDUCED). -/
def dispatch (s : State) (p e : Nat) : State :=
  let st := s.fld (CRU_PART p) CRU_PART.STATE
  if st = 3 then s
  else if st = 4 then
    let conc := 2 ^ s.fld (UOW_PART_CFG p) UOW_PART_CFG.RING_CONC
    match (s.ringsInTurn p).find? (fun rk => decide (s.ringRunning rk < conc) &&
        (match s.firstQueued rk with
          | some (_, u) => s.startable rk u
          | none => false)) with
    | none => s
    | some rk =>
      match s.firstQueued rk with
      | some (k, u) => if s.execIdleFor p e then (s.passTurn p rk).startUnit k e u else s
      | none => s
  else
    match s.ringsInTurn p with
    | [] => s
    | rk :: _ =>
      match s.firstQueued rk with
      | some (k, _) => (s.passTurn p rk).endUnit k 4 0
      | none => s

/-- R350: one service run at a time, 10 ms after the last one ended. Log 51 (DEDUCED). -/
def startService (s : State) (p e : Nat) : State :=
  let x := s.partRec p
  if s.fld (CRU_PART p) CRU_PART.STATE = 3 ∧ x.serviceOn.isNone ∧ x.serviceAt ≤ s.tb ∧ s.execIdleFor p e then
    let s := s.setPartRec p { x with serviceOn := some e }
    let s := (s.setRun e (.service p)).showRun e 6 0 0 0
    s.enterPart p e (leAt x.block 16 8) [x.reason, 0, 0, 0, s.jnl.bootCount, 0] false
  else s

/-! ### Commit and stop -/

/-- R122 steps 1 and 2, R129: the Commit Record is issued once every program of the run has ended, every
tentative write is held, and every abort of earlier runs is acknowledged. -/
def prepared (s : State) (k : Nat) : State :=
  match s.unit? k with
  | none => s
  | some u =>
    if u.phase = .preparing ∧ !u.commitIssued ∧ !u.complIssued ∧ u.aborts = [] ∧ s.unitProgs k = [] ∧ s.originAborted u ∧
        u.exchanges.all (fun x => x.phase == .held) ∧ u.refused.isNone ∧ s.ringServed (keyRing k) then
      if u.exchanges = [] then s.endUnit k 0 u.result
      else
        let s := s.setUnit k { u with commitIssued := true }
        s.writeRecord (commitBlocks (unitFlags s u) u.fn u.ring u.part u.asn u.result
          (u.exchanges.map (fun x => (x.id, x.dev)))) (.commit k) (s.ring (keyRing k)).mirror
    else s

/-- R130, R355: what a stop of partition `p` ends: units that execute or prepare, service runs, and the
suspended worlds of its executors. Log 51 (DEDUCED). -/
def stopPart (s : State) (p : Nat) : State :=
  let ks := (s.disp.units.filter (fun e => e.2.part == p && e.2.ring != 16 &&
    (e.2.phase == .executing || e.2.phase == .preparing) && !e.2.complIssued)).map (·.1)
  let s := ks.foldl (fun s k => s.abortUnit k 3 0) s
  let es := (s.disp.runs.filter (fun e => e.2 == .service p)).map (·.1)
  let s := es.foldl (fun s e => s.endService e p) s
  { s with procs := s.procs.map (fun (e : Nat × ProcState) =>
      if (e.2.suspended.map (·.part)) = some p then (e.1, { e.2 with suspended := none }) else e) }

end State

/-! ### The commands -/

/-- R111, R112. -/
def execPairBindRequest (pair : Fin 160) (value : BitVec 32) (s : State) : Host.Outcome State Fault Refusal :=
  onLive s fun s => s.bindWrite pair.val (BitVec.ofNat 64 value.toNat)

/-- R348: kind 1 a binding, 2 the owner of a compression queue, 3 of a cipher queue, 4 of a channel queue,
5 of a device. -/
def execOwnerConfirmation (kind : Fin 6) (index : Fin 1024) (s : State) : Host.Outcome State Fault Refusal :=
  onLive s fun s => s.answer kind.val index.val

/-- R114, R115: the Dispatcher serves a partition, with the executor it would start a unit on. -/
def execUnitStart (part : Fin 1024) (e : Fin 320) (s : State) : Host.Outcome State Fault Refusal :=
  onLive s fun s => if s.isReady then s.dispatch part.val e.val else s

/-- R350. -/
def execServiceRunStart (part : Fin 1024) (e : Fin 320) (s : State) : Host.Outcome State Fault Refusal :=
  onLive s fun s => if s.isReady then s.startService part.val e.val else s

/-- R122: a unit of function `f`, ring `r`; 1,025 × (k + 1) + function for a series adopted from module k. -/
def execUnitPrepared (f : Fin 9225) (r : Fin 16) (asn : Nat) (s : State) : Host.Outcome State Fault Refusal :=
  onLive s fun s => s.prepared (unitKey (ringOf f.val r.val) asn)

/-- R126, R128: cause 1 (pair failure) or 2 (poisoned data) reaches the Dispatcher for a run in progress. A pair
failure after the run has ended touches no unit (R132), and poisoned data that a program consumes then restarts none:
R125 has no such transition of Preparing. -/
def execUnitRestart (f : Fin 9225) (r : Fin 16) (asn : Nat) (poison : Bool) (s : State) :
    Host.Outcome State Fault Refusal :=
  onLive s fun s =>
    let k := unitKey (ringOf f.val r.val) asn
    match s.unit? k with
    | some u =>
      if u.phase = .executing then
        s.restartUnit k (if poison then 2 else 1) else s
    | none => s

/-- R130: the stop of a partition whose record reads stopped reaches its units. -/
def execPartitionStop (part : Fin 1024) (s : State) : Host.Outcome State Fault Refusal :=
  onLive s fun s => if s.fld (CRU_PART part.val) CRU_PART.STATE = 5 then s.stopPart part.val else s

end Sys2Proof.Machine
end

