-- ==== Sys2Proof/Machine/Admin.lean ====
section
/-!
DEFINITION. Admin commands (R104 to R106): the Dispatcher executes the oldest queued admin unit of a function, and
each ends with a status and a result.
-/
namespace Sys2Proof.Machine
open Sys2Proof

/-! ### Arguments (R104) -/

def admOp (a : Bytes) : Nat := leAt a 0 1
def admRing (a : Bytes) : Nat := leAt a 1 1
def admFn (a : Bytes) : Nat := leAt a 2 2
def admA (a : Bytes) : Nat := leAt a 4 4
def admB (a : Bytes) : Nat := leAt a 8 8

/-- R105: the opcodes of the table. -/
def admKnown (op : Nat) : Bool := decide (op ≤ 6) || (decide (0x20 ≤ op) && decide (op ≤ 0x24))
def admPfOnly (op : Nat) : Bool := decide (0x20 ≤ op)
/-- Commands whose Function argument counts. -/
def admHasFn (op : Nat) : Bool := op == 1 || op == 2 || op == 3 || op == 6 || admPfOnly op
def admHasRing (op : Nat) : Bool := decide (2 ≤ op) && decide (op ≤ 6)

namespace State

/-- R104: the admin unit of function `f` that executes next: the oldest one not yet ended, if it is queued and less than
4,096 above the lowest ASN not yet posted (R93). Only a
`VF_SET_RINGS` whose drain runs lets those behind it go on (R106). Log 58 (DEDUCED). -/
def adminNext (s : State) (f : Nat) : Option (Nat × WorkUnit) :=
  let waits := fun (e : Nat × WorkUnit) => e.2.complIssued || (e.2.phase == .executing && admOp e.2.args == 0x20)
  match (s.ringUnits (ringOf f 16)).find? (fun e => !waits e) with
  | some e => if e.2.phase = .queued ∧ s.startable (ringOf f 16) e.2 then some e else none
  | none => none

/-- R105: what ends a command before its action: 0x0101 an argument outside its range, 0x0102 not permitted. The Ring
argument names submission rings 0 to 15 only, so no command reaches the admin ring's own series; a ring of a VF that is
not enabled keeps its series, and the PF reaches it. Log 58 (DEDUCED). -/
def adminErr (s : State) (f : Nat) (a : Bytes) : Nat :=
  let op := admOp a
  let g := admFn a
  if admHasRing op ∧ 15 < admRing a then 0x0101
  else if admHasFn op ∧ 1024 < g then 0x0101
  else if f ≠ 0 ∧ (admPfOnly op ∨ (admHasFn op ∧ g ≠ f)) then 0x0102
  else if admPfOnly op ∧ g = 0 then 0x0101
  else if admPfOnly op ∧ !s.fnPresent g then 0x0101
  else if f = 0 ∧ admHasFn op ∧ g ≠ 0 ∧ s.tdi g ≠ 0 then 0x0102
  else 0

/-- Execute the next admin unit of function `f` if its opcode is `op`. -/
def adminRun (s : State) (f op : Nat) (act : State → Nat → Bytes → State) : State :=
  match s.adminNext f with
  | none => s
  | some (k, u) =>
    if s.isReady ∧ admOp u.args = op then
      match s.adminErr f u.args with
      | 0 => act s k u.args
      | e => s.endUnit k e 0
    else s

/-- The unit executes until something else ends it. -/
def adminWait (s : State) (k : Nat) : State :=
  match s.unit? k with
  | some u => s.setUnit k { u with phase := .executing }
  | none => s

/-! ### The commands -/

/-- R107: `RESYNC`. While the endpoint is frozen, or a page lacks its translation (R73), nothing can be written: the command waits. Log 59 (DEDUCED). -/
def admResync (s : State) (f k : Nat) (a : Bytes) : State :=
  let g := admFn a
  let need := 256 + 64 * (s.summaryRings g).length
  if admB a % 64 ≠ 0 then s.endUnit k 0x0101 0
  else if s.bit HEP_FREEZE HEP_FREEZE.FROZEN then s
  else if 64 * (admA a % 32) < need then s.endUnit k 0x0106 need
  else if !s.fnActive f then s.endUnit k 0x0107 0
  else if !s.reach f (admB a) need then (s.askPages f (admB a) need).pumpReads
  else (s.writeSummary f g (admB a)).endUnit k 0 need

/-- R105: `RING_DRAIN`. Log 58 (DEDUCED). -/
def admDrain (s : State) (k : Nat) (a : Bytes) : State :=
  let g := admFn a
  let r := admRing a
  let x := s.ring (ringOf g r)
  if !s.sqEnabled g r then s.endUnit k 0 x.nextAsn
  else if x.draining then s.endUnit k 0x0103 0
  else (s.startDrain g r (some k)).adminWait k

/-- R105: one unit of a broken ring goes, with what it left at its peers aborted. -/
def dropBroken (s : State) (k : Nat) : State :=
  let s := ((s.stopRun k).stopPrograms k).sendAborts k
  (s.delUnit k).dropLive k

/-- R105: `RING_RESET`. Log 58 (DEDUCED). -/
def admReset (s : State) (k : Nat) (a : Bytes) : State :=
  let rk := ringOf (admFn a) (admRing a)
  let x := s.ring rk
  if !x.broken then s.endUnit k 0 x.nextAsn
  else
    let s := ((s.ringUnits rk).map (·.1)).foldl (fun s q => s.dropBroken q) s
    let s := s.setRing rk { s.ring rk with
      floor := x.nextAsn, broken := false, window := [], leftWindow := [], postQ := [], postOld := [] }
    (s.showRing rk).endUnit k 0 x.nextAsn

/-- R48, R105: `RING_MIRROR`. Log 58 (DEDUCED). -/
def admMirror (s : State) (f k : Nat) (a : Bytes) : State :=
  let r := admRing a
  let rk := ringOf f r
  let x := s.ring rk
  let p := admA a / 2 ^ 8 % 8
  let part := if x.exists_ then x.part else s.fld (RING_SQ_CFG f r) RING_SQ_CFG.PARTITION
  let q := s.partner p
  if s.sqEnabled f r then s.endUnit k 0x0103 0
  else if admA a / 2 ^ 15 % 2 = 0 then ((s.setRing rk { x with mirror := none, fenced := false }).showRing rk).endUnit k 0 0
  else if !q.present ∨ q.clash ∨ !q.standby.contains part then s.endUnit k 0x0105 0
  else ((s.setRing rk { x with mirror := some p, fenced := s.bit JNL_MIRROR ⟨8 + p, 1⟩ }).showRing rk).endUnit k 0 0

/-- Move every unit, run, program, step and record of series `old` to ring key `new`. -/
def rekeySeries (s : State) (old new : Nat) : State :=
  let mk := fun (k : Nat) => if keyRing k = old then unitKey new (keyAsn k) else k
  let what := fun (w : WriteFor) => match w with
    | .commit u => .commit (mk u)
    | .restart u => .restart (mk u)
    | .completion us => .completion (us.map mk)
    | .acceptance r n => .acceptance (if r = old then new else r) n
    | w => w
  let own := fun (o : StepOwner) => match o with
    | .unit k => .unit (mk k)
    | o => o
  { s with
    disp := { s.disp with
      units := s.disp.units.foldl (fun (t : Tbl WorkUnit) (e : Nat × WorkUnit) => Tbl.ins t (mk e.1) e.2) []
      runs := s.disp.runs.map (fun (e : Nat × ExecRun) => match e.2 with
        | .unit k => (e.1, .unit (mk k))
        | r => (e.1, r)) }
    chn := { s.chn with
      progs := s.chn.progs.map (fun (p : ChanProg) => { p with unit := p.unit.map mk })
      steps := s.chn.steps.map (fun (t : XStep) => { t with owner := own t.owner }) }
    jnl := { s.jnl with
      live := s.jnl.live.map (fun (r : LiveRec) => { r with unit := mk r.unit })
      out := s.jnl.out.map (fun (w : BlockWrite) => { w with what := what w.what })
      waiting := s.jnl.waiting.map (fun (w : RecordWait) => { w with what := what w.what })
      unacked := s.jnl.unacked.map (fun (u : MirrorOut) => { u with what := what u.what }) } }

/-- R50 step 5, R105: `RING_ADOPT`. A repeat finds the ring bound already. Log 58 (DEDUCED). -/
def admAdopt (s : State) (f k : Nat) (a : Bytes) : State :=
  let r := admRing a
  let rk := ringOf f r
  let x := s.ring rk
  let org := (admA a % 8, admB a % 2 ^ 11, admB a / 2 ^ 16 % 16)
  let ak := adoptKey org.1 org.2.1 org.2.2
  let y := s.ring ak
  if s.sqEnabled f r then s.endUnit k 0x0103 0
  else if x.adopted = some org then s.endUnit k 0 x.nextAsn
  else if x.exists_ then s.endUnit k 0x0103 0
  else if y.adopted ≠ some org then s.endUnit k 0x0101 0
  else if s.dedupFree = 0 then s.endUnit k 0x0104 0
  else
    let s := s.rekeySeries ak rk
    let s := (s.setRing rk { y with exists_ := true }).setRing ak {}
    (s.showRing rk).endUnit k 0 y.nextAsn

/-- R105: `RING_PURGE`: the series ends now; the command completes with a generation that no longer holds it.
Log 59 (DEDUCED). -/
def admPurge (s : State) (k : Nat) (a : Bytes) : State :=
  let g := admFn a
  let r := admRing a
  let rk := ringOf g r
  let x := s.ring rk
  if s.sqEnabled g r ∨ x.draining ∨ s.ringUnits rk ≠ [] ∨ x.fetched ≠ [] then s.endUnit k 0x0103 0
  else ((s.meterMem.setRing rk { purgeFor := some k }).showRing rk).adminWait k

/-- R106: `VF_SET_RINGS`. Log 59 (DEDUCED). -/
def admSetRings (s : State) (k : Nat) (a : Bytes) : State :=
  let g := admFn a
  let n := admA a
  let x := s.fn g
  let on := (List.range 16).filter (fun r => s.sqEnabled g r)
  if 16 < n then s.endUnit k 0x0101 0
  else if x.setRings.isSome then s.endUnit k 0x0103 0
  else if x.ringCount ≤ n then (s.setFn g { x with ringCount := n }).endUnit k 0 x.ringCount
  else if on.any (fun r => decide (r < n) && decide (n ≤ s.cqOf g r)) then s.endUnit k 0x0103 0
  else
    let s := (s.setFn g { x with ringCount := n, setRings := some (k, x.ringCount) }).adminWait k
    let s := (on.filter (fun r => decide (n ≤ r) && !(s.ring (ringOf g r)).draining)).foldl
      (fun s r => s.startDrain g r none) s
    s.checkSetRings g

/-- R105: a setting of a VF: its range, what refuses it, its previous value, and the change. -/
def admSet (s : State) (k : Nat) (a : Bytes) (n most : Nat) (busy : Bool) (prev : FnState → Nat)
    (f : FnState → FnState) : State :=
  let x := s.fn (admFn a)
  if most < n then s.endUnit k 0x0101 0
  else if busy then s.endUnit k 0x0103 0
  else (s.setFn (admFn a) (f x)).endUnit k 0 (prev x)

end State

/-! ### The rows: each executes the next admin unit of function `f`, if it is of that opcode -/

/-- R105. -/
def execNop (f : Fin 1025) (s : State) : Host.Outcome State Fault Refusal :=
  onLive s fun s => s.adminRun f.val 0x00 fun s k _ => s.endUnit k 0 0

/-- R107. -/
def execResync (f : Fin 1025) (s : State) : Host.Outcome State Fault Refusal :=
  onLive s fun s => s.adminRun f.val 0x01 fun s k a => s.admResync f.val k a

/-- R105. -/
def execRingDrain (f : Fin 1025) (s : State) : Host.Outcome State Fault Refusal :=
  onLive s fun s => s.adminRun f.val 0x02 fun s k a => s.admDrain k a

/-- R105. -/
def execRingReset (f : Fin 1025) (s : State) : Host.Outcome State Fault Refusal :=
  onLive s fun s => s.adminRun f.val 0x03 fun s k a => s.admReset k a

/-- R105, R48. -/
def execRingMirror (f : Fin 1025) (s : State) : Host.Outcome State Fault Refusal :=
  onLive s fun s => s.adminRun f.val 0x04 fun s k a => s.admMirror f.val k a

/-- R105, R50. -/
def execRingAdopt (f : Fin 1025) (s : State) : Host.Outcome State Fault Refusal :=
  onLive s fun s => s.adminRun f.val 0x05 fun s k a => s.admAdopt f.val k a

/-- R105. -/
def execRingPurge (f : Fin 1025) (s : State) : Host.Outcome State Fault Refusal :=
  onLive s fun s => s.adminRun f.val 0x06 fun s k a => s.admPurge k a

/-- R106. -/
def execVfSetRings (f : Fin 1025) (s : State) : Host.Outcome State Fault Refusal :=
  onLive s fun s => s.adminRun f.val 0x20 fun s k a => s.admSetRings k a

/-- R105. -/
def execVfSetWindows (f : Fin 1025) (s : State) : Host.Outcome State Fault Refusal :=
  onLive s fun s => s.adminRun f.val 0x21 fun s k a =>
    s.admSet k a 0 0 false (·.windows) fun x => { x with windows := admB a }

/-- R105, R276. -/
def execVfSetKeyquota (f : Fin 1025) (s : State) : Host.Outcome State Fault Refusal :=
  onLive s fun s => s.adminRun f.val 0x22 fun s k a =>
    s.admSet k a (admA a) 8192 (decide (admA a < s.slotsOwned (admFn a))) (·.keyQuota)
      fun x => { x with keyQuota := admA a }

/-- R105, R254. -/
def execVfSetCompshare (f : Fin 1025) (s : State) : Host.Outcome State Fault Refusal :=
  onLive s fun s => s.adminRun f.val 0x23 fun s k a =>
    s.admSet k a (admA a) 255 false (·.weight) fun x => { x with weight := admA a }

/-- R105, R366: the class takes effect at the next meter boundary. -/
def execVfSetMeterclass (f : Fin 1025) (s : State) : Host.Outcome State Fault Refusal :=
  onLive s fun s => s.adminRun f.val 0x24 fun s k a =>
    s.admSet k a (admA a) 15 false (·.nextClass) fun x => { x with nextClass := admA a }

/-- R105: a reserved opcode. -/
def execAdminOpcodeUnknown (f : Fin 1025) (s : State) : Host.Outcome State Fault Refusal :=
  onLive s fun s =>
    match s.adminNext f.val with
    | none => s
    | some (k, u) => if s.isReady ∧ !admKnown (admOp u.args) then s.endUnit k 0x0100 0 else s

end Sys2Proof.Machine
end

