-- ==== Sys2Proof/Machine/Bundle.lean ====
section
/-!
DEFINITION. Firmware bundles (R424), what Crucible checks of one (R425), the firmware store, and the measurements
that a booted bundle gives (R339).
-/
namespace Sys2Proof.Machine
open Sys2Proof

/-! ### The format of R424 -/

/-- Entries of the component table. -/
def bundleTable (b : Bytes) : List Bytes := (List.range (leAt b 8 1)).map (fun i => slice b (256 + 64 * i) 64)

def partKind (e : Bytes) : Nat := leAt e 0 1
def partIndex (e : Bytes) : Nat := leAt e 1 1
def partVersion (e : Bytes) : Nat := leAt e 12 4
def partDigest (e : Bytes) : Bytes := slice e 16 48
/-- The bytes of the component that entry `e` describes. -/
def partBytes (b e : Bytes) : Bytes := slice b (leAt e 4 4) (leAt e 8 4)

/-- The entry of a kind. -/
def bundlePart (b : Bytes) (kind : Nat) : Option Bytes := (bundleTable b).find? (fun e => partKind e == kind)

/-- The kind 5 component: configuration key, successor key, image body, and the bytes signed. -/
def imageKey (c : Bytes) : Bytes := slice c 0 97
def imageSuccessor (c : Bytes) : Bytes := slice c 97 97
def imageBody (c : Bytes) : Bytes := (c.drop 196).take (c.length - 292)
def imageSigned (c : Bytes) : Bytes := c.take (c.length - 96)

/-! ### The checks of R425 -/

/-- Format, lengths and stepping. -/
def bundleForm (b : Bytes) : Bool :=
  leAt b 0 2 == 1 && leAt b 2 2 == 256 && leAt b 56 4 == 256 && leAt b 9 1 == Config.revision

/-- Both signatures over header bytes 0 to 255, under chains that begin with the root that Crucible ROM holds. -/
def bundleSigned (b : Bytes) : Bool :=
  let o := leAt b 60 4
  match Config.signerKeys (slice b (o + 4728) (leAt b (o + 4724) 4)) with
  | none => false
  | some (ec, ml) =>
    Config.ecdsaVerify ec (b.take 256) (slice b o 96) && Config.mldsaVerify ml (b.take 256) (slice b (o + 96) 4627)

/-- The table digest and every component's digest. -/
def bundleDigests (b : Bytes) : Bool :=
  slice b 64 48 == Crypto.sha384 (slice b 256 (64 * leAt b 8 1)) &&
    (bundleTable b).all (fun e => (partBytes b e).length == leAt e 8 4 && partDigest e == Crypto.sha384 (partBytes b e))

/-- Kinds 1 to 4 each once, kind 5 at most once. -/
def bundleKinds (b : Bytes) : Bool :=
  let n := fun (k : Nat) => ((bundleTable b).filter (fun e => partKind e == k)).length
  n 1 == 1 && n 2 == 1 && n 3 == 1 && n 4 == 1 && decide (n 5 ≤ 1)

namespace State

/-- The configuration component is signed by the enrolled key; a module without one accepts any key. -/
def imageSignedOk (s : State) (c : Bytes) : Bool :=
  (match s.anv.cfgKey with
   | none => true
   | some d => Crypto.sha384 (imageKey c) == d) &&
    Config.ecdsaVerify (imageKey c) (imageSigned c) (c.drop (c.length - 96))

/-- R425: Crucible accepts the bundle. -/
def bundleOk (s : State) (b : Bytes) : Bool :=
  bundleForm b && bundleSigned b && bundleDigests b && bundleKinds b &&
    (bundleTable b).all (fun e => decide (s.anv.minVersion.get 0 (partKind e) ≤ partVersion e)) &&
    (match bundlePart b 5 with
     | none => true
     | some e => s.imageSignedOk (partBytes b e))

/-- The firmware store: bank `n`. -/
def bank (s : State) (n : Nat) : Bytes := if n = 0 then s.anv.bank0 else s.anv.bank1
def setBank (s : State) (n : Nat) (b : Bytes) : State :=
  { s with anv := if n = 0 then { s.anv with bank0 := b } else { s.anv with bank1 := b } }
/-- The bank not in use. -/
def spareBank (s : State) : Nat := 1 - s.anv.bankInUse

/-- R425: the bundle in the bank not in use is accepted; a module as shipped enrols the key of its image.
Log 71 (DEDUCED). -/
def acceptBundle (s : State) : State :=
  let b := s.bank s.spareBank
  let key := match s.anv.cfgKey, bundlePart b 5 with
    | none, some e => some (Crypto.sha384 (imageKey (partBytes b e)))
    | k, _ => k
  { s with anv := { s.anv with bundlePending := true, cfgKey := key } }

/-- R425: at power-on Crucible ROM boots the accepted bundle, or the other bank where the check now fails.
Log 3 (DESIGN CHOICE). Log 71 (DEDUCED). -/
def bootBundle (s : State) : State :=
  if !s.anv.bundlePending then s
  else
    let n := s.spareBank
    let b := s.bank n
    if s.bundleOk b then
      let image := match bundlePart b 5 with
        | some e => Config.imageOf (imageBody (partBytes b e))
        | none => s.image
      { s with image := image, anv := { s.anv with bundlePending := false, bankInUse := n } }
    else { s with anv := { s.anv with bundlePending := false, bankFallback := true } }

/-- R425: the module is ready on its bundle: minima rise, and a successor key takes over. Log 71 (DEDUCED). -/
def settleBundle (s : State) : State :=
  let b := s.bank s.anv.bankInUse
  if b = [] then s
  else
    let mins := (bundleTable b).foldl (fun (t : Tbl Nat) e =>
      t.set 0 (partKind e) (max (t.get 0 (partKind e)) (partVersion e))) s.anv.minVersion
    let key := match bundlePart b 5 with
      | some e =>
        let k := imageSuccessor (partBytes b e)
        if k.all (· == 0) then s.anv.cfgKey else some (Crypto.sha384 k)
      | none => s.anv.cfgKey
    { s with anv := { s.anv with minVersion := mins, cfgKey := key } }

/-- R339: measurement index `i`, 1 to 7: the digest of the component booted, or the factory's. -/
def measurementDigest (s : State) (i : Nat) : Bytes :=
  match (bundleTable (s.bank s.anv.bankInUse)).find? (fun e => partIndex e == i) with
  | some e => partDigest e
  | none => padTo 48 (Config.measurement i)

/-- R339: SHA-384 of digests 1 to 7 in index order. -/
def moduleDigest (s : State) : Bytes :=
  Crypto.sha384 (((List.range 7).map (fun i => s.measurementDigest (i + 1))).flatten)

/-- R339: measurements 1 to 8: the seven digests, and the restarts of Crucible since power-on.
Log 62 (DEDUCED). -/
def measurements (s : State) : List Bytes :=
  (List.range 7).map (fun i => s.measurementDigest (i + 1)) ++ [leBytes 8 s.cru.restartCount]

/-- R339: what the SPDM responder answers a request with. -/
def spdmAnswer (s : State) (d : Bytes) : Bytes := Config.spdmAnswer s.hep.spdmSessions.length s.measurements d

end State
end Sys2Proof.Machine
end

