-- ==== Sys2Proof/Machine/Clocks.lean ====
section
/-!
DEFINITION. Clocks (R372 to R384): the monitor of the two reference clocks, their qualification, the source of the
timebase and of every PLL, and the complex timebase with its time messages.
-/
namespace Sys2Proof.Machine
open Sys2Proof

/-- R372: domains whose PLL runs from the local oscillator and falls back to the recovered clock. -/
def pllDomains : List Nat :=
  (List.range 24).flatMap (fun h => [3 * h, 3 * h + 1]) ++ (List.range 32).map (72 + 2 * ·) ++
    (List.range 64).map (136 + 2 * ·) ++ [264, 287]
/-- R372: the Temper references, which fall back to the ring oscillator. -/
def temperDomains : List Nat := [294, 295]
/-- R372: domain of a monitored clock: 0 the recovered timebase clock, 1 the local oscillator. -/
def monDomain (k : Nat) : Nat := if k = 0 then 285 else 283
/-- R372: the timebase tick. -/
def tickDomain : Nat := 286

namespace State

def mon (s : State) (k : Nat) : ClockMon := if k = 0 then s.clk.recovered else s.clk.local_
def setMon (s : State) (k : Nat) (x : ClockMon) : State :=
  let s := if k = 0 then { s with clk := { s.clk with recovered := x } } else { s with clk := { s.clk with local_ := x } }
  s.setBit CLK_STATUS (if k = 0 then CLK_STATUS.REC_QUAL else CLK_STATUS.LOCAL_QUAL) x.qualified

def qualPeriod (s : State) : Nat := ms (s.fld CLK_QUAL_CFG CLK_QUAL_CFG.PERIOD_MS)

/-- R375: the qualification period of clock `k` starts, or starts again, against the other clock if that one is
qualified, else against the ring oscillator. -/
def startQual (s : State) (k : Nat) : State :=
  s.setMon k { s.mon k with qualAt := some (s.tb + s.qualPeriod), byRing := !(s.mon (1 - k)).qualified }

/-- R375: the reference of a clock under qualification changed, so its period starts again. -/
def requalOther (s : State) (k : Nat) : State :=
  let o := 1 - k
  if (s.mon o).qualAt.isSome && (s.mon o).byRing == (s.mon k).qualified then s.startQual o else s

/-! ### Sources -/

/-- R377: source `k` of the timebase is configured and qualified; the ring oscillator always is. -/
def sourceOk (s : State) (k : Nat) : Bool :=
  match k with
  | 0 => s.bit CLK_TB_CFG CLK_TB_CFG.LANE_EN && s.clk.recovered.qualified
  | 1 => s.clk.local_.qualified
  | _ => true

/-- R377: the first source in the order. -/
def bestSource (s : State) : Nat := if s.sourceOk 0 then 0 else if s.sourceOk 1 then 1 else 2

/-- The clock that the multiplexer of domain `d` passes, or passed last: 0 recovered, 1 local, 2 ring oscillator.
Log 81 (DEDUCED). -/
def passedClock (s : State) (d : Nat) : Nat :=
  if d = tickDomain then s.fld CLK_STATUS CLK_STATUS.SOURCE else s.clk.passed.get 1 d

/-- A clock without edges; the ring oscillator always has them. -/
def clockStopped (s : State) (k : Nat) : Bool := k != 2 && !(s.mon k).running

/-- R378: begin a switch of domain `d`. The holdover of a PLL whose reference returns expires no more (R374). -/
def beginSwitch (s : State) (d dest : Nat) : State :=
  let m := MuxSwitch.mk dest s.tb (s.clockStopped (s.passedClock d))
  let s := { s with clk := { s.clk with mux := s.clk.mux.set none d (some m), holdEnd := s.clk.holdEnd.del d } }
  s.setFld (CLK_DOMAIN d) CLK_DOMAIN.STATE 2

def switching (s : State) (d : Nat) : Option MuxSwitch := s.clk.mux.get none d

/-- The timebase runs from, or is being switched to, this source. -/
def tickSource (s : State) : Nat :=
  match s.switching tickDomain with
  | some m => m.dest
  | none => s.fld CLK_STATUS CLK_STATUS.SOURCE

/-- R377: switch the timebase if its source tripped, or a higher one qualified. -/
def chooseTick (s : State) : State :=
  let b := s.bestSource
  let cur := s.tickSource
  if b < cur ∨ !s.sourceOk cur then s.beginSwitch tickDomain b else s

/-- R374: a PLL loses its reference with no fallback qualified. -/
def holdover (s : State) (d : Nat) : State :=
  let s := { s with clk := { s.clk with
    mux := s.clk.mux.del d
    holdEnd := s.clk.holdEnd.set none d (some (s.tb + sec 10)) } }
  let s := (s.setFld (CLK_DOMAIN d) CLK_DOMAIN.SRC 2).setFld (CLK_DOMAIN d) CLK_DOMAIN.STATE 1
  s.setBit CLK_EVENT CLK_EVENT.HOLDOVER

/-- The clock a PLL runs from, or is being switched to; `none` in holdover. -/
def pllSource (s : State) (d : Nat) : Option Nat :=
  match s.switching d with
  | some m => some m.dest
  | none => match s.fld (CLK_DOMAIN d) CLK_DOMAIN.SRC with
    | 0 => some 1
    | 1 => some (if temperDomains.contains d then 2 else 0)
    | _ => none

/-- R372, R374: choose the reference of PLL domain `d`: the local oscillator, else its fallback, else holdover. A PLL
that has yet to run starts on the first reference there is. -/
def choosePll (s : State) (d : Nat) : State :=
  let want : Option Nat :=
    if s.clk.local_.qualified then some 1
    else if temperDomains.contains d then some 2
    else if s.clk.recovered.qualified then some 0 else none
  if s.fld (CLK_DOMAIN d) CLK_DOMAIN.STATE = 0 then
    match want with
    | some k =>
      let s := { s with clk := { s.clk with passed := s.clk.passed.set 1 d k } }
      (s.setFld (CLK_DOMAIN d) CLK_DOMAIN.STATE 1).setFld (CLK_DOMAIN d) CLK_DOMAIN.SRC (if k = 1 then 0 else 1)
    | none => s
  else if want = s.pllSource d then s
  else match want with
    | some k => s.beginSwitch d k
    | none => s.holdover d

def chooseAll (s : State) : State := (pllDomains ++ temperDomains).foldl (fun s d => s.choosePll d) s.chooseTick

/-- R378: the old clock of each switch that passes from clock `k` has stopped. -/
def oldClockStops (s : State) (k : Nat) : State :=
  { s with clk := { s.clk with mux := s.clk.mux.map (fun (e : Nat × Option MuxSwitch) =>
      (e.1, if s.passedClock e.1 = k then e.2.map (fun (m : MuxSwitch) => { m with stopped := true }) else e.2)) } }

/-! ### The monitor -/

/-- R376: the monitor trips clock `k`; `edges` says whether it still has edges. Log 81 (DEDUCED). -/
def tripClock (s : State) (k : Nat) (edges : Bool) : State :=
  let d := monDomain k
  let s := (s.setBit CLK_EVENT CLK_EVENT.MON_TRIP).bumpSat (CLK_DOMAIN d) CLK_DOMAIN.TRIPS
  let s := s.setFld (CLK_DOMAIN d) CLK_DOMAIN.STATE (if edges then 1 else 3)
  let s := s.setMon k { running := edges }
  let s := if edges then s.startQual k else s.oldClockStops k
  let s := s.requalOther k
  let s := if k = 0 ∧ !s.bit CLK_STATUS CLK_STATUS.MASTER then s.setBit CLK_STATUS CLK_STATUS.LOCKED false else s
  s.chooseAll

/-- R375: clock `k` completes its period. Log 81 (DEDUCED). -/
def clockQualified (s : State) (k : Nat) : State :=
  let x := s.mon k
  if x.running && due s x.qualAt then
    let s := s.setMon k { x with qualified := true, qualAt := none }
    (s.requalOther k).chooseAll
  else s

/-- R375, R376: edges of clock `k` are back, from lane `lane` where it is a recovered one. -/
def clockEdges (s : State) (k lane : Nat) : State :=
  if (s.mon k).running then s
  else
    let s := if k = 0 then { s with clk := { s.clk with lane := some lane } } else s
    let s := s.setFld (CLK_DOMAIN (monDomain k)) CLK_DOMAIN.STATE 1
    (s.setMon k { s.mon k with running := true }).startQual k

/-! ### The multiplexer -/

/-- The timebase runs from source `k` from now on (R377, R379). -/
def tickFrom (s : State) (k : Nat) : State :=
  let old := s.fld CLK_STATUS CLK_STATUS.SOURCE
  let s := s.setFld CLK_STATUS CLK_STATUS.SOURCE k
  let s := if old ≠ k then s.setBit CLK_EVENT CLK_EVENT.SOURCE_CHANGE else s
  let s := s.setBit CLK_STATUS CLK_STATUS.COARSE (k == 2)
  if k = 2 ∧ old ≠ 2 then
    { s.setBit CLK_EVENT CLK_EVENT.COARSE_ENTER with cru := { s.cru with degraded := true } }
  else if k ≠ 2 ∧ old = 2 then s.setBit CLK_EVENT CLK_EVENT.COARSE_EXIT
  else s

/-- R378: the multiplexer of domain `d` passes the new clock. -/
def passClock (s : State) (d : Nat) (m : MuxSwitch) : State :=
  let s := { s with clk := { s.clk with mux := s.clk.mux.del d, holdEnd := s.clk.holdEnd.del d } }
  let s := s.setFld (CLK_DOMAIN d) CLK_DOMAIN.STATE 1
  if d = tickDomain then s.tickFrom m.dest
  else
    let s := { s with clk := { s.clk with passed := s.clk.passed.set 1 d m.dest } }
    s.setFld (CLK_DOMAIN d) CLK_DOMAIN.SRC (if m.dest = 1 then 0 else 1)

/-- R378, R383: an ordinary switch, on low phases of both clocks, which the old clock has while it runs. -/
def muxComplete (s : State) (d : Nat) : State :=
  match s.switching d with
  | some m => if s.clockStopped (s.passedClock d) then s else s.passClock d m
  | none => s

/-- R378: where the old clock has stopped the monitor forces the switch, 64 ring-oscillator periods after it began; edges
that have returned meanwhile do not keep it from that (R383). Log 81 (DEDUCED). -/
def muxForce (s : State) (d : Nat) : State :=
  match s.switching d with
  | some m =>
    if m.stopped ∧ m.begun + 160 ≤ s.tb then
      ((s.setBit CLK_EVENT CLK_EVENT.FORCED).bump CLK_FORCED CLK_FORCED.COUNT).passClock d m
    else s
  | none => s

/-! ### The complex timebase -/

/-- R381: every armed timeout moves by `n` with a step of the count. -/
def shiftTimers (s : State) (n : Nat) : State :=
  let o := fun (t : Option Nat) => t.map (· + n)
  let wait := fun (w : ProgWait) => match w with
    | .time t => .time (t + n)
    | .word a t x => .word a (t + n) (x + n)
    | w => w
  { s with
    flt := { s.flt with class3Due := o s.flt.class3Due, readyAt := s.flt.readyAt + n }
    anv := { s.anv with
      leaseEnd := o s.anv.leaseEnd
      a := { s.anv.a with restartBy := o s.anv.a.restartBy }
      b := { s.anv.b with restartBy := o s.anv.b.restartBy }
      hotSince := s.anv.hotSince.map (fun (e : Nat × Option Nat) => (e.1, o e.2)) }
    hep := { s.hep with
      reads := s.hep.reads.map (fun (q : ReadReq) => { q with due := o q.due })
      trainBy := o s.hep.trainBy, pfFlr := o s.hep.pfFlr
      fns := s.hep.fns.map (fun (e : Nat × FnState) => (e.1, { e.2 with flrEnd := o e.2.flrEnd, pollAt := o e.2.pollAt })) }
    disp := { s.disp with cqs := s.disp.cqs.map (fun (e : Nat × CplRing) => (e.1, { e.2 with coalAt := o e.2.coalAt })) }
    jnl := { s.jnl with
      snapAt := o s.jnl.snapAt
      partners := s.jnl.partners.map (fun (e : Nat × Partner) =>
        (e.1, { e.2 with lastEcho := e.2.lastEcho + n, lastHeard := e.2.lastHeard + n
                         beatAt := e.2.beatAt.map (fun (b : Nat × Nat) => (b.1, b.2 + n)) })) }
    chn := { s.chn with
      progs := s.chn.progs.map (fun (p : ChanProg) => { p with wait := wait p.wait })
      steps := s.chn.steps.map (fun (t : XStep) => { t with reissueAt := o t.reissueAt }) }
    srx := { s.srx with assocs := s.srx.assocs.map (fun (e : Nat × Assoc) => (e.1, { e.2 with
      estAt := o e.2.estAt, retxAt := o e.2.retxAt, kaAt := o e.2.kaAt, fastAt := o e.2.fastAt
      lastHeard := e.2.lastHeard + n
      unacked := e.2.unacked.map (fun (f : TxFrame) => { f with sentAt := f.sentAt + n }) })) }
    mm := { s.mm with
      calAt := s.mm.calAt + n, planishAt := s.mm.planishAt + n
      window := s.mm.window.map (fun (w : CalWindow) => { w with start := w.start + n }) }
    coh := { s.coh with
      io := s.coh.io.map (fun (q : IoReq) => { q with retryAt := o q.retryAt })
      lines := s.coh.lines.map (fun (e : Nat × CacheLine) => (e.1, { e.2 with retryAt := o e.2.retryAt }))
      homes := s.coh.homes.map (fun (e : Nat × HomeEntry) =>
        (e.1, { e.2 with busy := e.2.busy.map (fun (b : HomeTrans) => { b with timeout := o b.timeout }) })) }
    prs := { s.prs with pairs := s.prs.pairs.map (fun (e : Nat × PairState) => (e.1, { e.2 with assayAt := o e.2.assayAt })) }
    cru := { s.cru with
      wdogAt := o s.cru.wdogAt
      parts := s.cru.parts.map (fun (e : Nat × PartRec) => (e.1, { e.2 with serviceAt := e.2.serviceAt + n })) }
    clk := { s.clk with
      recovered := { s.clk.recovered with qualAt := o s.clk.recovered.qualAt }
      local_ := { s.clk.local_ with qualAt := o s.clk.local_.qualAt }
      mux := s.clk.mux.map (fun (e : Nat × Option MuxSwitch) =>
        (e.1, e.2.map (fun (m : MuxSwitch) => { m with begun := m.begun + n })))
      holdEnd := s.clk.holdEnd.map (fun (e : Nat × Option Nat) => (e.1, o e.2))
      timeAt := o s.clk.timeAt }
    pwr := { s.pwr with
      bellows := { s.pwr.bellows with
        latchAt := o s.pwr.bellows.latchAt
        feed0 := { s.pwr.bellows.feed0 with qualAt := o s.pwr.bellows.feed0.qualAt }
        feed1 := { s.pwr.bellows.feed1 with qualAt := o s.pwr.bellows.feed1.qualAt } }
      doms := s.pwr.doms.map (fun (e : Nat × DomState) => (e.1, { e.2 with leaseEnd := o e.2.leaseEnd }))
      frameAt := s.pwr.frameAt + n, stableAt := o s.pwr.stableAt
      ramp := s.pwr.ramp.map (fun (e : Nat × Option Nat) => (e.1, e.2.map (· + 8 * n))) }
    pins := { s.pins with
      seatAt := o s.pins.seatAt, break1At := o s.pins.break1At, break2At := o s.pins.break2At, singleAt := o s.pins.singleAt }
    start := { s.start with waitTime := o s.start.waitTime } }

/-- R381: the count steps forward by `n` in one tick. Log 35 (DEDUCED). Log 81 (DEDUCED). -/
def stepTime (s : State) (n : Nat) : State :=
  ({ (s.shiftTimers n) with tb := s.tb + n }).setBit CLK_EVENT CLK_EVENT.STEPPED

/-- R381, R382: a follower hears the master's count, `delay` of it on the link.
Log 34 (DEDUCED). Log 35 (DEDUCED). -/
def timeMessage (s : State) (port count delay : Nat) : State :=
  if s.bit CLK_STATUS CLK_STATUS.MASTER then s
  else
    let m := count + delay
    let off : Int := (s.tb : Int) - m
    let s := s.emit (.timeMessage port [])
    let s := s.setReg CLK_OFFSET (BitVec.ofInt 64 off)
    let lock := fun (s : State) (b : Bool) (ppm : Int) =>
      { s.setBit CLK_STATUS CLK_STATUS.LOCKED b with clk := { s.clk with steer := ppm } }
    let first := s.start.waitTime.any (fun t => decide (s.tb ≤ t))
    let s := { s with start := { s.start with waitTime := none } }
    if first ∧ off < 0 then (lock s (decide (-100 ≤ off)) 0).stepTime (m - s.tb)
    else if -100 ≤ off ∧ off ≤ 100 then lock s true off.sign
    else if 0 < off then lock s false 100
    else if off < -1000 then (lock s false 0).stepTime (m - s.tb)
    else lock s false (-100)

/-- R380: the master sends its count on every seam port each millisecond. -/
def sendTime (s : State) : State :=
  if s.bit CLK_STATUS CLK_STATUS.MASTER && due s s.clk.timeAt then
    let s := { s with clk := { s.clk with timeAt := some (s.tb + ms 1) } }
    (List.range 8).foldl (fun s p => s.sendSeam (.timeMessage p (leBytes 8 s.tb))) s
  else s

end State

/-! ### The commands -/

/-- R376: clock 0 is the recovered timebase clock, 1 the local oscillator; `edges` says whether edges go on. -/
def execClockMonitorTrip (k : Fin 2) (edges : Bool) (s : State) : Host.Outcome State Fault Refusal :=
  onLive s fun s => s.tripClock k.val edges

/-- R375. -/
def execClockQualified (k : Fin 2) (s : State) : Host.Outcome State Fault Refusal :=
  onLive s fun s => s.clockQualified k.val

/-- R376, R380: `lane` is the lane whose CDR delivers, for the recovered clock. -/
def execClockEdgesReturn (k : Fin 2) (lane : Fin 64) (s : State) : Host.Outcome State Fault Refusal :=
  onLive s fun s => s.clockEdges k.val lane.val

/-- R375. -/
def execMeasurementLeavesWindow (k : Fin 2) (s : State) : Host.Outcome State Fault Refusal :=
  onLive s fun s => if (s.mon k.val).qualAt.isSome then s.startQual k.val else s

/-- R378. -/
def execMuxSwitchComplete (d : Fin 296) (s : State) : Host.Outcome State Fault Refusal :=
  onLive s fun s => s.muxComplete d.val

/-- R378. -/
def execMuxForcedSwitch (d : Fin 296) (s : State) : Host.Outcome State Fault Refusal :=
  onLive s fun s => s.muxForce d.val

/-- R374: ten seconds of holdover of a domain are over. -/
def execHoldoverExpiry (d : Fin 296) (s : State) : Host.Outcome State Fault Refusal :=
  onLive s fun s =>
    if due s (s.clk.holdEnd.get none d.val) then
      ({ s with clk := { s.clk with holdEnd := s.clk.holdEnd.del d.val } }).logEvent 3 blockClk 6 d.val
    else s

/-- R380. -/
def execTimeMessageTimer (s : State) : Host.Outcome State Fault Refusal := onLive s State.sendTime

/-- R381. -/
def execTimeMessage (port : Fin 8) (count delay : Nat) (s : State) : Host.Outcome State Fault Refusal :=
  onSeam s fun s => s.timeMessage port.val count delay

end Sys2Proof.Machine
end

