-- ==== Sys2Proof/Machine/Swage.lean ====
section
/-!
DEFINITION. The Swage format (R259 to R262): the bit stream of tokens, the decoder with every check of R261, and
the coder, whose choice of tokens is the part's own.
-/
namespace Sys2Proof.Machine
open Sys2Proof

/-- R260: the bits of a byte string, lowest bit of each byte first. -/
def bitsOf (l : Bytes) : List Bool := (l.map (fun b => (List.range 8).map (fun i => b.getLsbD i))).flatten

/-- The number spelt by bits, lowest first. -/
def bitsNat : List Bool → Nat
  | [] => 0
  | b :: t => b.toNat + 2 * bitsNat t

/-- The `w` lowest bits of a number, lowest first. -/
def natBits : Nat → Nat → List Bool
  | 0, _ => []
  | w + 1, n => (n % 2 == 1) :: natBits w (n / 2)

/-- Bytes of a bit string, the last one filled with zero bits. -/
def bytesOf : Nat → List Bool → Bytes
  | 0, _ => []
  | n + 1, l => BitVec.ofNat 8 (bitsNat (l.take 8)) :: bytesOf n (l.drop 8)

/-- A field of `w` bits off the front of a stream. -/
def takeBits (w : Nat) (l : List Bool) : Option (Nat × List Bool) :=
  if l.length < w then none else some (bitsNat (l.take w), l.drop w)

/-- `n` bytes, each from `d` bytes before the end; the newest byte stands first. -/
def copyBack : Nat → Nat → Bytes → Bytes
  | 0, _, rev => rev
  | n + 1, d, rev => copyBack n d (rev.getD (d - 1) 0 :: rev)

/-- R260. -/
inductive SwgToken where
  | lit (v : Nat)
  | copy (n d : Nat)
  | fill (v n : Nat)
  deriving DecidableEq, Repr

/-- R260: one token off the front of a stream; `wide` is HIST. -/
def readToken (wide : Bool) : List Bool → Option (SwgToken × List Bool)
  | false :: l => (takeBits 8 l).map (fun (v, l) => (.lit v, l))
  | true :: false :: l => do
    let (c, l) ← takeBits 4 l
    let (n, l) ← if c = 15 then (takeBits 8 l).map (fun (x, l) => (19 + x, l)) else some (c + 4, l)
    let (d, l) ← takeBits (if wide then 16 else 12) l
    return (.copy n (d + 1), l)
  | true :: true :: l => do
    let (v, l) ← takeBits 8 l
    let (k, l) ← takeBits 12 l
    return (.fill v (k + 1), l)
  | _ => none

/-- R260: the bits of a token, if it has any. -/
def tokenBits (wide : Bool) : SwgToken → Option (List Bool)
  | .lit v => if v < 256 then some (false :: natBits 8 v) else none
  | .copy n d =>
    if d < 1 ∨ (if wide then 65536 else 4096) < d ∨ n < 4 ∨ 274 < n then none
    else
      let dist := natBits (if wide then 16 else 12) (d - 1)
      if n < 19 then some ([true, false] ++ natBits 4 (n - 4) ++ dist)
      else some ([true, false] ++ natBits 4 15 ++ natBits 8 (n - 19) ++ dist)
  | .fill v n =>
    if v < 256 ∧ 1 ≤ n ∧ n ≤ 4096 then some ([true, true] ++ natBits 8 v ++ natBits 12 (n - 1)) else none

/-- R261: the effect of a token on a block: output with the history behind it, newest first, and how many bytes
the block has; `reach` is how far behind the block's start a distance may go. -/
def applyToken (reach : Nat) (rev : Bytes) (n : Nat) : SwgToken → Option (Bytes × Nat)
  | .lit v => if n + 1 ≤ 4096 then some (BitVec.ofNat 8 v :: rev, n + 1) else none
  | .copy k d => if n + k ≤ 4096 ∧ d ≤ n + reach ∧ d ≤ rev.length then some (copyBack k d rev, n + k) else none
  | .fill v k => if n + k ≤ 4096 then some (List.replicate k (BitVec.ofNat 8 v) ++ rev, n + k) else none

/-- R261: decode a stream that must give exactly the rest of the block and end with the last of its bits. -/
def decodeTokens (wide : Bool) (reach : Nat) : Nat → List Bool → Bytes → Nat → Option Bytes
  | 0, _, _, _ => none
  | fuel + 1, l, rev, n =>
    if n = 4096 then (if l = [] then some (rev.take 4096).reverse else none)
    else match readToken wide l with
      | none => none
      | some (t, l) => match applyToken reach rev n t with
        | none => none
        | some (rev, n) => decodeTokens wide reach fuel l rev n

/-- R259: payload bytes of a class. -/
def classSize (c : Nat) : Nat := match c with
  | 1 => 512
  | 2 => 1024
  | 3 => 2048
  | 4 => 3072
  | _ => 4096

/-- R261: decode one block, header and payload, with the uncompressed stream before it. -/
def swageDecode (hist : Bytes) (b : Bytes) : Option Bytes :=
  let cls := leAt b 1 1
  let flags := leAt b 2 1
  let back := leAt b 3 1
  let bits := leAt b 4 2
  let payload := slice b 16 (classSize cls)
  let wide := flags % 2 == 1
  let raw := flags / 2 % 2 == 1
  if leAt b 0 1 ≠ 1 ∨ cls < 1 ∨ 5 < cls ∨ 4 ≤ flags ∨ 16 < back ∨ (!wide ∧ back ≠ 0) ∨ raw ≠ (cls == 5) ∨
      leAt b 6 2 ≠ 0 ∨ payload.length ≠ classSize cls ∨ leAt b 12 4 ≠ Crypto.crc32c (slice b 0 12 ++ payload) then none
  else
    let data :=
      if raw then (if bits = 32768 then some payload else none)
      else
        let l := bitsOf payload
        if (l.drop bits).any id then none
        else if 8 * payload.length < bits then none
        else decodeTokens wide (4096 * back) 4097 (l.take bits) hist.reverse 0
    match data with
    | some d => if leAt b 8 4 = Crypto.crc32c d then some d else none
    | none => none

/-! ### Coding -/

def swgToken : Nat × Nat × Nat → SwgToken
  | (0, v, _) => .lit v
  | (1, n, d) => .copy n d
  | (_, v, n) => .fill v n

/-- Bits of a list of tokens, if every one has some. -/
def streamBits (wide : Bool) : List SwgToken → Option (List Bool)
  | [] => some []
  | t :: ts => match tokenBits wide t, streamBits wide ts with
    | some a, some b => some (a ++ b)
    | _, _ => none

/-- The bits an engine codes a block in: those of its matcher's choice where they decode to the block, as the
engine verifies (R265), else one literal a byte. -/
def swageBits (wide : Bool) (back : Nat) (hist block : Bytes) : List Bool :=
  let lits := (block.map (fun b => false :: natBits 8 b.toNat)).flatten
  match streamBits wide ((Config.swageTokens hist block).map swgToken) with
  | some l => if decodeTokens wide (4096 * back) 4097 l hist.reverse 0 = some block then l else lits
  | none => lits

/-- A block as written: class, flags, History, its stream or its bytes. Log 84 (DESIGN CHOICE). -/
def swageBlock (cls flags back bits : Nat) (payload block : Bytes) : Bytes :=
  let h := [0x01, BitVec.ofNat 8 cls, BitVec.ofNat 8 flags, BitVec.ofNat 8 back] ++ leBytes 2 bits ++ leBytes 2 0 ++
    leBytes 4 (Crypto.crc32c block)
  h ++ leBytes 4 (Crypto.crc32c (h ++ payload)) ++ payload

/-- R262: the class for a stream of `bytes` bytes: the class, and whether the block misses Max class. -/
def swageClass (pad : Bool) (max bytes : Nat) : Nat × Bool :=
  let fits := (List.range 4).map (· + 1) |>.find? (fun c => decide (bytes ≤ classSize c) && decide (c ≤ max))
  match fits with
  | some c => if pad then (max, false) else (c, false)
  | none => (5, max != 5)

/-- R262: code one block of a stream that has `blocks` blocks before it, or of a stateless request: the block as
written, its class, and whether it missed Max class. Log 84 (DESIGN CHOICE). -/
def swageCode (stream pad : Bool) (max blocks : Nat) (hist block : Bytes) : Bytes × Nat × Bool :=
  let back := if stream then min 16 blocks else 0
  let hist := if stream then hist else []
  let l := swageBits stream back hist block
  let (cls, missed) := swageClass pad max ((l.length + 7) / 8)
  if cls = 5 then (swageBlock 5 (stream.toNat + 2) back 32768 block block, 5, missed)
  else (swageBlock cls stream.toNat back l.length (bytesOf (classSize cls) l) block, cls, missed)

end Sys2Proof.Machine
end

