-- ==== Sys2Proof/Machine/Inflate.lean ====
section
/-!
DEFINITION. DEFLATE (R263, R264; RFC 1950, 1951, 1952): the decoder as it resumes between requests (R267), and
what a compress request puts out, whose matches are the part's own choice.
-/
namespace Sys2Proof.Machine
open Sys2Proof

/-! ### Huffman codes -/

/-- Outcome of reading something from a bit stream that may end too early. -/
inductive Got (α : Type) where
  | ok (v : α) (rest : List Bool)
  | short
  | bad
  deriving DecidableEq, Repr

/-- Symbols of code length `n`, lowest first. -/
def symbolsOf (lens : List Nat) (n : Nat) : List Nat := (List.range lens.length).filter (fun i => lens.getD i 0 == n)

/-- Read one symbol: the code so far, the first code of this length, the code length. -/
def huffRead (lens : List Nat) : Nat → Nat → Nat → Nat → List Bool → Got Nat
  | 0, _, _, _, _ => .bad
  | _ + 1, _, _, _, [] => .short
  | fuel + 1, code, first, n, b :: l =>
    let code := code + b.toNat
    let syms := symbolsOf lens n
    if code < first + syms.length ∧ first ≤ code then .ok (syms.getD (code - first) 0) l
    else huffRead lens fuel (2 * code) (2 * (first + syms.length)) (n + 1) l

def huff (lens : List Nat) (l : List Bool) : Got Nat := huffRead lens 15 0 0 1 l

/-- How much of the code space lengths leave free, in units of 2^-15; none where they oversubscribe it. -/
def codeLeft (lens : List Nat) : Option Nat :=
  let used := (lens.map (fun n => if n = 0 then 0 else 2 ^ (15 - n))).sum
  if used ≤ 32768 then some (32768 - used) else none

/-- A set of lengths is usable: complete, or one code of one bit, or for distances no code at all. -/
def lensOk (lens : List Nat) (none_ : Bool) : Bool :=
  match codeLeft lens with
  | some 0 => true
  | some _ => ((lens.filter (· != 0)) == [1]) || (none_ && lens.all (· == 0))
  | none => false

def fixedLits : List Nat :=
  List.replicate 144 8 ++ List.replicate 112 9 ++ List.replicate 24 7 ++ List.replicate 8 8
def fixedDists : List Nat := List.replicate 32 5

/-- RFC 1951: base length and extra bits of symbols 257 to 285. -/
def lengthBase : List (Nat × Nat) :=
  [(3,0),(4,0),(5,0),(6,0),(7,0),(8,0),(9,0),(10,0),(11,1),(13,1),(15,1),(17,1),(19,2),(23,2),(27,2),(31,2),
   (35,3),(43,3),(51,3),(59,3),(67,4),(83,4),(99,4),(115,4),(131,5),(163,5),(195,5),(227,5),(258,0)]
/-- RFC 1951: base distance and extra bits of symbols 0 to 29. -/
def distBase : List (Nat × Nat) :=
  [(1,0),(2,0),(3,0),(4,0),(5,1),(7,1),(9,2),(13,2),(17,3),(25,3),(33,4),(49,4),(65,5),(97,5),(129,6),(193,6),
   (257,7),(385,7),(513,8),(769,8),(1025,9),(1537,9),(2049,10),(3073,10),(4097,11),(6145,11),(8193,12),(12289,12),
   (16385,13),(24577,13)]

/-- A field of `w` bits. -/
def gotBits (w : Nat) (l : List Bool) : Got Nat :=
  match takeBits w l with
  | some (n, l) => .ok n l
  | none => .short

/-- The code lengths of a dynamic block, `n` of them in all. -/
def readLens (cl : List Nat) (n : Nat) : Nat → List Nat → List Bool → Got (List Nat)
  | 0, _, _ => .bad
  | fuel + 1, acc, l =>
    if n = acc.length then .ok acc l
    else if n < acc.length then .bad
    else match huff cl l with
      | .short => .short
      | .bad => .bad
      | .ok c l =>
        if c < 16 then readLens cl n fuel (acc ++ [c]) l
        else
          let w := if c = 16 then 2 else if c = 17 then 3 else 7
          match gotBits w l with
          | .ok k l =>
            if c = 16 then
              match acc.getLast? with
              | some p => readLens cl n fuel (acc ++ List.replicate (3 + k) p) l
              | none => .bad
            else readLens cl n fuel (acc ++ List.replicate ((if c = 17 then 3 else 11) + k) 0) l
          | .short => .short
          | .bad => .bad

def clOrder : List Nat := [16, 17, 18, 0, 8, 7, 9, 6, 10, 5, 11, 4, 12, 3, 13, 2, 14, 1, 15]

/-- The header of a dynamic block: its literal/length and distance code lengths. -/
def readDynamic (l : List Bool) : Got (List Nat × List Nat) :=
  match takeBits 14 l with
  | none => .short
  | some (h, l) =>
    let nl := h % 32 + 257
    let nd := h / 32 % 32 + 1
    let nc := h / 1024 + 4
    if 286 < nl then .bad
    else match takeBits (3 * nc) l with
      | none => .short
      | some (x, l) =>
        let cl := (List.range 19).map (fun i =>
          let p := clOrder.findIdx (· == i)
          if p < nc then x / 8 ^ p % 8 else 0)
        if !lensOk cl false then .bad
        else match readLens cl (nl + nd) 400 [] l with
          | .short => .short
          | .bad => .bad
          | .ok ls l =>
            let lits := ls.take nl ++ List.replicate (288 - nl) 0
            let dists := ls.drop nl ++ List.replicate (32 - nd) 0
            if lits.getD 256 0 = 0 ∨ !lensOk lits false ∨ !lensOk dists true then .bad
            else .ok (lits, dists) l

/-- What one literal/length symbol, with its distance, says: a byte, a copy, the end of the block. -/
inductive Sym where
  | lit (v : Nat)
  | copy (n d : Nat)
  | stop
  deriving DecidableEq, Repr

def readSym (lits dists : List Nat) (l : List Bool) : Got Sym :=
  match huff lits l with
  | .short => .short
  | .bad => .bad
  | .ok c l =>
    if c < 256 then .ok (.lit c) l
    else if c = 256 then .ok .stop l
    else match lengthBase[c - 257]? with
      | none => .bad
      | some (base, w) => match gotBits w l with
        | .short => .short
        | .bad => .bad
        | .ok x l => match huff dists l with
          | .short => .short
          | .bad => .bad
          | .ok d l => match distBase[d]? with
            | none => .bad
            | some (db, dw) => match gotBits dw l with
              | .short => .short
              | .bad => .bad
              | .ok y l => .ok (.copy (base + x) (db + y)) l

/-! ### Running checks -/

def adlerFrom (a : Nat) (l : Bytes) : Nat :=
  let (x, y) := l.foldl (fun (p : Nat × Nat) b =>
    let x := (p.1 + b.toNat) % 65521
    (x, (p.2 + x) % 65521)) (a % 65536, a / 65536)
  y * 65536 + x

def crcFrom (c : Nat) (l : Bytes) : Nat := (l.foldl (Crypto.crcByte 0xEDB88320) (c ^^^ 0xFFFFFFFF)) ^^^ 0xFFFFFFFF

/-- R267: the stream check after more data: Adler-32 for zlib, CRC-32 for gzip. -/
def checkFrom (wrap c : Nat) (l : Bytes) : Nat :=
  match wrap with
  | 1 => adlerFrom c l
  | 2 => crcFrom c l
  | _ => 0

/-- The stream check of no data. -/
def checkInit (wrap : Nat) : Nat := if wrap = 1 then 1 else 0

/-- The trailer of a stream: its check, and for gzip the length. -/
def trailer (wrap check total : Nat) : Bytes :=
  match wrap with
  | 1 => beBytes 4 check
  | 2 => leBytes 4 check ++ leBytes 4 total
  | _ => []

/-! ### The decoder -/

/-- The decoder at work: what the context keeps, with the final-block bit apart, the bits to come, and the output
newest first with the history behind it. -/
structure Inf where
  phase : Nat
  fin : Bool
  flg : Nat
  xlen : Nat
  storedLeft : Nat
  pendLen : Nat
  pendDist : Nat
  wrapBytes : Nat
  lits : List Nat
  dists : List Nat
  bits : List Bool
  rev : Bytes
  /-- bytes put out, and how many more may be -/
  n : Nat
  room : Nat
  deriving DecidableEq, Repr

/-- Why the decoder stands still. -/
inductive InfStop where
  | short | full | ended | bad
  deriving DecidableEq, Repr

/-- Drop the rest of a byte that has been begun. -/
def alignBits (l : List Bool) : List Bool := l.drop (l.length % 8)

/-- A block has ended. -/
def blockEnd (wrap : Nat) (x : Inf) : Inf :=
  if !x.fin then { x with phase := 0 }
  else if wrap = 0 then { x with phase := 6, bits := alignBits x.bits }
  else { x with phase := 5, wrapBytes := 0, bits := alignBits x.bits }

def putOut (x : Inf) (b : Byte) : Inf := { x with rev := b :: x.rev, n := x.n + 1, room := x.room - 1 }

/-- Copy the pending bytes of a match, as far as there is room. -/
def copyPend (x : Inf) : Inf :=
  let k := min x.pendLen x.room
  { x with rev := copyBack k x.pendDist x.rev, n := x.n + k, room := x.room - k, pendLen := x.pendLen - k }

/-- One step of a gzip header (R263): the fixed bytes, then the optional fields that FLG announces. -/
def gzipStep (x : Inf) : InfStop ⊕ Inf :=
  if x.wrapBytes = 0 then
    match takeBits 32 x.bits with
    | none => .inl .short
    | some (h, l) =>
      if h % 2 ^ 24 ≠ 0x088B1F ∨ 32 ≤ h / 2 ^ 24 then .inl .bad
      else .inr { x with wrapBytes := 4, flg := h / 2 ^ 24, bits := l }
  else if x.wrapBytes = 4 then
    match takeBits 48 x.bits with
    | none => .inl .short
    | some (_, l) => .inr { x with wrapBytes := 10, bits := l }
  else if x.flg / 4 % 2 = 1 then
    if x.wrapBytes = 10 then
      match takeBits 16 x.bits with
      | none => .inl .short
      | some (h, l) => .inr { x with wrapBytes := 12, xlen := h, bits := l }
    else if x.xlen = 0 then .inr { x with flg := x.flg - 4 }
    else match takeBits 8 x.bits with
      | none => .inl .short
      | some (_, l) => .inr { x with wrapBytes := x.wrapBytes + 1, xlen := x.xlen - 1, bits := l }
  else if x.flg / 8 % 4 ≠ 0 then
    match takeBits 8 x.bits with
    | none => .inl .short
    | some (c, l) =>
      let done := if x.flg / 8 % 2 = 1 then 8 else 16
      .inr { x with wrapBytes := x.wrapBytes + 1, flg := if c = 0 then x.flg - done else x.flg, bits := l }
  else if x.flg / 2 % 2 = 1 then
    match takeBits 16 x.bits with
    | none => .inl .short
    | some (_, l) => .inr { x with wrapBytes := x.wrapBytes + 2, flg := x.flg - 2, bits := l }
  else .inr { x with phase := 0, wrapBytes := 0 }

/-- One step of the decoder, with the bytes and the check of the stream before this request. -/
def infStep (wrap total check : Nat) (x : Inf) : InfStop ⊕ Inf :=
  match x.phase with
  | 4 =>
    if wrap = 0 then .inr { x with phase := 0 }
    else if wrap = 2 then gzipStep x
    else match takeBits 16 x.bits with
      | none => .inl .short
      | some (h, l) =>
        if h % 16 ≠ 8 ∨ 7 < h / 16 % 16 ∨ (h % 256 * 256 + h / 256) % 31 ≠ 0 ∨ h / 2 ^ 13 % 2 = 1 then .inl .bad
        else .inr { x with phase := 0, bits := l }
  | 0 =>
    match takeBits 3 x.bits with
    | none => .inl .short
    | some (h, l) =>
      let x := { x with fin := h % 2 == 1 }
      match h / 2 with
      | 0 => match takeBits 32 (alignBits l) with
        | none => .inl .short
        | some (v, l) =>
          if v % 65536 + v / 65536 ≠ 65535 then .inl .bad
          else .inr { x with phase := 1, storedLeft := v % 65536, bits := l }
      | 1 => .inr { x with phase := 2, lits := fixedLits, dists := fixedDists, bits := l }
      | 2 => match readDynamic l with
        | .short => .inl .short
        | .bad => .inl .bad
        | .ok (a, b) l => .inr { x with phase := 3, lits := a, dists := b, bits := l }
      | _ => .inl .bad
  | 1 =>
    if x.storedLeft = 0 then .inr (blockEnd wrap x)
    else match takeBits 8 x.bits with
      | none => .inl .short
      | some (b, l) =>
        if x.room = 0 then .inl .full
        else .inr { putOut x (BitVec.ofNat 8 b) with storedLeft := x.storedLeft - 1, bits := l }
  | 5 =>
    let want := trailer wrap (checkFrom wrap check (x.rev.take x.n).reverse) (total + x.n)
    if want.length ≤ x.wrapBytes then .inr { x with phase := 6 }
    else match takeBits 8 x.bits with
      | none => .inl .short
      | some (b, l) =>
        if b ≠ (want.getD x.wrapBytes 0).toNat then .inl .bad
        else .inr { x with wrapBytes := x.wrapBytes + 1, bits := l }
  | 6 => .inl .ended
  | _ =>
    if x.pendLen ≠ 0 then (if x.room = 0 then .inl .full else .inr (copyPend x))
    else match readSym x.lits x.dists x.bits with
      | .short => .inl .short
      | .bad => .inl .bad
      | .ok .stop l => .inr (blockEnd wrap { x with bits := l })
      | .ok (.lit v) l => if x.room = 0 then .inl .full else .inr { putOut x (BitVec.ofNat 8 v) with bits := l }
      | .ok (.copy k d) l =>
        if 32768 < d ∨ x.rev.length < d then .inl .bad
        else if x.room = 0 then .inl .full
        else .inr (copyPend { x with pendLen := k, pendDist := d, bits := l })

/-- R267: the inflater, a symbol or a header field at a time, until it stops. Log 86 (PRESUMED). -/
def infRun (wrap total check : Nat) : Nat → Inf → InfStop × Inf
  | 0, x => (.bad, x)
  | fuel + 1, x => match infStep wrap total check x with
    | .inl r => (r, x)
    | .inr x => infRun wrap total check fuel x

/-- Steps that any run of these bits and this much output takes at most. -/
def infFuel (bits room : Nat) : Nat := 4 * (bits + room) + 64

/-- R267: take up a context's decoder; the final-block bit leads the Bit buffer in phases 1 to 3, and FLG and the
rest of XLEN in phase 4 of gzip. Log 86 (PRESUMED). -/
def infLoad (wrap : Nat) (c : Inflater) (hist src : Bytes) (room : Nat) : Inf :=
  let x : Inf := ⟨c.phase, false, 0, 0, c.storedLeft, c.pendLen, c.pendDist, c.wrapBytes, c.lits, c.dists,
    c.bits ++ bitsOf src, hist.reverse, 0, room⟩
  if 1 ≤ c.phase ∧ c.phase ≤ 3 then { x with fin := x.bits.headD false, bits := x.bits.drop 1 }
  else if c.phase = 4 ∧ wrap = 2 ∧ 4 ≤ c.wrapBytes then
    let x := { x with flg := bitsNat (x.bits.take 8), bits := x.bits.drop 8 }
    if x.flg / 4 % 2 = 1 ∧ 12 ≤ c.wrapBytes then { x with xlen := bitsNat (x.bits.take 16), bits := x.bits.drop 16 } else x
  else x

/-- R267: the decoder as the context keeps it, and how many of the `srcLen` bytes of Source it has consumed. Bits
read and not used stay in the Bit buffer while it holds them; otherwise the whole bytes are not consumed.
Log 86 (PRESUMED). -/
def infSave (wrap : Nat) (x : Inf) (stop : InfStop) (srcLen : Nat) : Inflater × Nat :=
  let left := x.bits.length
  let lead :=
    if 1 ≤ x.phase ∧ x.phase ≤ 3 then [x.fin]
    else if x.phase = 4 ∧ wrap = 2 ∧ 4 ≤ x.wrapBytes then
      natBits 8 x.flg ++ (if x.flg / 4 % 2 = 1 ∧ 12 ≤ x.wrapBytes then natBits 16 x.xlen else [])
    else []
  let back := if stop = .short ∧ left + lead.length ≤ 63 then 0 else min (left / 8) srcLen
  let kept := x.bits.take (left - 8 * back)
  (⟨lead ++ kept, x.phase, x.storedLeft, x.pendLen, x.pendDist, x.wrapBytes, x.lits, x.dists⟩, srcLen - back)

/-! ### Compression -/

/-- R263: the wrapper's header. -/
def wrapHeader (wrap level : Nat) : Bytes :=
  match wrap with
  | 1 => [0x78, if level = 1 then 0x01 else if level ≤ 5 then 0x5E else if level = 6 then 0x9C else 0xDA]
  | 2 => [0x1F, 0x8B, 8, 0, 0, 0, 0, 0, if level = 1 then 4 else if level = 9 then 2 else 0, 255]
  | _ => []

/-- The empty stored block that ends a request without LAST (R264), where the output is byte-aligned. -/
def syncBlock : Bytes := [0, 0, 0, 0xFF, 0xFF]

/-- Data as stored blocks. Log 84 (DESIGN CHOICE). -/
def storedBlocks (last : Bool) (data : Bytes) : Bytes :=
  let ps := if data = [] then [[]] else Crypto.pieces 65535 data
  (ps.mapIdx (fun i (p : Bytes) =>
    (if last && i + 1 == ps.length then 1 else 0) :: (leBytes 2 p.length ++ leBytes 2 (65535 - p.length) ++ p))).flatten ++
    (if last then [] else syncBlock)

/-- Where the decoder stands after these DEFLATE bytes, from this history, with room for the data. -/
def deflateRead (hist data out : Bytes) : InfStop × Inf :=
  infRun 0 0 0 (infFuel (8 * out.length) data.length) (infLoad 0 { phase := 0 } hist out data.length)

/-- The decoder has put out exactly this data. -/
def Inf.gave (x : Inf) (data : Bytes) : Bool := x.n == data.length && (x.rev.take x.n).reverse == data

/-- R264: all the data is out, and the bits to come are the header of a stored block that is not final, up to its
byte alignment. -/
def Inf.atSync (x : Inf) (data : Bytes) : Bool :=
  x.gave data && x.phase == 0 && decide (x.bits.length ≤ 10) && x.bits.take 3 == [false, false, false]

/-- DEFLATE bytes decode, after this history, to exactly this data and end as R264 says: with a final block, or with an
empty stored block, whose lengths are the last four bytes. -/
def deflateGood (last : Bool) (hist data out : Bytes) : Bool :=
  if last then
    match deflateRead hist data out with
    | (stop, x) => stop == .ended && x.gave data && x.bits == []
  else
    let n := out.length - 4
    out.drop n == [0, 0, 0xFF, 0xFF] && (deflateRead hist data (out.take n)).2.atSync data

/-- R263, R264: the DEFLATE bytes of a request: the engine's choice where they are good, else stored blocks.
Log 84 (DESIGN CHOICE). -/
def deflate (level : Nat) (last : Bool) (hist data : Bytes) : Bytes :=
  let hist := hist.drop (hist.length - 32768)
  let out := Config.deflateTokens (if last then level + 16 else level) hist data
  if deflateGood last hist data out then out else storedBlocks last data

end Sys2Proof.Machine
end

