-- ==== Sys2Proof/Machine/SwgCmds.lean ====
section
/-!
DEFINITION. The compression engines (R252 to R269): queues and their blocks by weight, the requests, stream
contexts, saving and restoring them.
-/
namespace Sys2Proof.Machine
open Sys2Proof

/-! ### Requests -/

/-- R255: fields of a request block. -/
structure SwgFields where
  op : Nat
  stream : Nat
  last : Bool
  pad : Bool
  wrap : Nat
  level : Nat
  max : Nat
  src : Nat
  srcLen : Nat
  dstLen : Nat
  dst : Nat
  compl : Nat
  save : Nat
  tag : Nat
  deriving DecidableEq, Repr

def swgFields (b : Bytes) : SwgFields :=
  let fl := leAt b 1 1
  ⟨leAt b 0 1, fl % 4, fl / 4 % 2 == 1, fl / 8 % 2 == 1, fl / 16 % 4, leAt b 2 1, leAt b 3 1, leAt b 8 8, leAt b 16 4,
    leAt b 20 4, leAt b 24 8, leAt b 32 8, leAt b 40 8, leAt b 48 8⟩

/-- R255: the block obeys its table. -/
def swgValid (b : Bytes) : Bool :=
  let f := swgFields b
  let known := f.op == 1 || f.op == 2 || f.op == 3 || f.op == 4 || f.op == 0x10 || f.op == 0x11
  let saves := f.op == 0x10 || f.op == 0x11
  known && f.stream != 3 && f.wrap != 3 && leAt b 1 1 / 64 == 0 && (!f.pad || f.op == 1) &&
    (f.wrap == 0 || f.op == 3 || f.op == 4) &&
    (if f.op = 3 then decide (1 ≤ f.level) && decide (f.level ≤ 9) else f.level == 0) &&
    (if f.op = 1 then decide (f.max ≤ 5) else f.max == 0) && leAt b 4 4 == 0 && leAt b 56 8 == 0 &&
    f.compl % 32 == 0 &&
    (if saves then f.srcLen == 0 && f.save % 4096 == 0
     else f.save == 0 && decide (1 ≤ f.srcLen) && decide (f.srcLen ≤ 1048576) && (f.op != 1 || f.srcLen % 4096 == 0))

/-- R254: blocks a request counts for; one shorter than 4 KiB counts as one. -/
def swgBlocks (b : Bytes) : Nat := max 1 ((swgFields b).srcLen / 4096 + if (swgFields b).srcLen % 4096 = 0 then 0 else 1)

/-- What a request ends with: status, flags, largest class, output, bytes consumed, raw blocks, the context it
leaves (`none` where it leaves the queue's own as it was), and the consumed bytes for the check. -/
structure SwgResult where
  status : Nat
  flags : Nat := 0
  cls : Nat := 0
  out : Bytes := []
  input : Bytes := []
  raws : Nat := 0
  ctx : Option (Option SwgContext) := none
  deriving DecidableEq, Repr

/-- The last 65,536 bytes of a stream (R266). -/
def histKeep (l : Bytes) : Bytes := l.drop (l.length - 65536)

/-- A context after a request: more input, more uncompressed data, more output. -/
def ctxAfter (c : SwgContext) (data : Bytes) (inN outN blocks : Nat) : SwgContext :=
  { c with
    hist := histKeep (c.hist ++ data)
    pos := (c.pos + data.length) % 65536
    inTotal := (c.inTotal + inN) % 2 ^ 64
    outTotal := (c.outTotal + outN) % 2 ^ 64
    check := checkFrom c.wrap c.check data
    blocks := min (c.blocks + blocks) (2 ^ 32 - 1) }

/-- The context a request leaves on success: none of a stateless one, none after LAST. -/
def ctxLeft (f : SwgFields) (c : SwgContext) : Option (Option SwgContext) :=
  if f.stream = 0 then none else if f.last then some none else some (some c)

/-- R264, R266: the context a request works on: its own start, or the queue's, of its kind. -/
def ctxFor (f : SwgFields) (c : Option SwgContext) : Option SwgContext :=
  let fresh : SwgContext := { mode := f.op, wrap := f.wrap, level := f.level, check := checkInit f.wrap }
  if f.stream ≠ 2 then some fresh
  else c.filter (fun c => c.mode == f.op && c.wrap == f.wrap && c.level == f.level)

/-! ### The four ops -/

/-- R262: code blocks one after another while they fit at Destination. -/
def compressBlocks (stream pad : Bool) (max room : Nat) : List Bytes → SwgContext → SwgResult → SwgResult × SwgContext
  | [], c, r => (r, c)
  | b :: bs, c, r =>
    let (o, cls, missed) := swageCode stream pad max c.blocks c.hist b
    if room < r.out.length + o.length then ({ r with status := 2 }, c)
    else compressBlocks stream pad max room bs (ctxAfter c b 4096 o.length 1)
      { r with
        out := r.out ++ o
        input := r.input ++ b
        cls := Nat.max r.cls cls
        raws := r.raws + missed.toNat
        status := if missed then 1 else r.status }

/-- R258: Destination bytes a Swage compress request needs. -/
def swgNeed (f : SwgFields) : Nat :=
  let m := if f.max = 0 then 5 else f.max
  f.srcLen / 4096 * ((if f.pad then classSize m else 4096) + 16)

def swageCompress (f : SwgFields) (c : SwgContext) (src : Bytes) : SwgResult :=
  match compressBlocks (f.stream != 0) f.pad (if f.max = 0 then 5 else f.max) f.dstLen (Crypto.pieces 4096 src) c
      { status := 0 } with
  | (r, c) => if r.status = 2 then r else { r with ctx := ctxLeft f c }

/-- R261: decode blocks one after another; a stateless request keeps no history. -/
def decompressBlocks (stream : Bool) (room : Nat) : Nat → Bytes → SwgContext → SwgResult → SwgResult × SwgContext
  | 0, _, c, r => (r, c)
  | fuel + 1, src, c, r =>
    if src = [] then (r, c)
    else
      let n := 16 + classSize (leAt src 1 1)
      match swageDecode (if stream then c.hist else []) (src.take n) with
      | none => ({ r with status := 3 }, c)
      | some d =>
        if room < r.out.length + d.length then
          ({ r with status := 2, out := (r.out ++ d).take room }, c)
        else decompressBlocks stream room fuel (src.drop n) (ctxAfter c d n d.length 1)
          { r with out := r.out ++ d, input := r.input ++ src.take n }

/-- R256, R266: a Swage decompression, from the point that its context holds. Log 85 (DEDUCED). -/
def swageDecompress (f : SwgFields) (c : SwgContext) (src : Bytes) : SwgResult :=
  match decompressBlocks (f.stream != 0) f.dstLen (src.length + 1) src c { status := 0 } with
  | (r, c) => if r.status ≠ 0 then r else { r with ctx := ctxLeft f c }

/-- R263, R264: a compress request: the wrapper's header at the start of a stream, its trailer at the end. How much of
Source it has consumed when Destination is full goes with the encoder's choice. Log 84 (DESIGN CHOICE). -/
def deflateCompress (f : SwgFields) (c : SwgContext) (src : Bytes) : SwgResult :=
  let last := f.last || f.stream == 0
  let c' := ctxAfter c src src.length 0 0
  let out := (if f.stream = 2 then [] else wrapHeader f.wrap f.level) ++ deflate f.level last c.hist src ++
    (if last then trailer f.wrap c'.check c'.inTotal else [])
  if f.dstLen < out.length then
    { status := 2, out := out.take f.dstLen, input := src.take (Config.deflateTaken f.level c.hist src f.dstLen) }
  else { status := 0, out := out, input := src, ctx := ctxLeft f { c' with outTotal := (c'.outTotal + out.length) % 2 ^ 64 } }

/-- R263, R264, R258: a decompress ends at the end of Source, of Destination, or of the stream, or at what is malformed; the
whole bytes of Source that it has not used by then are not consumed (R256). Log 85 (DEDUCED).
Log 137 (DEDUCED). -/
def deflateDecompress (f : SwgFields) (c : SwgContext) (src : Bytes) : SwgResult :=
  let x := infLoad c.wrap c.inf c.hist src f.dstLen
  match infRun c.wrap c.outTotal c.check (infFuel x.bits.length f.dstLen) x with
  | (stop, x) =>
    let out := (x.rev.take x.n).reverse
    let (inf, used) := infSave c.wrap x stop src.length
    let left := ctxLeft f { ctxAfter c out used out.length 0 with inf := inf }
    match stop with
    | .bad => { status := 3, out := out, input := src.take used }
    | .full =>
      if f.stream = 0 then { status := 2, out := out, input := src.take used }
      else { status := 0, flags := 2, out := out, input := src.take used, ctx := left }
    | .ended => { status := 0, flags := 1, out := out, input := src.take used, ctx := left }
    | .short => { status := 0, out := out, input := src.take used, ctx := left }

/-- An op on the whole of Source. -/
def swgRun (f : SwgFields) (c : SwgContext) (src : Bytes) : SwgResult :=
  match f.op with
  | 1 => swageCompress f c src
  | 2 => swageDecompress f c src
  | 3 => deflateCompress f c src
  | _ => deflateDecompress f c src

/-- R256, R257: an op that meets a line of Source that is refused or poisoned (`st`), after the bytes `src`: it has released
what the whole blocks before that line gave, unless it ended there by itself. Log 85 (DEDUCED). -/
def swgCut (f : SwgFields) (c : SwgContext) (src : Bytes) (st : Nat) : SwgResult :=
  let blocks := src.take (src.length / 4096 * 4096)
  let cut := fun (r : SwgResult) => { r with status := st, flags := 0, ctx := none }
  match f.op with
  | 1 => cut (swageCompress f c blocks)
  | 2 =>
    let r := swageDecompress f c src
    let rest := src.drop r.input.length
    if r.status = 2 ∨ (r.status = 3 ∧ 16 + classSize (leAt rest 1 1) ≤ rest.length) then r else cut r
  | 3 => if blocks = [] then { status := st } else
    let r := deflateCompress { f with stream := if f.stream = 2 then 2 else 1, last := false } c blocks
    if r.status = 2 then r else cut r
  | _ =>
    let r := deflateDecompress f c src
    if r.status = 0 ∧ r.flags = 0 then cut r else r

/-! ### Save areas -/

/-- R267: the circular image of a history. -/
def histImage (c : SwgContext) : Bytes :=
  let n := c.hist.length
  (List.range 65536).map (fun o =>
    let k := (c.pos + 2 * 65536 - 1 - o) % 65536
    if k < n then c.hist.getD (n - 1 - k) 0 else 0)

/-- R267: the history an image holds. -/
def imageHist (image : Bytes) (valid pos : Nat) : Bytes :=
  ((List.range valid).map (fun k => image.getD ((pos + 2 * 65536 - 1 - k) % 65536) 0)).reverse

/-- R267: the owner field of a queue. -/
def ctxOwner (kind part : Nat) : Nat := if kind = 2 then 2 ^ 15 else part

/-- R267: bytes 0 to 507 of the context record. Log 86 (PRESUMED). -/
def ctxBody (owner : Nat) (c : SwgContext) : Bytes :=
  [0x01, BitVec.ofNat 8 c.mode, BitVec.ofNat 8 c.wrap, BitVec.ofNat 8 c.level] ++ leBytes 2 owner ++ zeros 2 ++
    leBytes 4 c.hist.length ++ leBytes 4 c.pos ++ leBytes 8 c.inTotal ++ leBytes 8 c.outTotal ++ leBytes 4 c.check ++
    leBytes 4 c.blocks ++
    (if c.mode = 4 then
      leBytes 8 (bitsNat c.inf.bits) ++ [BitVec.ofNat 8 c.inf.bits.length, BitVec.ofNat 8 c.inf.phase] ++
        leBytes 2 c.inf.storedLeft ++ leBytes 2 c.inf.pendLen ++ leBytes 2 c.inf.pendDist ++ leBytes 4 c.inf.wrapBytes ++
        zeros 4 ++ padTo 288 (c.inf.lits.map (BitVec.ofNat 8)) ++ padTo 32 (c.inf.dists.map (BitVec.ofNat 8))
     else zeros 344) ++ zeros 124

def ctxRecord (owner : Nat) (c : SwgContext) : Bytes :=
  let b := ctxBody owner c
  b ++ leBytes 4 (Crypto.crc32c (b ++ histImage c))

/-- R268: every field of a context record holds a value of its row. -/
def ctxFieldsOk (b : Bytes) : Bool :=
  let mode := leAt b 1 1
  let wrap := leAt b 2 1
  let level := leAt b 3 1
  leAt b 0 1 == 1 && decide (1 ≤ mode) && decide (mode ≤ 4) && decide (wrap ≤ 2) && (wrap == 0 || decide (3 ≤ mode)) &&
    (if mode = 3 then decide (1 ≤ level) && decide (level ≤ 9) else level == 0) &&
    leAt b 4 2 / 2 ^ 10 % 32 == 0 && leAt b 6 2 == 0 && decide (leAt b 8 4 ≤ 65536) && decide (leAt b 12 4 < 65536) &&
    (wrap != 0 || leAt b 32 4 == 0) && leAt b 60 4 == 0 && slice b 384 124 == zeros 124 &&
    decide (leAt b 48 1 ≤ 63) && (slice b 64 320).all (fun x => decide (x.toNat ≤ 15)) &&
    (if mode = 4 then decide (leAt b 49 1 ≤ 6) else leAt b 40 8 == 0 && leAt b 49 1 == 0)

/-- R267: the context a record and an image hold. Log 86 (PRESUMED). -/
def ctxOf (b image : Bytes) : SwgContext :=
  let mode := leAt b 1 1
  { mode := mode
    wrap := leAt b 2 1
    level := leAt b 3 1
    hist := imageHist image (leAt b 8 4) (leAt b 12 4)
    pos := leAt b 12 4
    inTotal := leAt b 16 8
    outTotal := leAt b 24 8
    check := leAt b 32 4
    blocks := leAt b 36 4
    inf :=
      if mode = 4 then
        { bits := natBits (leAt b 48 1) (leAt b 40 8)
          phase := leAt b 49 1
          storedLeft := leAt b 50 2
          pendLen := leAt b 52 2
          pendDist := leAt b 54 2
          wrapBytes := leAt b 56 4
          lits := (slice b 64 288).map (·.toNat)
          dists := (slice b 352 32).map (·.toNat) }
      else {} }

namespace State

def swgQueue (s : State) (n : Nat) : List SwgReq := s.swg.queues.get [] n

def setSwgQueue (s : State) (n : Nat) (l : List SwgReq) : State :=
  ({ s with swg := { s.swg with queues := s.swg.queues.set [] n l } }).setFld (SWG_Q_STATUS n) SWG_Q_STATUS.DEPTH l.length

def swgCtx (s : State) (n : Nat) : Option SwgContext := s.swg.ctxs.get none n

/-- Set the queue's context, with CONTEXT showing its mode. -/
def setSwgCtx (s : State) (n : Nat) (c : Option SwgContext) : State :=
  ({ s with swg := { s.swg with ctxs := s.swg.ctxs.set none n c } }).setFld (SWG_Q_STATUS n) SWG_Q_STATUS.CONTEXT
    (match c with
      | some x => x.mode
      | none => 0)

def swgInService (s : State) (e : Nat) : Bool := s.fld (SWG_ENG e) SWG_ENG.STATE == 1

/-- An engine of the half of queue `n` is in service. -/
def swgHalfServes (s : State) (n : Nat) : Bool := (List.range 4).any (fun i => s.swgInService (n / 64 * 4 + i))

/-- The engine in service that repeats a request of queue `n` (R265): the lowest one. Log 85 (DEDUCED). -/
def swgOther (s : State) (n : Nat) : Option Nat := ((List.range 4).map (n / 64 * 4 + ·)).find? s.swgInService

/-! ### Arbitration -/

/-- R254: compression weight of a function. Log 85 (DEDUCED). -/
def swgWeight (s : State) (f : Nat) : Nat := if f = 0 then s.fld SWG_CFG SWG_CFG.PF_WEIGHT else (s.fn f).weight

/-- Hand `w` blocks to the requests of a queue, first in the queue first. Log 85 (DEDUCED). -/
def grantBlocks : Nat → List SwgReq → List SwgReq
  | _, [] => []
  | w, r :: rs =>
    let k := min w (swgBlocks r.block - r.granted)
    { r with granted := r.granted + k } :: grantBlocks (w - k) rs

/-- A queue has blocks left to hand out. -/
def swgHungry (s : State) (n : Nat) : Bool := (s.swgQueue n).any (fun r => decide (r.granted < swgBlocks r.block))

/-- R254: one round of a half. A queue of weight 0 gets a block only where no other has work.
Log 85 (DEDUCED). -/
def swgRound (s : State) (h : Nat) : State :=
  let qs := ((List.range 64).map (fun i => h * 64 + i)).filter s.swgHungry
  let w := fun (n : Nat) => s.swgWeight (s.fld (SWG_Q_CFG n) SWG_Q_CFG.FUNC)
  let heavy := qs.filter (fun n => w n != 0)
  if heavy = [] then qs.foldl (fun s n => s.setSwgQueue n (grantBlocks 1 (s.swgQueue n))) s
  else heavy.foldl (fun s n => s.setSwgQueue n (grantBlocks (w n) (s.swgQueue n))) s

/-! ### Ending a request -/

/-- R256: the completion record. -/
def swgRecord (s : State) (f : SwgFields) (r : SwgResult) : Bytes :=
  leBytes 2 r.status ++ [BitVec.ofNat 8 (0x80 + r.flags), BitVec.ofNat 8 r.cls] ++ leBytes 4 r.out.length ++
    leBytes 4 r.input.length ++ leBytes 2 r.raws ++ zeros 2 ++ leBytes 8 f.tag ++ leBytes 4 (Crypto.crc32c r.input) ++
    leBytes 4 s.stamp

/-- R254: 4 KiB blocks that an engine processed for a request: all of them, or those of the Source it consumed. -/
def swgDone (b : Bytes) (r : SwgResult) : Nat :=
  if r.status ≤ 1 then swgBlocks b else (r.input.length + 4095) / 4096

/-- R256, R257: the head of queue `n` ends, served by engine `e` if one served it. -/
def swgEnd (s : State) (n : Nat) (b : Bytes) (e : Option Nat) (r : SwgResult) : State :=
  let f := swgFields b
  let s := match r.ctx with
    | some c => s.setSwgCtx n c
    | none => s
  let s := (s.ioWrite (s.queueWorld (swgRegs n)) f.compl (s.swgRecord f r)).2
  let s := s.setSwgQueue n (s.swgQueue n).tail
  match e with
  | none => s
  | some e =>
    let k := s.queueMeter (swgRegs n)
    let m := s.meter k
    let s := s.setMeter k { m with blocks := m.blocks + swgDone b r }
    s.bumpSat (SWG_ENG e) SWG_ENG.BLOCKS (swgDone b r)

/-- R265: a mismatch: the engine is retired. -/
def swgRetire (s : State) (e : Nat) : State :=
  let s := s.bump SWG_MISMATCHES SWG_MISMATCHES.COUNT
  let s := (s.setFld (SWG_ENG e) SWG_ENG.STATE 2).setBit SWG_STATUS ⟨e, 1⟩ false
  let s := (s.setBit SWG_EVENT SWG_EVENT.ENGINE_RETIRED).setBit SWG_EVENT SWG_EVENT.VERIFY_MISMATCH
  s.logEvent 1 blockSwg 1 e

/-- R267: a save request. Log 85 (DEDUCED). -/
def swgSave (s : State) (n : Nat) (f : SwgFields) : SwgResult × State :=
  match s.swgCtx n with
  | none => ({ status := 7 }, s)
  | some c =>
    let w := s.queueWorld (swgRegs n)
    let owner := ctxOwner (s.fld (SWG_Q_CFG n) SWG_Q_CFG.KIND) (s.fld (SWG_Q_CFG n) SWG_Q_CFG.PARTITION)
    match s.ioWrite w f.save (ctxRecord owner c) with
    | (false, s) => ({ status := 5 }, s)
    | (true, s) => match s.ioWrite w (f.save + 0x1000) (histImage c) with
      | (false, s) => ({ status := 5 }, s)
      | (true, s) => ({ status := 0 }, s)

/-- R268: a restore request. Log 85 (DEDUCED). -/
def swgRestore (s : State) (n : Nat) (f : SwgFields) : SwgResult × State :=
  let w := s.queueWorld (swgRegs n)
  let owner := ctxOwner (s.fld (SWG_Q_CFG n) SWG_Q_CFG.KIND) (s.fld (SWG_Q_CFG n) SWG_Q_CFG.PARTITION)
  match s.ioRead w f.save 512 with
  | (none, s) => ({ status := 5 }, s)
  | (some (b, p1), s) => match s.ioRead w (f.save + 0x1000) 65536 with
    | (none, s) => ({ status := 5 }, s)
    | (some (image, p2), s) =>
      if p1 || p2 then ({ status := 6 }, s)
      else if !ctxFieldsOk b || leAt b 508 4 != Crypto.crc32c (b.take 508 ++ image) || leAt b 4 2 != owner then
        ({ status := 9 }, s)
      else ({ status := 0, ctx := some (some (ctxOf b image)) }, s)

/-- The ops that turn Source into Destination: the context and the destination are checked first (R257, R258). A write
that is refused ends the request with what the bytes written by then hold (R256, R257). Log 85 (DEDUCED). -/
def swgData (s : State) (n : Nat) (f : SwgFields) : SwgResult × State :=
  let w := s.queueWorld (swgRegs n)
  match ctxFor f (s.swgCtx n) with
  | none => ({ status := 7 }, s)
  | some c =>
    if f.op = 1 ∧ f.dstLen < swgNeed f then ({ status := 2 }, s)
    else
      let (src, st, s) := ioReadOn w (linePieces f.src f.srcLen) s
      let run := fun f => if st = 0 then swgRun f c src else swgCut f c src st
      let r := run f
      let (k, s) := ioWriteOn w r.out (linePieces f.dst r.out.length) 0 s
      if k = r.out.length then (r, s) else ({ run { f with dstLen := k } with status := 5, flags := 0, out := r.out.take k, ctx := none }, s)

/-- R256: engine `e` runs the request block `b` at the head of queue `n`, from its start to its end. -/
def swgRunOn (s : State) (n : Nat) (b : Bytes) (e : Nat) : State :=
  let f := swgFields b
  let (x, s) := match f.op with
    | 0x10 => s.swgSave n f
    | 0x11 => s.swgRestore n f
    | _ => s.swgData n f
  s.swgEnd n b (some e) x

/-- A command about a request of op `op` at the head of queue `n`: engine `e` of the half serves it, once its blocks
have been handed out, or finds a verification mismatch, after which another engine of the half runs it from its start,
if one is left (R265). A head with a reserved op is ended by any of them. -/
def swgServe (s : State) (n op e : Nat) (mismatch : Bool) : State :=
  match s.swgQueue n with
  | [] => s
  | r :: _ =>
    let f := swgFields r.block
    let known := f.op == 1 || f.op == 2 || f.op == 3 || f.op == 4 || f.op == 0x10 || f.op == 0x11
    if known && f.op != op then s
    else if !s.swgHalfServes n then s.swgEnd n r.block none { status := 4 }
    else if r.granted < swgBlocks r.block ∨ e / 4 ≠ n / 64 ∨ !s.swgInService e then s
    else if !swgValid r.block then s.swgEnd n r.block none { status := 8 }
    else if mismatch && !(f.op == 0x10 || f.op == 0x11) then
      let s := s.swgRetire e
      match s.swgOther n with
      | some k => s.swgRunOn n r.block k
      | none => s.swgEnd n r.block none { status := 4 }
    else s.swgRunOn n r.block e

/-! ### Submission -/

/-- R152, R252, R253: a request block enters compression queue `n`: 0 queued, 1 full, 2 not owned. -/
def swgEnqueue (s : State) (n : Nat) (who : Option Nat) (block : Bytes) : Nat × State :=
  if !s.ownedBy (swgRegs n) who then (2, s)
  else if s.domShut (58 + n / 64) (swgRegs n) || decide (64 ≤ (s.swgQueue n).length) then (1, s)
  else (0, s.setSwgQueue n (s.swgQueue n ++ [SwgReq.mk block 0]))

end State

/-! ### The commands -/

/-- R253. Log 83 (DEDUCED). -/
def execSwgQCfgWrite (n : Fin 128) (v : BitVec 32) (s : State) : Host.Outcome State Fault Refusal :=
  onLive s fun s => s.queueOwner (swgRegs n.val) (s.swgQueue n.val != [] || (s.swgCtx n.val).isSome)
    (BitVec.ofNat 64 v.toNat)

/-- R262: engine `e` serves the Swage compress at the head of queue `n`, or finds a mismatch (R265). -/
def execSwageCompress (n : Fin 128) (e : Fin 8) (mismatch : Bool) (s : State) : Host.Outcome State Fault Refusal :=
  onLive s fun s => s.swgServe n.val 1 e.val mismatch

/-- R261. -/
def execSwageDecompress (n : Fin 128) (e : Fin 8) (mismatch : Bool) (s : State) : Host.Outcome State Fault Refusal :=
  onLive s fun s => s.swgServe n.val 2 e.val mismatch

/-- R263, R264. -/
def execDeflateCompress (n : Fin 128) (e : Fin 8) (mismatch : Bool) (s : State) : Host.Outcome State Fault Refusal :=
  onLive s fun s => s.swgServe n.val 3 e.val mismatch

/-- R263, R264. -/
def execDeflateDecompress (n : Fin 128) (e : Fin 8) (mismatch : Bool) (s : State) : Host.Outcome State Fault Refusal :=
  onLive s fun s => s.swgServe n.val 4 e.val mismatch

/-- R267. -/
def execSaveStream (n : Fin 128) (e : Fin 8) (s : State) : Host.Outcome State Fault Refusal :=
  onLive s fun s => s.swgServe n.val 0x10 e.val false

/-- R268. -/
def execRestoreStream (n : Fin 128) (e : Fin 8) (s : State) : Host.Outcome State Fault Refusal :=
  onLive s fun s => s.swgServe n.val 0x11 e.val false

/-- R254. -/
def execArbitrationRound (half : Fin 2) (s : State) : Host.Outcome State Fault Refusal :=
  onLive s fun s => s.swgRound half.val

end Sys2Proof.Machine
end

