-- ==== Sys2Proof/Machine/Channel.lean ====
section
/-!
DEFINITION. The channel engines (R289 to R309): the descriptor cache, the entries of a program, its exchanges and
its end, and an engine's retirement.
-/
namespace Sys2Proof.Machine
open Sys2Proof

/-! ### Request blocks and entries -/

/-- R293: the block obeys its table. -/
def chanBlockOk (b : Bytes) : Bool :=
  let op := leAt b 0 1
  decide (1 ≤ op) && decide (op ≤ 4) && leAt b 1 3 == 0 && slice b 20 12 == zeros 12 && slice b 48 16 == zeros 16 &&
    leAt b 32 8 % 32 == 0 &&
    (if op = 1 then leAt b 8 8 % 32 == 0 && leAt b 16 4 == 0
     else leAt b 4 4 == 0 && leAt b 8 8 % 64 == 0 && leAt b 16 4 != 0 && leAt b 16 4 % 64 == 0)

/-- R296: fields of a Channel Command Entry. -/
structure Cce where
  cmd : Nat
  flags : Nat
  dev : Nat
  length : Nat
  mem : Nat
  lba : Nat
  aux : Nat
  spare : Nat
  deriving DecidableEq, Repr

def cceOf (b : Bytes) : Cce :=
  ⟨leAt b 0 1, leAt b 1 1, leAt b 2 2, leAt b 4 4, leAt b 8 8, leAt b 16 8, leAt b 24 4, leAt b 28 4⟩

/-- R297: Read, Write and Tentative Write are the data commands. -/
def cceData (c : Nat) : Bool := c == 1 || c == 2 || c == 3

/-- R296, R297: the entry obeys the tables: known command, known flags, unused fields zero, aligned targets, known
condition and mode; the lengths that no device decides. -/
def cceOk (c : Cce) : Bool :=
  decide (c.flags ≤ 1) && c.spare == 0 &&
    match c.cmd with
    | 1 | 2 | 3 => decide (c.dev < 1024) && c.aux == 0 && decide (1 ≤ c.length) && decide (c.length ≤ 16777216)
    | 4 | 5 => c.dev == 0 && c.length == 0 && c.mem == 0 && c.lba == 0 && decide (c.aux < 64)
    | 6 => decide (c.dev < 1024) && decide (c.length ≤ 256) && c.lba == 0 && decide (c.aux < 65536)
    | 7 => decide (c.dev < 1024) && decide (1 ≤ c.length) && decide (c.length ≤ 256) && c.lba == 0 && c.aux == 0
    | 8 => c.dev == 0 && c.length == 0 && c.lba == 0 && decide (c.aux ≤ 2) && c.mem % 32 == 0
    | 9 =>
      c.dev == 0 && c.lba == 0 &&
        (match c.aux with
         | 0 => c.length == 0 && c.mem == 0
         | 1 => c.mem == 0 && decide (1 ≤ c.length) && decide (c.length ≤ 16777216)
         | 2 => c.mem % 8 == 0 && decide (1 ≤ c.length) && decide (c.length ≤ 16777216)
         | _ => false)
    | 10 | 11 => c.dev == 0 && c.length == 0 && c.lba == 0 && decide (c.aux < 128)
    | _ => false

namespace State

def chanInService (s : State) (e : Nat) : Bool := s.fld (CHN_ENG e) CHN_ENG.STATE == 1
def chanEngineOf (s : State) (n : Nat) : Nat := s.fld (CHN_Q_STATUS n) CHN_Q_STATUS.ENGINE

/-! ### The descriptor cache -/

/-- R304: the number of a world, as a cache tag holds it. -/
def worldNo (w : World) : Nat := match w with
  | .sealed p => 1 + p
  | _ => 0
def worldOfNo (n : Nat) : World := if n = 0 then .opened else .sealed (n - 1)

def cacheEntry (x : ChanEngine) (i : Nat) : CacheEntry := x.cache.get {} i
def setCacheEntry (x : ChanEngine) (i : Nat) (c : CacheEntry) : ChanEngine := { x with cache := x.cache.set {} i c }

/-- R304: the entry a fetch hits: both tag and world match. -/
def cacheFind (x : ChanEngine) (line world : Nat) : Option Nat :=
  (List.range 48).find? (fun i =>
    let c := cacheEntry x i
    c.valid && c.line == line && c.world == world)

/-- R306: the entry a fill takes: an invalid one, else the least recently used; never a locked or disabled one. -/
def cacheSlot (x : ChanEngine) : Option Nat :=
  let free := (List.range 48).filter (fun i => let c := cacheEntry x i; !c.locked && !c.disabled)
  match free.find? (fun i => !(cacheEntry x i).valid) with
  | some i => some i
  | none => free.foldl (fun m i => match m with
      | none => some i
      | some j => if (cacheEntry x i).used < (cacheEntry x j).used then some i else some j) none

/-- Put a line into entry `i`, as its latest use. -/
def cachePut (x : ChanEngine) (i line world : Nat) (lock : Bool) (d : Bytes) : ChanEngine :=
  let c := cacheEntry x i
  let x := { x with useCount := x.useCount + 1 }
  setCacheEntry x i { c with
    line := line, world := world, valid := true, locked := lock, data := d, used := x.useCount }

def lockedCount (x : ChanEngine) : Nat := ((List.range 48).filter (fun i => (cacheEntry x i).locked)).length
def goodCount (x : ChanEngine) : Nat := ((List.range 48).filter (fun i => !(cacheEntry x i).disabled)).length

/-- Set an engine's cache, with LOCKED and GOOD of `CHN_ENGe` (R312). -/
def putEngine (s : State) (e : Nat) (x : ChanEngine) : State :=
  ((s.setEngine e x).setFld (CHN_ENG e) CHN_ENG.LOCKED (lockedCount x)).setFld (CHN_ENG e) CHN_ENG.GOOD (goodCount x)

/-- R305: prefetch a line, unless the cache or the buffer holds it; the oldest buffer entry goes first. -/
def prefetchLine (s : State) (e line world : Nat) : State :=
  let x := s.engine e
  if (cacheFind x line world).isSome || x.prefetch.any (fun p => p.line == line && p.world == world) then s
  else
    let l := x.prefetch ++ [PrefetchLine.mk line world [] false false]
    s.setEngine e { x with prefetch := l.drop (l.length - 8) }

def setProg (s : State) (p : ChanProg) : State :=
  { s with chn := { s.chn with progs := s.chn.progs.map (fun x => if x.id = p.id then p else x) } }

/-- The programs of engine `e` that wait for a line no longer do. -/
def endFills (s : State) (e line world : Nat) : State :=
  { s with chn := { s.chn with progs := s.chn.progs.map (fun (p : ChanProg) =>
    if p.engine = e && p.wait == .fill line && worldNo (s.queueWorld (chnRegs p.queue)) == world then
      { p with wait := .none } else p) } }

/-- A line is in: into the cache if it takes one more, else to the programs that wait for it (R306). -/
def installLine (s : State) (e line world : Nat) (d : Bytes) : State :=
  let x := s.engine e
  match cacheSlot x with
  | some i => s.putEngine e (cachePut x i line world false d)
  | none => { s with chn := { s.chn with progs := s.chn.progs.map (fun (p : ChanProg) =>
      if p.engine = e && p.wait == .fill line && worldNo (s.queueWorld (chnRegs p.queue)) == world then
        { p with held := some (line, d) } else p) } }

/-- R304, R305: fetch the 32-byte entry at a program's counter: its bytes, or a fill begins.
Log 88 (DEDUCED). -/
def fetchEntry (s : State) (p : ChanProg) : Option Bytes × State :=
  let line := p.pc / 64
  let w := worldNo (s.queueWorld (chnRegs p.queue))
  let pick := fun (d : Bytes) => slice d (p.pc % 64) 32
  let x := s.engine p.engine
  match p.held with
  | some (l, d) =>
    if l = line then (some (pick d), s.setProg { p with held := none })
    else (none, s.setProg { p with held := none })
  | none =>
    match cacheFind x line w with
    | some i =>
      let x := { x with useCount := x.useCount + 1 }
      let c := cacheEntry x i
      (some (pick c.data), s.setEngine p.engine (setCacheEntry x i { c with used := x.useCount }))
    | none =>
      match x.prefetch.find? (fun b => b.line == line && b.world == w) with
      | some b =>
        if b.ready then
          let x := { x with prefetch := x.prefetch.filter (fun y => y != b) }
          let x := match cacheSlot x with
            | some i => cachePut x i line w false b.data
            | none => x
          (some (pick b.data), (s.putEngine p.engine x).prefetchLine p.engine (line + 1) w)
        else (none, s.setProg { p with wait := .fill line })
      | none => (none, (s.setProg { p with wait := .fill line }).prefetchLine p.engine (line + 1) w)

/-- R126, R214: channel program `p` has consumed a poisoned line: the run that it belongs to is restarted with cause 0x02,
while it executes (R125). Log 113 (DEDUCED). -/
def poisonProgram (s : State) (p : ChanProg) : State :=
  match p.unit with
  | some k =>
    if p.op = 1 ∧ (s.unit? k).any (fun u => u.phase == .executing) then s.restartUnit k 2 else s
  | none => s

/-- R304 to R307: the read of a fill or of a prefetch returns. Log 113 (DEDUCED). -/
def fillReturns (s : State) (e line world : Nat) : State :=
  let x := s.engine e
  let waits := s.chn.progs.filter (fun p => p.engine == e && p.wait == .fill line &&
    worldNo (s.queueWorld (chnRegs p.queue)) == world)
  match x.prefetch.find? (fun b => b.line == line && b.world == world && !b.ready) with
  | some b =>
    let rest := x.prefetch.filter (fun y => y != b)
    if b.dropped then (s.setEngine e { x with prefetch := rest }).endFills e line world
    else
      let (r, s') := s.ioRead (worldOfNo world) (64 * line) 64
      match r with
      | some (d, false) =>
        let l := x.prefetch.map (fun (y : PrefetchLine) => if y = b then { y with data := d, ready := true } else y)
        (s'.setEngine e { x with prefetch := l }).endFills e line world
      | _ => (s.setEngine e { x with prefetch := rest }).endFills e line world
  | none =>
    if waits = [] then s
    else
      let (r, s) := s.ioRead (worldOfNo world) (64 * line) 64
      match r with
      | some (d, false) => (s.installLine e line world d).endFills e line world
      | some (_, true) =>
        waits.foldl (fun s p => (s.failProgram p.id 6 p.lastEntry 0).poisonProgram p) (s.endFills e line world)
      | none => waits.foldl (fun s p => s.failProgram p.id 5 p.lastEntry 0) (s.endFills e line world)

/-- R307: invalidate the lines `lo` to `hi` of one world, or of every world, in engine `e`. -/
def invalEngine (s : State) (e lo hi : Nat) (world : Option Nat) : State :=
  let hit := fun (line w : Nat) => decide (lo ≤ line) && decide (line ≤ hi) && (world.isNone || world == some w)
  let x := s.engine e
  let x := (List.range 48).foldl (fun x i =>
    let c := cacheEntry x i
    if c.valid && hit c.line c.world then
      setCacheEntry x i (if c.locked then { c with valid := false, data := [] }
        else { disabled := c.disabled, fails := c.fails })
    else x) x
  let kept := x.prefetch.filter (fun b => !(b.ready && hit b.line b.world))
  let x := { x with prefetch := kept.map (fun (b : PrefetchLine) =>
    if hit b.line b.world then { b with dropped := true } else b) }
  let s := s.putEngine e x
  { s with chn := { s.chn with progs := s.chn.progs.map (fun (p : ChanProg) =>
    let w := worldNo (s.queueWorld (chnRegs p.queue))
    let p := { p with held := p.held.filter (fun x => !(p.engine == e && hit x.1 w)) }
    match p.wait with
    | .fill line =>
      if p.engine = e && hit line w && !x.prefetch.any (fun b => b.line == line && b.world == w) then
        { p with wait := .none } else p
    | _ => p) } }

/-- R306: unlock every entry of a world whose tag lies in the range. -/
def unlockEngine (s : State) (e lo hi world : Nat) : State :=
  let x := (List.range 48).foldl (fun x i =>
    let c := cacheEntry x i
    if c.locked && decide (lo ≤ c.line) && decide (c.line ≤ hi) && c.world == world then
      setCacheEntry x i (if c.valid then { c with locked := false } else { disabled := c.disabled, fails := c.fails })
    else x) (s.engine e)
  s.putEngine e x

/-- A slot that the world has reserved (R307). -/
def reservedSlot (x : ChanEngine) (world : Nat) : Option Nat :=
  (List.range 48).find? (fun i =>
    let c := cacheEntry x i
    c.locked && !c.valid && c.world == world)

/-- R306: fill entry `i` with the line and lock it; an unlocked copy of the line in another entry is dropped. -/
def lockFill (s : State) (e line world i : Nat) : State × Option Nat :=
  let (r, s) := s.ioRead (worldOfNo world) (64 * line) 64
  match r with
  | some (d, false) =>
    let x := s.engine e
    let x := match cacheFind x line world with
      | some j => setCacheEntry x j { disabled := (cacheEntry x j).disabled, fails := (cacheEntry x j).fails }
      | none => x
    (s.putEngine e (cachePut x i line world true d), none)
  | some (_, true) => (s, some 6)
  | none => (s, some 5)

/-- R306: fill and lock one line: the state, and the status that stops the request, if one does. A reserved slot of the
world comes first, then the entry that holds the line, then an unlocked one. -/
def lockLine (s : State) (e line world : Nat) : State × Option Nat :=
  let x := s.engine e
  let full := decide (goodCount x ≤ lockedCount x + 8)
  let here := cacheFind x line world
  if here.any (fun i => (cacheEntry x i).locked) then (s, none)
  else match reservedSlot x world, full, here, cacheSlot x with
    | some i, _, _, _ => s.lockFill e line world i
    | none, true, _, _ => (s, some 0x0F)
    | none, false, some i, _ => (s.putEngine e (setCacheEntry x i { cacheEntry x i with locked := true }), none)
    | none, false, none, some i => s.lockFill e line world i
    | none, false, none, none => (s, some 0x0F)

/-- R306: lock-fill of `n` lines from `line` on. -/
def lockLines (s : State) (e world : Nat) : Nat → Nat → State × Option Nat
  | 0, _ => (s, none)
  | n + 1, line => match s.lockLine e line world with
    | (s, some st) => (s, some st)
    | (s, none) => s.lockLines e world n (line + 1)

/-! ### The end of a program -/

/-- Steps of a program that have no answer yet. -/
def progSteps (s : State) (pid : Nat) : List XStep := s.chn.steps.filter (fun t => t.owner == StepOwner.program pid)

/-- R298: the program's last command, a Wait or a Chain, has no status yet. -/
def waitRuns (w : ProgWait) : Bool :=
  match w with
  | .none | .fill _ => false
  | .time _ | .word .. | .chain .. => true

/-- R298, R301: a program that has ended, or run its last entry, ends once every command has its status; a free
program's open exchanges are aborted first. -/
def chanSettle (s : State) (pid : Nat) : State :=
  match s.progOf pid with
  | none => s
  | some p =>
    if s.progSteps pid ≠ [] then s
    else if (p.ended.isSome && !waitRuns p.wait) || (p.last && p.wait == .none) then
      match (p.free.filter (fun x => x.2.2)).map (fun x => (x.1, x.2.1)) ++ p.left with
      | [] => p.opened.foldl (fun s x => if p.unit.isSome then s else s.unbindPath x) (s.endProg p)
      | open_ =>
        let s := s.setProg { p with
          free := p.free.map (fun x => (x.1, x.2.1, false)), left := [], ended := some (p.ended.getD (0, p.lastEntry, 0)) }
        open_.foldl (fun s x =>
          let t : XStep := { xid := x.1, kind := .abort 0, owner := .program pid, dev := x.2, path := none, closing := true }
          match s.pathFor x.2 x.1 with
          | some k => (s.bindPath x.1 k).addStep { t with path := some k }
          | none => s.addStep t) s
    else s

/-- The programs an association's loss may have ended. -/
def chanSettleAll (s : State) : State := (s.chn.progs.map (·.id)).foldl (fun s i => s.chanSettle i) s

/-- A program's end is decided, and it ends if nothing of it is outstanding. -/
def chanFail (s : State) (pid status detail res : Nat) : State :=
  let p := s.progOf pid
  let s := (s.failProgram pid status detail res).chanSettle pid
  match p with
  | some p => if status = 6 then s.poisonProgram p else s
  | none => s

/-! ### Exchanges -/

/-- R299: a plain exchange ID. Log 87 (DEDUCED). -/
def plainId (s : State) (e count : Nat) : Nat :=
  s.fld JNL_MIRROR JNL_MIRROR.MODULE * 2 ^ 61 + 0x7FF * 2 ^ 50 + e % 64 * 2 ^ 44 + s.jnl.bootCount % 2 ^ 12 * 2 ^ 32 +
    count % 2 ^ 32

/-- R290, R299: the ID of an exchange that program `p` opens on device `d`: the next of a rerun, one of the run, or
a plain one; none where it would be the run's 65th. Log 87 (DEDUCED). -/
def openExchange (s : State) (p : ChanProg) (d : Nat) (run : Bool) : Option Nat × State :=
  match p.reuse with
  | x :: rest =>
    let s := s.setProg { p with
      reuse := rest, opened := p.opened ++ [x], free := p.free ++ [(x, d, false)], left := p.left.filter (fun y => y.1 != x) }
    match p.unit.bind s.unit? with
    | none => (some x, s)
    | some u => (some x, s.setUnit (p.unit.getD 0) { u with exchanges := u.exchanges.map (fun (y : Exchange) =>
        if y.id = x then { y with phase := .opened } else y) })
  | [] =>
    match run, p.unit with
    | true, some k =>
      match s.unit? k with
      | none => (none, s)
      | some u =>
        if 64 ≤ u.exchanges.length ∨ u.closed then (none, s)
        else
          let x := runStem u u.restarts + u.exchanges.length
          let s := s.setUnit k { u with exchanges := u.exchanges ++ [Exchange.mk x d .opened] }
          (some x, s.setProg { p with opened := p.opened ++ [x] })
    | _, _ =>
      let c := s.engine p.engine
      let x := s.plainId p.engine c.plain
      let s := s.setEngine p.engine { c with plain := c.plain + 1 }
      (some x, s.setProg { p with opened := p.opened ++ [x], free := p.free ++ [(x, d, false)] })

/-- R302, R297: the device is enabled, confirmed, and of the queue's owner. -/
def deviceFor (s : State) (q d : Nat) : Bool :=
  let a := CHN_DEV_CFG d
  let kind := s.fld (CHN_Q_CFG q) CHN_Q_CFG.KIND
  s.bit a CHN_DEV_CFG.EN && (s.fld a CHN_DEV_CFG.STATE == 2 || s.fld a CHN_DEV_CFG.STATE == 3) &&
    s.fld a CHN_DEV_CFG.OWNER_KIND == kind &&
    s.fld a CHN_DEV_CFG.OWNER == (if kind = 1 then s.fld (CHN_Q_CFG q) CHN_Q_CFG.PARTITION
      else s.fld (CHN_Q_CFG q) CHN_Q_CFG.FUNC)

/-- R302: block size of a device. -/
def blockSize (s : State) (d : Nat) : Nat := if s.bit (CHN_DEV_CFG d) CHN_DEV_CFG.BLOCK then 4096 else 512

/-- The step kind of a device command. -/
def cceKind (c : Nat) : StepKind := match c with
  | 1 => .read
  | 2 => .write
  | 3 => .tentative
  | 6 => .control
  | _ => .sense

/-- R295: a data command has transferred nothing of its length before its Status. Log 87 (DEDUCED). -/
def dataBegun (p : ChanProg) (c : Cce) : ChanProg :=
  if cceData c.cmd then { p with lastData := noneWord, lastResidual := c.length } else p

/-- R297, R299, R300, R303: a command to a device: checks, exchange, memory, path, frames. Log 87 (DEDUCED).
Log 113 (DEDUCED). -/
def issueCommand (s : State) (p : ChanProg) (c : Cce) : State :=
  let pid := p.id
  let p := dataBegun p c
  let s := s.setProg p
  let fail := fun (s : State) (st detail : Nat) => s.chanFail pid st detail 0
  let run := c.cmd == 3 && p.unit.isSome
  if !s.deviceFor p.queue c.dev then fail s 9 p.lastEntry
  else if cceData c.cmd && c.length % s.blockSize c.dev != 0 then fail s 8 p.lastEntry
  else
    let sends := c.cmd == 2 || c.cmd == 3 || c.cmd == 6
    let (r, s) := s.ioRead (s.queueWorld (chnRegs p.queue)) c.mem (if sends then c.length else 0)
    let path := s.pickPath c.dev
    let bad := match r with
      | none => some 5
      | some (_, true) => some 6
      | some (_, false) => if path.isNone then some 0x0A else none
    match bad, run with
    | some st, false => fail s st p.lastEntry
    | _, _ =>
      match s.openExchange p c.dev run with
      | (none, s) => fail s 3 p.lastEntry
      | (some x, s) =>
        match bad, p.unit with
        | some st, some k =>
          let s := fail ((s.refuseExchange k x).checkRefused k) 1 x
          if st = 6 then s.poisonProgram p else s
        | some st, none => fail s st p.lastEntry
        | none, _ =>
          let k := path.getD 0
          let s := s.openPath c.dev x k
          let s := match s.progOf pid with
            | some p => if cceData c.cmd then s.setProg { p with lastData := x } else s
            | none => s
          s.addStep {
            xid := x, kind := cceKind c.cmd, owner := .program pid, dev := c.dev, path := some k, mem := c.mem
            length := c.length, lba := c.lba, aux := c.aux, data := ((r.map (·.1)).getD []) }

/-- R297: Commit and Abort of an exchange that a free program opened. -/
def issueOutcome (s : State) (p : ChanProg) (c : Cce) : State :=
  match p.free[c.aux]? with
  | none => s.chanFail p.id 8 p.lastEntry 0
  | some x =>
    match s.pathFor x.2.1 x.1 with
    | none => s.chanFail p.id 0x0A p.lastEntry 0
    | some k => (s.bindPath x.1 k).addStep {
        xid := x.1, kind := if c.cmd = 4 then .commit else .abort 0, owner := .program p.id, dev := x.2.1, path := some k }

/-! ### The other commands -/

/-- R297: Jump. -/
def doJump (s : State) (p : ChanProg) (c : Cce) : State :=
  let n := if c.aux = 2 then (p.counter + 2 ^ 32 - 1) % 2 ^ 32 else p.counter
  let go := match c.aux with
    | 0 => true
    | 1 => p.lastResidual != 0
    | _ => n != 0
  let w := worldNo (s.queueWorld (chnRegs p.queue))
  if go then (s.setProg { p with pc := c.mem, last := false, counter := n }).prefetchLine p.engine (c.mem / 64 + 1) w
  else (s.setProg { p with counter := n }).chanSettle p.id

/-- R297: read the word of a mode 2 Wait. -/
def readWord (s : State) (p : ChanProg) (a : Nat) (again : ProgWait) : State :=
  match s.ioRead (s.queueWorld (chnRegs p.queue)) a 8 with
  | (none, s) => (s.setProg { p with wait := .none }).chanFail p.id 5 p.lastEntry 0
  | (some (_, true), s) => (s.setProg { p with wait := .none }).chanFail p.id 6 p.lastEntry 0
  | (some (d, false), s) =>
    if d = zeros 8 then s.setProg { p with wait := again }
    else (s.setProg { p with wait := .none }).chanSettle p.id

/-- R297: Wait. -/
def doWait (s : State) (p : ChanProg) (c : Cce) : State :=
  match c.aux with
  | 0 => s.chanSettle p.id
  | 1 => s.setProg { p with wait := .time (s.tb + c.length) }
  | _ => s.readWord p c.mem (.word c.mem (s.tb + c.length) (s.tb + 1000))

/-- R297: the chained queue has the same owner as the channel queue. Log 88 (DEDUCED). -/
def chainOwner (s : State) (q : Nat) (r : QueueRegs) : Bool :=
  s.fld r.status r.stateF == 2 && s.fld r.cfg QCFG.KIND == s.fld (CHN_Q_CFG q) CHN_Q_CFG.KIND &&
    (if s.fld r.cfg QCFG.KIND = 1 then s.fld r.cfg QCFG.PARTITION == s.fld (CHN_Q_CFG q) CHN_Q_CFG.PARTITION
     else s.fld r.cfg QCFG.FUNC == s.fld (CHN_Q_CFG q) CHN_Q_CFG.FUNC)

/-- R297: Chain compression (kind 1) and Chain cipher (kind 2). A full queue lets the engine try again: the command
then has no effect yet, and `before` is the state without it. Log 88 (DEDUCED). -/
def doChain (before s : State) (p : ChanProg) (c : Cce) : State :=
  let kind := c.cmd - 9
  let r := if kind = 1 then swgRegs c.aux else cipRegs c.aux
  if !s.chainOwner p.queue r then s.chanFail p.id 9 p.lastEntry 0
  else match s.ioRead (s.queueWorld (chnRegs p.queue)) c.mem 64 with
    | (none, s) => s.chanFail p.id 5 p.lastEntry 0
    | (some (_, true), s) => s.chanFail p.id 6 p.lastEntry 0
    | (some (b, false), s) =>
      let who := if s.fld r.cfg QCFG.KIND = 1 then some (s.fld r.cfg QCFG.PARTITION) else none
      let (st, s) := if kind = 1 then s.swgEnqueue c.aux who b else s.cipEnqueue c.aux who b
      if st ≠ 0 then before
      else s.setProg { p with wait := .chain kind c.aux (if kind = 1 then leAt b 32 8 else leAt b 48 8) }

/-! ### Running entries -/

/-- R298: the entry may start: a data command beside at most 15 others and no other command; any other command only
once every earlier one has its status. -/
def mayStart (s : State) (pid c : Nat) : Bool :=
  let out := s.progSteps pid
  if cceData c then
    decide (out.length < 16) && out.all (fun t => t.kind == .read || t.kind == .write || t.kind == .tentative)
  else out == []

/-- Execute the entry `b` at the counter of program `p`; `before` is the state without it. -/
def runEntry (before s : State) (p : ChanProg) (b : Bytes) : State :=
  let c := cceOf b
  let p := { p with entries := p.entries + 1, lastEntry := p.pc, pc := p.pc + 32, last := c.flags % 2 == 1 }
  let s := s.setProg p
  let s :=
    if !cceOk c then s.chanFail p.id 8 p.lastEntry 0
    else if p.unit.isSome && (c.cmd == 2 || c.cmd == 4 || c.cmd == 5) then s.chanFail p.id 7 p.lastEntry 0
    else match c.cmd with
      | 4 | 5 => s.issueOutcome p c
      | 8 => s.doJump p c
      | 9 => s.doWait p c
      | 10 | 11 => doChain before s p c
      | _ => s.issueCommand p c
  match s.progOf p.id with
  | some q => if 1048576 ≤ q.entries ∧ !q.last ∧ q.ended.isNone then s.chanFail p.id 0x0E p.lastEntry 0 else s
  | none => s

/-- The engine takes the next entry of program `pid`, a command of code `code`. A fetch that misses begins a fill; an
entry of another command is not this command's. A reserved code is ended by any of them. -/
def entryStep (s : State) (pid code : Nat) : State :=
  match s.progOf pid with
  | none => s
  | some p =>
    if !p.started || p.ended.isSome || p.last || p.wait != .none || p.op != 1 || !s.chanInService p.engine then s
    else match s.fetchEntry p with
      | (none, s) => s
      | (some b, s') =>
        let c := leAt b 0 1
        if (c ≠ code ∧ 1 ≤ c ∧ c ≤ 11) ∨ !s.mayStart pid c then s
        else match s'.progOf pid with
          | some p => runEntry s s' p b
          | none => s

/-! ### Requests of a queue -/

/-- R291: program `p` may start: nothing before it waits or is a cache request, and fewer than 4 run. -/
def mayBegin (s : State) (p : ChanProg) : Bool :=
  let l := (s.chanQueue p.queue).takeWhile (fun x => x.id != p.id)
  l.all (fun x => x.started && x.op == 1) && decide (l.length < 4)

/-- R291: queue `n` has a request that may start. -/
def canBegin (s : State) (n : Nat) : Bool :=
  match (s.chanQueue n).find? (fun p => !p.started) with
  | none => false
  | some p => s.mayBegin p && (p.op == 1 || (s.chanQueue n).head? == some p)

/-- R291: the engine serves its queues in turn: of those with a request that may start, queue `n` comes next after the one
it served last. -/
def chanTurn (s : State) (n : Nat) : Bool :=
  let e := s.chanEngineOf n
  let after : Nat → Nat := fun q => match (s.engine e).turn with
    | some l => (q + 255 - l) % 256
    | none => q
  s.chn.progs.all (fun p => s.chanEngineOf p.queue != e || decide (after n ≤ after p.queue) || !s.canBegin p.queue)

/-- A command that begins the first waiting request of queue `n`, of op `op`. -/
def beginRequest (s : State) (n op : Nat) : State :=
  match (s.chanQueue n).find? (fun p => !p.started) with
  | none => s
  | some p =>
    if !p.bad && p.op != op then s
    else if !s.canBegin n || !s.chanTurn n then s
    else
      let e := s.chanEngineOf n
      let s := s.setEngine e { s.engine e with turn := some n }
      let p := { p with engine := e, lastEntry := p.start }
      let s := s.setProg p
      let fail := fun (s : State) (st : Nat) => s.endProg { p with ended := some (st, p.start, 0) }
      if !s.chanInService e then fail s 4
      else if p.bad then fail s 8
      else
        let w := worldNo (s.queueWorld (chnRegs n))
        let lo := p.start / 64
        let k := p.length / 64
        match p.op with
        | 1 =>
          if p.unit.isSome && s.fld (CHN_Q_CFG n) CHN_Q_CFG.KIND != 1 then fail s 7
          else s.setProg { p with started := true, pc := p.start, counter := p.counter0 }
        | 2 => (s.invalEngine e lo (lo + k - 1) (some w)).endProg p
        | 3 =>
          let (s, st) := s.lockLines e w k lo
          s.endProg { p with ended := st.map (fun st => (st, p.start, 0)) }
        | _ => (s.unlockEngine e lo (lo + k - 1) w).endProg p

/-- R152, R291 to R294: a request block enters channel queue `n`: 0 queued, 1 full, 2 not owned. -/
def chanEnqueue (s : State) (n : Nat) (who : Option Nat) (unit : Option Nat) (b : Bytes) : Nat × State :=
  if !s.ownedBy (chnRegs n) who then (2, s)
  else if s.domShut (52 + n / 64) (chnRegs n) || decide (32 ≤ (s.chanQueue n).length) then (1, s)
  else
    let ok := chanBlockOk b
    let p : ChanProg := {
      id := s.chn.nextProg, queue := n, engine := s.chanEngineOf n, op := leAt b 0 1, bad := !ok
      unit := if leAt b 0 1 = 1 then unit else none
      counter0 := leAt b 4 4, start := leAt b 8 8, length := leAt b 16 4, complAt := leAt b 32 8, tag := leAt b 40 8
      lastEntry := leAt b 8 8 }
    let s := { s with chn := { s.chn with progs := s.chn.progs ++ [p], nextProg := s.chn.nextProg + 1 } }
    (0, s.chanDepth n)

/-! ### Retirement -/

/-- R290: the engine that serves queue `n`: its own, or the lowest-numbered in service of the same quarter. -/
def chanServer (s : State) (n : Nat) : Nat :=
  if s.chanInService (n / 4) then n / 4
  else (((List.range 16).map (fun i => n / 64 * 16 + i)).find? s.chanInService).getD (n / 4)

/-- ENGINE of every channel queue follows the engines in service. -/
def chanServe (s : State) : State :=
  (List.range 256).foldl (fun s n => s.setFld (CHN_Q_STATUS n) CHN_Q_STATUS.ENGINE (s.chanServer n)) s

/-- R300, R301: the outstanding steps of program `pid` are abandoned: what a free program's Tentative Writes opened may be
held at their peers. -/
def abandonSteps (s : State) (pid : Nat) : State :=
  let ts := s.progSteps pid
  let s := { s with chn := { s.chn with steps := s.chn.steps.filter (fun t => t.owner != StepOwner.program pid) } }
  (ts.filter (fun t => t.kind == .tentative)).foldl (fun s t => s.holdOpen pid t.xid) s

/-- R290, R398: nothing can carry request `pid` on: it ends with status 0x04, once the exchanges that a free program holds
open are aborted (R301); what a unit's Tentative Writes in flight opened counts as refused (R300). -/
def cutProgram (s : State) (pid : Nat) : State :=
  match s.progOf pid with
  | none => s
  | some p =>
    let cut := (s.progSteps pid).filter (fun t => t.kind == .tentative)
    let s := s.abandonSteps pid
    let s := (s.failProgram pid 4 p.lastEntry 0)
    let s := match s.progOf pid with
      | some p => (s.setProg { p with wait := .none }).chanSettle pid
      | none => s
    match p.unit with
    | none => s
    | some k => if cut = [] then s else (cut.foldl (fun s t => s.refuseExchange k t.xid) s).checkRefused k

/-- R290: program `pid` runs again from its first entry on engine `d`, with the exchange IDs that it has opened; those that
it holds open and does not open again are aborted at its end. -/
def rerunProg (s : State) (pid d : Nat) : State :=
  match s.progOf pid with
  | none => s
  | some p => s.setProg { p with
      engine := d, pc := p.start, counter := p.counter0, entries := 0, opened := [], reuse := p.opened ++ p.reuse
      left := (p.free.filter (fun x => x.2.2)).map (fun x => (x.1, x.2.1)) ++ p.left
      free := [], lastResidual := 0, lastEntry := p.start, wait := .none, last := false, repeated := true, held := none }

/-- R290: move the queues of an engine that is out of service, and run its programs again; where no engine of the
quarter is left, end them. -/
def moveEngine (s : State) (e : Nat) : State :=
  let qs := (List.range 256).filter (fun n => s.chanEngineOf n == e)
  let dest := ((List.range 16).map (fun i => e / 16 * 16 + i)).find? s.chanInService
  let ps := s.chn.progs.filter (fun p => qs.contains p.queue)
  match dest with
  | none => ps.foldl (fun s p => s.cutProgram p.id) s
  | some d =>
    let s := qs.foldl (fun s n => s.setFld (CHN_Q_STATUS n) CHN_Q_STATUS.ENGINE d) s
    (ps.filter (fun p => p.started && p.ended.isNone)).foldl (fun s p => (s.abandonSteps p.id).rerunProg p.id d) s

/-- R290, R309: retire an engine. -/
def retireChan (s : State) (e : Nat) : State :=
  if s.fld (CHN_ENG e) CHN_ENG.STATE = 2 then s
  else
    let s := (s.setFld (CHN_ENG e) CHN_ENG.STATE 2).setBit CHN_ENG_OK ⟨e, 1⟩ false
    let s := s.setBit CHN_EVENT CHN_EVENT.ENGINE_RETIRED
    (s.logEvent 1 blockChn 1 e).moveEngine e

/-- R309: the line of an entry that failed is fetched again into the entry; where the fetch fails, a locked entry stays
reserved and another is free. -/
def refetchEntry (s : State) (e i : Nat) (c : CacheEntry) : State :=
  let gone : CacheEntry := if c.locked then { c with valid := false, data := [] } else { fails := c.fails }
  if !c.valid then s.putEngine e (setCacheEntry (s.engine e) i gone)
  else
    let (r, s) := s.ioRead (worldOfNo c.world) (64 * c.line) 64
    s.putEngine e (setCacheEntry (s.engine e) i (match r with
      | some (d, false) => { c with data := d }
      | _ => gone))

/-- R309: a cache entry (0 to 47) or a buffer entry (48 on) fails its parity check. -/
def cacheCheck (s : State) (e i : Nat) : State :=
  let x := s.engine e
  if 48 ≤ i then s.setEngine e { x with prefetch := x.prefetch.eraseIdx (i - 48) }
  else
    let c := cacheEntry x i
    if c.disabled then s
    else
      let fails := s.tb :: c.fails.filter (fun t => decide (s.tb < t + sec 86400))
      let off := decide (3 ≤ fails.length)
      let s := if off then s.putEngine e (setCacheEntry x i { disabled := true, fails := fails })
        else s.refetchEntry e i { c with fails := fails }
      let s := s.bumpSat (CHN_ENG_ERR e) CHN_ENG_ERR.ERRORS
      let s := (s.setBit CHN_EVENT CHN_EVENT.ENTRY_ERROR).logEvent 0 blockChn 0 e
      if !off then s
      else
        let s := (s.setBit (CHN_ENG_ERR e) ⟨i, 1⟩).setBit CHN_EVENT CHN_EVENT.ENTRY_DISABLED
        if goodCount (s.engine e) < 40 then s.retireChan e else s

end State
end Sys2Proof.Machine
end

