-- ==== Sys2Proof/Machine/ChanCmds.lean ====
section
/-!
DEFINITION. Commands of the channel engines (R291 to R309): owners and devices, the requests of a queue, the entries
of a program, its waits and chains, and the descriptor cache.
-/
namespace Sys2Proof.Machine
open Sys2Proof

namespace State

/-- STATE of an enabled device that needs no answer: 2 with a path up, 3 without. -/
def deviceUp (s : State) (d : Nat) : State :=
  s.setFld (CHN_DEV_CFG d) CHN_DEV_CFG.STATE (if (List.range 4).any (fun k => s.pathUp d k) then 2 else 3)

/-- Steps that wait for a path to device `d` go out once one is up. -/
def resumeDevice (s : State) (d : Nat) : State :=
  (List.range 4).foldl (fun s k => if s.pathUp d k then s.resumeWaiting (s.pathAssoc d k) else s) s

/-- R302: a write to `CHN_DEVd_CFG` (0) or to `CHN_DEVd_PATHk` (k + 1). -/
def deviceWrite (s : State) (d k : Nat) (v : W64) : State :=
  if s.chn.steps.any (fun t => t.dev == d) then s.setBit CHN_EVENT CHN_EVENT.DEV_BUSY
  else if k = 0 then
    let s := (s.regWrite (CHN_DEV_CFG d) v).dropConfirm 5 d
    let p := s.fld (CHN_DEV_CFG d) CHN_DEV_CFG.OWNER
    if !s.bit (CHN_DEV_CFG d) CHN_DEV_CFG.EN then s.setFld (CHN_DEV_CFG d) CHN_DEV_CFG.STATE 0
    else if s.fld (CHN_DEV_CFG d) CHN_DEV_CFG.OWNER_KIND = 1 && s.partSealed p then
      (s.setFld (CHN_DEV_CFG d) CHN_DEV_CFG.STATE 1).askCrucible 5 d p
    else s.deviceUp d
  else
    let a := CHN_DEV_PATH d (k - 1)
    let s := s.regWrite a v
    let s := s.setFld a CHN_DEV_PATH.STATE (s.pathState d (k - 1))
    let st := s.fld (CHN_DEV_CFG d) CHN_DEV_CFG.STATE
    (if st = 2 ∨ st = 3 then s.deviceUp d else s).resumeDevice d

/-- R297: the next read of a mode 2 Wait's word. -/
def waitPoll (s : State) (pid : Nat) : State :=
  match s.progOf pid with
  | none => s
  | some p => match p.wait with
    | .word a until_ next => if due s (some next) then s.readWord p a (.word a until_ (s.tb + 1000)) else s
    | _ => s

/-- R297: a Wait's time is over. -/
def waitTimeout (s : State) (pid : Nat) : State :=
  match s.progOf pid with
  | none => s
  | some p => match p.wait with
    | .time t => if due s (some t) then (s.setProg { p with wait := .none }).chanSettle pid else s
    | .word _ t _ =>
      if due s (some t) then (s.setProg { p with wait := .none }).chanFail pid 0x0C p.lastEntry 0 else s
    | _ => s

/-- The chained request whose record stands at `a` has left its queue. -/
def chainEnded (s : State) (kind q a : Nat) : Bool :=
  if kind = 1 then (s.swgQueue q).all (fun r => leAt r.block 32 8 != a)
  else (s.cipQueue q).all (fun r => leAt r.block 48 8 != a)

/-- R297: a chained request's completion record is there. -/
def chainDone (s : State) (pid : Nat) : State :=
  match s.progOf pid with
  | none => s
  | some p => match p.wait with
    | .chain kind q a =>
      if !s.chainEnded kind q a then s
      else
        let s := s.setProg { p with wait := .none }
        match s.ioRead (s.queueWorld (chnRegs p.queue)) a 32 with
        | (none, s) => s.chanFail pid 5 p.lastEntry 0
        | (some (_, true), s) => s.chanFail pid 6 p.lastEntry 0
        | (some (b, false), s) =>
          if leAt b 0 2 = 0 then s.chanSettle pid else s.chanFail pid 0x0B (leAt b 0 2) 0
    | _ => s

/-- R307: a write to `CHN_INVAL_CTL`; with GO it invalidates the range in one engine or in all. -/
def chnInval (s : State) (v : W64) : State :=
  let s := s.regWrite CHN_INVAL_CTL v
  let lo := s.fld CHN_INVAL_BASE CHN_INVAL_BASE.ADDR
  let n := s.fld CHN_INVAL_CTL CHN_INVAL_CTL.LINES
  if getFld v CHN_INVAL_CTL.GO = 0 ∨ n = 0 then s
  else if s.bit CHN_INVAL_CTL CHN_INVAL_CTL.ALL then
    (List.range 64).foldl (fun s e => s.invalEngine e lo (lo + n - 1) none) s
  else s.invalEngine (s.fld CHN_INVAL_CTL CHN_INVAL_CTL.ENGINE) lo (lo + n - 1) none

end State

/-! ### The commands -/

/-- R292. Log 83 (DEDUCED). -/
def execChnQCfgWrite (n : Fin 256) (v : BitVec 32) (s : State) : Host.Outcome State Fault Refusal :=
  onLive s fun s => s.queueOwner (chnRegs n.val) (s.chanQueue n.val != []) (BitVec.ofNat 64 v.toNat)

/-- R302: `k` 0 is `CHN_DEVd_CFG`, 1 to 4 `CHN_DEVd_PATHk`. -/
def execChnDevWrite (d : Fin 1024) (k : Fin 5) (v : W64) (s : State) : Host.Outcome State Fault Refusal :=
  onLive s fun s => s.deviceWrite d.val k.val v

/-- R294: the engine begins the next request of queue `n`, a program. -/
def execRunProgram (n : Fin 256) (s : State) : Host.Outcome State Fault Refusal :=
  onLive s fun s => s.beginRequest n.val 1

/-- R307. -/
def execInvalidateRange (n : Fin 256) (s : State) : Host.Outcome State Fault Refusal :=
  onLive s fun s => s.beginRequest n.val 2

/-- R306. -/
def execLockFillRange (n : Fin 256) (s : State) : Host.Outcome State Fault Refusal :=
  onLive s fun s => s.beginRequest n.val 3

/-- R306. -/
def execUnlockRange (n : Fin 256) (s : State) : Host.Outcome State Fault Refusal :=
  onLive s fun s => s.beginRequest n.val 4

/-- R297: the engine takes the next entry of program `pid`, a Read. -/
def execChannelRead (pid : Nat) (s : State) : Host.Outcome State Fault Refusal := onLive s fun s => s.entryStep pid 1

/-- R297. -/
def execChannelWrite (pid : Nat) (s : State) : Host.Outcome State Fault Refusal := onLive s fun s => s.entryStep pid 2

/-- R297, R299. -/
def execTentativeWrite (pid : Nat) (s : State) : Host.Outcome State Fault Refusal := onLive s fun s => s.entryStep pid 3

/-- R297. -/
def execChannelCommit (pid : Nat) (s : State) : Host.Outcome State Fault Refusal := onLive s fun s => s.entryStep pid 4

/-- R297. -/
def execChannelAbort (pid : Nat) (s : State) : Host.Outcome State Fault Refusal := onLive s fun s => s.entryStep pid 5

/-- R297. -/
def execControl (pid : Nat) (s : State) : Host.Outcome State Fault Refusal := onLive s fun s => s.entryStep pid 6

/-- R297. -/
def execSense (pid : Nat) (s : State) : Host.Outcome State Fault Refusal := onLive s fun s => s.entryStep pid 7

/-- R297. -/
def execJump (pid : Nat) (s : State) : Host.Outcome State Fault Refusal := onLive s fun s => s.entryStep pid 8

/-- R297. -/
def execWait (pid : Nat) (s : State) : Host.Outcome State Fault Refusal := onLive s fun s => s.entryStep pid 9

/-- R297. -/
def execChainCompression (pid : Nat) (s : State) : Host.Outcome State Fault Refusal := onLive s fun s => s.entryStep pid 10

/-- R297. -/
def execChainCipher (pid : Nat) (s : State) : Host.Outcome State Fault Refusal := onLive s fun s => s.entryStep pid 11

/-- R297. -/
def execWaitPoll (pid : Nat) (s : State) : Host.Outcome State Fault Refusal := onLive s fun s => s.waitPoll pid

/-- R297. -/
def execWaitTimeout (pid : Nat) (s : State) : Host.Outcome State Fault Refusal := onLive s fun s => s.waitTimeout pid

/-- R297. -/
def execChainedRequestComplete (pid : Nat) (s : State) : Host.Outcome State Fault Refusal :=
  onLive s fun s => s.chainDone pid

/-- R304, R305: `world` 0 is the open world, 1 + p the world of sealed partition p. -/
def execDescriptorFillComplete (e : Fin 64) (line : Nat) (world : Fin 1025) (s : State) :
    Host.Outcome State Fault Refusal :=
  onLive s fun s => (s.fillReturns e.val line world.val).chanSettleAll

/-- R307: `v` is what is written to `CHN_INVAL_CTL`. -/
def execChnInval (v : BitVec 32) (s : State) : Host.Outcome State Fault Refusal :=
  onLive s fun s => s.chnInval (BitVec.ofNat 64 v.toNat)

/-- R309: `i` below 48 is a cache entry, 48 on an entry of the prefetch buffer. -/
def execDescriptorCacheCheckFail (e : Fin 64) (i : Fin 56) (s : State) : Host.Outcome State Fault Refusal :=
  onLive s fun s => s.cacheCheck e.val i.val

end Sys2Proof.Machine
end

