-- ==== Sys2Proof/Machine/EndWork.lean ====
section
/-!
DEFINITION. Ending everything a queue holds: before its half or quarter goes off (R361, R398), and where a
partition's queues become unowned (R351).
-/
namespace Sys2Proof.Machine
open Sys2Proof
namespace State

/-- R361: what a cipher queue holds ends: started requests with status 0x0B, the others with 0x04. -/
def endCipQueue (s : State) (n : Nat) : State :=
  (s.cipQueue n).foldl (fun s r => s.cipEnd n r (if r.started then 0x0B else 4) 0 0) s

/-- R266, R361: what a compression queue holds ends with status 0x04, and its context is discarded. -/
def endSwgQueue (s : State) (n : Nat) : State :=
  let s := (s.swgQueue n).foldl (fun s r => s.swgEnd n r.block none { status := 4 }) s
  if (s.swgCtx n).isSome then
    (s.setSwgCtx n none).setBit SWG_EVENT SWG_EVENT.CONTEXTS_DISCARDED
  else s

/-- R266: a compression half is switched off: every context of it is discarded. -/
def endSwgHalf (s : State) (k : Nat) : State :=
  (((List.range 64).map (64 * k + ·)).foldl (fun s n => s.endSwgQueue n) s).setBit SWG_EVENT SWG_EVENT.CONTEXTS_DISCARDED

/-- R269, R398: what a compression queue has not begun ends with status 0x04; its first request, once it has been given
a block, goes on. Log 75 (DEDUCED). -/
def endSwgQueued (s : State) (n : Nat) : State :=
  let begun := (s.swgQueue n).take (((s.swgQueue n).head?.map (fun r => (decide (r.granted ≠ 0)).toNat)).getD 0)
  let left := (s.swgQueue n).drop begun.length
  left.foldl (fun s r => s.swgEnd n r.block none { status := 4 }) (s.setSwgQueue n (left ++ begun))

/-- R361: the programs and requests of a channel queue end with status 0x04. -/
def endChnQueue (s : State) (n : Nat) : State := (s.chanQueue n).foldl (fun s p => s.cutProgram p.id) s

/-- R253, R273, R292: leave a queue unowned. -/
def unownQueue (s : State) (q : QueueRegs) : State :=
  ((s.setFld q.cfg QCFG.KIND 0).setFld q.status q.stateF 0).dropConfirm q.kind q.index

/-- The partition owns the queue, or awaits its confirmation. -/
def queueOf (s : State) (q : QueueRegs) (p : Nat) : Bool :=
  s.fld q.cfg QCFG.KIND == 1 && s.fld q.cfg QCFG.PARTITION == p

end State
end Sys2Proof.Machine
end

