-- ==== Sys2Proof/Machine/Trust.lean ====
section
/-!
DEFINITION. Partition records (R345): world tags (R349), the memory a registration covers and the regions that
hold it (R239, R346), the steps of sealing (R347) and of release (R351), what a start does to the records, and the
move of standby records at a takeover (R352).
-/
namespace Sys2Proof.Machine
open Sys2Proof

/-! ### Memory of a registration -/

/-- R241: the granules (2 MiB) of one descriptor: first and number. -/
def segGranules (d : W64 × W64) : Nat × Nat := (getFld d.2 ⟨21, 27⟩, getFld d.2 ⟨0, 20⟩)

def insertRun (r : Nat × Nat) : List (Nat × Nat) → List (Nat × Nat)
  | [] => [r]
  | x :: t => if r.1 ≤ x.1 then r :: x :: t else x :: insertRun r t

/-- Join runs (first, last) in rising order that touch or overlap. -/
def joinRuns (l : List (Nat × Nat)) : List (Nat × Nat) :=
  (l.foldl (fun (acc : List (Nat × Nat)) r =>
    match acc with
    | [] => [r]
    | x :: t => if r.1 ≤ x.2 + 1 then (x.1, max x.2 r.2) :: t else r :: x :: t) []).reverse

/-- R346: the maximal runs of granules that the valid memory descriptors of a registration block cover. A descriptor whose
physical base lies in device space (R139, R241) is none of these. -/
def blockRuns (b : Bytes) : List (Nat × Nat) :=
  let ds := (State.blockSegs b).filter (fun d => getFld d.1 ⟨0, 1⟩ == 1 && decide ((segGranules d).1 < 2 ^ 26))
  joinRuns ((ds.map (fun d => let g := segGranules d; (g.1, g.1 + g.2 - 1))).foldl (fun l r => insertRun r l) [])

/-- Lines of granules `first` to `last`: 32,768 of 64 bytes in each. -/
def firstLine (r : Nat × Nat) : Nat := r.1 * 32768
def lastLine (r : Nat × Nat) : Nat := r.2 * 32768 + 32767

namespace State

/-! ### World tags and regions -/

/-- R349: a tag that no record holds: the lowest never given out, else the one retired longest ago.
Log 131 (DEDUCED). -/
def takeTag (s : State) : Nat × State :=
  let held := s.cru.parts.map (fun e => s.fld (CRU_PART e.1) CRU_PART.WTAG)
  match ((List.range 2047).map (· + 1)).find? (fun t => !held.contains t && !s.cru.retired.contains t) with
  | some t => (t, s)
  | none => (s.cru.retired.headD 0, { s with cru := { s.cru with retired := s.cru.retired.drop 1 } })

def retireTag (s : State) (t : Nat) : State :=
  if t = 0 then s else { s with cru := { s.cru with retired := s.cru.retired ++ [t] } }

/-- R239: program region `n` over a run of granules, closed to the open world. -/
def programRegion (s : State) (n : Nat) (r : Nat × Nat) (kind owner : Nat) : State :=
  let s := s.setReg (HA_REGION_BASE n) (BitVec.ofNat 64 (r.1 * 2 ^ 21 + 1))
  s.setReg (HA_REGION_CTL n) (BitVec.ofNat 64 (r.2 * 2 ^ 21 + kind * 2 ^ 12 + owner))

def freeRegion (s : State) (n : Nat) : State := (s.resetReg (HA_REGION_BASE n)).resetReg (HA_REGION_CTL n)

/-- R347 step 1: a run overlaps a region in force, or lies outside memory. -/
def runTaken (s : State) (r : Nat × Nat) : Bool :=
  decide (memLimit < (r.2 + 1) * 2 ^ 21) ||
    (List.range 64).any (fun n => !s.regionFree n &&
      decide (s.fld (HA_REGION_BASE n) HA_REGION_BASE.BASE ≤ r.2) &&
      decide (r.1 ≤ s.fld (HA_REGION_CTL n) HA_REGION_CTL.LIMIT))

/-- The ranges of a registration can be taken now. -/
def runsFit (s : State) (b : Bytes) : Bool :=
  let rs := blockRuns b
  !rs.any s.runTaken && decide (rs.length ≤ s.freeRegions.length)

/-- Program the regions of partition `p` over its runs; the meters take the sizes held until now. -/
def takeRegions (s : State) (p : Nat) : State :=
  let s := s.meterMem
  let x := s.partRec p
  let rs := blockRuns x.block
  let ns := s.freeRegions.take rs.length
  let s := (ns.zip rs).foldl (fun s e => s.programRegion e.1 e.2 0 p) s
  let s := s.setPartRec p { x with regions := ns }
  (s.setFld (CRU_PART p) CRU_PART.REGIONS ns.length).showRegions

/-- Program again, as they were, the regions a record holds, and load its key (R431 step 4). -/
def reloadPart (s : State) (p : Nat) : State :=
  let x := s.partRec p
  let s := (x.regions.zip (blockRuns x.block)).foldl (fun s e => s.programRegion e.1 e.2 0 p) s
  if x.regions = [] then s else s.loadKey (partKey p) x.xts

/-! ### Lines of a range -/

/-- Some message or access is under way for line `l`. Log 124 (DEDUCED). -/
def lineBusy (s : State) (l : Nat) : Bool :=
  s.coh.lines.any (fun e => e.1 % 2 ^ 42 == l && (e.2.cleaning || e.2.want.isSome || e.2.chk.isSome || e.2.waits != [] ||
      !(e.2.stable || e.2.st == .I))) ||
    s.coh.homes.any (fun e => e.1 % 2 ^ 42 == l && e.2.busy.isSome) || s.coh.io.any (fun q => q.line == l)

/-- Write back and drop every cached copy of the lines `first` to `last`, through Recall. Contents are coherent already,
so no byte changes; a line on which messages are under way keeps its copies until they have come. Log 124 (DEDUCED). -/
def dropLines (s : State) (first last : Nat) : State :=
  let gone := fun (k : Nat) => decide (first ≤ k % 2 ^ 42) && decide (k % 2 ^ 42 ≤ last) && !s.lineBusy (k % 2 ^ 42)
  { s with coh := { s.coh with
    lines := s.coh.lines.filter (fun e => !gone e.1), l1 := s.coh.l1.filter (fun e => !gone e.1)
    homes := s.coh.homes.filter (fun e => !gone e.1) } }

/-- R347 step 4: re-encrypt the lines `first` to `last` from the open key to key `k`. -/
def reencrypt (s : State) (first last k : Nat) : State :=
  let foreign := (s.mm.keys.filter (fun x => (x.key != 0 || x.old.isSome) && decide (x.first ≤ last) && decide (first ≤ x.last))).flatMap
    (fun x => (List.range (min x.last last + 1 - max x.first first)).map (max x.first first + ·))
  let s := foreign.foldl (fun s l => s.rekeyLine 0 l) s
  s.setRangeKey first last k

/-! ### Sealing and release -/

/-- The image of a registration block, read as the partition; `none` where an address does not translate. -/
def imageBytes (s : State) (b : Bytes) (p : Nat) : Option Bytes :=
  ((List.range (leAt b 56 8)).mapM (fun i => segTranslate (blockSegs b) ((leAt b 48 8 + i) % 2 ^ 48) .load false)).map
    (fun as => as.map (fun a => s.keyedByte (partKey p) a))

/-- Every byte of the image translates, to memory. -/
def imageMapped (b : Bytes) : Bool :=
  (List.range (leAt b 56 8)).all (fun i =>
    (segTranslate (blockSegs b) ((leAt b 48 8 + i) % 2 ^ 48) .load false).any (fun a => decide (a < 2 ^ 47)))

/-- R347 steps 1 and 2: keys, tag and regions; the record reads sealing. Log 77 (DEDUCED). -/
def beginSeal (s : State) (p : Nat) : State :=
  let (xts, s) := s.randomBytes 64
  let (tag, s) := s.takeTag
  let x := s.partRec p
  let s := s.setPartRec p { x with xts := xts, kem := s.image.moduleIndex * 2 ^ 32 + s.cru.kems, step := 2 }
  let s := { s with cru := { s.cru with kems := s.cru.kems + 1 } }
  let s := s.setFld (CRU_PART p) CRU_PART.WTAG tag
  (s.takeRegions p).setPartState p 2

/-- R347 steps 3 to 6, R345: the ranges are recalled and re-encrypted, the image is measured, and the record is
being restored with service reason 1. -/
def finishSeal (s : State) (p : Nat) : State :=
  let x := s.partRec p
  let rs := blockRuns x.block
  let s := rs.foldl (fun s r => s.dropLines (firstLine r) (lastLine r)) s
  let s := s.loadKey (partKey p) x.xts
  let s := rs.foldl (fun s r => s.reencrypt (firstLine r) (lastLine r) (partKey p)) s
  let m := Crypto.sha384 (x.block ++ (s.imageBytes x.block p).getD [])
  let s := s.setPartRec p { x with measurement := m, sealTime := s.tb, reason := 1, step := 0, mailbox := none }
  let s := { s with procs := s.procs.map (fun (e : Nat × ProcState) => (e.1, { e.2 with exits := e.2.exits.del p })) }
  s.setPartState p 3

/-- R345: a start finds the record sealing: it is registered again, and its regions are free. What the ranges hold
is undefined: they stay under a key that no one has. -/
def abandonSeal (s : State) (p : Nat) : State :=
  let x := s.partRec p
  let s := s.meterMem
  let s := ((blockRuns x.block).foldl (fun s r => s.setRangeKey (firstLine r) (lastLine r) (partKey p)) s).retireKey (partKey p)
  let s := x.regions.foldl (fun s n => s.freeRegion n) s
  let s := s.retireTag (s.fld (CRU_PART p) CRU_PART.WTAG)
  let s := s.setPartRec p { block := x.block }
  let s := (s.setFld (CRU_PART p) CRU_PART.WTAG 0).setFld (CRU_PART p) CRU_PART.REGIONS 0
  (s.setPartState p 1).showRegions

/-- R351 steps 1 to 3: pairs, key slots, contexts, queues and devices of partition `p`. -/
def releaseHolds (s : State) (p : Nat) : State :=
  let s := (List.range 160).foldl (fun s n =>
    if s.bit (UOW_PAIR_BIND n) UOW_PAIR_BIND.EN && s.fld (UOW_PAIR_BIND n) UOW_PAIR_BIND.PARTITION == p then
      s.bindWrite n (BitVec.ofNat 64 (p * 2 ^ 16)) else s) s
  let slots := (List.range 8192).filter (fun n =>
    s.fld (CIP_SLOT n) CIP_SLOT.OWNER_KIND == 1 && s.fld (CIP_SLOT n) CIP_SLOT.OWNER == p)
  let s := slots.foldl (fun s n => s.slotClear n) s
  let s := (List.range 128).foldl (fun s n =>
    if s.queueOf (swgRegs n) p then (s.endSwgQueue n).unownQueue (swgRegs n) else s) s
  let s := (List.range 128).foldl (fun s n =>
    if s.queueOf (cipRegs n) p then (s.endCipQueue n).unownQueue (cipRegs n) else s) s
  let s := (List.range 256).foldl (fun s n =>
    if s.queueOf (chnRegs n) p then (s.endChnQueue n).unownQueue (chnRegs n) else s) s
  (List.range 1024).foldl (fun s d =>
    if s.fld (CHN_DEV_CFG d) CHN_DEV_CFG.OWNER_KIND = 1 ∧ s.fld (CHN_DEV_CFG d) CHN_DEV_CFG.OWNER = p then
      ((s.setFld (CHN_DEV_CFG d) CHN_DEV_CFG.OWNER_KIND 0).setFld (CHN_DEV_CFG d) CHN_DEV_CFG.STATE 0).dropConfirm 5 d
    else s) s

/-- R351 steps 4 and 5: the ranges leave the caches and become zeros under the open key. -/
def cleanRanges (s : State) (b : Bytes) : State :=
  (blockRuns b).foldl (fun s r => (s.dropLines (firstLine r) (lastLine r)).zeroRange (firstLine r) (lastLine r) 0) s

/-- R351 step 6: regions, key and tag go, and the record reads none. -/
def dropRecord (s : State) (p : Nat) : State :=
  let x := s.partRec p
  let s := s.meterMem
  let s := x.regions.foldl (fun s n => s.freeRegion n) s
  let s := s.retireTag (s.fld (CRU_PART p) CRU_PART.WTAG)
  let s := ((s.setPartState p 0).resetReg (CRU_PART p)).retireKey (partKey p)
  let s := { s with cru := { s.cru with parts := s.cru.parts.del p } }
  s.showRegions

/-! ### Starts and takeover -/

/-- R345: what a start with service reason `reason` does to one record. Log 78 (DEDUCED). -/
def startRecord (s : State) (p reason : Nat) : State :=
  match s.fld (CRU_PART p) CRU_PART.STATE with
  | 2 => s.abandonSeal p
  | 3 | 4 =>
    let x := s.partRec p
    ((s.setPartRec p { x with reason := reason, serviceOn := none, serviceAt := 0 }).setPartState p 3).reloadPart p
  | _ => s.reloadPart p

def startRecords (s : State) (reason : Nat) : State :=
  (s.cru.parts.map (·.1)).foldl (fun s p => s.startRecord p reason) s

/-- R352, R350: at the takeover of partner `k`, its standby records here are being restored, with reason 5.
Log 131 (DEDUCED). -/
def standbyTakeover (s : State) (k : Nat) : State :=
  (s.cru.parts.filter (fun e => s.fld (CRU_PART e.1) CRU_PART.STATE == 7 && e.2.origin == k)).foldl (fun s e =>
    let (tag, s) := s.takeTag
    let s := s.setPartRec e.1 { e.2 with reason := 5, serviceOn := none, serviceAt := s.tb }
    let s := (s.setFld (CRU_PART e.1) CRU_PART.WTAG tag).setBit (CRU_PART e.1) CRU_PART.ADOPTED
    (s.reloadPart e.1).setPartState e.1 3) s

end State
end Sys2Proof.Machine
end

