-- ==== Sys2Proof/Machine/Metering.lean ====
section
/-!
DEFINITION. Metering (R364 to R368): the boundary that latches the counters, the batch with its entries, tree and
header, its delivery, and the proof of an entry.
-/
namespace Sys2Proof.Machine
open Sys2Proof

/-! ### The tree of a batch -/

/-- R367: the node of an all-empty subtree of `k` levels. -/
def emptyNode : Nat → Bytes
  | 0 => zeros 48
  | k + 1 => Crypto.sha384 ([(1 : Byte)] ++ emptyNode k ++ emptyNode k)

/-- One level up, from the nodes of level `k` that are not empty. -/
def treeUp (k : Nat) (t : Tbl Bytes) : Tbl Bytes :=
  let e := emptyNode k
  ((t.map (fun n => n.1 / 2)).eraseDups).map (fun i =>
    (i, Crypto.sha384 ([(1 : Byte)] ++ t.get e (2 * i) ++ t.get e (2 * i + 1))))

/-- The nodes of levels `k` and up, `n` of them. -/
def treeLevels : Nat → Nat → Tbl Bytes → List (Tbl Bytes)
  | _, 0, t => [t]
  | k, n + 1, t => t :: treeLevels (k + 1) n (treeUp k t)

/-- R367: leaves of the entries present. -/
def batchLeaves (es : Tbl Bytes) : Tbl Bytes := es.map (fun e => (e.1, Crypto.sha384 ([(0 : Byte)] ++ e.2)))

/-- R367: root of a batch. -/
def batchRoot (es : Tbl Bytes) : Bytes := (((treeLevels 0 12 (batchLeaves es)).getLastD []).get (emptyNode 12) 0)

/-- R367: the 12 siblings of entry `i`, from the leaf upward. -/
def batchProof (es : Tbl Bytes) (i : Nat) : Bytes :=
  ((((treeLevels 0 12 (batchLeaves es)).take 12).zipIdx).map (fun t =>
    let node := i / 2 ^ t.2
    t.1.get (emptyNode t.2) (if node % 2 = 0 then node + 1 else node - 1))).flatten

namespace State

/-! ### Signatures -/

/-- R286: the asymmetric unit verifies what it has signed, or compares the two computations of a key pair or of a
decapsulation. A mismatch releases nothing and is a Class 1 event. Log 139 (DESIGN CHOICE). -/
def asymCheck (s : State) : Bool × State :=
  let ok := Config.asymAgrees s.rand
  let s := { s with rand := s.rand + 1 }
  (ok, if ok then s else s.logEvent 1 blockCru causeNone 0)

/-- R356: the two signatures over a message: r and s, then ML-DSA-87. -/
def signBoth (s : State) (m : Bytes) : Bytes × State :=
  (padTo 96 (Config.ecdsaSign s.rand m) ++ padTo 4627 (Config.mldsaSign s.rand m), { s with rand := s.rand + 1 })

def degradedNow (s : State) : Bool := s.bit CLK_STATUS CLK_STATUS.COARSE

/-! ### The boundary -/

/-- R365: the first boundary after `t` at an interval of `n` seconds. -/
def nextBoundary (t n : Nat) : Nat := (t / sec n + 1) * sec n

/-- Runs in progress have their time up to now counted, and go on (R365: no count is lost). Log 79 (DEDUCED). -/
def splitRuns (s : State) : State :=
  (s.cru.runFrom.map (·.1)).foldl (fun s e => (s.meterRunStop e).meterRunStart e) s

/-- R366: the class of an entity in the running interval: registration block, or `VF_SET_METERCLASS`. -/
def meterClassOf (s : State) (i : Nat) : Nat :=
  if i < 1024 then leAt (s.partRec i).block 3 1 else (s.fn (i - 1024)).meterClass

def meterClasses (s : State) : Tbl Nat :=
  ((List.range 2049).map (fun i => (i, s.meterClassOf i))).filter (fun e => e.2 != 0)

/-- R105: a function's new meter class takes effect at the boundary. -/
def nextClasses (s : State) : State :=
  { s with hep := { s.hep with fns := s.hep.fns.map (fun (f : Nat × FnState) =>
      (f.1, { f.2 with meterClass := f.2.nextClass })) } }

/-- R365: latch every counter into the idle bank and zero the live ones; `stop` is the closing boundary.
Log 79 (DEDUCED). -/
def latchBank (s : State) (stop : Nat) (final : Bool) : State :=
  let s := s.meterMem.splitRuns
  let b : MeterBank := {
    start := s.cru.opened, stop := stop, interval := s.cru.interval, counts := s.cru.meters
    classes := s.meterClasses
    degraded := s.cru.degraded || s.degradedNow, final := final
    late := s.fld CRU_STATUS CRU_STATUS.STATE == 2 }
  let n := s.fld MTR_CFG MTR_CFG.INTERVAL_S
  let s := s.nextClasses
  { s with cru := { s.cru with
    banks := s.cru.banks ++ [b], meters := [], opened := stop, interval := n, degraded := s.degradedNow
    boundaryAt := nextBoundary stop n } }

/-- R365, R381: the interval's boundary has come, or both feeds are lost and a final batch is cut (R367). With both banks
latched and neither signed there is no idle one, and the boundary waits. Log 79 (DEDUCED). -/
def boundary (s : State) : State :=
  if 2 ≤ s.cru.banks.length then s
  else if s.pwr.reported then s.latchBank s.tb true
  else if s.cru.boundaryAt ≤ s.tb then s.latchBank (s.tb / sec s.cru.interval * sec s.cru.interval) false
  else s

/-! ### The batch -/

/-- R366: the entities of a batch: partitions with a record, functions that exist, and whatever was counted.
Log 79 (DEDUCED). -/
def meterEntities (s : State) (b : MeterBank) : List Nat :=
  (List.range 2049).filter (fun i =>
    (if i < 1024 then s.fld (CRU_PART i) CRU_PART.STATE != 0 else i == 1024 || (s.fn (i - 1024)).present) ||
      b.counts.get {} i != {})

/-- R366: one entry. Log 79 (DEDUCED). -/
def meterEntry (s : State) (b : MeterBank) (late : Bool) (number i : Nat) (salt : Bytes) : Bytes :=
  let m := b.counts.get {} i
  let flags := b.degraded.toNat + 2 * late.toNat + 4 * m.changed.toNat
  leBytes 2 1 ++ leBytes 1 (if i < 1024 then 1 else 2) ++ leBytes 1 (b.classes.get 0 i) ++ leBytes 2 (i % 1024 +
    (if i = 2048 then 1024 else 0)) ++ leBytes 2 flags ++ leBytes 8 number ++ leBytes 8 m.pairNs ++ leBytes 8 m.memory ++
    leBytes 8 m.channel ++ leBytes 8 m.window ++ leBytes 8 m.cipher ++ leBytes 4 m.cipherReqs ++ leBytes 4 m.blocks ++
    leBytes 4 m.units ++ leBytes 4 m.restarts ++ salt ++ padTo 48 (s.cru.lastEntry.get [] i)

/-- R367: the header. -/
def meterHeader (s : State) (b : MeterBank) (late : Bool) (number entries : Nat) (root : Bytes) : Bytes :=
  let flags := b.degraded.toNat + 2 * late.toNat + 4 * s.cru.firstBatch.toNat + 8 * b.final.toNat
  leBytes 2 1 ++ leBytes 1 s.image.moduleIndex ++ leBytes 1 flags ++ leBytes 4 b.interval ++ leBytes 8 number ++
    leBytes 8 b.start ++ leBytes 8 b.stop ++ leBytes 8 s.jnl.bootCount ++ leBytes 4 entries ++
    leBytes 4 s.cru.restartCount ++ root ++ padTo 48 s.cru.lastHeader ++ s.moduleDigest ++ zeros 64

/-- R368: deliver a batch to the host ring. Log 79 (DEDUCED). -/
def deliverBatch (s : State) (b : MeterBatch) : State :=
  let size := 2 ^ s.fld MTR_DEST_CTL MTR_DEST_CTL.SIZE
  let tail := s.fld MTR_DEST_IDX MTR_DEST_IDX.TAIL
  let head := s.fld MTR_DEST_IDX MTR_DEST_IDX.HEAD
  if !s.bit MTR_DEST_CTL MTR_DEST_CTL.EN || !s.fnActive 0 then s
  else if (tail + 2 ^ 32 - head) % 2 ^ 32 = size then s.setBit MTR_EVENT MTR_EVENT.DEST_FULL
  else
    let slot := s.fld MTR_DEST MTR_DEST.ADDR * 4096 + tail % size * 0x44000
    let s := s.pfWrite slot (b.header ++ b.signatures)
    let s := s.pfWrite (slot + 0x2000) (((List.range 2049).map (fun i => padTo 128 (b.entries.get [] i))).flatten)
    let s := s.setFld MTR_DEST_IDX MTR_DEST_IDX.TAIL (tail + 1)
    s.pfMessage (s.fld MTR_DEST_CTL MTR_DEST_CTL.VECTOR)

/-- R365 to R368, R360: Crucible signs the oldest latched bank as one batch, which is late more than 10 ms after its
boundary, and where that fell in a restart. Log 139 (DESIGN CHOICE). -/
def signBatch (s : State) : State :=
  match s.cru.banks with
  | [] => s
  | b :: rest =>
    if s.fld CRU_STATUS CRU_STATUS.STATE ≠ 1 ∨ s.cru.identityBad then s
    else match s.asymCheck with
    | (false, s) => s
    | (true, s) =>
      let late := b.late || decide (b.stop + ms 10 < s.tb)
      let number := s.cru.batchCount + 1
      let is := s.meterEntities b
      let (es, s) := is.foldl (fun (a : Tbl Bytes × State) i =>
        let (salt, s) := a.2.randomBytes 8
        (a.1 ++ [(i, s.meterEntry b late number i salt)], s)) ([], s)
      let header := s.meterHeader b late number is.length (batchRoot es)
      let (sigs, s) := s.signBoth header
      let batch : MeterBatch := { header := header, signatures := sigs, entries := es }
      let s := { s with cru := { s.cru with
        banks := rest, firstBatch := false, batchCount := number, lastHeader := Crypto.sha384 header
        lastEntry := es.foldl (fun (t : Tbl Bytes) (e : Nat × Bytes) => t.set [] e.1 (Crypto.sha384 e.2)) s.cru.lastEntry
        batches := (batch :: s.cru.batches).take 64 } }
      let s := (s.setFld MTR_LAST MTR_LAST.INTERVAL number).setBit MTR_EVENT MTR_EVENT.BATCH
      let s := if late then s.setBit MTR_EVENT MTR_EVENT.LATE else s
      let s := if b.degraded then s.setBit MTR_EVENT MTR_EVENT.DEGRADED else s
      s.deliverBatch batch

end State

/-! ### The commands -/

/-- R365. -/
def execMeterBoundary (s : State) : Host.Outcome State Fault Refusal := onLive s State.boundary

/-- R367. -/
def execMeterBatchSign (s : State) : Host.Outcome State Fault Refusal := onLive s State.signBatch

end Sys2Proof.Machine
end

