-- ==== Sys2Proof/Machine/Mailbox.lean ====
section
/-!
DEFINITION. Crucible's mailboxes (R340 to R343): who may write one, how a request is fetched, refused, held and
completed, and the memory its addresses reach.
-/
namespace Sys2Proof.Machine
open Sys2Proof

/-! ### Request blocks (R341) -/

def rqOp (r : Bytes) : Nat := leAt r 0 1
def rqPart (r : Bytes) : Nat := leAt r 2 2 % 1024
def rqArgLen (r : Bytes) : Nat := leAt r 4 4
def rqArg (r : Bytes) : Nat := leAt r 8 8
def rqA (r : Bytes) : Nat := leAt r 16 8
def rqResult (r : Bytes) : Nat := leAt r 24 8
def rqResultLen (r : Bytes) : Nat := leAt r 32 4
def rqCompl (r : Bytes) : Nat := leAt r 40 8
def rqTag (r : Bytes) : Nat := leAt r 48 8

/-- The block obeys its table: an op of R343, a partition, an aligned completion record. -/
def rqValid (r : Bytes) : Bool :=
  decide (1 ≤ rqOp r) && decide (rqOp r ≤ 0x0C) && decide (leAt r 2 2 < 1024) && decide (rqCompl r % 32 = 0)

/-- R343: the op may come from mailbox `m` for its partition. -/
def rqPermitted (m : Nat) (r : Bytes) : Bool :=
  let own := m == 16 + rqPart r
  match rqOp r with
  | 1 => true
  | 2 | 3 | 9 | 10 | 11 => m == 1
  | 4 | 12 => decide (m ≤ 1) || own
  | 5 | 6 => decide (m ≤ 1) || own
  | 7 => own
  | 8 => m == 1 || own
  | _ => false

/-- Controller address of the shared Anvil state memory (R429), as `State.ctl` is keyed. -/
def anvilShared : Nat := 0x300000000

namespace State

/-! ### Memory of a mailbox -/

/-- R340: the world of mailboxes other than 0 and 2. -/
def mailWorld (s : State) (m : Nat) : World := if 16 ≤ m then s.partWorld (m - 16) else .opened

/-- R340: read `n` bytes for mailbox `m`; `host` is what host memory holds there. -/
def mailRead (s : State) (m a n : Nat) (host : Bytes) : Option Bytes × State :=
  if n = 0 then (some [], s)
  else if m = 0 then (if s.fnActive 0 then some (padTo n host) else none, s)
  else if m = 2 then
    (if 0x230000 ≤ a ∧ a + n ≤ 0x240000 then some (s.ctlRead (anvilShared + a) n) else none, s)
  else match s.ioRead (s.mailWorld m) a n with
    | (some (b, false), s) => (some b, s)
    | (_, s) => (none, s)

/-- R340: write bytes for mailbox `m`. -/
def mailWrite (s : State) (m a : Nat) (d : Bytes) : Bool × State :=
  if d = [] then (true, s)
  else if m = 0 then if s.fnActive 0 then (true, s.pfWrite a d) else (false, s)
  else if m = 2 then
    if 0x230000 ≤ a ∧ a + d.length ≤ 0x240000 then (true, s.ctlWrite (anvilShared + a) d) else (false, s)
  else s.ioWrite (s.mailWorld m) a d

/-! ### Requests -/

def mail (s : State) (m : Nat) : Option MailReq := s.cru.mail.get none m
def setMail (s : State) (m : Nat) (x : Option MailReq) : State :=
  { s with cru := { s.cru with mail := s.cru.mail.set none m x } }

/-- The mailbox is free again, and reports the status. -/
def mailFree (s : State) (m status : Nat) : State :=
  ((s.setMail m none).setBit (CRU_MB_CTL m) CRU_MB_CTL.BUSY false).setFld (CRU_MB_CTL m) CRU_MB_CTL.LAST_STATUS status

/-- R342: the completion record. -/
def mailRecord (s : State) (r : Bytes) (status out value : Nat) : Bytes :=
  leBytes 2 status ++ [0x80, 0] ++ leBytes 4 out ++ leBytes 8 (rqTag r) ++ leBytes 8 value ++ leBytes 4 s.stamp ++ zeros 4

/-- R342: the request of mailbox `m` ends. -/
def mailEnd (s : State) (m : Nat) (status : Nat) (out : Nat := 0) (value : Nat := 0) : State :=
  match s.mail m with
  | none => s
  | some q => (s.mailWrite m (rqCompl q.req) (s.mailRecord q.req status out value)).2.mailFree m status

/-- R342: the request ends with bytes at Result: 0x09 where they do not fit. -/
def mailResult (s : State) (m : Nat) (d : Bytes) : State :=
  match s.mail m with
  | none => s
  | some q =>
    if rqResultLen q.req < d.length then s.mailEnd m 9 0 d.length
    else
      let (ok, s) := s.mailWrite m (rqResult q.req) d
      if ok then s.mailEnd m 0 d.length else s.mailEnd m 5

/-- R343: what is refused before the op begins: an invalid block, or an op this mailbox may not issue.
Log 77 (DEDUCED). -/
def mailCheck (s : State) (m : Nat) (r : Bytes) : State :=
  let s := s.setMail m (some { req := r })
  if !rqValid r then s.mailEnd m 3
  else if !rqPermitted m r then s.mailEnd m 1
  else s

/-- Crucible in service takes the request block of mailbox `m`. A block that cannot be read ends with no record.
Log 77 (DEDUCED). -/
def mailFetch (s : State) (m : Nat) (host : Bytes) : State :=
  match s.mailRead m (s.fld (CRU_MB_ADDR m) CRU_MB_ADDR.ADDR * 64) 64 host with
  | (some r, s) => s.mailCheck m r
  | (none, s) => s.mailFree m 5

/-- R340: the writer owns mailbox `m`. -/
def mailOwner (m : Nat) (w : Writer) : Bool :=
  match w with
  | .host => m == 0
  | .hypervisor => m == 1
  | .anvil => m == 2
  | .sealed p => m == 16 + p.val
  | .other => false

/-- R340, R359: a GO write. While Crucible is not in service the request is held. -/
def mailGo (s : State) (m : Nat) (w : Writer) (block : Bytes) : State :=
  if !mailOwner m w then s.setBit CRU_EVENT CRU_EVENT.MB_DENIED
  else if s.bit (CRU_MB_CTL m) CRU_MB_CTL.BUSY then s
  else
    let s := s.setBit (CRU_MB_CTL m) CRU_MB_CTL.BUSY
    if s.fld CRU_STATUS CRU_STATUS.STATE = 1 then s.mailFetch m block
    else s.setMail m (some { req := padTo 64 block })

/-- R340: a write to `CRU_MBm_ADDR`. -/
def mailAddr (s : State) (m : Nat) (w : Writer) (v : W64) : State :=
  if mailOwner m w then s.setReg (CRU_MB_ADDR m) (v &&& 0xFFFFFFFFFFFFFFC0#64)
  else s.setBit CRU_EVENT CRU_EVENT.MB_DENIED

/-- Crucible begins the request of op `op` that mailbox `m` holds. -/
def mailOp (s : State) (m op : Nat) (f : State → Bytes → State) : State :=
  match s.mail m with
  | none => s
  | some q =>
    if s.fld CRU_STATUS CRU_STATUS.STATE = 1 ∧ !q.begun ∧ rqOp q.req = op ∧ rqValid q.req then f s q.req else s

/-- The op goes on beyond this step. -/
def mailBegun (s : State) (m : Nat) : State :=
  match s.mail m with
  | none => s
  | some q => s.setMail m (some { q with begun := true })

/-- R359 step 4: requests begun before the restart end with 0x0A; the held ones are taken. -/
def mailServe (s : State) : State :=
  (s.cru.mail.map (·.1)).foldl (fun s m =>
    match s.mail m with
    | none => s
    | some q =>
      if q.begun then
        let p := rqPart q.req
        let x := s.partRec p
        (if x.mailbox = some m then s.setPartRec p { x with mailbox := none } else s).mailEnd m 0x0A
      else s.mailFetch m q.req) s

end State
end Sys2Proof.Machine
end

