-- ==== Sys2Proof/Machine/CruCmds.lean ====
section
/-!
DEFINITION. The ops of Crucible (R343 to R357), its watchdog and restart (R358, R359), complex messages (R352) and
the SPDM responder (R339).
-/
namespace Sys2Proof.Machine
open Sys2Proof

/-- R344: the registration block obeys its table, for partition `p`. Log 77 (DEDUCED). -/
def regBlockOk (p : Nat) (b : Bytes) : Bool :=
  b.length == 320 && leAt b 0 2 == p && decide (leAt b 2 1 ≤ 1) && decide (leAt b 3 1 ≤ 15) &&
    leAt b 4 4 % 16 == 0 && decide (4096 ≤ leAt b 4 4) && decide (leAt b 4 4 ≤ 16777216) &&
    leAt b 32 8 % 4096 == 0 && leAt b 40 8 % 4096 == 0 && decide (leAt b 56 8 ≤ 2 ^ 36) &&
    (State.blockSegs b).all (fun d => getFld d.1 ⟨0, 1⟩ == 0 || (segGranules d).2 != 0)

/-- R357: fields of a key blob. -/
def blobKind (b : Bytes) : Nat := leAt b 1 1
def blobSlot (b : Bytes) : Nat := leAt b 4 2

/-- R357: the info of the wrap key. -/
def wrapInfo (p sealTime : Nat) : Bytes :=
  ([0x41, 0x48, 0x4E, 0x2D, 0x4B, 0x45, 0x59, 0x57, 0x52, 0x41, 0x50] : List Byte) ++ leBytes 2 p ++ leBytes 8 sealTime

/-- R357: the 64 key bytes of a version 1 blob of partition `p`. -/
def unwrapBlob (x : PartRec) (p : Nat) (b : Bytes) : Option Bytes :=
  match Config.decapsulate x.kem (slice b 8 1568) with
  | none => none
  | some secret =>
    Crypto.gcmDec (Crypto.hkdf384 x.measurement secret (wrapInfo p x.sealTime) 32) (slice b 1576 12) (slice b 0 8)
      (slice b 1588 64) (slice b 1652 16)

/-- The owner a mailbox gives a slot (R357): kind, and the partition or the function in A. -/
def slotOwner (m : Nat) (r : Bytes) : Nat × Nat := if 16 ≤ m then (1, m - 16) else (2, rqA r % 2048)

namespace State

/-! ### The ops -/

/-- R343: the argument buffer of a request. -/
def mailArg (s : State) (m : Nat) (r host : Bytes) : Option Bytes × State := s.mailRead m (rqArg r) (rqArgLen r) host

/-- R344, R345: REGISTER. -/
def opRegister (s : State) (m : Nat) (r host : Bytes) : State :=
  let p := rqPart r
  if s.fld (CRU_PART p) CRU_PART.STATE ≠ 0 then s.mailEnd m 2
  else if rqArgLen r ≠ 320 then s.mailEnd m 3
  else match s.mailArg m r host with
    | (none, s) => s.mailEnd m 5
    | (some b, s) =>
      if !regBlockOk p b then s.mailEnd m 3
      else
        let s := (s.setPartRec p { block := b }).setPartState p 1
        (s.setFld (CRU_PART p) CRU_PART.SPLIT_OK (leAt b 2 1 % 2)).mailEnd m 0

/-- R347: SEAL, to the end of step 2. A key pair whose two computations differ is not released (R286): the request stays.
Log 77 (DEDUCED). Log 139 (DESIGN CHOICE). -/
def opSeal (s : State) (m : Nat) (r _host : Bytes) : State :=
  let p := rqPart r
  let x := s.partRec p
  if s.fld (CRU_PART p) CRU_PART.STATE ≠ 1 then s.mailEnd m 2
  else if !s.runsFit x.block then s.mailEnd m 4
  else if !imageMapped x.block then s.mailEnd m 5
  else match s.asymCheck with
    | (false, s) => s
    | (true, s) =>
      let s := s.beginSeal p
      (s.setPartRec p { s.partRec p with mailbox := some m }).mailBegun m

/-- R356: the report body, bytes 0 to 255. -/
def reportBody (s : State) (p : Nat) (nonce : Bytes) : Bytes :=
  let x := s.partRec p
  let a := CRU_PART p
  let flags := s.degradedNow.toNat + 2 * s.fld a CRU_PART.ADOPTED + 4 * s.fld a CRU_PART.MEM_LOST + 8 * s.fld a CRU_PART.SPLIT_OK
  leBytes 2 1 ++ leBytes 2 p ++ leBytes 1 (s.fld a CRU_PART.STATE) ++ leBytes 1 s.image.moduleIndex ++
    leBytes 2 (s.fld a CRU_PART.WTAG) ++ leBytes 8 x.sealTime ++ leBytes 4 flags ++
    leBytes 4 s.cru.restartCount ++ padTo 48 x.measurement ++
    Crypto.sha384 (padTo 1568 (Config.kemPublic x.kem)) ++ padTo 32 nonce ++ s.moduleDigest ++ leBytes 8 s.jnl.bootCount ++
    zeros 48

/-- R356: REPORT. Signatures that do not verify are not released (R286): the request stays.
Log 78 (DEDUCED). Log 139 (DESIGN CHOICE). -/
def opReport (s : State) (m : Nat) (r host : Bytes) : State :=
  let p := rqPart r
  if s.fld (CRU_PART p) CRU_PART.STATE < 3 then s.mailEnd m 2
  else if rqArgLen r ≠ 32 then s.mailEnd m 3
  else match s.mailArg m r host with
    | (none, s) => s.mailEnd m 5
    | (some nonce, s) => match s.asymCheck with
      | (false, s) => s
      | (true, s) =>
        let body := s.reportBody p nonce
        let (sigs, s) := s.signBoth body
        s.mailResult m (body ++ sigs ++ padTo 1568 (Config.kemPublic (s.partRec p).kem))

/-- R357, R277, R278: load a slot with an owner through the key-load registers; the error of the commit. -/
def keyLoadSlot (s : State) (owner : Nat × Nat) (b key : Bytes) : Nat × State :=
  let s := s.setReg CKL_SLOT (BitVec.ofNat 64
    (leAt b 2 1 * 2 ^ 48 + owner.1 * 2 ^ 46 + owner.2 * 2 ^ 32 + blobKind b % 16 * 2 ^ 28 + blobSlot b % 8192))
  let s := { s with cip := { s.cip with
    stage := (List.range 8).foldl (fun (t : Tbl W64) k => t.set 0 k (BitVec.ofNat 64 (leAt key (8 * k) 8))) [] } }
  let s := s.cklCommit 1
  (s.fld CKL_COMMIT CKL_COMMIT.ERR, s)

/-- The slot is another owner's and not empty (R342, 0x08). -/
def slotForeign (s : State) (slot : Nat) (owner : Nat × Nat) : Bool :=
  s.fld (CIP_SLOT slot) CIP_SLOT.KIND != 0 &&
    !(s.fld (CIP_SLOT slot) CIP_SLOT.OWNER_KIND == owner.1 && s.fld (CIP_SLOT slot) CIP_SLOT.OWNER == owner.2)

/-- The check of R286 where the asymmetric unit serves. -/
def asymCheckIf (s : State) (b : Bool) : Bool × State := if b then s.asymCheck else (true, s)

/-- R357: KEY_LOAD. A partition slot takes version 1 only, a function slot version 2. A decapsulation whose two
computations differ is not released (R286): the request stays. Log 139 (DESIGN CHOICE). -/
def opKeyLoad (s : State) (m : Nat) (r host : Bytes) : State :=
  let owner := slotOwner m r
  let part := owner.1 == 1
  if rqArgLen r ≠ (if part then 1668 else 72) ∨ (!part ∧ 1024 < owner.2) then s.mailEnd m 3
  else match s.mailArg m r host with
    | (none, s) => s.mailEnd m 5
    | (some b, s) =>
      if leAt b 0 1 ≠ (if part then 1 else 2) ∨ 8192 ≤ blobSlot b ∨ 16 ≤ blobKind b then s.mailEnd m 3
      else if s.slotForeign (blobSlot b) owner then s.mailEnd m 8
      else match s.asymCheckIf part with
        | (false, s) => s
        | (true, s) => match (if part then unwrapBlob (s.partRec owner.2) owner.2 b else some (slice b 8 64)) with
          | none => s.mailEnd m 6
          | some key =>
            match s.keyLoadSlot owner b key with
            | (0, s) => s.mailEnd m 0
            | (4, s) => s.mailEnd m 7
            | (_, s) => s.mailEnd m 3

/-- R343, R278: KEY_CLEAR of the slot in A bits 12:0. Mailboxes 0 and 1 clear slots of functions.
Log 78 (DEDUCED). -/
def opKeyClear (s : State) (m : Nat) (r _host : Bytes) : State :=
  let slot := rqA r % 8192
  let a := CIP_SLOT slot
  let mine := if 16 ≤ m then s.fld a CIP_SLOT.OWNER_KIND == 1 && s.fld a CIP_SLOT.OWNER == m - 16
    else s.fld a CIP_SLOT.OWNER_KIND == 2
  if s.fld a CIP_SLOT.KIND = 0 then s.mailEnd m 3
  else if !mine then s.mailEnd m 8
  else ((s.setFld CKL_SLOT CKL_SLOT.SLOT slot).cklCommit 2).mailEnd m 0

/-- R343: RESUME. -/
def opResume (s : State) (m : Nat) (r _host : Bytes) : State :=
  let p := rqPart r
  if s.fld (CRU_PART p) CRU_PART.STATE = 3 then (s.setPartState p 4).mailEnd m 0 else s.mailEnd m 2

/-- R343: STOP. Its units follow under R130. -/
def opStop (s : State) (m : Nat) (r _host : Bytes) : State :=
  let p := rqPart r
  let st := s.fld (CRU_PART p) CRU_PART.STATE
  if st = 3 ∨ st = 4 then (s.setPartState p 5).mailEnd m 0 else s.mailEnd m 2

/-- R351: RELEASE, to the end of step 3. Log 78 (DEDUCED). -/
def opRelease (s : State) (m : Nat) (r _host : Bytes) : State :=
  let p := rqPart r
  match s.fld (CRU_PART p) CRU_PART.STATE with
  | 1 => (s.dropRecord p).mailEnd m 0
  | 5 | 7 =>
    let s := (s.setPartState p 6).releaseHolds p
    (s.setPartRec p { s.partRec p with step := 4, mailbox := some m }).mailBegun m
  | _ => s.mailEnd m 2

/-- R351 steps 4 to 6: cleaning ends. -/
def finishRelease (s : State) (p : Nat) : State :=
  let x := s.partRec p
  let s := (s.cleanRanges x.block).dropRecord p
  match x.mailbox with
  | some m => s.mailEnd m 0
  | none => s

/-- R352: STANDBY: the origin's Crucible is asked, within the secured session. Log 78 (DEDUCED). -/
def opStandby (s : State) (m : Nat) (r host : Bytes) : State :=
  let p := rqPart r
  let k := rqA r % 8
  let q := s.partner k
  if s.fld (CRU_PART p) CRU_PART.STATE ≠ 0 then s.mailEnd m 2
  else if rqArgLen r ≠ 320 then s.mailEnd m 3
  else match s.mailArg m r host with
    | (none, s) => s.mailEnd m 5
    | (some b, s) =>
      if !regBlockOk p b then s.mailEnd m 3
      else if !s.runsFit b then s.mailEnd m 4
      else if !q.present ∨ q.clash then s.mailEnd m 0x0B
      else
        let s := s.setPartRec p { block := b, origin := k, mailbox := some m }
        (s.askOrigin k p).mailBegun m

/-- R313, R357: SECRET_SET: the association secret in A bits 11:0 is the first 32 key bytes. -/
def opSecretSet (s : State) (m : Nat) (r host : Bytes) : State :=
  if rqArgLen r ≠ 72 then s.mailEnd m 3
  else match s.mailArg m r host with
    | (none, s) => s.mailEnd m 5
    | (some b, s) =>
      let a := rqA r % 4096
      if leAt b 0 1 ≠ 2 ∨ blobSlot b ≠ 0 then s.mailEnd m 3
      else
        let s := s.setAssoc a { s.assoc a with secret := some (slice b 8 32) }
        ((s.setBit (SRX_ASSOC_STATUS a) SRX_ASSOC_STATUS.SECRET).startEstablish a).mailEnd m 0

/-- R343, R367: METER_GET. Log 78 (DEDUCED). -/
def opMeterGet (s : State) (m : Nat) (r _host : Bytes) : State :=
  let i := rqA r % 4096
  if 16 ≤ m ∧ i ≠ m - 16 then s.mailEnd m 1
  else match s.cru.batches[rqA r / 2 ^ 16 % 64]? with
    | none => s.mailEnd m 3
    | some b =>
      let e := b.entries.get [] i
      if e = [] then s.mailEnd m 3
      else s.mailResult m (b.header ++ b.signatures ++ e ++ batchProof b.entries i)

/-! ### Complex messages -/

/-- R352: the Hallmark that the Crucible of partner `k` shows: where it holds, the session stands, and the standby
registrations that wait for it are asked for; where it does not, they are refused. Log 145 (DESIGN CHOICE). -/
def helloArrives (s : State) (k : Nat) (proof : Bytes) (answer : Bool) : State :=
  let waiting := s.waitingStandbys.filter (fun e => e.2.origin == k)
  if Config.hallmarkHolds k proof then
    let s := s.setPartner k { s.partner k with session := true }
    let s := if answer then s else s.sayHello k true
    waiting.foldl (fun s e => s.askOrigin k e.1) s
  else
    let s := s.setPartner k { s.partner k with session := false }
    waiting.foldl (fun s e =>
      let s := { s with cru := { s.cru with parts := s.cru.parts.del e.1 } }
      match e.2.mailbox with
      | some m => s.mailEnd m 0x0B
      | none => s) s

/-- R352: a message from the Crucible of partner `k`. A registration is asked for, accepted and refused within the
secured session only. Log 34 (DEDUCED). Log 145 (DESIGN CHOICE). -/
def complexMessage (s : State) (k : Nat) (msg : ComplexMsg) : State :=
  let secured := (s.partner k).session
  match msg with
  | .hello proof answer => s.helloArrives k proof answer
  | .standby part =>
    let p := part.val
    let st := s.fld (CRU_PART p) CRU_PART.STATE
    if !secured then s
    else if st = 3 ∨ st = 4 then
      let x := s.partRec p
      let q := s.partner k
      let s := s.setPartner k { q with standby := (p :: q.standby).eraseDups }
      s.emit (.complex k (.accepted part x.measurement x.xts x.kem x.sealTime))
    else s.emit (.complex k (.refused part))
  | .refused part =>
    let p := part.val
    let x := s.partRec p
    match x.mailbox with
    | some m =>
      if secured ∧ s.fld (CRU_PART p) CRU_PART.STATE = 0 ∧ x.origin = k then
        ({ s with cru := { s.cru with parts := s.cru.parts.del p } }).mailEnd m 0x0B
      else s
    | none => s
  | .accepted part measurement xts kem sealTime =>
    let p := part.val
    let x := s.partRec p
    if secured ∧ s.fld (CRU_PART p) CRU_PART.STATE = 0 ∧ x.block ≠ [] ∧ x.origin = k then
      if !s.runsFit x.block then
        let s := { s with cru := { s.cru with parts := s.cru.parts.del p } }
        match x.mailbox with
        | some m => s.mailEnd m 4
        | none => s
      else
        let s := s.setPartRec p { x with
          measurement := measurement, xts := xts, kem := kem, sealTime := sealTime, mailbox := none }
        let s := (s.takeRegions p).cleanRanges x.block
        let s := (s.setPartState p 7).setFld (CRU_PART p) CRU_PART.SPLIT_OK (leAt x.block 2 1 % 2)
        match x.mailbox with
        | some m => s.mailEnd m 0
        | none => s
    else s
  | .check part =>
    s.emit (.complex k (.checked part
      (s.fld (CRU_PART part.val) CRU_PART.STATE == 7 && (s.partRec part.val).origin == k)))
  | .checked part holds =>
    let q := s.partner k
    let rest := q.standby.filter (· != part.val)
    s.setPartner k { q with standby := if holds then part.val :: rest else rest }

/-! ### Watchdog and restart -/

/-- R359 steps 2 to 4: Crucible returns to service, or its firmware measures wrong and it stays failed. Drains
that waited for it get their lease (R362). -/
def crucibleBack (s : State) (ok : Bool) : State :=
  if s.fld CRU_STATUS CRU_STATUS.STATE ≠ 2 then s
  else if !ok then s.setFld CRU_STATUS CRU_STATUS.STATE 3
  else
    let s := (s.setFld CRU_STATUS CRU_STATUS.STATE 1).setBit CRU_EVENT CRU_EVENT.RESTARTED
    let s := { s with cru := { s.cru with restartCount := s.cru.restartCount + 1 } }
    let s := (s.bump CRU_RESTARTS CRU_RESTARTS.COUNT).mailServe
    { s with pwr := { s.pwr with doms := s.pwr.doms.map (fun (d : Nat × DomState) =>
        if d.2.leaseWaits then (d.1, { d.2 with leaseWaits := false, leaseEnd := some (s.tb + ms 2) }) else d) } }

/-! ### SPDM -/

/-- An SPDM ERROR message: code 0x03 Busy, 0x05 UnspecifiedError, 0x0A SessionLimitExceeded (log 32). -/
def spdmError (code : Nat) : Bytes := [0x12, 0x7F, BitVec.ofNat 8 code, 0]

/-- The answer leaves through the DOE mailbox, or through a management interface (R422). Log 32 (PRESUMED). -/
def spdmReply (s : State) (iface : Option (Fin 4)) (d : Bytes) : State :=
  match iface with
  | none => s.emit (.doe d)
  | some i => s.emit (.mctp i.val d)

/-- Length of the data that a message carries in its object. -/
def spdmSize : SpdmOp → Nat
  | .request d => d.length
  | .ideKey _ _ keys => keys.flatten.length
  | _ => 0

def ideStream (s : State) (n : Nat) : IdeStream := s.hep.ide.get {} n
/-- R74, R75: a stream takes new settings; the loss of a secure one takes the TDIs bound to it into ERROR. -/
def setIde (s : State) (n : Nat) (x : IdeStream) : State :=
  let old := s.ideStream n
  let s := { s with hep := { s.hep with ide := s.hep.ide.set {} n x } }
  let s := if n = 0 then s.setBit HEP_LINK_STATUS HEP_LINK_STATUS.LINK_IDE x.secure else s
  if old.secure && !x.secure then s.unbind n else s

/-- R286, R339: a message that the responder answers with a signature: CHALLENGE, KEY_EXCHANGE, or GET_MEASUREMENTS that
asks for one. Log 32 (PRESUMED). -/
def spdmSigns : SpdmOp → Bool
  | .request d => (d.getD 1 0 == 0x83) || (d.getD 1 0 == 0xE4) || (d.getD 1 0 == 0xE0 && (d.getD 2 0).toNat % 2 == 1)
  | .openSession => true
  | _ => false

/-- R74, R338, R339, R359: a message reaches the responder; the DOE mailbox takes objects of up to 64 KiB.
Log 32 (PRESUMED). -/
def spdm (s : State) (iface : Option (Fin 4)) (op : SpdmOp) : State :=
  let st := s.fld CRU_STATUS CRU_STATUS.STATE
  let reply := fun (s : State) (d : Bytes) => s.spdmReply iface (s.spdmAnswer d)
  let secured := s.hep.spdmSessions != []
  if iface.isNone ∧ 65536 < spdmSize op then s
  else if s.cru.identityBad then s.spdmReply iface (spdmError 5)
  else if st = 2 then s.spdmReply iface (spdmError 3)
  else if st ≠ 1 then s
  else match s.asymCheckIf (spdmSigns op && (op != .openSession || decide (s.hep.spdmSessions.length < 4))) with
  | (false, s) => s.spdmReply iface (spdmError 5)
  | (true, s) => match op with
    | .request d => reply s d
    | .openSession =>
      if 4 ≤ s.hep.spdmSessions.length then s.spdmReply iface (spdmError 0x0A)
      else
        let n := ((List.range 4).find? (fun n => !s.hep.spdmSessions.contains n)).getD 0
        reply { s with hep := { s.hep with spdmSessions := s.hep.spdmSessions ++ [n] } } (leBytes 1 n)
    | .endSession n => reply { s with hep := { s.hep with spdmSessions := s.hep.spdmSessions.erase n } } (leBytes 1 n)
    | .ideKey stream set keys =>
      if !secured then s.spdmReply iface (spdmError 5)
      else
        let x := s.ideStream stream.val
        let two := [x.keys.take 1, x.keys.drop 1]
        let two := two.set set.val [keys.flatten]
        let flat := two.map (fun k => k.headD [])
        reply (s.setIde stream.val { x with keys := flat }) (leBytes 1 stream.val)
    | .ideGo stream set =>
      if !secured ∨ ((s.ideStream stream.val).keys.getD set.val []) = [] then s.spdmReply iface (spdmError 5)
      else reply (s.setIde stream.val { s.ideStream stream.val with secure := true, keySet := set.val })
        (leBytes 1 stream.val)
    | .ideStop stream =>
      if !secured then s.spdmReply iface (spdmError 5)
      else reply (s.setIde stream.val { blocks := (s.ideStream stream.val).blocks }) (leBytes 1 stream.val)

end State

/-! ### The commands -/

/-- R340: GO on mailbox `m` by writer `w`; `block` is what host memory holds at the address of mailbox 0.
Log 29 (DEDUCED). -/
def execMailboxGo (m : Fin 1040) (w : Writer) (block : Bytes) (s : State) : Host.Outcome State Fault Refusal :=
  onLive s fun s => if w = .host ∧ s.hep.pfFlr.isSome then s else s.mailGo m.val w block

/-- R343: each op row is Crucible beginning the request that mailbox `m` holds; `host` is what host memory holds at
the argument of mailbox 0. -/
def execGetChain (m : Fin 1040) (_host : Bytes) (s : State) : Host.Outcome State Fault Refusal :=
  onLive s fun s => s.mailOp m.val 0x01 fun s r => s.mailResult m.val (Config.hallmarkChain (rqA r % 2))

/-- R344. -/
def execRegister (m : Fin 1040) (host : Bytes) (s : State) : Host.Outcome State Fault Refusal :=
  onLive s fun s => s.mailOp m.val 0x02 fun s r => s.opRegister m.val r host

/-- R347. -/
def execSeal (m : Fin 1040) (host : Bytes) (s : State) : Host.Outcome State Fault Refusal :=
  onLive s fun s => s.mailOp m.val 0x03 fun s r => s.opSeal m.val r host

/-- R347 step 6, R345. -/
def execSealingComplete (p : Fin 1024) (s : State) : Host.Outcome State Fault Refusal :=
  onLive s fun s =>
    if s.fld (CRU_PART p.val) CRU_PART.STATE = 2 ∧ s.fld CRU_STATUS CRU_STATUS.STATE = 1 then
      let m := (s.partRec p.val).mailbox
      let s := s.finishSeal p.val
      match m with
      | some m => s.mailEnd m 0
      | none => s
    else s

/-- R356. -/
def execReport (m : Fin 1040) (host : Bytes) (s : State) : Host.Outcome State Fault Refusal :=
  onLive s fun s => s.mailOp m.val 0x04 fun s r => s.opReport m.val r host

/-- R357. -/
def execKeyLoad (m : Fin 1040) (host : Bytes) (s : State) : Host.Outcome State Fault Refusal :=
  onLive s fun s => s.mailOp m.val 0x05 fun s r => s.opKeyLoad m.val r host

/-- R343. -/
def execKeyClear (m : Fin 1040) (host : Bytes) (s : State) : Host.Outcome State Fault Refusal :=
  onLive s fun s => s.mailOp m.val 0x06 fun s r => s.opKeyClear m.val r host

/-- R343. -/
def execResume (m : Fin 1040) (host : Bytes) (s : State) : Host.Outcome State Fault Refusal :=
  onLive s fun s => s.mailOp m.val 0x07 fun s r => s.opResume m.val r host

/-- R343. -/
def execStop (m : Fin 1040) (host : Bytes) (s : State) : Host.Outcome State Fault Refusal :=
  onLive s fun s => s.mailOp m.val 0x08 fun s r => s.opStop m.val r host

/-- R351. -/
def execRelease (m : Fin 1040) (host : Bytes) (s : State) : Host.Outcome State Fault Refusal :=
  onLive s fun s => s.mailOp m.val 0x09 fun s r => s.opRelease m.val r host

/-- R351, R345: after a module reset the cleaning goes on once the module is ready. -/
def execReleaseCleaningComplete (p : Fin 1024) (s : State) : Host.Outcome State Fault Refusal :=
  onLive s fun s =>
    if s.fld (CRU_PART p.val) CRU_PART.STATE = 6 ∧ s.fld CRU_STATUS CRU_STATUS.STATE = 1 ∧ s.isReady then
      s.finishRelease p.val else s

/-- R352. -/
def execStandby (m : Fin 1040) (host : Bytes) (s : State) : Host.Outcome State Fault Refusal :=
  onLive s fun s => s.mailOp m.val 0x0A fun s r => s.opStandby m.val r host

/-- R343. -/
def execSecretSet (m : Fin 1040) (host : Bytes) (s : State) : Host.Outcome State Fault Refusal :=
  onLive s fun s => s.mailOp m.val 0x0B fun s r => s.opSecretSet m.val r host

/-- R343. -/
def execMeterGet (m : Fin 1040) (host : Bytes) (s : State) : Host.Outcome State Fault Refusal :=
  onLive s fun s => s.mailOp m.val 0x0C fun s r => s.opMeterGet m.val r host

/-- R352. Log 34 (DEDUCED). -/
def execComplexMessage (partner : Fin 8) (msg : ComplexMsg) (s : State) : Host.Outcome State Fault Refusal :=
  onSeam s fun s => if s.fld CRU_STATUS CRU_STATUS.STATE = 1 then s.complexMessage partner.val msg else s

/-- R336: a write to `CRU_WDOG`. Log 80 (DEDUCED). -/
def execCruWdog (s : State) : Host.Outcome State Fault Refusal :=
  onLive s fun s =>
    if s.fld CRU_STATUS CRU_STATUS.STATE ≤ 1 then { s with cru := { s.cru with wdogAt := some (s.tb + ms 50) } } else s

/-- R358: the watchdog expires, or Crucible's pair mismatches and a retry does not end it. Log 80 (DEDUCED). -/
def execCrucibleWatchdogExpiry (mismatch : Bool) (s : State) : Host.Outcome State Fault Refusal :=
  onLive s fun s =>
    if mismatch then s.crucibleRestart causeNone
    else if due s s.cru.wdogAt then (s.setBit CRU_EVENT CRU_EVENT.WATCHDOG).crucibleRestart 1
    else s

/-- R359: `ok` says whether the firmware measured as index 2 of R339 has it. Log 80 (DEDUCED). -/
def execCrucibleRestartComplete (ok : Bool) (s : State) : Host.Outcome State Fault Refusal :=
  onLive s fun s => s.crucibleBack ok

/-- R338: a module that its identity has halted still answers the SPDM responder's requests. -/
def identityHalted (s : State) : Bool := s.phase == .halted 4 && s.cru.identityBad

/-- R339, R74: `iface` is the management interface a message came through, none for the DOE mailbox, which a
function-level reset of the PF holds (R456). A module halted by its identity answers each with an ERROR (R338). -/
def execSpdmRequest (iface : Option (Fin 4)) (op : SpdmOp) (s : State) : Host.Outcome State Fault Refusal :=
  if identityHalted s then .next (s.spdm iface op)
  else onLive s fun s => if iface.isNone ∧ s.hep.pfFlr.isSome then s else s.spdm iface op

end Sys2Proof.Machine
end

