-- ==== Sys2Proof/Machine/RingCmds.lean ====
section
/-!
DEFINITION. Commands on rings other than admin commands: wakes and polls (R88, R89), posting (R100), ring setup
(R103), the end of a drain (R105) and the register path of `RESYNC` (R107).
-/
namespace Sys2Proof.Machine
open Sys2Proof

namespace State

/-- R63, R64, R67, R75: the completion of a read of `n` bytes at `off` of BAR0 (`bar` 0) or BAR2 (`bar` 1), where `b` is
what stands there: Unsupported Request out of range, in a function-level reset and where the TDI state refuses it. -/
def readBar (s : State) (f bar : Nat) (tee : Bool) (top off n : Nat) (b : Bytes) : State :=
  let served := s.fnPresent f && !s.inDrain f && decide (off + n ≤ top) &&
    (f == 0 || bar == 1 || (match s.tdi f with
      | 0 => !tee
      | 1 => true
      | 2 => tee
      | _ => false))
  let send := fun (s : State) (o : Output) => match s.tdi f, (s.fn f).stream with
    | 2, some st => s.emitTlp f (if tee then .over st true o else o)
    | _, _ => s.emitTlp f o
  if served ∧ b ≠ [] then (payloadsOf off b).foldl (fun s p => send s (.cpl f 0 p.2)) s
  else send s (.cpl f (if served then 0 else 1) [])

/-- Writes to a function's own BAR0 are served: the function is there and in no reset, and its TDI state lets
the request in (R67, R75). -/
def pageOpen (s : State) (f : Nat) (tee : Bool) : Bool :=
  s.isReady && s.fnPresent f && s.fnState f != 2 && s.hep.pfFlr.isNone &&
    (f == 0 || (match s.tdi f with
      | 0 => !tee
      | 2 => tee
      | _ => false))

/-- R90: a count that an 8-byte wake carries is older than the tail already read. Log 100 (DEDUCED). -/
def olderTail (x : Ring) (size t : Nat) : Bool :=
  decide (size < (t + 2 ^ 32 - x.accepted) % 2 ^ 32) && decide ((x.tail + 2 ^ 32 - t) % 2 ^ 32 < 2 ^ 31)

/-- R88, R90: serve a wake of function `f`: the whole Doorbell Area, or one word with its count, of which the later one
is kept. Log 100 (DEDUCED). -/
def wake (s : State) (f : Nat) (w : BarWrite) : State :=
  let s := s.restartPoll f
  let target := getFld w.value ⟨32, 8⟩
  let count := getFld w.value ⟨0, 32⟩
  let all := fun (s : State) => ((s.enabledSqs f).foldl (fun s r => s.wakeRing f r) s).readDoorbell f false
  let sq := fun (s : State) (r : Nat) =>
    if s.sqEnabled f r then
      let s := s.wakeRing f r
      let s := if olderTail (s.ring (ringOf f r)) (s.sqSize f r) count then s else s.newTail f r count false
      s.driveRing f r
    else s
  if w.size = 4 then all s
  else if target < 16 then sq s target
  else if target = 16 then sq s 16
  else if 0x20 ≤ target ∧ target < 0x30 then s.newHead f (target - 0x20) count
  else if target = 0x30 then s.newHead f 16 count
  else all s

/-- R60, R62, R88: a write to a wake page, in a VF's own BAR0 or at its alias in BAR2; the PF has its own page in BAR2
alone. In BAR2 the offset counts from the function's page, and beyond page 1,024 all is reserved. A frozen endpoint
discards a write (R71); a function that is not running and enabled ignores it (R59, R65). The alias takes a write with or
without the T bit. Log 107 (DEDUCED). -/
def wakePage (s : State) (f : Nat) (bar2 : Bool) (w : BarWrite) : State :=
  let off := if bar2 then f * 0x1000 + w.offset else w.offset
  let page := if bar2 then off / 0x1000 else f
  if !s.isReady ∨ (f = 0 ∧ !bar2) then s
  else if bar2 ∧ page ≤ 1024 ∧ !s.fnPresent page then s.mmioDiscard 0 1 off
  else if !barWriteOk w then s.mmioDiscard (if bar2 then 0 else f) bar2.toNat off
  else if s.bit HEP_FREEZE HEP_FREEZE.FROZEN then s
  else if !bar2 ∧ !s.pageOpen f w.tee then s
  else if 1024 < page ∨ off % 0x1000 ≠ 0 ∨ !s.fnActive page then s
  else s.wake page w

end State

/-- R88, R62: a write to a wake page, or a read of one, which returns zero. Log 39 (DEDUCED). -/
def execWakePageWrite (f : Fin 1025) (bar2 : Bool) (w : BarWrite) (s : State) : Host.Outcome State Fault Refusal :=
  if w.read then
    onServed s (if bar2 then 0 else f.val) (.cpl (if bar2 then 0 else f.val) 1 []) fun s =>
      if !s.isReady ∨ (f.val = 0 ∧ !bar2) then s
      else if bar2 then s.readBar 0 1 false (2 ^ 23) (f.val * 0x1000 + w.offset) w.size (zeros w.size)
      else s.readBar f.val 0 w.tee s.vfBarSize w.offset w.size (zeros w.size)
  else onLive s fun s => s.wakePage f.val bar2 w

/-- R89: the poll interval of a function expires. A function whose submission rings all sleep is polled no
more. -/
def execPollIntervalExpiry (f : Fin 1025) (s : State) : Host.Outcome State Fault Refusal :=
  onLive s fun s =>
    let f := f.val
    let x := s.fn f
    if !due s x.pollAt then s
    else if (s.enabledSqs f).all (fun r => (s.ring (ringOf f r)).sleeping) then s.setFn f { x with pollAt := none }
    else (s.readDoorbell f true).restartPoll f

/-- R100: post what completion ring `c` of function `f` can take. -/
def execCompletionPost (f : Fin 1025) (c : Fin 17) (s : State) : Host.Outcome State Fault Refusal :=
  onLive s fun s => s.postCq f.val c.val

/-- R100, R67: COAL_US has passed since the first entry not yet signalled. A function in drain sends no message. Log 56 (DEDUCED). -/
def execCoalescingTimer (f : Fin 1025) (c : Fin 17) (s : State) : Host.Outcome State Fault Refusal :=
  onLive s fun s =>
    let ck := ringOf f.val c.val
    let q := s.cq ck
    let cfg := s.reg (RING_CQ_CFG f.val c.val)
    let t := getFld cfg RING_CQ_CFG.COAL_US
    if !s.inDrain f.val ∧ t ≠ 0 ∧ 0 < q.unsignalled ∧ due s (q.coalAt.map (· + us t)) then
      (s.setCq ck { q with unsignalled := 0, coalAt := none }).sendVector f.val (getFld cfg RING_CQ_CFG.VECTOR)
    else s

/-- R103: `RING_SQn_CFG` is written with EN 1. -/
def execRingSqEnable (f : Fin 1025) (r : Fin 17) (v : BitVec 32) (s : State) : Host.Outcome State Fault Refusal :=
  onLive s fun s => if s.pageOpen f.val (s.tdi f.val == 2) then s.sqEnable f.val r.val (v.setWidth 64) else s

/-- R103: `RING_SQn_CFG` is written with EN 0. -/
def execRingSqDisable (f : Fin 1025) (r : Fin 17) (s : State) : Host.Outcome State Fault Refusal :=
  onLive s fun s => if s.pageOpen f.val (s.tdi f.val == 2) then s.sqDisable f.val r.val else s

/-- R103: `RING_CQn_CFG` is written. -/
def execRingCqCfgWrite (f : Fin 1025) (c : Fin 17) (v : BitVec 32) (s : State) : Host.Outcome State Fault Refusal :=
  onLive s fun s => if s.pageOpen f.val (s.tdi f.val == 2) then s.cqCfgWrite f.val c.val (v.setWidth 64) else s

/-- R107: GO is written to `RING_RESYNC_CTL`. -/
def execResyncGo (f : Fin 1025) (v : BitVec 32) (s : State) : Host.Outcome State Fault Refusal :=
  onLive s fun s => if s.pageOpen f.val (s.tdi f.val == 2) then s.resyncGo f.val (v.setWidth 64) else s

/-- R105, R106: every accepted unit of a draining ring is posted. -/
def execDrainComplete (f : Fin 1025) (r : Fin 17) (s : State) : Host.Outcome State Fault Refusal :=
  onLive s fun s => s.drainDone f.val r.val

end Sys2Proof.Machine
end

