-- ==== Sys2Proof/Machine/HepCmds.lean ====
section
/-!
DEFINITION. Commands of the endpoint: configuration requests, resets, completions, freeze and release, address
translation invalidations, TDI requests and peer windows (chapter 3).
-/
namespace Sys2Proof.Machine
open Sys2Proof

/-- R54: an AtomicOp at any BAR. -/
def execAtomicOpTlp (f : Fin 1025) (s : State) : Host.Outcome State Fault Refusal :=
  onServed s f.val (.cpl f.val 1 []) fun s => s.emitTlp f.val (.cpl f.val 1 [])

namespace State

/-- R60: size of a BAR of the PF and its low bits, by the register of its low half: 64-bit, and BAR4 prefetchable. -/
def pfBar : Nat → Option (Nat × Nat)
  | 0x10 => some (2 ^ 26, 4)
  | 0x18 => some (2 ^ 23, 4)
  | 0x20 => some (2 ^ 44, 12)
  | _ => none

/-- R60: what a half of a 64-bit memory BAR of `size` bytes reads where `v` was written to it. -/
def barHalf (size low v : Nat) (high : Bool) : Nat :=
  if high then v / (max size (2 ^ 32) / 2 ^ 32) * (max size (2 ^ 32) / 2 ^ 32)
  else v / min size (2 ^ 32) * min size (2 ^ 32) + low

/-- R54, R56, R57, R61, R66: a configuration field of function `f`: sizes in bytes, times in milliseconds, and whether a
capability is there as 0 or 1. A field of a capability that a VF lacks reads 0. Log 106 (DEDUCED). -/
def cfgField (s : State) (f : Nat) (x : CfgField) : Nat :=
  let c := s.fn f
  let pf := fun (n : Nat) => if f = 0 then n else 0
  match x with
  | .vendorId => if f = 0 then 0x1F3D else 0xFFFF
  | .deviceId => if f = 0 then 0xD800 else 0xFFFF
  | .classCode => 0x120000
  | .revisionId => Config.revision
  | .interruptPin => 0
  | .msixTableSize => msixVectors f
  | .msixTable => if f = 0 then 0x8000 else 0x2000
  | .msixPba => if f = 0 then 0x9000 else 0x3000
  | .msixEnable => c.msixEn.toNat
  | .msixMask => c.msixMask.toNat
  | .noSoftReset => 1
  | .powerState => if c.d3 then 3 else 0
  | .busMaster => c.bme.toNat
  | .ariHierarchy => pf s.hep.ari.toNat
  | .totalVfs => pf 1024
  | .firstVfOffset => pf 1
  | .vfStride => pf 1
  | .vfDeviceId => pf 0xD801
  | .numVfs => pf s.hep.numVfs
  | .vfEnable => pf s.hep.vfEnable.toNat
  | .systemPageSize => pf s.hep.pageSize
  | .vfBar high => pf (barHalf s.vfBarSize 4 (if high then s.hep.vfBar.2 else s.hep.vfBar.1) high)
  | .atsQueueDepth => 32
  | .atsPageAligned => 1
  | .atsEnable => c.ats.toNat
  | .doeDiscovery => pf 1
  | .doeSpdm => pf 1
  | .doeSecuredSpdm => pf 1
  | .ideLinkStreams => pf 1
  | .ideSelectiveStreams => pf 8
  | .ideBlocks => pf 4
  | .resetTimeMs => pf 20
  | .dlUpTimeMs => 0
  | .flrTimeMs => pf 100
  | .d3ToD0TimeMs => pf 10
  | .vfEnableTimeMs => pf 10
  | .maxPayload => 512
  | .maxReadRequest => 4096
  | .tagBits => if s.bit HEP_LINK_STATUS HEP_LINK_STATUS.FLIT then 14 else 10
  | .aerStatus e => (c.aer.contains (freezeCode e)).toNat
  | .ecrcCapable => 1
  | .ecrcGenerate => c.ecrcGen.toNat
  | .ecrcCheck => c.ecrcCheck.toNat
  | .ari => 1
  | .dataLinkFeature => pf 1
  | .physicalLayer g => pf (decide (4 ≤ g.val)).toNat

/-- R56, R60, R2: a read of a configuration register. What the manual does not give reads as last written, or as a
free value; a Base Address Register that nothing has written holds address 0. Log 42 (DEDUCED). Log 106 (DEDUCED). -/
def cfgRead (s : State) (f reg : Nat) : Nat × State :=
  let was := ((s.fn f).cfg.find? (fun e => e.1 == reg)).map (·.2)
  if reg = 0 then (s.cfgField f .deviceId * 2 ^ 16 + s.cfgField f .vendorId, s)
  else if reg = 8 then (0x12000000 + Config.revision, s)
  else if 0x10 ≤ reg ∧ reg < 0x28 ∧ reg % 4 = 0 then
    match pfBar (reg / 8 * 8) with
    | some (size, low) => (if f = 0 then barHalf size low (was.getD 0) (reg % 8 == 4) else 0, s)
    | none => (0, s)
  else
    let (v, s) := match was with
      | some v => (v, s)
      | none => let (w, s) := s.freeWord; (w.toNat % 2 ^ 32, s)
    if reg = 4 then (v - v / 4 % 2 * 4 + (s.fn f).bme.toNat * 4, s)
    else if reg = 0x3C then (v - v / 256 % 256 * 256, s)
    else (v, s)

/-- R59: D3hot and the return to D0. -/
def setPower (s : State) (f : Nat) (d3 : Bool) : State :=
  let x := s.fn f
  if x.d3 = d3 then s
  else if d3 then (s.setFn f { x with d3 := true, d3Back := s.fnState f }).setFnState f 4
  else ((s.setFn f { x with d3 := false }).setFnState f x.d3Back).resumeFn f

/-- R65: Bus Master Enable of a function is written. A disabled function becomes running; one that stands in D3hot does so
on its return to D0. -/
def setBme (s : State) (f : Nat) (on : Bool) : State :=
  let x := s.fn f
  let s := s.setFn f { x with bme := on, d3Back := if on ∧ x.d3 ∧ x.d3Back = 0 then 1 else x.d3Back }
  let s := if on ∧ s.fnState f = 0 then s.setFnState f 1 else s
  if on then s.resumeFn f else s

/-- The effect of a configuration write, and the value a read returns. NumVFs and System Page Size keep their value while
VF Enable is set. Log 106 (DEDUCED). -/
def cfgOp (s : State) (f : Nat) (op : CfgOp) : Nat × State :=
  let x := s.fn f
  match op with
  | .read reg => s.cfgRead f reg
  | .readField y => (s.cfgField f y, s)
  | .write reg v =>
    let s := s.setFn f { x with cfg := Tbl.ins x.cfg reg v.toNat }
    (0, if reg = 4 ∧ v.getLsbD 2 ≠ x.bme then s.setBme f (v.getLsbD 2) else s)
  | .bar reg v => (0, (s.setFn f { x with cfg := Tbl.ins x.cfg reg v.toNat }).tdiError f)
  | .msix e m => (0, ((s.setFn f { x with msixEn := e, msixMask := m }).tdiError f).flushPba f)
  | .ats e => (0, (s.setFn f { x with ats := e }).tdiError f)
  | .power d => (0, s.setPower f d)
  | .aerClear c => (0, s.setFn f { x with aer := x.aer.filter (· != freezeCode c) })
  | .ariHierarchy on => (0, if f = 0 then { s with hep := { s.hep with ari := on } } else s)
  | .numVfs n => (0, if f = 0 ∧ !s.hep.vfEnable then { s with hep := { s.hep with numVfs := n.val } } else s)
  | .pageSize n => (0, if f = 0 ∧ !s.hep.vfEnable then { s with hep := { s.hep with pageSize := 4096 * 2 ^ n.val } } else s)
  | .vfBar high v =>
    (0, if f = 0 then
      (s.presentFns.drop 1).foldl tdiError { s with hep := { s.hep with
        vfBar := if high then (s.hep.vfBar.1, v.toNat) else (v.toNat, s.hep.vfBar.2) } }
    else s)
  | .ecrc g c => (0, s.setFn f { x with ecrcGen := g, ecrcCheck := c })
  | .cplTimeout n => (0, if f = 0 then { s with hep := { s.hep with cplTimeout := some n } } else s)
  | .ideBlock st n a b =>
    let y := s.hep.ide.get {} (st.val + 1)
    (0, if f = 0 then
      { s with hep := { s.hep with ide := s.hep.ide.set {} (st.val + 1) { y with blocks := Tbl.ins y.blocks n.val (a, b) } } }
    else s)

end State

/-- R437, R67, R57: a configuration request: Request Retry Status until ready and during a function-level
reset, Unsupported Request for a function that is not there. None arrives before the end of link training (R66). -/
def execConfigRequest (f : Fin 1025) (op : CfgOp) (s : State) : Host.Outcome State Fault Refusal :=
  onServed s f.val (.cfgCpl f.val 1 0) fun s =>
    let f := f.val
    if s.hep.perst || !s.hep.l0 then s
    else if !s.isReady then s.emitTlp f (.cfgCpl f 2 0)
    else if s.hep.pfFlr.isSome ∨ (s.fn f).flrEnd.isSome then s.emitTlp f (.cfgCpl f 2 0)
    else if !s.fnPresent f then s.emitTlp f (.cfgCpl f 1 0)
    else
      let (v, s) := s.cfgOp f op
      s.emitTlp f (.cfgCpl f 0 v)

/-- R65: Bus Master Enable of a function is written. -/
def execBusMasterEnable (f : Fin 1025) (on : Bool) (s : State) : Host.Outcome State Fault Refusal :=
  onLive s fun s =>
    let f := f.val
    if !s.isReady ∨ !s.fnPresent f ∨ s.inDrain f then s
    else s.setBme f on

/-- R57, R106: VF Enable is written. -/
def execVfEnable (on : Bool) (s : State) : Host.Outcome State Fault Refusal :=
  onLive s fun s =>
    if !s.isReady ∨ s.hep.pfFlr.isSome ∨ s.hep.vfEnable = on then s
    else if on then
      let n := if s.hep.ari then s.hep.numVfs else min 7 s.hep.numVfs
      let s := { s with hep := { s.hep with vfEnable := true } }
      ((List.range n).map (· + 1)).foldl (fun s f =>
        let s := s.setFn f { s.fn f with present := true }
        (s.vfDefaults f).afterReset f) s
    else s.clearVfEnable true

/-- R64. -/
def execPerstAssert (s : State) : Host.Outcome State Fault Refusal :=
  let s := { s with hep := { s.hep with perst := true, trainBy := none } }
  onLive s fun s => s.endpointReset true

/-- R66, R437: link training starts, once the module has reached start-up step 3. -/
def execPerstDeassert (s : State) : Host.Outcome State Fault Refusal :=
  let s := { s with hep := { s.hep with perst := false } }
  onLive s fun s => { s with hep := { s.hep with trainBy := some (s.tb + ms 20) } }

/-- Start-up step 3 is complete (R431, R437). -/
def State.stepThree (s : State) : Bool :=
  match s.phase with
  | .ready => true
  | .starting n _ => decide (3 ≤ n)
  | _ => false

/-- R54: the rates and widths at which the endpoint trains: 64 GT/s in FLIT mode, 8, 16 and 32 GT/s without, at x1, x4,
x8 and x16. -/
def linkOk (gen width : Nat) (flit : Bool) : Bool :=
  decide (3 ≤ gen) && decide (gen ≤ 6) && (flit == (gen == 6)) && [1, 4, 8, 16].contains width

/-- R54, R66, R80: the Data Link Layer comes up at a generation (3 to 6) and a width. -/
def execPcieLinkUp (gen : Fin 7) (width : Fin 17) (flit sris : Bool) (s : State) : Host.Outcome State Fault Refusal :=
  onLive s fun s =>
    if s.hep.perst ∨ !s.stepThree ∨ !s.pins.seated ∨ !linkOk gen.val width.val flit then s
    else
      let s := { s with hep := { s.hep with l0 := true, trainBy := none } }
      let ide := Tbl.get ({} : IdeStream) s.hep.ide 0
      s.setReg HEP_LINK_STATUS (BitVec.ofNat 64
        (width.val * 2 ^ 11 + gen.val * 2 ^ 8 + ide.secure.toNat * 8 + sris.toNat * 4 + flit.toNat * 2 + 1))

/-- R64: hot reset, link disable or Data Link Layer Down. Log 42 (DEDUCED). -/
def execHotReset (s : State) : Host.Outcome State Fault Refusal := onLive s fun s => s.endpointReset false

/-- R67: Initiate Function Level Reset of VF `v` + 1. Log 42 (DEDUCED). -/
def execFlrVf (v : Fin 1024) (s : State) : Host.Outcome State Fault Refusal :=
  onLive s fun s =>
    let f := v.val + 1
    if !s.isReady ∨ !s.fnPresent f ∨ s.inDrain f then s
    else
      let s := s.beginFlr f
      s.setFn f { s.fn f with flrEnd := some (s.tb + ms 90) }

/-- R456: Initiate Function Level Reset of the PF. -/
def execFlrPf (s : State) : Host.Outcome State Fault Refusal :=
  onLive s fun s =>
    if !s.isReady ∨ s.hep.pfFlr.isSome then s
    else
      let fs := s.presentFns.filter (fun f => (s.fn f).flrEnd.isNone)
      let s := fs.foldl (fun s f => s.beginFlr f) s
      { s with hep := { s.hep with pfFlr := some (s.tb + ms 90) } }

/-- R67, R456: the outstanding reads of the function, or for the PF of every function, have finished. -/
def execFlrDrainComplete (f : Fin 1025) (s : State) : Host.Outcome State Fault Refusal :=
  onLive s fun s =>
    let f := f.val
    if f = 0 then
      if s.hep.pfFlr.isSome ∧ s.readsDone (fun _ => true) then s.endPfFlr else s
    else if (s.fn f).flrEnd.isSome ∧ s.readsDone (· == f) then s.endFlr f
    else s

/-- R69: the 90 ms drain deadline expires. -/
def execFlrDrainDeadline (f : Fin 1025) (s : State) : Host.Outcome State Fault Refusal :=
  onLive s fun s =>
    let f := f.val
    if f = 0 then
      if due s s.hep.pfFlr then (s.quarantine (fun _ => true)).endPfFlr else s
    else if due s (s.fn f).flrEnd then (s.quarantine (· == f)).endFlr f
    else s

/-- R69, R71, R85, R91: a completion arrives for a read of the module. A late one on a quarantined tag is
counted and discarded; one that arrives in a drain or a freeze brings no data. Reads that wait for its tag go on.
Log 94 (DEDUCED). -/
def execCompletionTlp (tag : Nat) (st : CplStatus) (data : Bytes) (s : State) : Host.Outcome State Fault Refusal :=
  onLive s fun s =>
    match s.hep.reads.find? (fun q => q.tag == tag) with
    | none => s
    | some q =>
      if q.quarantined then
        (((s.dropRead { q with discard := true }).bump HEP_LATE_CPL HEP_LATE_CPL.COUNT).setBit HEP_EVENT
          HEP_EVENT.LATE_CPL).pumpReads
      else if q.discard ∨ s.bit HEP_FREEZE HEP_FREEZE.FROZEN ∨ st ≠ .success then
        let s := s.dropRead q
        if q.kind = .translation ∧ !s.bit HEP_FREEZE HEP_FREEZE.FROZEN then
          (if q.discard then s.atsResume q.fn else s.translated q.fn (q.addr / 4096) []).pumpReads
        else s.pumpReads
      else
        let s := { s with hep := { s.hep with reads := s.hep.reads.filter (fun x => x.tag != tag) } }
        (match q.kind with
        | .doorbell poll => s.doorbellData q.fn poll data
        | .descriptors r c n => s.descriptorData q.fn r c n data
        | .translation => s.translated q.fn (q.addr / 4096) data).pumpReads

/-- R68: a completion timeout of a function in drain is logged in its AER, and freezes nothing. -/
def State.logTimeout (s : State) (f : Nat) : State := s.setFn f { s.fn f with aer := (6 :: (s.fn f).aer).eraseDups }

/-- The completion timeout of a read has expired, where host software has set one. -/
def ReadReq.expired (q : ReadReq) (tb : Nat) : Bool := q.due.all (fun t => decide (t ≤ tb))

/-- R70, R68: the completion timeout of a read expires: it is given up, and freezes the endpoint unless its function is in
drain. What waits for a translation that was so lost asks for it again. -/
def State.timedOut (s : State) (q : ReadReq) : State :=
  let drain := s.inDrain q.fn
  let s := s.dropRead q
  let s := if q.kind = .translation ∧ q.discard then s.atsResume q.fn else s.pumpReads
  if q.quarantined then s
  else if drain then s.logTimeout q.fn
  else s.freeze .completionTimeout q.fn

/-- R70, R68: the completion timeout of a request expires: at its deadline, where host software has set the timeout
(R8). Log 2 (DESIGN CHOICE). Log 109 (DESIGN CHOICE). -/
def execCompletionTimeout (tag : Nat) (s : State) : Host.Outcome State Fault Refusal :=
  onLive s fun s =>
    match s.hep.reads.find? (fun q => q.tag == tag) with
    | none => s
    | some q => if q.expired s.tb then s.timedOut q else s

/-- R70, R71, R74: a containment trigger; `stream` is the stream of a failed IDE check. A completion timeout is that of the
function's oldest read whose deadline has passed (R8). -/
def execFreezeTrigger (c : FreezeCause) (f : Fin 1025) (stream : Fin 9) (s : State) : Host.Outcome State Fault Refusal :=
  onLive s fun s =>
    let s := if c = .ideCheck then (s.setBit HEP_EVENT HEP_EVENT.IDE_FAIL).loseStream stream.val else s
    if c = .completionTimeout then
      match s.hep.reads.find? (fun q => q.fn == f.val && q.expired s.tb) with
      | none => s
      | some q => s.timedOut q
    else s.freeze c f.val

/-- R72; in a function-level reset of the PF its BAR0 takes no write (R456). -/
def execHepFreezeRelease (s : State) : Host.Outcome State Fault Refusal :=
  onLive s fun s => if s.hep.pfFlr.isSome then s else s.release

/-- R73: an ATS Invalidate Request. The endpoint holds up to 32: one beyond them, or with an ITag that the function already
has in use, is dropped. A translation asked for and not yet given is asked for again. Log 27 (DEDUCED).
Log 102 (DEDUCED). -/
def execAtsInvalidateRequest (itag : Fin 32) (f : Fin 1025) (base size : Nat) (s : State) :
    Host.Outcome State Fault Refusal :=
  onLive s fun s =>
    if s.hep.invals.any (fun i => i.itag == itag.val && i.fn == f.val) ∨ 32 ≤ s.hep.invals.length then s
    else
      let hit := fun (q : ReadReq) => q.fn == f.val && decide (q.addr < base + size) && decide (base < q.addr + q.len)
      let waits := if (s.fn f.val).ats then (s.hep.reads.filter (fun q => hit q && q.kind != .translation)).map (·.tag) else []
      { s with hep := { s.hep with
        reads := s.hep.reads.map (fun (q : ReadReq) => if q.kind = .translation ∧ hit q then { q with discard := true } else q)
        ats := s.hep.ats.filter (fun e =>
          !(e.1 / 2 ^ 52 == f.val && decide (e.1 % 2 ^ 52 * 4096 < base + size) && decide (base < e.1 % 2 ^ 52 * 4096 + 4096)))
        invals := s.hep.invals ++ [AtsInval.mk itag.val f.val base size waits] } }

/-- R73: the reads issued under the invalidated translations have completed or timed out. Log 27 (DEDUCED). -/
def execAtsInvalidateCompletion (itag : Fin 32) (f : Fin 1025) (s : State) : Host.Outcome State Fault Refusal :=
  onLive s fun s =>
    match s.hep.invals.find? (fun i => i.itag == itag.val && i.fn == f.val) with
    | none => s
    | some i =>
      if i.waits.any (fun t => s.hep.reads.any (fun q => q.tag == t)) then s
      else ({ s with hep := { s.hep with invals := s.hep.invals.filter (fun x => x != i) } }).emit (.atsCpl f.val itag.val)

namespace State

/-- The answer of the DSM to a TDISP request of code `code` for a VF: Crucible answers through the mailbox. -/
def dsmAnswer (s : State) (code f : Nat) : State :=
  s.emit (.doe (s.spdmAnswer (leBytes 1 code ++ leBytes 2 f)))

/-- The DSM is in service (R75, R359) and reached through the PF's DOE mailbox, which no function-level reset holds (R456). -/
def dsmUp (s : State) : Bool := s.fld CRU_STATUS CRU_STATUS.STATE == 1 && s.hep.pfFlr.isNone

end State

/-- R75: LOCK_INTERFACE_REQUEST for VF `v` + 1, binding selective stream `st` + 1. -/
def execLockInterfaceRequest (v : Fin 1024) (st : Fin 8) (s : State) : Host.Outcome State Fault Refusal :=
  onLive s fun s =>
    let f := v.val + 1
    if !s.dsmUp ∨ !s.fnPresent f ∨ s.tdi f ≠ 0 ∨ s.inDrain f then s
    else (((s.setFn f { s.fn f with stream := some (st.val + 1) }).setTdi f 1)).dsmAnswer 3 f

/-- R75: START_INTERFACE_REQUEST. -/
def execStartInterfaceRequest (v : Fin 1024) (s : State) : Host.Outcome State Fault Refusal :=
  onLive s fun s =>
    let f := v.val + 1
    if !s.dsmUp ∨ !s.fnPresent f ∨ s.tdi f ≠ 1 then s
    else ((s.setTdi f 2).dsmAnswer 5 f).resumeFn f

/-- R75: STOP_INTERFACE_REQUEST. -/
def execStopInterfaceRequest (v : Fin 1024) (s : State) : Host.Outcome State Fault Refusal :=
  onLive s fun s =>
    let f := v.val + 1
    if !s.dsmUp ∨ !s.fnPresent f then s
    else
      let s := (s.setTdi f 0).dsmAnswer 6 f
      if s.inDrain f then s
      else
        let s := s.beginFlr f
        s.setFn f { s.fn f with flrEnd := some (s.tb + ms 90) }

/-- R76 to R79, R456: a BAR4 TLP of `len` bytes at BAR4 offset `off`; in a function-level reset of the PF a read gets
Unsupported Request. Log 28 (DEDUCED). -/
def execPeerWindowTlp (write : Bool) (off : BitVec 44) (len : Nat) (data : Bytes) (s : State) :
    Host.Outcome State Fault Refusal :=
  let f := fun (s : State) =>
    if !s.isReady then s
    else if s.hep.pfFlr.isSome then (if write then s else s.emitTlp 0 (.cpl 0 1 []))
    else s.windowTlp write off.toNat len data
  if write then onLive s f else onServed s 0 (.cpl 0 1 []) f

/-- R78: GO is written to `WIN_COMMIT`; in a function-level reset of the PF its BAR0 takes no write (R456). -/
def execWinCommit (w : Fin 64) (s : State) : Host.Outcome State Fault Refusal :=
  onLive s fun s => if s.hep.pfFlr.isSome then s else s.winCommit w.val

/-- R78 step 4: the TLPs decoded under the old set have finished. Log 43 (DEDUCED). -/
def execWinCommitDrained (s : State) : Host.Outcome State Fault Refusal :=
  onLive s fun s => s.setBit WIN_COMMIT WIN_COMMIT.BUSY false

end Sys2Proof.Machine
end

