-- ==== Sys2Proof/Machine/JnlCmds.lean ====
section
/-!
DEFINITION. Commands of the journal: block writes (R21, R32), snapshots (R41), wear (R45, R47), the loss of
both feeds (R44), and mirror traffic, heartbeats, fencing and takeover (R48 to R51).
-/
namespace Sys2Proof.Machine
open Sys2Proof

/-- R21, R45: die `die` reports the write of the block at `seq` complete, or failed. A failed copy is issued
again, and its row is retired once it qualifies (log 5). -/
def execJournalBlockWriteComplete (die : Fin 2) (seq : Nat) (failed : Bool) (s : State) :
    Host.Outcome State Fault Refusal :=
  onLive s fun s =>
    match s.jnl.out.find? (fun x => x.seq == seq) with
    | none => s
    | some x =>
      if (if die.val = 0 then x.done0 else x.done1) ∨ !s.dieOk die.val then s
      else if failed then
        let d := s.die die.val
        let row := logRow (seqIndex seq)
        (s.setDie die.val { d with badRows := (row :: d.badRows).eraseDups }).emit (.journalWrite seq x.bytes)
      else
        let s := s.storeBlock die.val (seqIndex seq) x.bytes
        let mark := fun (y : BlockWrite) =>
          if y.seq = seq then (if die.val = 0 then { y with done0 := true } else { y with done1 := true }) else y
        ({ s with jnl := { s.jnl with out := s.jnl.out.map mark } }).settle

/-- R41: the snapshot interval expires. A purge of R105 completes when a generation without its series is
durable. Log 44 (DEDUCED). -/
def execSnapshotGeneration (s : State) : Host.Outcome State Fault Refusal :=
  onLive s fun s =>
    if s.fld JNL_STATUS JNL_STATUS.STATE = 3 ∧ due s s.jnl.snapAt then
      let s := s.writeGeneration false
      let s := { s with jnl := { s.jnl with snapAt := some (s.tb + s.snapPeriod) } }
      let waits := s.disp.rings.filterMap (fun e => e.2.purgeFor.map (fun k => (e.1, k)))
      waits.foldl (fun s p =>
        let x := s.ring p.1
        let s := s.setRing p.1 { x with purgeFor := none }
        s.endUnit p.2 0 0) s
    else s

/-- R45: the wear manager retires a row that qualifies. -/
def execRowRetire (die : Fin 2) (row : Fin 1048576) (s : State) : Host.Outcome State Fault Refusal :=
  onLive s fun s =>
    if s.dieOk die.val ∧ s.rowQualifies die.val row.val then (s.retireRow die.val row.val).settle else s

/-- R47: a die's interface stops responding. -/
def execJournalDieFailed (die : Fin 2) (s : State) : Host.Outcome State Fault Refusal :=
  onLive s fun s => if s.dieOk die.val then (s.failDie die.val).settle else s

/-- R44: Bellows reports the loss of both feeds. Log 49 (DEDUCED). -/
def execBothFeedsLostReport (s : State) : Host.Outcome State Fault Refusal := onLive s State.cleanStop

/-- R48: flag the body of a partner's record foreign. -/
def markForeign (b : Bytes) : Bytes :=
  slice b 0 1 ++ [(b.getD 1 0) ||| 4] ++ b.drop 2

/-- R34, R48: the bodies of ring `r` of function `f` that Posted ASN `a` of partner `k` passes are live no longer, and a
record of which none is left is held no longer. A record not yet durable is left as it is. -/
def passForeign (s : State) (k f r a : Nat) : State :=
  let passed := fun (b : Bytes) => let g := headRec 0 b; g.fn == f && g.ring == r && decide (g.asn ≤ a)
  (s.jnl.foreign.filter (fun x => x.partner == k && x.durable && x.blocks.any passed)).foldl (fun s x =>
    let left := x.blocks.filter (fun b => !passed b)
    if left = [] then
      ({ s with jnl := { s.jnl with foreign := s.jnl.foreign.filter (fun y => !(y.partner == k && y.number == x.number)) } }).dropLive
        (State.foreignKey k x.number)
    else { s with jnl := { s.jnl with
      foreign := s.jnl.foreign.map (fun (y : ForeignRec) =>
        if y.partner = k ∧ y.number = x.number then { y with blocks := left } else y)
      live := s.jnl.live.map (fun (y : LiveRec) => if y.unit = State.foreignKey k x.number then { y with blocks := left } else y) } }) s

/-- R48, R52: a partner's mirror record arrives, unless this module has taken its rings over. Its blocks go
into the log as foreign; records that its mirrored Posted ASN passes are live no longer. One that was sent again is
acknowledged again once it is durable. Log 50 (DEDUCED). -/
def execMirrorRecord (partner : Fin 8) (number : Nat) (blocks : List Bytes) (posted : Option Nat) (s : State) :
    Host.Outcome State Fault Refusal :=
  onSeam s fun s =>
    let k := partner.val
    let p := s.partner k
    if p.clash ∨ p.adopted then s
    else if number < p.mirrorSeen then
      let s := s.setPartner k { p with present := true, lastHeard := s.tb }
      if s.jnl.foreign.any (fun r => r.partner == k && r.number == number && !r.durable) then s else s.emit (.mirrorAck k number)
    else
      let s := s.setPartner k { p with present := true, lastHeard := s.tb, mirrorSeen := number + 1 }
      let bodies := blocks.flatMap (fun b =>
        if leAt b 0 1 = 2 then
          [markForeign (b.take 28)] ++ (if leAt b 32 1 = 2 then [markForeign (slice b 32 28)] else [])
        else [markForeign (b.take 56)])
      let h := headRec 0 (bodies.headD [])
      let s := { s with jnl := { s.jnl with
        foreign := s.jnl.foreign ++ [ForeignRec.mk k number bodies posted false] } }
      let s := s.writeRecord bodies (.foreign k number) none
      match posted with
      | none => s
      | some a => passForeign s k h.fn h.ring a

/-- R48: a partner's mirror acknowledgement arrives. -/
def execMirrorAck (partner : Fin 8) (number : Nat) (s : State) : Host.Outcome State Fault Refusal :=
  onSeam s fun s =>
    let k := partner.val
    let s := s.setPartner k { s.partner k with present := true, lastHeard := s.tb }
    match s.jnl.unacked.find? (fun x => x.partner == k && x.number == number) with
    | none => s
    | some x => (s.unmirror k (fun w => w == x.what)).settle

/-- R49: the 100 µs heartbeat interval expires on one seam link to a partner. To a partner whose index clashes, which
R15 has the module treat as absent, none is sent. Log 98 (DEDUCED). Log 109 (DESIGN CHOICE). -/
def execHeartbeatTimer (partner port : Fin 8) (s : State) : Host.Outcome State Fault Refusal :=
  onSeam s fun s =>
    let k := partner.val
    let p := s.partner k
    if p.clash ∨ s.tb < p.beatAt.get 0 port.val then s
    else
      let s := s.setPartner k { p with sent := p.sent + 1, beatAt := p.beatAt.set 0 port.val (s.tb + us 100) }
      s.emit (.heartbeat k port.val (s.fld JNL_MIRROR JNL_MIRROR.MODULE) (p.sent + 1) p.received)

/-- R15, R49: a heartbeat arrives. One with this module's own index makes the partner count as absent: what waits for
its acknowledgement waits no longer, and the Class 1 event is reported once for as long as the clash lasts.
Log 98 (DEDUCED). -/
def execHeartbeat (partner port : Fin 8) (index : Fin 8) (number echo : Nat) (s : State) :
    Host.Outcome State Fault Refusal :=
  onSeam s fun s =>
    let k := partner.val
    let p := s.partner k
    if index.val = s.fld JNL_MIRROR JNL_MIRROR.MODULE then
      if p.clash then s
      else
        let s := ((s.setPartner k { p with clash := true }).setBit JNL_MIRROR ⟨k, 1⟩ false).logEvent 1 blockJnl causeNone 0
        (s.unmirror k (fun _ => true)).settle
    else
      let s := { s with jnl := { s.jnl with seamPartner := s.jnl.seamPartner.set none port.val (some k) } }
      let s := s.setPartner k { p with
        present := true, clash := false, lastHeard := s.tb, received := max p.received number
        lastEcho := if 0 < echo ∧ echo ≤ p.sent then s.tb else p.lastEcho }
      s.setBit JNL_MIRROR ⟨k, 1⟩

/-- R49: no heartbeat that echoes one of this module's own for 1 ms: the partner's heartbeats are no longer current, and
the rings mirrored to it are fenced. Log 50 (DEDUCED). -/
def execFenceTimeout (partner : Fin 8) (s : State) : Host.Outcome State Fault Refusal :=
  onLive s fun s =>
    let k := partner.val
    let p := s.partner k
    if p.clash ∨ s.tb < p.lastEcho + ms 1 then s
    else if s.bit JNL_MIRROR ⟨8 + k, 1⟩ ∧ ((s.mirroredTo k).all (fun rk => (s.ring rk).fenced)) = true then s
    else if s.mirroredTo k = [] then s.setBit JNL_MIRROR ⟨k, 1⟩ false
    else s.fence k

/-- R49, R50: nothing from the partner for 2 ms on any seam path. Standby records of its partitions move with the
rings (R345). -/
def execTakeoverTimeout (partner : Fin 8) (s : State) : Host.Outcome State Fault Refusal :=
  onLive s fun s =>
    let k := partner.val
    let p := s.partner k
    if p.clash ∨ p.adopted ∨ !p.present ∨ s.tb < p.lastHeard + ms 2 ∨
        !(s.jnl.foreign.any (fun r => r.partner == k)) then s
    else (s.standbyTakeover k).takeover k

/-- R51, R52: contact with a partner returns. The partner's word says whether it adopted this module's rings;
a partner whose rings this module adopted is told so. -/
def execContactReturn (partner : Fin 8) (adoptedOurs : Bool) (s : State) : Host.Outcome State Fault Refusal :=
  onSeam s fun s =>
    let k := partner.val
    let p := s.partner k
    if p.clash then s
    else
      let s := s.setPartner k { p with present := true, lastHeard := s.tb, lastEcho := s.tb }
      let s := (s.setBit JNL_MIRROR ⟨k, 1⟩).contact k adoptedOurs
      if p.adopted then s.emit (.adopted k) else s

end Sys2Proof.Machine
end

