-- ==== Sys2Proof/Machine/MemCmds.lean ====
section
/-!
DEFINITION. Commands of the memory channels: failure and rebuild (R234, R236), Planish (R243), calibration
(R244 to R248) and the region registers (R239).
-/
namespace Sys2Proof.Machine
open Sys2Proof

/-- R234: an access to the devices of channel `h` did not complete within 2 µs. Log 109 (DESIGN CHOICE). -/
def execChannelAccessTimeout (h : Fin 24) (s : State) : Host.Outcome State Fault Refusal :=
  onLive s fun s => s.failChannel h.val

namespace State

/-- R236: retrain the failed channel of a group; `ok` says whether the training passes. Log 24 (DEDUCED). -/
def rebuildGroup (s : State) (g : Nat) (ok : Bool) : State :=
  if s.groupState g ≠ 1 then s
  else if !ok then s.setBit (MEM_GROUP g) MEM_GROUP.REFUSED
  else
    let h := memberHome g (s.fld (MEM_GROUP g) MEM_GROUP.MEMBER)
    let s := (s.setGroup g 2).setBit (MEM_GROUP g) MEM_GROUP.REFUSED false
    (s.setFld (MEM_GROUP g) MEM_GROUP.PROGRESS 0).setFld (MEM_CHAN h) MEM_CHAN.STATE 5

/-- R236: every line of the rebuilt channel is written. Log 24 (DEDUCED). -/
def rebuildDone (s : State) (g : Nat) : State :=
  if s.groupState g ≠ 2 then s
  else
    let m := s.fld (MEM_GROUP g) MEM_GROUP.MEMBER
    let s := s.rebuildTo g chanLines
    let s := (s.setFld (MEM_GROUP g) MEM_GROUP.PROGRESS 0).setFld (MEM_GROUP g) MEM_GROUP.MEMBER 0
    let s := s.setFld (MEM_CHAN (memberHome g m)) MEM_CHAN.STATE 1
    match (List.range 8).find? (fun i => s.fld (MEM_CHAN (memberHome g i)) MEM_CHAN.STATE == 4) with
    | some i =>
      -- a second channel of the group has failed: the group stays degraded for it
      (s.setGroup g 1).setFld (MEM_GROUP g) MEM_GROUP.MEMBER i
    | none =>
      let s := (s.setGroup g 0).setBit MEM_EVENT MEM_EVENT.REBUILD_DONE
      s.logEvent 0 blockMem 5 (memberHome g m)

/-- R243: Planish reads the members of row `r` of group `g` that can be read, and handles each failed check as a read
does; `parityBad` says that the exclusive-or of eight passing members is not zero. -/
def planishRow (s : State) (g r : Nat) (parityBad : Bool) : State :=
  let out := s.missingMembers g r
  let sound := (List.range 8).all (fun i => !s.memberFails g r i)
  let s := ((List.range 8).filter (!out.contains ·)).foldl (fun s i =>
    (s.checkMember g r i).useCode (memberHome g i) (codeBlock r)) s
  if out.isEmpty && sound && parityBad then s.memEvent 0 3 4 (memberHome g (parityMember r)) (rowIndex r) else s

/-- What is found of a row before Planish reads it: the members whose bytes have changed, and those whose code lines
have. -/
def planishDamage (s : State) (g r : Nat) (bad codes : List Nat) : State :=
  codes.foldl (fun s i => s.setBadCode (memberHome g i) (codeBlock r) true) (s.damage g r bad 0 false)

/-- R243: the group whose row Planish reads next: in turn, passing over a group that is finished or in
calibration. -/
def planishGroup (s : State) : Option Nat :=
  ([0, 1, 2].map (fun i => (s.mm.planishTurn + i) % 3)).find? (fun g =>
    decide (s.mm.planish.get 0 g < groupRows) &&
      (match s.mm.window with
       | some w => chanGroup w.chan != g
       | none => true))

/-- Rows that Planish has visited in the current pass. -/
def planishCount (s : State) : Nat := s.mm.planish.get 0 0 + s.mm.planish.get 0 1 + s.mm.planish.get 0 2

/-- R243: the instant at which the next row of the pass is due: its rows are spread over `MEM_PLANISH_CFG.HOURS` hours.
Log 119 (DEDUCED). -/
def planishDue (s : State) : Nat :=
  s.mm.planishAt + s.planishCount * (s.fld MEM_PLANISH_CFG MEM_PLANISH_CFG.HOURS * sec 3600) / (3 * groupRows)

/-- R246: the copy host of group `g`: the lowest-numbered other group that is neither degraded nor rebuilding. -/
def copyHost (s : State) (g : Nat) : Option Nat := [0, 1, 2].find? (fun o => o != g && s.groupState o == 0)

/-- R244: a channel that a window may open on. -/
def calEligible (s : State) (h : Nat) : Bool :=
  let g := chanGroup h
  s.fld (MEM_CHAN h) MEM_CHAN.STATE == 1 && s.groupState g == 0 && (s.copyHost g).isSome

/-- R244: the interval between windows. -/
def calPeriod (s : State) : Nat := ms (s.fld MEM_TEMPER_CFG MEM_TEMPER_CFG.PERIOD_MS) / 24

/-- R244 step 1: a window opens on the next channel in turn. -/
def openWindow (s : State) : State :=
  if !s.bit MEM_TEMPER_CFG MEM_TEMPER_CFG.EN || s.mm.window.isSome || decide (s.tb < s.mm.calAt) then s
  else
    let s := { s with mm := { s.mm with calAt := s.tb + s.calPeriod } }
    match ((List.range 24).map (fun i => (s.mm.calTurn + i) % 24)).find? s.calEligible with
    | none => s
    | some c =>
      let s := { s with mm := { s.mm with
        window := some { chan := c, start := s.tb, catchUp := false, marked := [], host := (s.copyHost (chanGroup c)).getD 0 }
        calTurn := (c + 1) % 24 } }
      let s := (s.setFld (MEM_CHAN c) MEM_CHAN.STATE 2).setFld MEM_STATUS MEM_STATUS.CAL_STATE 1
      (s.setFld MEM_STATUS MEM_STATUS.CAL_CHAN c).setFld MEM_TEMPER_STATUS MEM_TEMPER_STATUS.MARKED 0

/-- R244 step 4: the new settings verify, or the previous ones are restored and verify, or neither. -/
def verifyWindow (s : State) (newOk oldOk : Bool) : State :=
  match s.mm.window with
  | none => s
  | some w =>
    if w.catchUp then s
    else if newOk then s.calReopen w false
    else if oldOk then
      ((s.calReopen w false).setBit MEM_EVENT MEM_EVENT.CAL_FAILED).logEvent 0 blockMem 6 w.chan
    else s.failChannel w.chan

/-- R245: catch-up has written every marked member. -/
def catchUpDone (s : State) : State :=
  match s.mm.window with
  | none => s
  | some w =>
    if w.catchUp then
      let s := s.catchUpTo w.marked.length
      if s.mm.window.isSome then (s.setFld (MEM_CHAN w.chan) MEM_CHAN.STATE 1).calIdle else s
    else s

end State

/-- R236: Anvil firmware writes 1 to `MEM_GROUPg.REBUILD`; `ok` is the outcome of the retraining. -/
def execMemGroupRebuild (g : Fin 3) (ok : Bool) (s : State) : Host.Outcome State Fault Refusal :=
  onLive s fun s => s.rebuildGroup g.val ok

/-- R236. -/
def execRebuildComplete (g : Fin 3) (s : State) : Host.Outcome State Fault Refusal :=
  onLive s fun s => s.rebuildDone g.val

/-- R243: Planish reads its next row once it is due: `bad` are the members found changed, `codes` those whose code lines
are, and `parityBad` says that the exclusive-or of eight passing members is not zero. Log 109 (DESIGN CHOICE).
Log 119 (DEDUCED). -/
def execPlanishRow (bad codes : List (Fin 8)) (parityBad : Bool) (s : State) : Host.Outcome State Fault Refusal :=
  onLive s fun s =>
    match s.planishGroup with
    | none => s
    | some g =>
      if s.tb < s.planishDue then s
      else
        let r := s.mm.planish.get 0 g
        let s := ((s.planishDamage g r (bad.map (·.val)).eraseDups (codes.map (·.val)).eraseDups).background g).planishRow g r parityBad
        let s := { s with mm := { s.mm with
          planish := s.mm.planish.set 0 g (r + 1)
          planishTurn := (g + 1) % 3 } }
        if s.planishCount = 3 * groupRows then
          let s := { s with mm := { s.mm with planish := [], planishTurn := 0, planishAt := s.tb } }
          let s := (s.bump MEM_PLANISH_STATUS MEM_PLANISH_STATUS.PASSES).setBit MEM_EVENT MEM_EVENT.PLANISH_PASS
          s.setFld MEM_PLANISH_STATUS MEM_PLANISH_STATUS.PROGRESS 0
        else s.setFld MEM_PLANISH_STATUS MEM_PLANISH_STATUS.PROGRESS (s.planishCount * 1000 / (3 * groupRows))

/-- R244, R246: Temper opens a window when one is due. -/
def execCalibrationWindowStart (s : State) : Host.Outcome State Fault Refusal := onLive s State.openWindow

/-- R244. -/
def execCalibrationVerify (newOk oldOk : Bool) (s : State) : Host.Outcome State Fault Refusal :=
  onLive s fun s => s.verifyWindow newOk oldOk

/-- R245. -/
def execCatchUpComplete (s : State) : Host.Outcome State Fault Refusal := onLive s State.catchUpDone

/-- R247: a region of die `die` pauses its handshakes and has its matched delays retuned; no register and no
memory changes. -/
def execMatchedDelayRetune (_die : Fin 5) (s : State) : Host.Outcome State Fault Refusal := .next s

/-- R239: Crucible writes `HA_REGIONn_BASE` or `HA_REGIONn_CTL`. The meters take the sizes held until now
(R364), and REGIONS_FREE follows (R346). -/
def execHaRegionWrite (n : Fin 64) (ctl : Bool) (v : W64) (s : State) : Host.Outcome State Fault Refusal :=
  onLive s fun s => (s.meterMem.regWrite (if ctl then HA_REGION_CTL n.val else HA_REGION_BASE n.val) v).showRegions

end Sys2Proof.Machine
end

