-- ==== Sys2Proof/Machine/Coherence.lean ====
section
/-!
DEFINITION. The coherence messages, each as it reaches its receiver (R208 to R216), cache check failures
(R205, R206), and dead and silent agents (R219, R220).
-/
namespace Sys2Proof.Machine
open Sys2Proof State

/-! ### Requests at a home -/

/-- The home agent reads a line that it serves from memory, with the checks that fail on the way (R232). -/
def homeReads (s : State) (h l : Nat) (bad : List (Fin 8)) (codeBad : Bool) : State :=
  if h < 24 then
    match (s.home h l).busy, (s.home h l).dir with
    | none, .I | none, .S _ => s.readLine l (bad.map (·.val)) codeBad
    | _, _ => s
  else s

/-- R240: a home agent checks a fill, upgrade or writeback of a cache, for the world of the cache's line, and refuses it
with `no`; WbStale is counted (R224). A Hearth checks nothing. Log 123 (DEDUCED). -/
def homeChecks (s : State) (h a l : Nat) (write : Bool) (no : Msg) (yes : State → State) : State :=
  if h < 24 then
    match s.regionCheck (tagWorld (s.cline a l).tag) (64 * l) write with
    | (_, some _) => yes s
    | (r, none) =>
      let s := s.logRefusal 1 r (64 * l)
      (if no = .wbStale then s.bump COH_STALE_WB COH_STALE_WB.COUNT else s).sendCoh no (homeNode h) a l
  else yes s

/-- A message of the caches reaches its receiver; a world exit whose last store it lets through is then taken (R353). -/
def onCoh (s : State) (f : State → State) : Host.Outcome State Fault Refusal := onLive s fun s => (f s).exitsTaken

/-- R219: late messages of a dead agent are discarded. -/
def fromLive (s : State) (a : Nat) (f : State → State) : State := if s.isDead a then s else f s

/-- R211: `RDS` from a cache reaches its home. Log 123 (DEDUCED). -/
def execRds (a : Fin 44) (l : BitVec 42) (bad : List (Fin 8)) (codeBad : Bool) (s : State) :
    Host.Outcome State Fault Refusal :=
  onLive s fun s => fromLive s a.val fun s =>
    let h := homeFor a.val l.toNat
    homeChecks s h a.val l.toNat false .chkRef fun s => (homeReads s h l.toNat bad codeBad).serve h l.toNat .rds a.val

/-- R211: `RDX`. Log 123 (DEDUCED). -/
def execRdx (a : Fin 44) (l : BitVec 42) (bad : List (Fin 8)) (codeBad : Bool) (s : State) :
    Host.Outcome State Fault Refusal :=
  onLive s fun s => fromLive s a.val fun s =>
    let h := homeFor a.val l.toNat
    homeChecks s h a.val l.toNat true .chkRef fun s => (homeReads s h l.toNat bad codeBad).serve h l.toNat .rdx a.val

/-- R211: `UPG`; one served as RdX reads memory as it does (R232). Log 123 (DEDUCED). -/
def execUpg (a : Fin 44) (l : BitVec 42) (s : State) : Host.Outcome State Fault Refusal :=
  onLive s fun s => fromLive s a.val fun s =>
    let h := homeFor a.val l.toNat
    homeChecks s h a.val l.toNat true .chkRef fun s =>
      let kept := match (s.home h l.toNat).dir with
        | .S ss => ss.contains a.val
        | _ => false
      (if kept then s else homeReads s h l.toNat [] false).serve h l.toNat .upg a.val

/-- R213: `CHK` at the home agent, for a load or a store as the cache asks: the region registers answer. -/
def execChk (a : Fin 44) (l : BitVec 42) (w : World) (s : State) : Host.Outcome State Fault Refusal :=
  onLive s fun s =>
    let n := homeNode (lineHome l.toNat)
    let write := ((s.cline a.val l.toNat).chk.map (·.2)).getD false
    match s.regionCheck w (64 * l.toNat) write with
    | (_, some _) => s.sendCoh .chkOk n a.val l.toNat
    | (r, none) => (s.logRefusal 1 r (64 * l.toNat)).sendCoh .chkRef n a.val l.toNat

/-- R211, R240: the request of an I/O agent reaches the home agent, and is checked; a refused one ends. -/
def ioArrives (s : State) (q : IoReq) : State :=
  let kind := if q.write then ReqKind.iowr else .iord
  if q.moved then s.serve (lineHome q.line) q.line kind ioAgent (some q)
  else match s.regionCheck q.world (64 * q.line) q.write with
  | (r, none) => (s.logRefusal 2 r (64 * q.line)).ioDone q.line
  | (_, some k) => s.serve (lineHome q.line) q.line kind ioAgent (some { q with key := k })

/-- R227, R397: the line lies in memory, which is in service. -/
def ioReaches (s : State) (l : Nat) : Bool := decide (64 * l < memLimit) && s.memOn

/-- R215: an agent has one request outstanding per line; another waits behind it. -/
def ioSend (s : State) (q : IoReq) : State :=
  let first := (s.ioHead q.line).isNone
  let s := { s with coh := { s.coh with io := s.coh.io ++ [q] } }
  if first then ioArrives s q else s

/-- R210, R211, R227, R240: `IORD` of an I/O agent of world `w`. Log 118 (DEDUCED). -/
def execIord (w : World) (l : BitVec 42) (bad : List (Fin 8)) (codeBad : Bool) (s : State) :
    Host.Outcome State Fault Refusal :=
  onLive s fun s => if !ioReaches s l.toNat then s else match s.regionCheck w (64 * l.toNat) false with
    | (_, some _) => ioSend (homeReads s (lineHome l.toNat) l.toNat bad codeBad) { line := l.toNat, write := false, world := w }
    | (r, none) => s.logRefusal 2 r (64 * l.toNat)

/-- R211, R214, R227, R240: `IOWR` of part or all of one line. Log 118 (DEDUCED). -/
def execIowr (w : World) (l : BitVec 42) (off : Fin 64) (data : Bytes) (s : State) :
    Host.Outcome State Fault Refusal :=
  onLive s fun s => if !ioReaches s l.toNat then s else match s.regionCheck w (64 * l.toNat) true with
    | (_, some _) => ioSend s { line := l.toNat, write := true, world := w, off := off.val, data := data.take (64 - off.val) }
    | (r, none) => s.logRefusal 2 r (64 * l.toNat)

/-- R211: `WBD`: what a Recall brought back; otherwise a writeback, held while the line is Busy or judged
at once. Log 123 (DEDUCED). -/
def execWbd (a : Fin 44) (l : BitVec 42) (kind : WbdKind) (s : State) : Host.Outcome State Fault Refusal :=
  onLive s fun s => fromLive s a.val fun s =>
    let h := homeFor a.val l.toNat
    homeChecks s h a.val l.toNat true .wbStale fun s =>
      if kind = .answers then s.fwdAnswer h l.toNat a.val true true false
      else
        let e := s.home h l.toNat
        let keep := kind == .keeps
        if e.busy.isSome then s.setHome h l.toNat { e with held := e.held ++ [(a.val, true, keep)] }
        else s.judgeWb h l.toNat a.val true keep

/-- R211: `WBCLEAN`. Log 123 (DEDUCED). -/
def execWbclean (a : Fin 44) (l : BitVec 42) (s : State) : Host.Outcome State Fault Refusal :=
  onLive s fun s => fromLive s a.val fun s =>
    let h := homeFor a.val l.toNat
    homeChecks s h a.val l.toNat false .wbStale fun s =>
      let e := s.home h l.toNat
      if e.busy.isSome then s.setHome h l.toNat { e with held := e.held ++ [(a.val, false, false)] }
      else s.judgeWb h l.toNat a.val false false

/-- R210, R211: `IODATA`: the owner's data for a FwdPeek; the owner keeps its state. -/
def execIodata (a : Fin 44) (l : BitVec 42) (s : State) : Host.Outcome State Fault Refusal :=
  onLive s fun s => fromLive s a.val fun s => s.fwdAnswer (homeFor a.val l.toNat) l.toNat a.val true false true

/-! ### Forwards at a cache -/

/-- R208, column FwdS. -/
def execFwds (a : Fin 44) (l : BitVec 42) (s : State) : Host.Outcome State Fault Refusal :=
  onCoh s fun s => s.forwarded a.val l.toNat .fwdS

/-- R208, column FwdX. -/
def execFwdx (a : Fin 44) (l : BitVec 42) (s : State) : Host.Outcome State Fault Refusal :=
  onCoh s fun s => s.forwarded a.val l.toNat .fwdX

/-- R211: `FWDPEEK`: the owner keeps its state and sends its data to the home. -/
def execFwdpeek (a : Fin 44) (l : BitVec 42) (s : State) : Host.Outcome State Fault Refusal :=
  onCoh s fun s =>
    let x := s.cline a.val l.toNat
    let n := homeNode (homeFor a.val l.toNat)
    if x.readable || (x.st == .WB && x.dirty) then s.sendCoh .ioData a.val n l.toNat else s.sendCoh .ack a.val n l.toNat

/-- R208, column Inv. -/
def execInv (a : Fin 44) (l : BitVec 42) (s : State) : Host.Outcome State Fault Refusal :=
  onCoh s fun s => s.forwarded a.val l.toNat .inv

/-- R208: `RECALL`. Log 60 (DEDUCED). -/
def execRecall (a : Fin 44) (l : BitVec 42) (s : State) : Host.Outcome State Fault Refusal :=
  onCoh s fun s => s.forwarded a.val l.toNat .recall

/-- R211: `RECALL_DISCARD`: the whole line is about to be written, so its data need not return. -/
def execRecallDiscard (a : Fin 44) (l : BitVec 42) (s : State) : Host.Outcome State Fault Refusal :=
  onCoh s fun s => s.forwarded a.val l.toNat .discard

/-! ### Responses at a cache -/

/-- A fill or an upgrade is complete: the line has its state, its request is over, a Hearth that waited serves its
cluster, and the accesses that waited are made again (R208). -/
def filled (s : State) (a l : Nat) (st : LineState) : State :=
  let x := s.cline a l
  let s := s.setCline a l { x with
    st := st, dirty := false, haveData := true, haveGrant := false, want := none, nacks := 0, retryAt := none
    twin := if st = .M then x.twin else none }
  -- clean-only operation sends the line home at once (R207)
  let s := if st = .M ∧ s.cleanOnly a then s.cleanLine a l else s
  (((s.stampLine a l).outerDone a l).rerun a l).rerunSet a (cacheSet a l)

/-- R208: IX and UX complete when data and grant are here. -/
def tryOwn (s : State) (a l : Nat) : State :=
  let x := s.cline a l
  if x.haveData && x.haveGrant then filled s a l .M else s

/-- R208: `DATA`. -/
def execData (a : Fin 44) (l : BitVec 42) (s : State) : Host.Outcome State Fault Refusal :=
  onCoh s fun s =>
    let x := s.cline a.val l.toNat
    match x.st with
    | .IS => filled s a.val l.toNat .S
    | .IX => tryOwn (s.setCline a.val l.toNat { x with haveData := true }) a.val l.toNat
    | _ => s

/-- R208, R211: `DATAE` carries the grant. -/
def execDatae (a : Fin 44) (l : BitVec 42) (s : State) : Host.Outcome State Fault Refusal :=
  onCoh s fun s =>
    match (s.cline a.val l.toNat).st with
    | .IS => filled s a.val l.toNat .E
    | .IX | .UX => filled s a.val l.toNat .M
    | _ => s

/-- R208: `DATAD`: dirty data from the former owner. -/
def execDatad (a : Fin 44) (l : BitVec 42) (s : State) : Host.Outcome State Fault Refusal :=
  onCoh s fun s =>
    let x := s.cline a.val l.toNat
    match x.st with
    | .IX => tryOwn (s.setCline a.val l.toNat { x with haveData := true }) a.val l.toNat
    | .IS => filled s a.val l.toNat .S
    | _ => s

/-- R208: `GRANT`. -/
def execGrant (a : Fin 44) (l : BitVec 42) (s : State) : Host.Outcome State Fault Refusal :=
  onCoh s fun s =>
    let x := s.cline a.val l.toNat
    match x.st with
    | .UX => filled s a.val l.toNat .M
    | .IX => tryOwn (s.setCline a.val l.toNat { x with haveGrant := true }) a.val l.toNat
    | _ => s

/-- R208: `ACK`: an agent's answer without data to a Recall or a peek. -/
def execAck (a : Fin 44) (l : BitVec 42) (s : State) : Host.Outcome State Fault Refusal :=
  onLive s fun s => fromLive s a.val fun s => s.fwdAnswer (homeFor a.val l.toNat) l.toNat a.val false false false

/-- R211: `INVACK`. -/
def execInvack (a : Fin 44) (l : BitVec 42) (s : State) : Host.Outcome State Fault Refusal :=
  onLive s fun s => fromLive s a.val fun s =>
    let h := homeFor a.val l.toNat
    let e := s.home h l.toNat
    match e.busy with
    | some t =>
      if t.invs.contains a.val then
        (s.setHome h l.toNat { e with busy := some { t with invs := t.invs.filter (· != a.val) } }).closeAll h l.toNat
      else s.lateAnswer
    | none => s.lateAnswer

/-- R208: `FWDACK` states whether data went to the requester, whether it was dirty, and whether a copy was
kept. -/
def execFwdack (a : Fin 44) (l : BitVec 42) (sent dirty kept : Bool) (s : State) :
    Host.Outcome State Fault Refusal :=
  onLive s fun s => fromLive s a.val fun s => s.fwdAnswer (homeFor a.val l.toNat) l.toNat a.val sent dirty kept

/-- R215: when a request is sent again after its k-th Nack. -/
def retryTime (tb k : Nat) : Nat := (tb + (if k ≤ 4 then 10 * 2 ^ (k - 1) else 80) + 9) / 10 * 10

/-- R215: the first request of the I/O agents for a line is answered Nack. -/
def ioNacked (s : State) (l : Nat) : State :=
  { s with coh := { s.coh with io := onIo (fun q =>
      some { q with nacks := q.nacks + 1, retryAt := some (retryTime s.tb (q.nacks + 1)) }) l s.coh.io } }

/-- R208, R215: `NACK`: the request of a cache, or of an I/O agent (44), is sent again later. -/
def execNack (a : Fin 45) (l : BitVec 42) (s : State) : Host.Outcome State Fault Refusal :=
  onCoh s fun s =>
    if a.val = ioAgent then ioNacked s l.toNat
    else
      let x := s.cline a.val l.toNat
      let k := x.nacks + 1
      let x' := { x with nacks := k, retryAt := some (retryTime s.tb k), haveData := false, haveGrant := false }
      match x.st with
      | .IS | .IX => s.setCline a.val l.toNat { x' with st := .I, want := if x.st == .IS then some .rds else some .rdx }
      | .UX => s.setCline a.val l.toNat { x' with st := if x.dirty then .O else .S, want := some .upg }
      | _ => s

/-- R204, R215: an ownership request is sent again, once its line has the places of a dirty line. -/
def ownAgain (s : State) (a l : Nat) : State :=
  let (ok, s) := if isHearth a then (true, s) else s.readyDirty a l
  if ok then (s.setCline a l { s.cline a l with st := .IX, retryAt := none }).sendWant a l else s

/-- R215: the request is sent again. -/
def execNackRetryTimer (a : Fin 45) (l : BitVec 42) (s : State) : Host.Outcome State Fault Refusal :=
  onCoh s fun s =>
    let n := l.toNat
    if a.val = ioAgent then
      match s.ioHead n with
      | some q =>
        if due s q.retryAt then
          let q := { q with retryAt := none }
          ioArrives { s with coh := { s.coh with io := onIo (fun _ => some q) n s.coh.io } } q
        else s
      | none => s
    else
      let x := s.cline a.val n
      if due s x.retryAt then
        let x := { x with retryAt := none }
        match x.want, x.st with
        | some .rds, .I => (s.setCline a.val n { x with st := .IS }).sendWant a.val n
        | some .rdx, .I => ownAgain s a.val n
        | some .upg, .S => (s.setCline a.val n { x with st := .UX, dirty := false }).sendWant a.val n
        | some .upg, .O => (s.setCline a.val n { x with st := .UX, dirty := true }).sendWant a.val n
        | _, _ => s.setCline a.val n x
      else s

/-- R204: what waits in a set for a way or a twin is tried again: accesses, and dirty lines of a Hearth. -/
def setFreed (s : State) (a set : Nat) : State := if isHearth a then s.settleSet a set else s.rerunSet a set

/-- The line leaves the writeback buffer: accesses miss as from I, and a Hearth asks for it again where its clusters
wait (R208, R221). -/
def bufferFreed (s : State) (a l : Nat) : State :=
  setFreed (((s.emptyLine a l).outerDone a l).rerun a l) a (cacheSet a l)

/-- R204, R208: a cleaned line frees its twin, for which others of its set may wait. -/
def cleaned (s : State) (a l : Nat) (st : LineState) : State :=
  setFreed (s.setCline a l { s.cline a l with st := st, cleaning := false, twin := none }) a (cacheSet a l)

/-- The cleaning writeback of a line is over. -/
def cleanOver (s : State) (a l : Nat) : State := s.setCline a l { s.cline a l with cleaning := false }

/-- R208: `WBACK`. -/
def execWback (a : Fin 44) (l : BitVec 42) (s : State) : Host.Outcome State Fault Refusal :=
  onCoh s fun s =>
    let x := s.cline a.val l.toNat
    match x.st with
    | .WB => bufferFreed s a.val l.toNat
    | .M => if x.cleaning then cleaned s a.val l.toNat .E else s
    | .O => if x.cleaning then cleaned s a.val l.toNat .S else s
    -- an O line in UX upgrades from S from now on; one that lost its copy meanwhile has nothing to clean
    | .UX => if x.cleaning then
        setFreed (s.setCline a.val l.toNat { x with dirty := false, cleaning := false }) a.val (cacheSet a.val l.toNat)
      else s
    | _ => cleanOver s a.val l.toNat

/-- R208: `WBSTALE`. -/
def execWbstale (a : Fin 44) (l : BitVec 42) (s : State) : Host.Outcome State Fault Refusal :=
  onCoh s fun s =>
    let x := s.cline a.val l.toNat
    match x.st with
    | .WB => bufferFreed s a.val l.toNat
    | _ => setFreed (cleanOver s a.val l.toNat) a.val (cacheSet a.val l.toNat)

/-! ### World misses -/

/-- R213: the store of executor `e` at `ea` is refused: it is made by no one, and the processor raises the fault. -/
def storeRefused (s : State) (e l : Nat) : State :=
  let mine := fun (b : BufStore) => b.proc == e && b.line == l
  match s.coh.stores.find? mine with
  | none => s
  | some b =>
    let s := { s with coh := { s.coh with stores := s.coh.stores.filter (fun b => !mine b) } }
    if h : e < 320 then (if s.viewOut e then s else s.raise (.exec ⟨e, h⟩) 0x08 b.ea) else s

/-- R213, R240: what waits for a line on behalf of the world of tag `t` is refused: a waiting store raises its fault; a
load or fetch did when it was made. Log 123 (DEDUCED). -/
def refuseWaits (s : State) (a l t : Nat) : State :=
  let x := s.cline a l
  let s := s.setCline a l { x with waits := x.waits.filter (fun w => w.tag != t) }
  ((x.waits.filter (fun w => w.tag == t && w.kind == .store)).map (·.proc)).eraseDups.foldl (fun s e => storeRefused s e l) s

/-- At a Hearth, the request of a cluster that the refused access was for is refused too. -/
def refuseCluster (s : State) (a l : Nat) : State :=
  let h := 24 + a
  match isHearth a, (s.home h l).busy with
  | true, some t =>
    if t.outer then
      (((s.setHome h l { s.home h l with busy := none }).doneWith h l t.requester).sendCoh .chkRef (homeNode h)
        t.requester l).judgeHeld h l
    else s
  | _, _ => s

/-- R213: `CHKOK`: the line takes the requester's world, and the access completes. -/
def execChkok (a : Fin 44) (l : BitVec 42) (s : State) : Host.Outcome State Fault Refusal :=
  onCoh s fun s =>
    let n := l.toNat
    let x := s.cline a.val n
    match x.chk with
    | some (t, _) => ((s.setCline a.val n { x with tag := t, chk := none }).outerDone a.val n).rerun a.val n
    | none => s

/-- R213, R240: `CHKREF`: a refused world miss leaves the line as it is; a refused fill or upgrade ends the request.
Log 123 (DEDUCED). -/
def execChkref (a : Fin 44) (l : BitVec 42) (s : State) : Host.Outcome State Fault Refusal :=
  onCoh s fun s =>
    let n := l.toNat
    let x := s.cline a.val n
    let ended := fun (st : LineState) => { x with st := st, want := none, nacks := 0, retryAt := none }
    match x.chk, x.st with
    | some (t, _), _ => (refuseCluster (refuseWaits (s.setCline a.val n { x with chk := none }) a.val n t) a.val n).rerun a.val n
    | none, .IS | none, .IX =>
      (refuseCluster (refuseWaits (s.setCline a.val n (ended .I)) a.val n x.tag) a.val n).rerun a.val n
    | none, .UX =>
      (refuseCluster (refuseWaits (s.setCline a.val n (ended (if x.dirty then .O else .S))) a.val n x.tag) a.val n).rerun a.val n
    | none, _ => s

/-! ### Failing arrays, dead and silent agents -/

/-- R205: what was clean is fetched again from the next level, without a directory change: from another cache that owns
the line or, for an L2, from its Hearth, and from memory by the home agent where neither has it. -/
def refetch (s : State) (a l : Nat) : State :=
  let owned := fun (d : DirState) => match d with
    | .X o => o != a
    | .O _ _ => true
    | _ => false
  if isHearth a then (if s.ownedBelow a l then s else s.readLine l [] false)
  else
    let c := (a - 4) / 10
    if owned (s.snoopDir c l) || (s.cline c l).way.isSome then s
    else match (s.lineDir l).dir with
      | .O _ _ => s
      | _ => s.readLine l [] false

/-- R206: the way of a disabled way's line is empty: a dirty line is written back, and keeps its state where clusters of its
Hearth hold it; a clean one is fetched again elsewhere. -/
def moveLine (s : State) (a l : Nat) : State :=
  let x := s.cline a l
  if x.isDirty && s.tracked a l then
    let s := if x.cleaning then s else s.cleanLine a l
    s.setCline a l { s.cline a l with way := none, twin := none, haveData := false }
  else if x.isDirty then s.replaceLine a l
  else refetch ((s.setCline a l { x with way := none, twin := none }).placeLine a l) a l

/-- R206: the check of a way failed; the third time within 24 hours it is disabled until power-on, and `leave` empties it. -/
def countFailure (s : State) (key : Nat) (leave : State → State) : State :=
  let w := s.coh.ways.get {} key
  let recent := s.tb :: w.fails.filter (fun t => decide (s.tb < t + sec 86400))
  let off := decide (3 ≤ recent.length)
  let s := { s with coh := { s.coh with ways := s.coh.ways.set {} key { fails := recent, off := w.off || off } } }
  if off && !w.off then (leave s).setBit COH_EVENT COH_EVENT.WAY_DISABLED else s

/-- R206: the same for a way of a Hearth or an L2, counted in its register. -/
def wayFailed (s : State) (a l way : Nat) : State :=
  if cacheWays a ≤ way then s
  else
    let set := cacheSet a l
    countFailure s (wayKey a set way) fun s =>
      let s := ((s.setLines a set).filter (fun x => x.2.way == some way || x.2.twin == some way)).foldl
        (fun s x => moveLine s a x.1) s
      if isHearth a then s.bumpSat (COH_HEARTH a) COH_HEARTH.WAYS_OFF else s.bumpSat (COH_L2 (a - 4)) COH_L2.WAYS_OFF

/-- R205, R206: an L1 line or tag of array `i` fails its check: it is invalidated and fetched again from the L2. -/
def l1Failed (s : State) (i l way : Nat) : State :=
  let had := s.hasL1 i l
  let s := s.dropL1s (· == i) l
  let s := if l1Ways ≤ way then s else countFailure s (wayKey (64 + i) (l1Set l) way) fun s =>
    { s with coh := { s.coh with l1 := s.coh.l1.filter (fun e =>
        !(e.1 / 2 ^ 42 == i && l1Set (e.1 % 2 ^ 42) == l1Set l && e.2.way == way)) } }
  if had then s.fillL1 i l else s

/-- R205: both copies of a tag or of a directory entry have failed. -/
def entryLost (s : State) (inst : Nat) : State := (s.setBit COH_EVENT COH_EVENT.ENTRY_LOST).logEvent 3 blockCoh 8 inst

/-- R205: a check of cache `a` fails, on line `l` in way `way`. -/
def cacheFailed (s : State) (k : CheckFail) (a l way : Nat) : State :=
  let inst := if isHearth a then a else a - 4
  match k with
  | .tagOne => wayFailed (s.logEvent 0 blockCoh causeNone inst) a l way
  | .clean => wayFailed (refetch (s.logEvent 0 blockCoh causeNone inst) a l) a l way
  | .dirtyOne =>
    let s := s.setBit COH_EVENT COH_EVENT.TWIN_READ
    let s := if isHearth a then s.bumpSat (COH_HEARTH a) COH_HEARTH.TWIN_READS
      else s.bumpSat (COH_L2 inst) COH_L2.TWIN_READS
    wayFailed (s.logEvent 0 blockCoh 0 inst) a l way
  | .dirtyBoth =>
    if isHearth a then
      wayFailed ((s.cohPoison l 1).logEvent 1 blockCoh 1 inst (2 ^ 63 + 2 ^ 60 + l * 64)) a l way
    else s.clusterLost inst
  | .tagBoth => wayFailed (entryLost s inst) a l way

/-- R205: `CACHE_CHECK_FAIL` of an array, on line `l` in way `way`. Log 129 (DEDUCED). -/
def execCacheCheckFail (k : CheckFail) (a : CacheArray) (l : BitVec 42) (way : Fin 20) (s : State) :
    Host.Outcome State Fault Refusal :=
  onLive s fun s =>
    match a with
    | .l1 core data => l1Failed (s.logEvent 0 blockCoh causeNone (core.val / 9)) (l1Array core.val data) l.toNat way.val
    | .cache a => cacheFailed s k a.val l.toNat way.val
    | .directory h =>
      let inst := if h.val < 24 then h.val else h.val - 24
      if k = .tagBoth then entryLost s inst else s.logEvent 0 blockCoh causeNone inst

/-- R219: `DECLARE_AGENT_DEAD`. -/
def execDeclareAgentDead (a : Fin 44) (s : State) : Host.Outcome State Fault Refusal :=
  onLive s fun s => s.declareDead a.val

/-- R219: a home has removed a dead agent from its entries. -/
def execDeadAgentSweepDone (h : Fin 28) (a : Fin 44) (s : State) : Host.Outcome State Fault Refusal :=
  onLive s fun s =>
    if s.isDead a.val then
      let s := s.sweepHome h.val a.val
      let used := s.coh.homes.any (fun e => match e.2.dir with
        | .I => false
        | .X o => o == a.val
        | .O o ss => o == a.val || ss.contains a.val
        | .S ss => ss.contains a.val)
      if used then s else { s with coh := { s.coh with sweeping := s.coh.sweeping.filter (· != a.val) } }
    else s

/-- R220: the 20 µs of a guarded wait are over: the line is served as one of a dead agent, which the entry forgets, and
the silent agent is reported. -/
def execSnoopTimeout (h : Fin 28) (l : BitVec 42) (s : State) : Host.Outcome State Fault Refusal :=
  onLive s fun s =>
    let n := l.toNat
    let e := s.home h.val n
    match e.busy with
    | none => s
    | some t =>
      if due s t.timeout then
        let waited := t.fwd.isSome && !t.answered
        let silent := (if waited then t.fwd.toList else []) ++ t.invs
        let ss := match e.dir with
          | .O _ ss => ss.filter (fun a => !silent.contains a)
          | _ => []
        let s := if waited then s.lostOwner h.val n 3 ss else s
        let s := s.setHome h.val n { s.home h.val n with
          dir := e.dir.without silent, busy := some { t with answered := true, invs := [], timeout := none } }
        let s := silent.foldl (fun s a => s.logEvent 1 blockCoh 3 (if a < 4 then a else a - 4))
          (s.setBit COH_EVENT COH_EVENT.SNOOP_TIMEOUT)
        s.closeAll h.val n
      else s

end Sys2Proof.Machine
end

