-- ==== Sys2Proof/Machine/Pairs.lean ====
section
/-!
DEFINITION. Compared pairs: mismatches and retries (R185, R196), Assay verdicts (R187, R188, R190), the loss of
a cluster (R191) and difference injection (R195).
-/
namespace Sys2Proof.Machine
open Sys2Proof State

/-- R185: one mismatch of a view: it belongs to an event, and uses one of its two retries; without a retry left
it is persistent, and Assay starts by emptying the L1s (R186), or the pair is retired, if eight transients within 24
hours stand recorded (R190). Log 53 (DEDUCED). -/
def mismatch (s : State) (v lane : Nat) (agrees : Bool) : State :=
  let x := s.pairSt v
  let fresh := match x.last with
    | none => true
    | some t => decide (t + us 10 ≤ s.tb)
  let x := if fresh then { x with first := s.tb, lane := lane, used := 0 } else x
  let s := s.setPairSt v { x with last := some s.tb }
  let s := s.bumpSat (PAIR_COUNTS v) PAIR_COUNTS.MISMATCHES
  let s := s.setBit (PAIR_EVENT v) PAIR_EVENT.MISMATCH
  if 2 ≤ x.used then
    if 8 ≤ x.transients.length then s.retireView v 5 15 1 1
    else
      let s := ((s.setViewState v 3).meterRunStop v).emptyL1s v [false, true]
      let s := s.setPairSt v { s.pairSt v with assayAt := some s.tb }
      if s.fld (SPARE_STATUS (v / 8)) SPARE_STATUS.STATE = 0 then
        s.setFld (SPARE_STATUS (v / 8)) SPARE_STATUS.STATE 1 else s
  else
    let s := s.setPairSt v { s.pairSt v with used := x.used + 1 }
    if agrees then
      let s := (s.setViewState v 1).bumpSat (PAIR_COUNTS v) PAIR_COUNTS.RETRY_OK
      (s.pairLast v 1 15 0 0).pairEvent v 0 1
    else s.setViewState v 2

/-- The view executes, or is in a retry. -/
def canMismatch (s : State) (v : Nat) : Bool := s.live && (s.viewState v == 1 || s.viewState v == 2)

/-- R183, R185: `COMPARE_MISMATCH`: the first differing lane, and whether the repeated round agrees. -/
def execCompareMismatch (v : Fin 320) (lane : Fin 10) (agrees : Bool) (s : State) :
    Host.Outcome State Fault Refusal :=
  .next (if canMismatch s v.val && !s.isSplit (v.val / 2) then mismatch s v.val lane.val agrees else s)

/-- R196: a self-check of a split-mode core detects an error: a mismatch of its own core, on no lane. R290: from 320 on,
`v` is a channel engine: the repeat of the failed step, if it `agrees`, changes nothing; else the engine is retired. -/
def execSplitCheckError (v : Fin 384) (agrees : Bool) (s : State) : Host.Outcome State Fault Refusal :=
  .next (if 320 ≤ v.val then
      (if s.live && s.chanInService (v.val - 320) && !agrees then s.retireChan (v.val - 320) else s)
    else if canMismatch s v.val && s.isSplit (v.val / 2) then mismatch s v.val 15 agrees else s)

/-- A spare that was waking for view `v`, which did not take it, is available again, unless another view of the cluster
is in Assay. Log 135 (DEDUCED). -/
def spareBack (s : State) (v : Nat) : State :=
  let c := v / 8
  let others := ((List.range 8).map (8 * c + ·)).any (fun w => w != v && s.viewState w == 3)
  if s.fld (SPARE_STATUS c) SPARE_STATUS.STATE = 1 ∧ !others then s.setFld (SPARE_STATUS c) SPARE_STATUS.STATE 0 else s

/-- R187: Assay passed every core of the view: a transient. -/
def assayPassed (s : State) (v codeB : Nat) : State :=
  let x := s.pairSt v
  let recent := s.tb :: x.transients.filter (fun t => decide (s.tb < t + sec 86400))
  let s := s.setPairSt v { x with transients := recent }
  let s := s.bumpSat (PAIR_COUNTS v) PAIR_COUNTS.TRANSIENTS
  let s := s.setFld (PAIR_COUNTS v) PAIR_COUNTS.TRANSIENT_24H (min recent.length 8)
  let s := s.pairLast v 2 15 1 codeB
  ((spareBack s v).resumeView v).pairEvent v 0 2

/-- R188: the spare takes the condemned core's side, and the pair resumes with both L1s invalid. `side` is 0 or 1 within
the slot. -/
def substitute (s : State) (v side core codeA codeB : Nat) : State :=
  let c := v / 8
  let split := s.isSplit (v / 2)
  let s := s.coreDown (coreOf c core)
  let s := s.setFld (PAIR_STATUS v) (if side = 0 || split then PAIR_STATUS.CORE_A else PAIR_STATUS.CORE_B) 8
  let s := s.setBit (PAIR_STATUS v) PAIR_STATUS.SPARE_IN
  let s := s.setFld (SPARE_STATUS c) SPARE_STATUS.STATE 2
  let s := s.setFld (SPARE_STATUS c) SPARE_STATUS.SLOT (v / 2 % 4)
  let s := s.setReg (SPARE_JOINED c) (BitVec.ofNat 64 s.tb)
  let s := s.pairLast v 3 core codeA codeB
  ((s.emptyL1s v [false, true]).resumeView v).pairEvent v 1 3

/-- R187, R188: one core is condemned: substitution where the spare is available, its route works, the route's
injection passes and the copied checkpoint's parity holds; otherwise the view is retired. -/
def condemn (s : State) (v side core codeA codeB : Nat) (routeOk parityOk : Bool) : State :=
  let c := v / 8
  let st := s.fld (SPARE_STATUS c) SPARE_STATUS.STATE
  let route := 2 * (v / 2 % 4) + side
  if (st = 0 ∨ st = 1) && s.fld (SPARE_STATUS c) SPARE_STATUS.ROUTE_OK >>> route % 2 == 1 && routeOk && parityOk then
    substitute s v side core codeA codeB
  else
    let s := if core = 8 then s.setFld (SPARE_STATUS c) SPARE_STATUS.STATE 4 else spareBack s v
    s.retireView v 5 core codeA codeB

/-- R187: the result codes of the two sides of view `n` (of the one core, in split mode), and whether the route's
injection and the checkpoint copy pass if the spare comes in. -/
def verdict (s : State) (n codeA codeB : Nat) (routeOk parityOk : Bool) : State :=
  let a := s.fld (PAIR_STATUS n) PAIR_STATUS.CORE_A
  let b := s.fld (PAIR_STATUS n) PAIR_STATUS.CORE_B
  if s.isSplit (n / 2) then
    if codeA = 1 then assayPassed s n 0 else condemn s n (n % 2) a codeA 0 routeOk parityOk
  else if codeA = 1 ∧ codeB = 1 then assayPassed s n 1
  else if codeA = 1 then condemn s n 1 b codeA codeB routeOk parityOk
  else if codeB = 1 then condemn s n 0 a codeA codeB routeOk parityOk
  else
    let s := if a = 8 ∨ b = 8 then s.setFld (SPARE_STATUS (n / 8)) SPARE_STATUS.STATE 4 else spareBack s n
    s.retireView n 5 14 codeA codeB

/-- R191: `CLUSTER_LOSS`. -/
def execClusterLoss (c : Fin 40) (s : State) : Host.Outcome State Fault Refusal :=
  .next (if s.live then s.clusterLost c.val else s)

/-- R195: a request for injection runs only on a compared pair that is unbound, or bound and idle. The odd view of a
compared pair is reserved (R200), and a write there is ignored (R4). -/
def injectGo (s : State) (v : Nat) : State :=
  let st := s.fld (UOW_PAIR_BIND (v / 2)) UOW_PAIR_BIND.STATE
  if !s.isSplit (v / 2) && v % 2 == 1 then s
  else if !s.isSplit (v / 2) && (st == 0 || st == 2) then
    ((s.setBit (PAIR_INJECT v) PAIR_INJECT.REFUSED false).setBit (PAIR_INJECT v) PAIR_INJECT.BUSY).setViewState v 6
  else s.setBit (PAIR_INJECT v) PAIR_INJECT.REFUSED

/-- R195: `PAIR_INJECT_GO`. -/
def execPairInjectGo (v : Fin 320) (s : State) : Host.Outcome State Fault Refusal :=
  .next (if s.live then injectGo s v.val else s)

/-- R195: injection ends with the lanes that missed; a pair with a failed lane is retired with STATE 0. -/
def execInjectionDone (v : Fin 320) (miss : BitVec 10) (s : State) : Host.Outcome State Fault Refusal :=
  .next (if s.live && s.bit (PAIR_INJECT v.val) PAIR_INJECT.BUSY then
      let s := s.setBit (PAIR_INJECT v.val) PAIR_INJECT.BUSY false
      let s := s.setFld (PAIR_STATUS v.val) PAIR_STATUS.LANE_MISS miss.toNat
      if miss = 0 then (s.setViewState v.val 1).setBit (PAIR_EVENT v.val) PAIR_EVENT.INJECT_DONE
      else
        let s := (s.viewCores v.val).foldl (fun s k => s.coreDown k) s
        let s := ((s.freshEvent v.val).pairLast v.val 4 15 0 0)
        let s := (s.viewGone v.val 0).pairEvent v.val 1 6
        s.checkCluster (v.val / 8)
    else s)

end Sys2Proof.Machine
end

