-- ==== Sys2Proof/Machine/StartChecks.lean ====
section
/-!
DEFINITION. Difference injection and Assay of a cluster at a start, and when its power domain is switched on
(R194, R198, R399).
-/
namespace Sys2Proof.Machine
open Sys2Proof State

/-- Result code of a global core number: 1 passed. -/
def checkCode (x : StartChecks) (core : Nat) : Nat :=
  match x.cores.find? (fun e => e.1.val == core) with
  | some e => e.2.val
  | none => 1

/-- Lanes that injection missed on the comparator of a pair. -/
def checkMiss (x : StartChecks) (pair : Nat) : Nat :=
  match x.lanes.find? (fun e => e.1.val == pair) with
  | some e => e.2.toNat
  | none => 0

namespace State

/-- R194: injection on the eight routes of cluster `c`'s spare, and Assay of the spare core; one that a module reset left
waking is available again, or unusable. Log 135 (DEDUCED). -/
def checkSpare (s : State) (c : Nat) (x : StartChecks) : State :=
  let ok := ((List.range 8).map (fun r => if x.routes.any (fun e => e.val == 8 * c + r) then 0 else 2 ^ r)).sum
  let s := s.setFld (SPARE_STATUS c) SPARE_STATUS.ROUTE_OK ok
  let free := s.fld (SPARE_STATUS c) SPARE_STATUS.STATE
  if 1 < free then s
  else s.setFld (SPARE_STATUS c) SPARE_STATUS.STATE (if ok = 0 ∨ checkCode x (coreOf c 8) ≠ 1 then 3 else 0)

/-- R194: injection on a slot's comparator, in compared mode. -/
def checkLanes (s : State) (pair : Nat) (x : StartChecks) : State :=
  let v := 2 * pair
  if s.isSplit pair || s.viewOut v || checkMiss x pair == 0 then s
  else
    let s := (s.viewCores v).foldl (fun s k => s.coreDown k) s
    let s := s.setFld (PAIR_STATUS v) PAIR_STATUS.LANE_MISS (checkMiss x pair)
    ((s.freshEvent v).pairLast v 4 15 0 0).viewGone v 0 |>.pairEvent v 1 4

/-- R194, R198: Assay of the cores of one view. A pass is reported only for the Assay of an interrupted event. A core
condemned is an event that also sets MISMATCH (R192); `joins` names the views into which steps 5 and 6 of R188 fail. -/
def checkView (s : State) (v : Nat) (x : StartChecks) : State :=
  if s.viewOut v then s
  else
    let p := s.pairSt v
    let a := checkCode x (coreOf (v / 8) (s.fld (PAIR_STATUS v) PAIR_STATUS.CORE_A))
    let b := if s.isSplit (v / 2) then 1 else checkCode x (coreOf (v / 8) (s.fld (PAIR_STATUS v) PAIR_STATUS.CORE_B))
    let joined := !x.joins.any (fun e => e.val == v)
    if p.assayAgain then
      verdict (s.setPairSt v { p with assayAgain := false }) v a b joined true
    else if a = 1 ∧ b = 1 then s
    else verdict ((s.freshEvent v).setBit (PAIR_EVENT v) PAIR_EVENT.MISMATCH) v a b joined true

/-- The checks of cluster `c`, slots in rising order. -/
def assayCluster (s : State) (c : Nat) (x : StartChecks) : State :=
  let s := s.checkSpare c x
  let s := (List.range 4).foldl (fun s k => s.checkLanes (4 * c + k) x) s
  let vs := ((List.range 4).map (fun k => s.slotViews (4 * c + k))).flatten
  let s := vs.foldl (fun s v => s.checkView v x) s
  if s.prs.lost.get false c then s else s.checkCluster c

end State
end Sys2Proof.Machine
end

