-- ==== Sys2Proof/Machine/SurexCmds.lean ====
section
/-!
DEFINITION. Commands of the Surex protocol (R315 to R329): frames that arrive, timers, the links of the ports, and
enabling an association.
-/
namespace Sys2Proof.Machine
open Sys2Proof

/-! ### Reading a frame -/

/-- R316: a frame's header and what follows it. -/
structure SrxFrame where
  type : Nat
  assoc : Nat
  phase : Nat
  target : Nat
  xid : Nat
  seq : Nat
  credit : Nat
  header : Bytes
  /-- between the header and the tag -/
  payload : Bytes
  tag : Bytes
  deriving DecidableEq, Repr

/-- What a port makes of the bytes it receives. -/
inductive RxResult where
  /-- not a frame to this port, or not a Surex frame -/
  | ignore
  | macControl
  | malformed
  | frame (f : SrxFrame)
  deriving DecidableEq, Repr

namespace State

/-- R313, R315: association `a` exists at port `p`, for this source address and tag. -/
def assocHere (s : State) (a p : Nat) (src : Nat) (tci : Option Nat) : Bool :=
  let c := SRX_ASSOC_CFG a
  s.bit c SRX_ASSOC_CFG.EN && s.fld c SRX_ASSOC_CFG.PORT == p && s.fld c SRX_ASSOC_CFG.PEER_MAC == src &&
    (if s.bit (SRX_ASSOC_VLAN a) SRX_ASSOC_VLAN.EN then
      tci.any (fun t => t % 4096 == s.fld (SRX_ASSOC_VLAN a) SRX_ASSOC_VLAN.VID)
     else tci.isNone)

/-- R315, R330: read the bytes that arrive at port `p`. Log 89 (DEDUCED). -/
def readFrame (s : State) (p : Nat) (b : Bytes) : RxResult :=
  let be := fun (o n : Nat) => ofLe (slice b o n).reverse
  let n := b.length
  if n < 18 ∨ 9216 < n ∨ leAt b (n - 4) 4 ≠ Crypto.crc32 (b.take (n - 4)) then .ignore
  else
    let tagged := be 12 2 == 0x8100
    let o := if tagged then 16 else 12
    if be o 2 = 0x8808 then .macControl
    else if be 0 6 ≠ s.fld (SRX_PORT p) SRX_PORT.MAC ∨ be o 2 ≠ s.fld SRX_CFG SRX_CFG.ETHERTYPE then .ignore
    else
      let x := slice b (o + 2) (n - 4 - (o + 2))
      let a := leAt x 4 2 % 4096
      let type := leAt x 1 1
      if x.length < 52 ∨ leAt x 0 1 ≠ 1 ∨ type < 1 ∨ 10 < type ∨ leAt x 2 2 + 48 ≠ x.length ∨
          !s.assocHere a p (be 6 6) (if tagged then some (be 14 2) else none) then .malformed
      else .frame {
        type := type, assoc := a, phase := leAt x 4 2 / 4096 % 2, target := leAt x 6 2, xid := leAt x 8 8
        seq := leAt x 16 8, credit := leAt x 24 8, header := x.take 32, payload := slice x 32 (x.length - 48)
        tag := x.drop (x.length - 16) }

/-- R320, R329: a Probe is not of an old epoch. An establish reply is of the epoch that it names; another Probe has the
key phase of the current epoch. Log 141 (DEDUCED). -/
def probeCurrent (s : State) (f : SrxFrame) : Bool :=
  let now := s.assocEpoch f.assoc
  decide (now ≤ leAt f.payload 4 4) && (leAt f.payload 0 1 == 2 || f.phase == now % 2)

/-- R320: the clear payload of a frame, if its phase and its tag are right. -/
def openFrame (s : State) (f : SrxFrame) : Option Bytes :=
  let x := s.assoc f.assoc
  if f.type = 10 then
    match x.secret with
    | none => none
    | some sec =>
      if !s.probeCurrent f then none
      else (Crypto.gcmDec (srxProbeKey sec f.assoc) (slice f.payload 48 12) (f.header ++ f.payload) [] f.tag).map
        (fun _ => f.payload)
  else if f.phase ≠ s.assocEpoch f.assoc % 2 ∨ x.rxKey = [] then none
  else if f.type = 4 then
    Crypto.gcmDec x.rxAck (leBytes 4 f.credit ++ leBytes 8 f.seq) f.header f.payload f.tag
  else Crypto.gcmDec x.rxKey (zeros 4 ++ leBytes 8 f.seq) f.header f.payload f.tag

/-- Something has arrived on an association: the keepalive interval starts again (R321). -/
def heard (s : State) (a : Nat) : State :=
  let x := s.assoc a
  s.setAssoc a { x with
    lastHeard := s.tb, keepalives := 0
    kaAt := x.kaAt.map (fun _ => s.tb + us (s.fld SRX_PROBE_CFG SRX_PROBE_CFG.KEEPALIVE_US)) }

/-- R322: credit never falls, and frames that waited for it go out. Log 89 (DEDUCED). -/
def takeCredit (s : State) (a credit : Nat) : State :=
  let x := s.assoc a
  let s := s.setAssoc a { x with txCredit := max x.txCredit credit }
  pumpAssoc (x.waiting.length + 1) s a

/-- R321: a new epoch before either Sequence reaches 2^32. Log 89 (DEDUCED). -/
def renewEpoch (s : State) (a : Nat) : State :=
  let x := s.assoc a
  if (2 ^ 32 - 2 ^ 21 ≤ x.txNext ∨ 2 ^ 32 - 2 ^ 21 ≤ x.rxNext) ∧ x.estAt.isNone then s.startEstablish a else s

/-! ### Answers -/

/-- A scoped Abort (R325). -/
def scopedAbort (k : StepKind) : Bool :=
  match k with
  | .abort n => n != 0
  | _ => false

/-- R327: the outstanding step a frame answers: its exchange and its target, from any association. Scoped Aborts of one
scope go to several peers, and one of them is answered by its own. -/
def stepFor (s : State) (f : SrxFrame) (kinds : StepKind → Bool) : Option XStep :=
  let fits := fun (t : XStep) => t.xid == f.xid && kinds t.kind && s.fld (CHN_DEV_CFG t.dev) CHN_DEV_CFG.TARGET == f.target
  (s.chn.steps.find? (fun t => fits t && (s.peerMacs t.dev).contains (s.fld (SRX_ASSOC_CFG f.assoc) SRX_ASSOC_CFG.PEER_MAC))).or
    (s.chn.steps.find? (fun t => fits t && !scopedAbort t.kind))

def dropStep (s : State) (t : XStep) : State :=
  { s with chn := { s.chn with steps := s.chn.steps.erase t } }

/-- R123: a program of a unit's run ends in error at a peer. -/
def refuseRun (s : State) (p : ChanProg) (xid : Nat) : State :=
  match p.unit with
  | some k => (s.refuseExchange k xid).checkRefused k
  | none => s

/-- A step of a program is refused or ends in error: the program ends, and its unit with it.
Log 87 (DEDUCED). -/
def stepFails (s : State) (p : ChanProg) (xid status detail res : Nat) : State :=
  (s.chanFail p.id status detail res).refuseRun p xid

def dataStep (k : StepKind) : Bool := k == .read || k == .write || k == .tentative

/-- R364: data that a step moved, charged to the owner of its queue. -/
def meterStep (s : State) (p : ChanProg) (t : XStep) (res : Nat) : State :=
  if !dataStep t.kind then s
  else
    let k := s.queueMeter (chnRegs p.queue)
    let m := s.meter k
    s.setMeter k { m with channel := m.channel + (t.length - res) }

/-- The peer states that it holds an exchange (R299, R301). -/
def exchangeHeld (s : State) (p : ChanProg) (xid : Nat) : State :=
  match p.unit with
  | some k => match s.unit? k with
    | some u => s.setUnit k { u with exchanges := u.exchanges.map (fun (e : Exchange) =>
        if e.id = xid then { e with phase := .held } else e) }
    | none => s
  | none => s.holdOpen p.id xid

/-- R318, R327: a Status frame. A device error ends a unit's Tentative Write without its being held (R300).
Log 87 (DEDUCED). -/
def statusFrame (s : State) (f : SrxFrame) (body : Bytes) : State :=
  let st := leAt body 0 8
  let res := leAt body 8 4
  match s.stepFor f (fun k => dataStep k || k == .control || k == .sense) with
  | none => s.bump SRX_LATE_ANSWER SRX_LATE_ANSWER.COUNT
  | some t => match t.owner with
    | .unit _ => s.dropStep t
    | .program pid => match s.progOf pid with
      | none => s.dropStep t
      | some p =>
        let s := (s.dropStep t).meterStep p t res
        let s := if dataStep t.kind && p.lastData == t.xid then s.setProg { p with lastResidual := res } else s
        if st % 256 = 2 ∧ !(t.kind == .tentative && p.unit.isSome) then s.stepFails p t.xid 2 st 0
        else if t.kind = .tentative then
          if st % 256 = 1 then (s.exchangeHeld p t.xid).chanSettle pid else s.stepFails p t.xid 1 t.xid 0
        else s.chanSettle pid

/-- R327: a Data frame of a Read or Sense: written by offset, within the command's length. -/
def dataFrame (s : State) (f : SrxFrame) (body : Bytes) : State :=
  match s.stepFor f (fun k => k == .read || k == .sense) with
  | none => s.bump SRX_LATE_ANSWER SRX_LATE_ANSWER.COUNT
  | some t => match t.owner with
    | .unit _ => s
    | .program pid => match s.progOf pid with
      | none => s
      | some p =>
        let o := leAt body 0 8
        match s.ioWrite (s.queueWorld (chnRegs p.queue)) (t.mem + o) ((body.drop 8).take (t.length - o)) with
        | (true, s) => s
        | (false, s) => s.failProgram pid 5 p.lastEntry 0

/-- R329: the refusal of an exchange in an aborted scope answers a Tentative, not the unit's Abort that aborted it, although
a run-scope Abort bears the ID of the run's first exchange. -/
def lateRefusal (t : XStep) (body : Bytes) : Bool :=
  leAt body 0 2 == 3 && match t.kind with
    | .abort _ => true
    | _ => false

/-- R327, R328: a NACK. -/
def nackFrame (s : State) (f : SrxFrame) (body : Bytes) : State :=
  match s.stepFor f (fun _ => true) with
  | none => s.bump SRX_LATE_ANSWER SRX_LATE_ANSWER.COUNT
  | some t => match t.owner with
    | .unit _ =>
      if lateRefusal t body then s.bump SRX_LATE_ANSWER SRX_LATE_ANSWER.COUNT else
      let s := s.setBit SRX_EVENT SRX_EVENT.COMMIT_REFUSED
      let s := if t.refusedOnce then s else s.logEvent 1 blockSrx 4 f.assoc
      let t' := { t with reissueAt := some (s.tb + s.retx), refusedOnce := true }
      { s with chn := { s.chn with steps := s.chn.steps.map (fun x => if x = t then t' else x) } }
    | .program pid => match s.progOf pid with
      | none => s.dropStep t
      | some p =>
        let s := s.dropStep t
        if t.closing then s.chanSettle pid
        else if t.kind = .tentative then s.stepFails p t.xid 1 t.xid 0
        else s.stepFails p t.xid 0x10 t.xid (leAt body 0 2)

/-- R327: a Durable ack ends a Commit or an Abort. Log 89 (DEDUCED). -/
def durableFrame (s : State) (f : SrxFrame) : State :=
  match s.stepFor f (fun k => match k with
    | .commit => true
    | .abort _ => true
    | _ => false) with
  | none => s.bump SRX_LATE_ANSWER SRX_LATE_ANSWER.COUNT
  | some t =>
    let s := s.dropStep t
    match t.owner, t.kind with
    | .unit k, .commit =>
      let s := s.unbindPath t.xid
      match s.unit? k with
      | some u => (s.setUnit k { u with exchanges := u.exchanges.map (fun (e : Exchange) =>
          if e.id = t.xid then { e with phase := .committed } else e) }).checkCommitted k
      | none => s
    | .unit k, .abort sc =>
      let s := if sc = 0 then s.unbindPath t.xid else s
      match s.unit? k with
      | some u => (s.setUnit k { u with aborts := u.aborts.erase (AbortOut.mk t.xid t.dev sc) }).checkAborted k
      | none => s
    | .program pid, _ =>
      match s.progOf pid with
      | some p => (s.setProg { p with free := p.free.map (fun x => if x.1 = t.xid then (x.1, x.2.1, false) else x) }).chanSettle pid
      | none => s
    | _, _ => s

/-! ### Acks and probes -/

/-- R322, R323: an Ack releases frames; a duplicate one sends what is outstanding again, once per interval. -/
def ackFrame (s : State) (f : SrxFrame) : State :=
  let a := f.assoc
  let x := s.assoc a
  let left := x.unacked.filter (fun t => decide (f.seq < t.seq))
  let s :=
    if left.length < x.unacked.length then
      s.setAssoc a { x with unacked := left, retxAt := (left.head?).map (·.sentAt) }
    else if left != [] && (x.fastAt.all (fun t => decide (t + s.retx ≤ s.tb))) then
      let again := left.map (fun (t : TxFrame) => { t with sentAt := s.tb })
      let s := s.setAssoc a { x with unacked := again, retxAt := some s.tb, fastAt := some s.tb }
      left.foldl (fun s t => s.emit (.frame (s.assocPort a) t.bytes)) s
    else s
  s.takeCredit a f.credit

/-- R321: a Probe: the reply to an establishment or to a keepalive. -/
def probeFrame (s : State) (f : SrxFrame) (body : Bytes) : State :=
  let a := f.assoc
  let x := s.assoc a
  let kind := leAt body 0 1
  let epoch := leAt body 4 4
  let window := leAt body 8 4
  if kind = 2 ∧ x.estAt.isSome ∧ epoch = x.estEpoch ∧ 64 ≤ window ∧ window ≤ 2 ^ 20 then
    s.assocUp a window (slice body 16 32)
  else if kind = 4 ∧ s.assocState a = 2 ∧ epoch = s.assocEpoch a then s.heard a
  else s

/-- R322: a sequenced frame: processed if it is the next expected, and acknowledged in any case. -/
def sequenced (s : State) (f : SrxFrame) (body : Bytes) : State :=
  let a := f.assoc
  let x := s.assoc a
  if f.seq ≠ x.rxNext then s.sendAck a
  else
    let s := s.setAssoc a { x with rxNext := x.rxNext + 1 }
    let s := s.takeCredit a f.credit
    let s := match f.type with
      | 2 => s.dataFrame f body
      | 3 => s.statusFrame f body
      | 5 => s.durableFrame f
      | 6 => s.nackFrame f body
      | _ => s
    (s.sendAck a).renewEpoch a

/-- R330, R332: a port counts the FEC codewords that it corrected on the way to these bytes and those that it could not:
free numbers. Log 142 (DESIGN CHOICE). -/
def countFec (s : State) (p : Nat) : State :=
  let (w, s) := s.freeWord
  (s.bumpSat (SRX_PORT_STATUS p) SRX_PORT_STATUS.FEC_CORRECTED (w.toNat % 2 ^ 32)).bumpSat (SRX_PORT_STATUS p)
    SRX_PORT_STATUS.FEC_UNCORRECTED (w.toNat / 2 ^ 32 % 2 ^ 16)

/-- R315 to R322: bytes arrive at port `p`; the command is about a frame whose type is in `types`.
Log 89 (DEDUCED). -/
def receive (s : State) (p : Nat) (b : Bytes) (types : List Nat) : State :=
  if !s.portUp p then s
  else
  let s := s.countFec p
  match s.readFrame p b with
    | .ignore => s
    | .macControl => s.bumpSat (SRX_PORT_STATUS p) SRX_PORT_STATUS.MAC_CONTROL
    | .malformed => s.bump SRX_MALFORMED SRX_MALFORMED.COUNT
    | .frame f =>
      if !types.contains f.type then s
      else match s.openFrame f with
        | none => (s.bump SRX_AUTH_FAIL SRX_AUTH_FAIL.COUNT).setBit SRX_EVENT SRX_EVENT.AUTH_FAIL
        | some pay =>
          let body := pay.take (pay.length - 4)
          if leAt pay (pay.length - 4) 4 ≠ Crypto.crc32c (f.header ++ body) then
            ((s.bump SRX_CRC_FAIL SRX_CRC_FAIL.COUNT).setBit SRX_EVENT SRX_EVENT.CRC_FAIL).logEvent 0 blockSrx 3 f.assoc
          else match f.type with
            | 10 => s.probeFrame f body
            | 4 => ((s.heard f.assoc).ackFrame f).renewEpoch f.assoc
            | _ => (s.heard f.assoc).sequenced f body

/-! ### Timers, links, enabling -/

/-- What the loss of an association may have ended: programs, and units that prepare. -/
def afterDown (s : State) : State :=
  let s := s.chanSettleAll
  (s.disp.units.map (·.1)).foldl (fun s k => s.checkRefused k) s

/-- R323, R324: the retransmit timer of an association's oldest frame. -/
def retransmit (s : State) (a : Nat) : State :=
  let x := s.assoc a
  match x.unacked with
  | [] => s
  | t :: _ =>
    if s.assocState a ≠ 2 ∨ s.tb < t.sentAt + s.retx then s
    else if s.fld SRX_CFG SRX_CFG.TRIES ≤ t.tries then (s.assocDown a).afterDown
    else
      let again := x.unacked.mapIdx (fun i (t : TxFrame) =>
        { t with sentAt := s.tb, tries := if i = 0 then t.tries + 1 else t.tries })
      let s := s.setAssoc a { x with unacked := again, retxAt := some s.tb }
      let s := s.bumpSat (SRX_ASSOC_RETX a) SRX_ASSOC_RETX.RETRANSMITS
      x.unacked.foldl (fun s t => s.emit (.frame (s.assocPort a) t.bytes)) s

/-- R321, R324: the keepalive timer. -/
def keepalive (s : State) (a : Nat) : State :=
  let x := s.assoc a
  if s.assocState a ≠ 2 ∨ !due s x.kaAt then s
  else if s.fld SRX_CFG SRX_CFG.TRIES ≤ x.keepalives then (s.assocDown a).afterDown
  else
    let s := s.setAssoc a { x with
      keepalives := x.keepalives + 1
      kaAt := some (s.tb + us (s.fld SRX_PROBE_CFG SRX_PROBE_CFG.KEEPALIVE_US)) }
    s.sendProbe a 3 (s.assocEpoch a) 0 []

/-- Enabled associations of a port. -/
def portAssocs (s : State) (p : Nat) : List Nat :=
  (s.regs.map (·.1)).filterMap (fun k =>
    if 0x901000 ≤ k ∧ k < 0x921000 ∧ (k - 0x901000) % 0x20 = 0 then
      let a := (k - 0x901000) / 0x20
      if s.bit (SRX_ASSOC_CFG a) SRX_ASSOC_CFG.EN && s.assocPort a == p then some a else none
    else none)

/-- R324: a port loses link, or is switched off. -/
def portDown (s : State) (p : Nat) (off : Bool) : State :=
  let had := s.portUp p
  let s := (s.setBit SRX_STATUS ⟨p, 1⟩ false).setBit (SRX_PORT_STATUS p) SRX_PORT_STATUS.LINK_UP false
  let s := if had then s.setBit SRX_EVENT SRX_EVENT.PORT_DOWN else s
  (((s.portAssocs p).foldl (fun s a => s.assocDown a off) s).showPort p).afterDown

/-- R329, R330: a port gains link: every enabled association that is not up sends its establish Probe at once. -/
def portRise (s : State) (p : Nat) : State :=
  if !s.pins.seated || s.portOff p then s
  else
    let s := (s.setBit SRX_STATUS ⟨p, 1⟩).setBit (SRX_PORT_STATUS p) SRX_PORT_STATUS.LINK_UP
    ((s.portAssocs p).foldl (fun s a => if s.assocState a = 2 then s else s.startEstablish a) s).showPort p

/-- R321, R332: a write to `SRX_ASSOCa_CFG`. -/
def assocWrite (s : State) (a : Nat) (v : W64) : State :=
  let was := s.bit (SRX_ASSOC_CFG a) SRX_ASSOC_CFG.EN
  let s := s.regWrite (SRX_ASSOC_CFG a) v
  let is_ := s.bit (SRX_ASSOC_CFG a) SRX_ASSOC_CFG.EN
  if !was && is_ then s.startEstablish a
  else if was && !is_ then (((s.assocDown a).setFld (SRX_ASSOC_CFG a) SRX_ASSOC_CFG.STATE 0).showPaths a).afterDown
  else s

/-- R328: the Commit or Abort that a peer refused goes out again, unless its ring is fenced (R49). -/
def reissue (s : State) (xid d : Nat) : State :=
  match s.chn.steps.find? (fun t => t.xid == xid && t.dev == d && due s t.reissueAt) with
  | none => s
  | some t =>
    let t' := { t with reissueAt := some (s.tb + s.retx) }
    let s := { s with chn := { s.chn with steps := s.chn.steps.map (fun x => if x = t then t' else x) } }
    if s.stepWithheld t then s else s.sendStep t'

end State

/-! ### The commands -/

/-- R321, R332. -/
def execAssocEnable (a : Fin 4096) (v : W64) (s : State) : Host.Outcome State Fault Refusal :=
  onLive s fun s => s.assocWrite a.val v

/-- R321. Log 56 (DEDUCED). -/
def execEstablishTimer (a : Fin 4096) (s : State) : Host.Outcome State Fault Refusal :=
  onLive s fun s => if due s (s.assoc a.val).estAt then s.startEstablish a.val else s

/-- R321, R324. -/
def execKeepaliveTimer (a : Fin 4096) (s : State) : Host.Outcome State Fault Refusal :=
  onLive s fun s => s.keepalive a.val

/-- R321: the bytes of an Ethernet frame that arrive at a port, here a Probe. -/
def execProbeFrame (p : Fin 16) (b : Bytes) (s : State) : Host.Outcome State Fault Refusal :=
  onLive s fun s => s.receive p.val b [10]

/-- R327: a Data frame; a frame of a type that only the module sends is accepted in sequence and has no effect. -/
def execDataFrame (p : Fin 16) (b : Bytes) (s : State) : Host.Outcome State Fault Refusal :=
  onLive s fun s => s.receive p.val b [2, 1, 7, 8, 9]

/-- R327. -/
def execStatusFrame (p : Fin 16) (b : Bytes) (s : State) : Host.Outcome State Fault Refusal :=
  onLive s fun s => s.receive p.val b [3]

/-- R322, R323. -/
def execAckFrame (p : Fin 16) (b : Bytes) (s : State) : Host.Outcome State Fault Refusal :=
  onLive s fun s => s.receive p.val b [4]

/-- R327. -/
def execDurableAck (p : Fin 16) (b : Bytes) (s : State) : Host.Outcome State Fault Refusal :=
  onLive s fun s => s.receive p.val b [5]

/-- R327, R328. -/
def execNackFrame (p : Fin 16) (b : Bytes) (s : State) : Host.Outcome State Fault Refusal :=
  onLive s fun s => s.receive p.val b [6]

/-- R323. -/
def execRetransmitTimer (a : Fin 4096) (s : State) : Host.Outcome State Fault Refusal :=
  onLive s fun s => s.retransmit a.val

/-- R324. -/
def execPortLinkDown (p : Fin 16) (s : State) : Host.Outcome State Fault Refusal :=
  onLive s fun s => s.portDown p.val false

/-- R329. -/
def execPortLinkUp (p : Fin 16) (s : State) : Host.Outcome State Fault Refusal :=
  onLive s fun s => s.portRise p.val

/-- R328. -/
def execCommitReissueTimer (xid : W64) (d : Fin 1024) (s : State) : Host.Outcome State Fault Refusal :=
  onLive s fun s => s.reissue xid.toNat d.val

end Sys2Proof.Machine
end

