-- ==== Sys2Proof/Machine/Domains.lean ====
section
/-!
DEFINITION. The 64 switched power domains (R396): what the trusted world holds (R361), what refuses a switch-off
(R397), drains (R362), and switching off and on (R398, R399).
-/
namespace Sys2Proof.Machine
open Sys2Proof

/-- R396: first and last domain numbers of the kinds. -/
def isCluster (d : Nat) : Bool := decide (d < 40)
def isHearthHalf (d : Nat) : Bool := decide (40 ≤ d) && decide (d < 48)
def isFabric (d : Nat) : Bool := decide (48 ≤ d) && decide (d < 52)
def isQuarter (d : Nat) : Bool := decide (52 ≤ d) && decide (d < 56)
def isCipHalf (d : Nat) : Bool := decide (56 ≤ d) && decide (d < 58)
def isSwgHalf (d : Nat) : Bool := decide (58 ≤ d) && decide (d < 60)
def isSeam (d : Nat) : Bool := d == 60
def isRail (d : Nat) : Bool := decide (61 ≤ d)

/-- Queues of half `k`. -/
def halfQueues (k : Nat) : List Nat := (List.range 64).map (64 * k + ·)
/-- Executors of cluster `c`. -/
def clusterExecs (c : Nat) : List Nat := (List.range 8).map (8 * c + ·)

namespace State

def dom (s : State) (d : Nat) : DomState := s.pwr.doms.get {} d
def setDom (s : State) (d : Nat) (x : DomState) : State :=
  { s with pwr := { s.pwr with doms := s.pwr.doms.set {} d x } }
def domState (s : State) (d : Nat) : Nat := s.fld (PWR_DOM d) PWR_DOM.STATE
def setDomState (s : State) (d n : Nat) : State := s.setFld (PWR_DOM d) PWR_DOM.STATE n
def domReq (s : State) (d : Nat) (on : Bool) : State := s.setBit (PWR_DOM d) PWR_DOM.ON on

/-! ### Held domains and refusals -/

/-- A sealed partition owns the queue; one that Crucible has refused has no owner. -/
def sealedQueue (s : State) (q : QueueRegs) : Bool :=
  s.fld q.status q.stateF != 0 && s.fld q.cfg QCFG.KIND == 1 && s.partSealed (s.fld q.cfg QCFG.PARTITION)

/-- Sealed work on a pair: its binding, or what an executor runs or holds suspended. -/
def pairSealed (s : State) (n : Nat) : Bool :=
  let st := s.fld (UOW_PAIR_BIND n) UOW_PAIR_BIND.STATE
  ((st == 2 || st == 3 || st == 6) && s.partSealed (s.fld (UOW_PAIR_BIND n) UOW_PAIR_BIND.PARTITION)) ||
    (s.slotPart n).any s.partSealed || (s.proc (2 * n)).suspended.isSome || (s.proc (2 * n + 1)).suspended.isSome

/-- A sealed partition owns a device with a path through a port of quarter `k`. Log 73 (DEDUCED). -/
def sealedDevice (s : State) (k d : Nat) : Bool :=
  s.fld (CHN_DEV_CFG d) CHN_DEV_CFG.OWNER_KIND == 1 && s.partSealed (s.fld (CHN_DEV_CFG d) CHN_DEV_CFG.OWNER) &&
    (List.range 4).any (fun p => s.bit (CHN_DEV_PATH d p) CHN_DEV_PATH.VALID &&
      s.fld (CHN_DEV_PATH d p) CHN_DEV_PATH.PORT / 4 == k)

/-- R361: the trusted world holds domain `d`. Log 73 (DEDUCED). -/
def domHeld (s : State) (d : Nat) : Bool :=
  if isCluster d then (List.range 4).any (fun k => s.pairSealed (4 * d + k))
  else if isHearthHalf d then
    let inHalf := fun (w : Option Nat) => w.map (wayHalf ((d - 40) / 2)) == some (d % 2)
    s.coh.lines.any (fun e => e.1 / 2 ^ 42 == (d - 40) / 2 && e.2.st != .I && e.2.tag != 0 && (inHalf e.2.way || inHalf e.2.twin))
  else if isQuarter d then
    (halfQueues (d - 52)).any (fun n => s.sealedQueue (chnRegs n)) || (List.range 1024).any (s.sealedDevice (d - 52))
  else if isCipHalf d then
    (halfQueues (d - 56)).any (fun n => (s.cipQueue n).any (fun r => r.copy.isSome) || s.sealedQueue (cipRegs n))
  else if isSwgHalf d then
    (halfQueues (d - 58)).any (fun n => s.sealedQueue (swgRegs n) && (s.swgQueue n != [] || (s.swgCtx n).isSome))
  else if isSeam d then s.waitingStandbys != [] || s.jnl.partners.any (fun e => e.2.abortDue)
  else false

/-- R397: work or records that keep a fabric or a rail group on. -/
def memInService (s : State) : Bool :=
  s.presentFns.any (fun f => s.enabledSqs f != [] || (List.range 17).any (s.cqEnabled f)) || s.disp.units != [] ||
    s.disp.rings.any (fun e => e.2.exists_) || s.cru.parts.any (fun e => s.fld (CRU_PART e.1) CRU_PART.STATE != 0)

/-- R397: a ring mirrored to or from this module, a standby registration, or a seam lane as the timebase's. -/
def seamInService (s : State) : Bool :=
  s.disp.rings.any (fun e => e.2.mirror.isSome) || s.jnl.foreign != [] ||
    s.cru.parts.any (fun e => s.fld (CRU_PART e.1) CRU_PART.STATE == 7) || s.jnl.partners.any (fun e => e.2.standby != []) ||
    (s.bit CLK_TB_CFG CLK_TB_CFG.LANE_EN && !s.bit CLK_TB_CFG CLK_TB_CFG.KIND)

/-- R397: why a switch-off of domain `d` is refused, 0 for none. Log 73 (DEDUCED). -/
def domRefusal (s : State) (d : Nat) : Nat :=
  let die := d - 48
  if s.pwr.reported then 5
  else if isFabric d ∧ ((List.range 10).map (10 * die + ·) ++ [40 + 2 * die, 41 + 2 * die]).any
      (fun e => s.fld PWR_DOMAINS PWR_DOMAINS.ON >>> e % 2 == 1) then 4
  else if isRail d ∧ s.cru.parts.any (fun e => e.2.regions != []) then 2
  else if (isFabric d ∨ isRail d) ∧ s.memInService then 1
  else if isSeam d ∧ s.seamInService then 3
  else 0

/-! ### Drains -/

def drains (s : State) : Nat := ((List.range 64).filter (fun d => s.domState d == 2)).length
def showDrains (s : State) : State := s.setFld CRU_STATUS CRU_STATUS.LEASES s.drains

/-- R199, R363: Assay or a substitution on a core of cluster `d`. -/
def domAssay (s : State) (d : Nat) : Bool :=
  isCluster d && (clusterExecs d).any (fun v => s.viewState v == 3 || s.viewState v == 4)

/-- R362 steps 1 and 2. While Crucible restarts, the lease arms at its return. -/
def startDrainOf (s : State) (d : Nat) : State :=
  let back := s.fld CRU_STATUS CRU_STATUS.STATE == 2
  let s := s.setDom d { leaseEnd := if back then none else some (s.tb + ms 2), leaseWaits := back }
  (s.setDomState d 2).showDrains

/-! ### Caches of a domain -/

/-- A line of a cache that is on its way out, or that something waits for. -/
def inWork (x : CacheLine) : Bool := (x.st != .I && (!x.stable || x.cleaning)) || x.chk.isSome || x.want.isSome || x.waits != []

/-- R398: no executor of cluster `c` runs, and no store of one waits. -/
def clusterQuiet (s : State) (c : Nat) : Bool :=
  (clusterExecs c).all (fun e => s.run e == .idle && (s.buffered e).isEmpty)

/-- R223, R224: the flush of a cluster's L2: every line that nothing waits for is replaced. -/
def flushL2 (s : State) (c : Nat) : State :=
  let a := 4 + c
  let s := if s.fld (COH_L2 c) COH_L2.STATE = 3 then s else s.setFld (COH_L2 c) COH_L2.STATE 2
  (s.coh.lines.filter (fun e => e.1 / 2 ^ 42 == a && e.2.st != .I && !inWork e.2)).foldl
    (fun s e => s.replaceLine a (e.1 % 2 ^ 42)) s

/-- R207: a Hearth cleans every dirty line. -/
def cleanHearth (s : State) (h : Nat) : State :=
  (s.coh.lines.filter (fun e => e.1 / 2 ^ 42 == h && (e.2.st == .M || e.2.st == .O) && !e.2.cleaning)).foldl
    (fun s e => s.cleanLine h (e.1 % 2 ^ 42)) s

/-- R207: a Hearth drops every line held in its half `k`. -/
def dropHalf (s : State) (h k : Nat) : State :=
  let inHalf := fun (w : Option Nat) => w.map (wayHalf h) == some k
  (s.coh.lines.filter (fun e => e.1 / 2 ^ 42 == h && (inHalf e.2.way || inHalf e.2.twin))).foldl (fun s e =>
    let l := e.1 % 2 ^ 42
    if inHalf e.2.way then
      if inWork e.2 || e.2.isDirty then s.setCline h l { e.2 with way := e.2.twin, twin := none } else s.replaceLine h l
    else s.setCline h l { e.2 with twin := none }) s

/-- R207, R223, R398: what must leave the caches before domain `d` goes off leaves them. -/
def flushDom (s : State) (d : Nat) : State :=
  if isCluster d then (if s.clusterQuiet d then s.flushL2 d else s)
  else if isHearthHalf d then s.cleanHearth ((d - 40) / 2)
  else s

/-- R398: the switch-off of domain `d` starts: requests still queued end, and the caches begin to be flushed. -/
def beginOff (s : State) (d : Nat) : State :=
  let s := (s.setDomState d 3).flushDom d
  if isCipHalf d then
    (halfQueues (d - 56)).foldl (fun s n =>
      let left := (s.cipQueue n).filter (fun r => !r.started)
      let s := s.setCipQueue n (left ++ (s.cipQueue n).filter (fun r => r.started))
      left.foldl (fun s r => s.cipEnd n r 4 0 0) s) s
  else if isSwgHalf d then
    (halfQueues (d - 58)).foldl (fun s n => s.endSwgQueued n) s
  else if isQuarter d then
    (halfQueues (d - 52)).foldl (fun s n => ((s.chanQueue n).filter (fun p => !p.started)).foldl
      (fun s p => s.endProg { p with ended := some (4, p.lastEntry, 0) }) s) s
  else s

/-- R398, R363: a request for domain `d` waits, drains or switches off. -/
def offRequest (s : State) (d : Nat) : State :=
  if s.domAssay d then s.setDom d { s.dom d with waits := true }
  else if s.domHeld d then
    if 16 ≤ s.drains then s.setDom d { s.dom d with waits := true } else s.startDrainOf d
  else (s.setDom d { s.dom d with waits := false }).beginOff d

/-- Requests that waited go on, lowest domain first. -/
def pumpDrains (s : State) : State :=
  ((List.range 64).filter (fun d => (s.dom d).waits && s.domState d == 1)).foldl (fun s d => s.offRequest d) s

/-- R362 steps 4 and 5: the domain is handed to switch-off. -/
def handOver (s : State) (d : Nat) : State :=
  (((s.setDom d { drained := true }).beginOff d).showDrains).pumpDrains

/-- The Hearth's directory no longer names cache `a`, in a line that no transaction holds. -/
def forget (a : Nat) (x : HomeEntry) : HomeEntry :=
  if x.busy.isSome then x else { x with dir := x.dir.without [a] }

/-- The L2 of a cluster is empty: what is left in it goes home as a writeback, the Hearth forgets the cluster, and its
executors hold nothing. Log 75 (DEDUCED). -/
def flushCluster (s : State) (c : Nat) : State :=
  let a := 4 + c
  let h := homeFor a 0
  let left := s.coh.lines.filter (fun e => e.1 / 2 ^ 42 == a && (e.2.isDirty || (e.2.st == .WB && e.2.dirty)))
  let s := { s with coh := { s.coh with
    lines := s.coh.lines.filter (fun e => e.1 / 2 ^ 42 != a)
    l1 := s.coh.l1.filter (fun e => e.1 / 2 ^ 42 / 18 != c) } }
  let s := left.foldl (fun s e =>
    let l := e.1 % 2 ^ 42
    if (s.home h l).busy.isSome then s.setHome h l { s.home h l with held := (s.home h l).held ++ [(a, true, false)] }
    else s.judgeWb h l a true false) s
  let s := { s with coh := { s.coh with
    homes := s.coh.homes.map (fun e => if e.1 / 2 ^ 42 == h then (e.1, forget a e.2) else e) } }
  (clusterExecs c).foldl (fun s e => (s.setProc e { exits := (s.proc e).exits }).dropStores e) s

/-- R372, R398: the seam ports are idle: no far end is heard. -/
def seamQuiet (s : State) : State := { s with jnl := { s.jnl with seamPartner := [] } }

/-- R361, last column but one: hardware zeroizes what domain `d` holds, and its work ends as the last says.
Log 73 (DEDUCED). -/
def zeroizeDom (s : State) (d : Nat) : State :=
  if isCluster d then ((clusterExecs d).foldl (fun s e => s.loseRun e) s).flushCluster d
  else if isCipHalf d then (halfQueues (d - 56)).foldl (fun s n => s.endCipQueue n) s
  else if isSwgHalf d then s.endSwgHalf (d - 58)
  else if isQuarter d then
    let s := (halfQueues (d - 52)).foldl (fun s n => s.endChnQueue n) s
    ((List.range 16).map (16 * (d - 52) + ·)).foldl (fun s e =>
      (s.putEngine e { s.engine e with cache := (s.engine e).cache.filterMap (fun (c : Nat × CacheEntry) =>
          if c.2.disabled || c.2.fails != [] then some (c.1, { disabled := c.2.disabled, fails := c.2.fails }) else none)
                                       prefetch := [] }).setProc (320 + e) {}) s
  else if isSeam d then (s.endSessions).seamQuiet
  else s

/-! ### Engines and parts of a domain -/

/-- Engines of domain `d`: each with its state field and its OK bit. -/
def domEngines (d : Nat) : List ((Nat × Fld) × (Nat × Fld)) :=
  if isCipHalf d then (List.range 4).map (fun i => let e := 4 * (d - 56) + i; ((CIP_ENG e, CIP_ENG.STATE), (CIP_STATUS, ⟨e, 1⟩)))
  else if isSwgHalf d then (List.range 4).map (fun i => let e := 4 * (d - 58) + i; ((SWG_ENG e, SWG_ENG.STATE), (SWG_STATUS, ⟨e, 1⟩)))
  else if isQuarter d then (List.range 16).map (fun i => let e := 16 * (d - 52) + i; ((CHN_ENG e, CHN_ENG.STATE), (CHN_ENG_OK, ⟨e, 1⟩)))
  else []

/-- Engines in state `old` go to state `new`. -/
def moveEngines (s : State) (d old new : Nat) : State :=
  (domEngines d).foldl (fun s e =>
    if s.fld e.1.1 e.1.2 = old then (s.setFld e.1.1 e.1.2 new).setBit e.2.1 e.2.2 (new == 1) else s) s

/-- R400: the event bit that says engines of domain `d` are retired. -/
def enginesRetired (s : State) (d : Nat) : State :=
  if isCipHalf d then s.setBit CIP_EVENT CIP_EVENT.ENGINE_RETIRED
  else if isSwgHalf d then s.setBit SWG_EVENT SWG_EVENT.ENGINE_RETIRED
  else if isQuarter d then s.setBit CHN_EVENT CHN_EVENT.ENGINE_RETIRED
  else s

/-- The status bits that say a half, a quarter or an L2 is powered. -/
def domPowered (s : State) (d : Nat) (on : Bool) : State :=
  let s := s.setBit PWR_DOMAINS ⟨d, 1⟩ on
  if isCluster d then
    if s.fld (COH_L2 d) COH_L2.STATE = 3 then s else s.setFld (COH_L2 d) COH_L2.STATE on.toNat
  else if isHearthHalf d then
    let h := (d - 40) / 2
    let s := s.setBit (COH_HEARTH h) ⟨d % 2, 1⟩ on
    s.setBit (COH_HEARTH h) COH_HEARTH.CLEAN_ONLY (s.fld (COH_HEARTH h) COH_HEARTH.HALF_ON != 3)
  else if isQuarter d then
    ((List.range 4).map (4 * (d - 52) + ·)).foldl (fun s p => s.showPort p) (s.setBit CHN_STATUS ⟨d - 52, 1⟩ on)
  else if isCipHalf d then s.setBit CIP_STATUS ⟨8 + (d - 56), 1⟩ on
  else if isSwgHalf d then s.setBit SWG_STATUS ⟨8 + (d - 58), 1⟩ on
  else s

/-- In-progress work of domain `d` has ended, and what its caches must send home has gone (R207, R398). -/
def domIdle (s : State) (d : Nat) : Bool :=
  if isCluster d then s.clusterQuiet d && s.coh.lines.all (fun e => e.1 / 2 ^ 42 != 4 + d || (e.2.st == .I && !inWork e.2))
  else if isHearthHalf d then s.coh.lines.all (fun e => e.1 / 2 ^ 42 != (d - 40) / 2 || !(e.2.isDirty || e.2.cleaning))
  else if isCipHalf d then (halfQueues (d - 56)).all (fun n => s.cipQueue n == [])
  else if isSwgHalf d then (halfQueues (d - 58)).all (fun n => s.swgQueue n == [])
  else if isQuarter d then (halfQueues (d - 52)).all (fun n => s.chanQueue n == [])
  else if isFabric d then !s.coh.homes.any (fun e => e.2.busy.isSome)
  else true

/-- The ports of a quarter lose their links. -/
def quarterPorts (s : State) (k : Nat) : State :=
  ((List.range 4).map (4 * k + ·)).foldl (fun s p => s.portDown p true) (s.setBit CHN_STATUS ⟨k, 1⟩ false)

/-- R398: the domain is powered off. Log 75 (DEDUCED). -/
def powerOff (s : State) (d : Nat) : State :=
  let s := if isCluster d then s.flushCluster d
    else if isHearthHalf d then s.dropHalf ((d - 40) / 2) (d % 2)
    else if isSwgHalf d then s.endSwgHalf (d - 58)
    else if isQuarter d then (s.quarterPorts (d - 52)).zeroizeDom d
    else if isRail d then s.loseGroup (d - 61)
    else if isSeam d then s.seamQuiet
    else s
  (s.moveEngines d 1 0).domPowered d false

/-- R398, R399: the switch-off completes once the work has ended and the caches are flushed; a switch-on that waited
follows at once. -/
def offDone (s : State) (d : Nat) : State :=
  if s.domState d ≠ 3 then s
  else if !s.domIdle d then s.flushDom d
  else
    let back := (s.dom d).backOn
    ((s.powerOff d).setDom d {}).setDomState d (if back then 4 else 0)

/-- R361: transfers of standby registrations that the seam block's loss cut off are begun again. -/
def repeatStandbys (s : State) : State :=
  s.waitingStandbys.foldl (fun s e => s.askOrigin e.2.origin e.1) s

/-- R399: power-up is complete; `x` is what the checks of a cluster find. -/
def onDone (s : State) (d : Nat) (x : StartChecks) : State :=
  if s.domState d ≠ 4 then s
  else
    let s := ((s.setDomState d 1).moveEngines d 0 1).domPowered d true
    let s := if isCluster d then s.assayCluster d x else s
    let s := if isCipHalf d then s.cipServe else if isSeam d then s.repeatStandbys else s
    s.pumpDrains

end State
end Sys2Proof.Machine
end

