-- ==== Sys2Proof/Machine/Power.lean ====
section
/-!
DEFINITION. Power and live insertion: Bellows, its feeds, latch and link (R385 to R392), voltage points (R395),
commands for the switched domains (R397 to R400, R362), and removal (R402).
-/
namespace Sys2Proof.Machine
open Sys2Proof

namespace State

def bellows (s : State) : BellowsState := s.pwr.bellows
def setBellows (s : State) (b : BellowsState) : State := { s with pwr := { s.pwr with bellows := b } }
def feed (s : State) (n : Nat) : Feed := if n = 0 then s.pwr.bellows.feed0 else s.pwr.bellows.feed1
def setFeed (s : State) (n : Nat) (f : Feed) : State :=
  s.setBellows (if n = 0 then { s.pwr.bellows with feed0 := f } else { s.pwr.bellows with feed1 := f })

/-- The rails are up and Quench does not hold the module. -/
def railsUp (s : State) : Bool := s.phase != .off && !s.flt.quenched

/-- The isolated link brings Bellows' state to the logic side. -/
def linked (s : State) : Bool := s.railsUp && s.bit PWR_STATUS PWR_STATUS.LINK_UP

/-- R404: feed bits of `PWR_STATUS`, and STATE while the module neither stops nor has stopped.
Log 75 (DEDUCED). -/
def showFeeds (s : State) : State :=
  let a := s.feed 0
  let b := s.feed 1
  let s := (s.setBit PWR_STATUS PWR_STATUS.FEED0_PRESENT a.present).setBit PWR_STATUS PWR_STATUS.FEED0_QUAL a.qualified
  let s := (s.setBit PWR_STATUS PWR_STATUS.FEED1_PRESENT b.present).setBit PWR_STATUS PWR_STATUS.FEED1_QUAL b.qualified
  if 3 ≤ s.fld PWR_STATUS PWR_STATUS.STATE then s
  else if a.qualified && b.qualified then s.setFld PWR_STATUS PWR_STATUS.STATE 1
  else if a.qualified || b.qualified then s.setFld PWR_STATUS PWR_STATUS.STATE 2
  else s

/-- R386: feed `n` is lost. -/
def feedLoss (s : State) (n : Nat) : State :=
  if !(s.feed n).present then s
  else
    let s := s.setFeed n { lost := true }
    if s.linked then
      ((s.showFeeds).setBit PWR_EVENT ⟨2 + n, 1⟩).logEvent 0 blockPwr (2 + n) 0
    else s

/-- R392, R402: a feed returns after `absence` ns with neither feed: below 8.0 s the latch stays set, above 8.8 s
it is clear, and between them the comparator's mutex decides; a removed module may come up after 1 s. -/
def absenceEnds (b : BellowsState) (absence : Nat) (keep : Bool) : BellowsState :=
  let stays := decide (absence < 8000000000) || (decide (absence ≤ 8800000000) && keep)
  { b with
    latch := b.latch && stays
    latchAt := if stays then b.latchAt else none
    latchWord := if absence ≤ sec 30 then b.latchWord else none
    removed := b.removed && decide (absence < sec 1) }

/-- R386, R389: feed `n` returns. -/
def feedReturn (s : State) (n absence : Nat) (keep : Bool) : State :=
  if (s.feed n).present then s
  else
    let both := !(s.feed (1 - n)).present
    let s := if both then s.setBellows (absenceEnds s.bellows absence keep) else s
    let s := s.setFeed n { s.feed n with present := true, qualAt := if s.railsUp then some (s.tb + sec 1) else none }
    let s := if s.pwr.reported && s.pwr.stableAt.isNone && s.railsUp then
        { s with pwr := { s.pwr with stableAt := some (s.tb + ms 100) } } else s
    if s.linked then s.showFeeds else s

/-- R385, R386, R401: feed `n` has been within its limits for 1 s; Bellows starts the 48 V stage unless the latch
or a removal keeps it off. -/
def feedQualified (s : State) (n : Nat) : State :=
  let f := s.feed n
  if !f.present || f.qualified || !f.qualAt.all (fun t => decide (t ≤ s.tb)) then s
  else
    let s := s.setFeed n { present := true, qualified := true, lost := false }
    let b := s.bellows
    let s := s.setBellows { b with stage48 := b.stage48 || (!b.latch && !b.removed) }
    if s.linked then
      let s := s.showFeeds
      if f.lost then s.setBit PWR_EVENT ⟨n, 1⟩ else s
    else s

/-- R403: the loss of both feeds, and a removal, abandon the requests for domains; a running lease goes on. -/
def abandonDoms (s : State) : State :=
  (List.range 64).foldl (fun s d =>
    let x := s.dom d
    let s := if x.waits then (s.setDom d { x with waits := false }).domReq d true else s
    if s.domState d = 3 ∧ !x.drained then ((s.setDom d {}).setDomState d 1).domReq d true else s) s

/-- R388, R391, R44: Bellows' report over the link, or its power-fail line, stops the module.
Log 76 (DEDUCED). -/
def powerFail (s : State) : State :=
  if !s.railsUp || s.pwr.reported then s
  else
    let s := (s.setBit PWR_STATUS PWR_STATUS.PFAIL).setBit PWR_EVENT PWR_EVENT.POWER_FAIL
    let s := s.setFld PWR_STATUS PWR_STATUS.STATE 3
    let s := { s with pwr := { s.pwr with reported := true, stableAt := none } }
    (s.abandonDoms.cleanStop).setFld PWR_STATUS PWR_STATUS.STATE 4

/-- R388: the bus falls below 390 V, which it does not while a feed's PFC stage regulates. -/
def busLow (s : State) : State :=
  if (s.feed 0).present || (s.feed 1).present then s else s.powerFail

/-- R389: the intermediate falls through 40 V. The timebase stops, and Bellows alone times the feeds. -/
def railsDown (s : State) : State :=
  let b := { s.bellows with
    feed0 := { s.bellows.feed0 with qualAt := none }, feed1 := { s.bellows.feed1 with qualAt := none } }
  if b.stage48 && (b.feed0.present || b.feed1.present) then s
  else
    { s.setBellows { b with stage48 := false } with
      phase := .off
      flt := { s.flt with quenched := false }
      pwr := { s.pwr with bellows := { b with stage48 := false }, reported := false, stableAt := none } }

/-- R391: a status frame over the isolated link; one that fails its CRC-16 is dropped. -/
def statusFrame391 (s : State) (feed0 feed1 : W64) (bus : BitVec 32) : State :=
  let keep := 0xFFFFFFFFFFFFFF00#64
  let s := (s.setReg (PWR_FEED 0) (feed0 &&& keep)).setReg (PWR_FEED 1) (feed1 &&& keep)
  let s := (s.setReg PWR_BUS (BitVec.ofNat 64 bus.toNat)).setBit PWR_STATUS PWR_STATUS.LINK_UP
  ({ s with pwr := { s.pwr with frameAt := s.tb } }).showFeeds

/-! ### Voltage points -/

/-- R393: core supply of a voltage point, in mV. -/
def pointMv (n : Nat) : Nat := [920, 880, 840, 800, 760, 720, 670, 620].getD n 0

/-- R394: the rail of the Hearth, the fabric and the home agents of C-die `d`, in mV: the highest point in effect of the
die's powered clusters, and never below 0.72 V. -/
def dieRail (s : State) (d : Nat) : Nat :=
  (((List.range 10).map (10 * d + ·)).filter (fun c => s.fld PWR_DOMAINS PWR_DOMAINS.ON >>> c % 2 == 1)).foldl
    (fun v c => max v (pointMv (s.fld (PWR_VPOINT c) PWR_VPOINT.ACTIVE))) 720

/-- R394: the self-timed logic of the H-die runs at 0.80 V. -/
def hubRail : Nat := 800

/-- R395: the supply of cluster `c` starts towards point `n`, 1 mV in 100 ns. -/
def rampTo (s : State) (c n : Nat) : State :=
  let a := pointMv (s.fld (PWR_VPOINT c) PWR_VPOINT.ACTIVE)
  let b := pointMv n
  { s with pwr := { s.pwr with
    ramp := s.pwr.ramp.set none c (some ((s.tb + 100 * (max a b - min a b)) * 8 + n)), vWait := s.pwr.vWait.del c } }

/-- R395: a write of `PWR_VPOINTc.POINT`. Log 75 (DEDUCED). -/
def vpointWrite (s : State) (c n : Nat) : State :=
  let s := s.setFld (PWR_VPOINT c) PWR_VPOINT.POINT n
  if s.domAssay c then { s with pwr := { s.pwr with vWait := s.pwr.vWait.set none c (some n) } } else s.rampTo c n

/-- R395: the supply has reached its point. -/
def rampDone (s : State) (c : Nat) : State :=
  match s.pwr.ramp.get none c with
  | some w =>
    if w / 8 ≤ s.tb then
      ({ s with pwr := { s.pwr with ramp := s.pwr.ramp.del c } }).setFld (PWR_VPOINT c) PWR_VPOINT.ACTIVE (w % 8)
    else s
  | none => s

/-- After a verdict of cluster `c`, what waited for it goes on (R199, R395). -/
def afterVerdict (s : State) (c : Nat) : State :=
  if s.domAssay c then s
  else match s.pwr.vWait.get none c with
    | some n => (s.rampTo c n).pumpDrains
    | none => s.pumpDrains

/-! ### Domain requests -/

/-- R397, R398: a write of 0 to `PWR_DOMd.ON`. Log 74 (DEDUCED). -/
def domOffWrite (s : State) (d : Nat) : State :=
  if !s.bit (PWR_DOM d) PWR_DOM.ON then s
  else match s.domRefusal d with
    | 0 =>
      let s := s.domReq d false
      if s.domState d = 1 then s.offRequest d
      else if s.domState d = 3 then s.setDom d { s.dom d with backOn := false }
      else s.setDom d { s.dom d with waits := true }
    | e => ((s.domReq d true).setFld (PWR_DOM d) PWR_DOM.ERR e).setBit PWR_EVENT PWR_EVENT.REFUSED

/-- R399: a write of 1 to `PWR_DOMd.ON`. -/
def domOnWrite (s : State) (d : Nat) : State :=
  let s := s.domReq d true
  match s.domState d with
  | 0 | 5 => (s.setDom d {}).setDomState d 4
  | 1 | 4 => s.setDom d { s.dom d with waits := false }
  | 2 => (((s.setDom d {}).setDomState d 1).showDrains).pumpDrains
  | 3 => if (s.dom d).drained then s.setDom d { s.dom d with backOn := true } else ((s.setDom d {}).setDomState d 1).domPowered d true
  | _ => s

/-- R362 step 5: the lease of domain `d` expires. Log 74 (DEDUCED). -/
def leaseExpires (s : State) (d : Nat) : State :=
  if s.domState d = 2 && due s (s.dom d).leaseEnd then
    let log := 2 ^ 63 + d * 2 ^ 32 + s.stamp
    let s := s.setBit CRU_EVENT CRU_EVENT.LEASE_EXPIRED
    let s := if s.bit CRU_DRAIN_LOG CRU_DRAIN_LOG.VALID then s else s.setReg CRU_DRAIN_LOG (BitVec.ofNat 64 log)
    ((s.zeroizeDom d).logEvent 0 blockCru 2 d log).handOver d
  else s

/-- R362 step 4, R336: Crucible writes `CRU_LEASE_REL` with GO. -/
def leaseRelease (s : State) (d : Nat) : State :=
  if 1 < s.fld CRU_STATUS CRU_STATUS.STATE then s
  else
    let s := s.setFld CRU_LEASE_REL CRU_LEASE_REL.DOMAIN d
    let live := s.domState d == 2
    let s := s.setBit CRU_LEASE_REL CRU_LEASE_REL.LATE (!live && s.domState d != 1)
    if live then s.handOver d else s

/-- R400: a point-of-load stage reports a fault of domain `d`. Log 74 (DEDUCED). Log 75 (DEDUCED). -/
def domFault (s : State) (d : Nat) : State :=
  if s.domState d = 0 ∨ s.domState d = 5 then s
  else
    let s := (s.setBit PWR_EVENT PWR_EVENT.DOMAIN_FAULT).setDom d {}
    if isCluster d then
      ((((s.clusterLost d).flushCluster d).setDomState d 5).setBit PWR_DOMAINS ⟨d, 1⟩ false).showDrains.pumpDrains
    else
      let s := s.logEvent (if isHearthHalf d || isFabric d || isRail d then 3 else 1) blockPwr 5 d
      let s := (s.moveEngines d 1 2).enginesRetired d
      let s := if isQuarter d then s.quarterPorts (d - 52) else s
      let s := if isHearthHalf d then (s.cleanHearth ((d - 40) / 2)).dropHalf ((d - 40) / 2) (d % 2)
        else if isRail d then s.loseGroup (d - 61) else s.zeroizeDom d
      (((s.domPowered d false).setDomState d 5).showDrains).pumpDrains

/-- R402: `PWR_REMOVE.GO`. -/
def removal (s : State) : State :=
  let s := (s.abandonDoms).cleanStop
  let s := { s with hep := { s.hep with l0 := false } }
  let s := (List.range 4).foldl (fun s k => s.quarterPorts k) s
  let s := (s.setBellows { s.bellows with stage48 := false, removed := true }).emit .stage48Off
  (s.setBit PWR_REMOVE PWR_REMOVE.READY).setFld PWR_STATUS PWR_STATUS.STATE 5

end State

/-! ### The commands -/

/-- R386. -/
def execFeedLoss (n : Fin 2) (s : State) : Host.Outcome State Fault Refusal := .next (s.feedLoss n.val)

/-- R386, R392: `absence` is the time with neither feed, in ns, and `keep` what the comparator's mutex grants. -/
def execFeedReturn (n : Fin 2) (absence : Nat) (keep : Bool) (s : State) : Host.Outcome State Fault Refusal :=
  .next (s.feedReturn n.val absence keep)

/-- R385. Log 109 (DESIGN CHOICE). -/
def execFeedQualified (n : Fin 2) (s : State) : Host.Outcome State Fault Refusal := .next (s.feedQualified n.val)

/-- R388. -/
def execBusUndervoltage (s : State) : Host.Outcome State Fault Refusal := .next s.busLow

/-- R389. -/
def execPorComparatorTrip (s : State) : Host.Outcome State Fault Refusal := .next s.railsDown

/-- R391: `ok` says whether the frame's CRC-16 holds. -/
def execBellowsStatusFrame (ok : Bool) (feed0 feed1 : W64) (bus : BitVec 32) (s : State) :
    Host.Outcome State Fault Refusal :=
  .next (if ok && s.railsUp then s.statusFrame391 feed0 feed1 bus else s)

/-- R391. -/
def execIsolatedLinkLost (s : State) : Host.Outcome State Fault Refusal :=
  .next (if s.linked && decide (s.pwr.frameAt + us 50 ≤ s.tb) then
      ((s.setBit PWR_STATUS PWR_STATUS.LINK_UP false).setBit PWR_EVENT PWR_EVENT.LINK_LOST).logEvent 1 blockPwr 7 0
    else s)

/-- R391. -/
def execPowerFailLine (s : State) : Host.Outcome State Fault Refusal := .next s.powerFail

/-- R392. -/
def execLatch48vOffTimer (s : State) : Host.Outcome State Fault Refusal :=
  .next (if due s s.pwr.bellows.latchAt then
      (s.setBellows { s.pwr.bellows with latchAt := none, stage48 := false }).emit .stage48Off
    else s)

/-- R395. -/
def execPwrVpointWrite (c : Fin 40) (n : Fin 8) (s : State) : Host.Outcome State Fault Refusal :=
  onLive s fun s => s.vpointWrite c.val n.val

/-- R395. -/
def execVpointRampComplete (c : Fin 40) (s : State) : Host.Outcome State Fault Refusal :=
  onLive s fun s => s.rampDone c.val

/-- R397, R398. -/
def execDomainSwitchOff (d : Fin 64) (s : State) : Host.Outcome State Fault Refusal :=
  onLive s fun s => s.domOffWrite d.val

/-- R399. -/
def execDomainSwitchOn (d : Fin 64) (s : State) : Host.Outcome State Fault Refusal :=
  onLive s fun s => s.domOnWrite d.val

/-- R398. -/
def execDomainSwitchOffComplete (d : Fin 64) (s : State) : Host.Outcome State Fault Refusal :=
  onLive s fun s => s.offDone d.val

/-- R399: `x` is what injection and Assay of a cluster find. -/
def execDomainSwitchOnComplete (d : Fin 64) (x : StartChecks) (s : State) : Host.Outcome State Fault Refusal :=
  onLive s fun s => s.onDone d.val x

/-- R400. -/
def execDomainFault (d : Fin 64) (s : State) : Host.Outcome State Fault Refusal := onLive s fun s => s.domFault d.val

/-- R402. -/
def execPwrRemove (s : State) : Host.Outcome State Fault Refusal := onLive s State.removal

/-- R362. -/
def execDrainLeaseExpiry (d : Fin 64) (s : State) : Host.Outcome State Fault Refusal :=
  onLive s fun s => s.leaseExpires d.val

/-- R362, R336. -/
def execLeaseRelease (d : Fin 64) (s : State) : Host.Outcome State Fault Refusal :=
  onLive s fun s => s.leaseRelease d.val

/-- R187: `ASSAY_VERDICT`: the result codes of the two sides (of the one core, in split mode), and whether the
route's injection and the checkpoint copy pass if the spare comes in. R186: code 9 is no verdict before the 400 µs have
passed, and after them it is the only one. What waited for the verdict goes on. -/
def execAssayVerdict (v : Fin 320) (codeA codeB : Fin 10) (routeOk parityOk : Bool) (s : State) :
    Host.Outcome State Fault Refusal :=
  .next (if s.live && s.viewState v.val == 3 then
      let limit := (s.pairSt v.val).assayAt.map (· + us 400)
      let late := (limit.map (fun t => decide (t < s.tb))).getD false
      if (codeA = 9 ∨ codeB = 9) ∧ !due s limit then s
      else (verdict s v.val (if late then 9 else codeA.val) (if late then 9 else codeB.val) routeOk parityOk).afterVerdict (v.val / 8)
    else s)

end Sys2Proof.Machine
end

