-- ==== Sys2Proof/Machine/StartUp.lean ====
section
/-!
DEFINITION. Start-up (R431 to R438): power-on and module reset with what each keeps (R433), memory contents (R434,
R435), replay (R436), readiness (R437) and failures (R438); and the die-to-die bridges (R13).
-/
namespace Sys2Proof.Machine
open Sys2Proof

/-! ### What a start keeps of the registers -/

def ones : W64 := 0xFFFFFFFFFFFFFFFF#64

/-- The fields of a register that a write can change. -/
def rwMask (a : Nat) : W64 :=
  match rowOf a with
  | some (r, _) => (r.fields.filter (fun f => f.acc == .rw)).foldl (fun m f => m ||| putFld 0 f.fld (2 ^ f.fld.len - 1)) 0
  | none => 0

/-- Blocks that a module reset leaves whole: PAIR (R200), FLT (R411), ANV (R427), CLK (R384). -/
def keptBlock (a : Nat) : Bool :=
  (decide (0x1000000 ≤ a) && decide (a < 0x1400000)) || (decide (0xC00000 ≤ a) && decide (a < 0xD00000)) ||
    (decide (0xE00000 ≤ a) && decide (a < 0x1000000)) || a == ANV_OUT

/-- Registers of which a module reset keeps some fields: base, stride, count and mask (R134, R224, R251, R271, R288,
R312, R332, R345, R371). -/
def keptFields : List (Nat × Nat × Nat × W64) := [
  (UOW_RESTARTS, 8, 2, ones), (JNL_DIE_RECOMP 0, JNL_DIE_RECOMP 1 - JNL_DIE_RECOMP 0, 2, ones),
  (COH_STATUS, 8, 1, 0xF0000#64), (COH_DEAD_CLUSTERS, 8, 1, ones),
  (COH_L2 0, 0x10, 40, 0xFFFF0000#64), (COH_HEARTH 0, 0x10, 4, 0xFFFF0000#64),
  (MEM_RECOMPUTED, 8, 2, ones), (MEM_PLANISH_STATUS, 8, 1, 0xFFFFFFFF00000000#64),
  (MEM_GROUP 0, 8, 3, ones), (MEM_CHAN 0, 8, 24, 0xFFFF0007#64),
  (SWG_MISMATCHES, 8, 1, ones), (SWG_ENG 0, 8, 8, 3#64),
  (CIP_MISMATCHES, 8, 1, ones), (CIP_ENG 0, 8, 8, 3#64),
  (CHN_ENG 0, 0x10, 64, 0x3F0003#64), (CHN_ENG_ERR 0, 0x10, 64, ones),
  (SRX_CFG, 8, 1, ones), (SRX_PROBE_CFG, 8, 1, ones), (SRX_ASSOC_STATUS 0, 0x20, 4096, 0xFFFFFFFF00000002#64),
  (CRU_PART 0, 8, 1024, ones), (MTR_CFG, 8, 2, ones)]

/-- R433: the bits of register `a` that a module reset keeps. Log 62 (DEDUCED). -/
def moduleKeep (a : Nat) : W64 :=
  if keptBlock a then ones
  else match keptFields.find? (fun e => decide (e.1 ≤ a) && (a - e.1) % e.2.1 == 0 && decide ((a - e.1) / e.2.1 < e.2.2.1)) with
    | some e => e.2.2.2
    | none =>
      if (decide (CHN_DEV_CFG 0 ≤ a) && decide (a < CHN_DEV_CFG 1024)) ||
          (decide (SRX_ASSOC_CFG 0 ≤ a) && decide (a < SRX_ASSOC_CFG 4096)) then rwMask a
      else 0

/-- R433: a power-on keeps the partition records only. -/
def powerKeep (a : Nat) : W64 :=
  if CRU_PART 0 ≤ a ∧ a < CRU_PART 1024 ∧ (a - CRU_PART 0) % 8 = 0 then ones else 0

/-- R429: controller key of the bank of MCTP interface `i`. -/
def mctpBank (i : Nat) : Nat := 0x300300000 + 0x10000 * i

/-- The EID byte of a bank, which `ANV_MGMT` reports (R427: power-on resets it). Log 64 (DEDUCED). -/
def isEidByte (a : Nat) : Bool := (List.range 4).any (fun i => a == mctpBank i + 0x10)
/-- R335: the sealed store, which no start and no loss of power clears (R336). Log 64 (DEDUCED). -/
def isSealedStore (a : Nat) : Bool := decide (cruSpace + 0x400000 ≤ a) && decide (a ≤ cruSpace + 0x7FFFFF)

namespace State

/-- Give every register its reset value again, but for the bits that `keep` says. Log 64 (DEDUCED). -/
def keepRegs (s : State) (keep : Nat → W64) : State :=
  { s with regs := s.regs.foldl (fun (t : Tbl W64) (e : Nat × W64) =>
      t.set (regReset e.1) e.1 ((e.2 &&& keep e.1) ||| (regReset e.1 &&& ~~~(keep e.1)))) [] }

/-- Fields whose reset value the signed configuration image sets, in the blocks that both starts reset.
Log 3 (DESIGN CHOICE). Log 64 (DEDUCED). -/
def imageRegs (s : State) : State :=
  let i := s.image
  let s := s.setFld JNL_MIRROR JNL_MIRROR.MODULE i.moduleIndex
  let s := s.setReg RING_DEDUP_POOL (BitVec.ofNat 64 (i.dedupTables * 0x10001))
  let s := (s.setFld COH_STATUS COH_STATUS.MODE i.cohMode).setReg MEM_TOP (BitVec.ofNat 64 i.memTop)
  (List.range 16).foldl (fun s p => s.setFld (SRX_PORT_STATUS p) SRX_PORT_STATUS.MODE (i.portModes.getD p 0)) s

/-- The same for the blocks that only a power-on resets, and the slots of split clusters (R197, R200); and `MTR_LAST`,
from the sealed store (R371). -/
def imageRegs0 (s : State) : State :=
  let i := s.image
  let s := s.setBit CLK_STATUS CLK_STATUS.MASTER i.master
  let s := s.setBit CLK_STATUS CLK_STATUS.LOCKED i.master
  let s := ((s.setBit CLK_TB_CFG CLK_TB_CFG.LANE_EN i.laneEn).setFld CLK_TB_CFG CLK_TB_CFG.KIND i.laneKind).setFld
    CLK_TB_CFG CLK_TB_CFG.LANE i.lane
  let s := s.setFld MTR_LAST MTR_LAST.INTERVAL s.cru.batchCount
  let s := (s.setFld CLK_QUAL_CFG CLK_QUAL_CFG.PERIOD_MS i.periodMs).setFld CLK_QUAL_CFG CLK_QUAL_CFG.WINDOW_PPM i.windowPpm
  (List.range 160).foldl (fun s n =>
    let s := s.setViewState (2 * n) 1
    if i.splitClusters.contains (n / 4) then
      [0, 1].foldl (fun s o =>
        let v := 2 * n + o
        let s := ((s.setViewState v 1).setFld (PAIR_STATUS v) PAIR_STATUS.MODE 1).setReg (PAIR_LAST v) 0xF0F000#64
        (s.setFld (PAIR_STATUS v) PAIR_STATUS.CORE_A (2 * (n % 4) + o)).setFld (PAIR_STATUS v) PAIR_STATUS.CORE_B 15) s
    else s) s

/-! ### Ends of a start -/

/-- R428: an event that firmware raises. -/
def afcEvent (s : State) (cls code : Nat) : State := s.logEvent cls blockAnv 0x3E code 0 5

/-- R438: the module halts at a step: the link in Detect, every transmitter idle, a Class 1 event.
Log 63 (DEDUCED). -/
def halt (s : State) (step : Nat) : State :=
  let s := (List.range 16).foldl (fun s p => s.portDown p true) s
  let s := { s.linkDown with
    phase := .halted step
    disp := { s.disp with stopped := true }
    procs := s.procs.map (fun (e : Nat × ProcState) => (e.1, { e.2 with stopped := true })) }
  ({ s with hep := { s.hep with trainBy := none } }).afcEvent 1 (0x200 + step)

/-- R433, R445: the start stands at step `n`, which the indicator shows; `p` says that it is a power-on.
Log 63 (DEDUCED). -/
def starting (s : State) (n : Nat) (p : Bool) : State := ({ s with phase := .starting n p } : State).showOut

/-! ### Steps 4 to 7 -/

/-- R431 step 4, R338: Crucible has measured what starts: it serves, with its region for the module's own memory,
and the records move (R345). -/
def crucibleUp (s : State) (reason : Nat) : State :=
  let s := (s.setFld CRU_STATUS CRU_STATUS.STATE 1).setFld CRU_STATUS CRU_STATUS.IDENTITY 1
  let s := [0, 1, 2].foldl (fun s k => s.loadKey k (Config.baseKey k)) s
  let s := s.programRegion 63 (s.image.memTop / 2 ^ 21, memLimit / 2 ^ 21 - 1) 1 0
  let s := { s with cru := { s.cru with parts := s.cru.parts.map (fun (e : Nat × PartRec) => (e.1, { e.2 with mailbox := none })) } }
  (s.startRecords reason).showRegions

/-- R338, R438: the identity or a measurement is wrong. Log 63 (DEDUCED). -/
def identityFails (s : State) : State :=
  let s := (s.setFld CRU_STATUS CRU_STATUS.IDENTITY 2).setBit CRU_EVENT CRU_EVENT.IDENTITY_FAIL
  let s := { s with cru := { s.cru with identityBad := true } }
  (s.logEvent 3 blockCru 4 0).halt 4

/-- R431 step 5, R419: the first Anvil to pass takes the lease, the other becomes standby; with neither, Quench.
Log 65 (DEDUCED). -/
def anvilsUp (s : State) (a b : Bool) : State :=
  let set := fun (s : State) (x y : Nat) =>
    (s.setFld ANV_STATUS ANV_STATUS.A_STATE x).setFld ANV_STATUS ANV_STATUS.B_STATE y
  let s := (s.setBit ANV_STATUS ANV_STATUS.GAP false).setBit ANV_STATUS ANV_STATUS.ACTIVE (!a)
  let s := { s with anv := { s.anv with
    leaseEnd := some (s.tb + ms 8), gap := none, a := {}, b := {} } }
  let failed := fun (s : State) => (s.setBit ANV_EVENT ANV_EVENT.FAILED).logEvent 1 blockAnv 4 0
  if a && b then (set s 2 3).takeNotes
  else if a then failed (set s 2 4).takeNotes
  else if b then failed (set s 4 2).takeNotes
  else (((set s 4 4).setBit ANV_EVENT ANV_EVENT.FAILED).logEvent 4 blockAnv 4 0 0 1)

/-- R404, R433: every domain is on; engines that are not retired serve (R14, R224), the queues of retired ones too (R272,
R290). -/
def domainsUp (s : State) : State :=
  let s := s.setReg PWR_DOMAINS ones
  let s := (List.range 40).foldl (fun s c =>
    s.setFld (COH_L2 c) COH_L2.STATE (if s.coh.dead.contains (4 + c) then 3 else 1)) s
  let s := (List.range 4).foldl (fun s h => s.setFld (COH_HEARTH h) COH_HEARTH.HALF_ON 3) s
  let s := (List.range 8).foldl (fun s i =>
    let d := 52 + i
    (domEngines d).foldl (fun s e =>
      let s := if s.fld e.1.1 e.1.2 = 0 then s.setFld e.1.1 e.1.2 1 else s
      s.setBit e.2.1 e.2.2 (s.fld e.1.1 e.1.2 == 1)) (s.domPowered d true)) s
  s.cipServe.chanServe

/-- R431 steps 4 to 7, R194; `reason` is the service reason of the start (R350). A halt at step 4 leaves Anvil firmware to
serve PLDM (R438). Log 63 (DEDUCED). -/
def startChecks (s : State) (x : StartChecks) (p : Bool) (reason : Nat) : State :=
  if !x.identity then s.identityFails.anvilsUp x.anvilA x.anvilB
  else
    let s := ((s.crucibleUp reason).anvilsUp x.anvilA x.anvilB).domainsUp
    if s.flt.quenched then s
    else if !x.comparators then s.halt 6
    else ((List.range 40).foldl (fun s c => s.assayCluster c x) s).starting 7 p

/-! ### Module reset -/

/-- R432 steps 1 and 2: a clean stop, or the writes in flight and a lock; memory holds what the caches held. -/
def resetStop (s : State) : State :=
  if s.fld JNL_STATUS JNL_STATUS.STATE = 3 ∧ s.dieOk 0 ∧ s.dieOk 1 then s.cleanStop
  else s.flushWrites.setFld JNL_STATUS JNL_STATUS.STATE 5

/-- R198: what a module reset does to a view: Assay or substitution is abandoned, and runs again; a retry and an
injection end. -/
def resetView (s : State) (v : Nat) : State :=
  let s := s.setBit (PAIR_INJECT v) PAIR_INJECT.BUSY false
  match s.viewState v with
  | 3 | 4 => (s.setPairSt v { s.pairSt v with assayAgain := true, assayAt := none, used := 0 }).setViewState v 1
  | 2 | 6 => (s.setPairSt v { s.pairSt v with used := 0 }).setViewState v 1
  | _ => s

/-- R312, R302: a device whose owner is a sealed partition waits for Crucible again. -/
def resetDevices (s : State) : State :=
  let ds := (List.range 1024).filter (fun d =>
    s.bit (CHN_DEV_CFG d) CHN_DEV_CFG.EN && s.fld (CHN_DEV_CFG d) CHN_DEV_CFG.OWNER_KIND == 1 &&
      s.partSealed (s.fld (CHN_DEV_CFG d) CHN_DEV_CFG.OWNER))
  let s := (List.range 1024).foldl (fun s d =>
    if s.bit (CHN_DEV_CFG d) CHN_DEV_CFG.EN then s.setFld (CHN_DEV_CFG d) CHN_DEV_CFG.STATE 3 else s) s
  ds.foldl (fun s d => (s.setFld (CHN_DEV_CFG d) CHN_DEV_CFG.STATE 1).askCrucible 5 d (s.fld (CHN_DEV_CFG d) CHN_DEV_CFG.OWNER)) s

/-- R308: what an engine keeps of its cache: disabled entries and their failures. -/
def resetEngine (e : ChanEngine) : ChanEngine :=
  { cache := e.cache.filterMap (fun (c : Nat × CacheEntry) =>
      if c.2.disabled || c.2.fails != [] then some (c.1, { disabled := c.2.disabled, fails := c.2.fails }) else none) }

/-- R354: the exits counted since a partition was sealed outlive a start, as its record does.
Log 66 (DEDUCED). -/
def keptExits (l : Tbl ProcState) : Tbl ProcState :=
  (l.filter (fun e => e.2.exits != [])).map (fun (e : Nat × ProcState) => (e.1, { exits := e.2.exits }))

/-- A partner is heard of anew after a start; that its rings were adopted here, its standby word, and the numbers of the
mirror records sent and taken stay. Log 50 (DEDUCED). -/
def resetPartner (p : Partner) : Partner :=
  { adopted := p.adopted, standby := p.standby, mirrorSeq := p.mirrorSeq, mirrorSeen := p.mirrorSeen }

/-- R432 step 3, R433: everything that the table does not keep. -/
def resetBlocks (s : State) : State :=
  let s := (s.cru.runFrom.map (·.1)).foldl (fun s e => s.meterRunStop e) s.meterMem
  let s := (List.range 320).foldl (fun s v => s.resetView v) s
  let s := (s.endpointReset true).keepRegs moduleKeep
  let s := s.imageRegs
  let s := [0, 1, 2].foldl (fun s g => s.setGroup g (s.groupState g)) s
  let s := (List.range 160).foldl (fun s n =>
    if (s.slotViews n).all s.viewOut then s.setReg (UOW_PAIR_BIND n) (BitVec.ofNat 64 (5 * 2 ^ 28)) else s) s
  let s := (List.range 8).foldl (fun s n =>
    if s.fld (FLT_REC n) FLT_REC.STATE = 1 ∧ s.fld (FLT_REC n) FLT_REC.PROC ≠ 5 then s.setFld (FLT_REC n) FLT_REC.STATE 3
    else s) s
  let s := (s.setFld ANV_STATUS ANV_STATUS.A_STATE 1).setFld ANV_STATUS ANV_STATUS.B_STATE 1
  { s with
    ctl := s.ctl.filter (fun e => isEidByte e.1 || isSealedStore e.1)
    procs := keptExits s.procs
    swg := {}
    cip := {}
    flt := { s.flt with
      class3Due := none
      recWait := s.flt.recWait.filter (fun w => w.proc / 256 == 5)
      resets := ResetRec.mk s.tb s.flt.class3Due.isSome :: s.flt.resets }
    anv := { s.anv with leaseEnd := none, gap := none }
    hep := { s.hep with
      trainBy := none, ide := [], spdmSessions := []
      fns := s.hep.fns.map (fun (e : Nat × FnState) => (e.1, { e.2 with setRings := none, pollAt := none, flrEnd := none })) }
    disp := { rings := s.disp.rings.map (fun (e : Nat × Ring) => (e.1, keptRing e.2)) }
    jnl := { s.jnl with
      snapAt := none, bootCount := s.jnl.bootCount + 1
      partners := s.jnl.partners.map (fun (e : Nat × Partner) => (e.1, resetPartner e.2)) }
    chn := { nextProg := s.chn.nextProg, engines := s.chn.engines.map (fun (e : Nat × ChanEngine) => (e.1, resetEngine e.2)) }
    srx := { assocs := s.srx.assocs.map (fun (e : Nat × Assoc) => (e.1, { secret := e.2.secret })) }
    mm := { s.mm with window := none, loaded := [], recomputed := [], planish := [], planishTurn := 0, codeCache := [] }
    coh := { ways := s.coh.ways, dead := s.coh.dead }
    cru := { s.cru with mail := [], confirms := [], wdogAt := none, runFrom := [] }
    pwr := { bellows := s.pwr.bellows, frameAt := s.tb }
    pins := { s.pins with addr := s.pins.strap }
    start := { s.start with mctp := [], waitTime := none } }

/-- R432: a module reset from any of its three starters; `cause` is that of R437. The third start in a row that
fails before ready ends halted (R438). Log 66 (DEDUCED). Log 68 (DEDUCED). -/
def moduleReset (s : State) (cause : Nat) (x : StartChecks) : State :=
  let before := match s.phase with
    | .starting n _ => some n
    | _ => none
  let fails := s.start.failures + before.isSome.toNat
  if before.isSome ∧ 3 ≤ fails then s.halt (before.getD 0 + 1)
  else
    let s := s.resetStop.resetBlocks.nextRecovery
    let s := { s.starting 3 false with start := { s.start with cause := cause, failures := fails } }
    let s := (s.startChecks x false 2)
    match s.phase with
    | .starting _ _ =>
      let s := s.resetDevices
      let as := (List.range 16).flatMap s.portAssocs
      as.foldl (fun s a => s.startEstablish a) s
    | _ => s

/-! ### Power-on -/

/-- R382: the count a power-on starts from. Log 62 (DEDUCED). -/
def firstCount (s : State) : Nat :=
  match s.newestGen with
  | some g => leAt (g.2.headD []) 16 8 + 1000000000
  | none => 0

/-- R433: the machine with nothing but what a power-on keeps, at start-up step 3. -/
def powerState (s : State) : State :=
  let tb := s.firstCount
  let b := s.pwr.bellows
  let lit := b.feed0.qualified || b.feed1.qualified
  { pending := s.pending, out := s.out, rand := s.rand, tb := tb
    phase := .starting 3 true
    regs := (s.keepRegs powerKeep).regs
    image := s.image
    procs := keptExits s.procs
    anv := { bank0 := s.anv.bank0, bank1 := s.anv.bank1, bankInUse := s.anv.bankInUse
             bundlePending := s.anv.bundlePending, minVersion := s.anv.minVersion, cfgKey := s.anv.cfgKey }
    hep := { perst := s.hep.perst }
    disp := { rings := (s.disp.rings.map (fun (e : Nat × Ring) => (e.1, keptRing e.2))).filter (fun e => e.2 != {}) }
    jnl := { die0 := s.jnl.die0, die1 := s.jnl.die1, failed0 := s.jnl.failed0, failed1 := s.jnl.failed1
             generation := s.jnl.generation, damaged := s.jnl.damaged, bootCount := s.jnl.bootCount + 1
             live := s.jnl.live.filter (fun r => s.jnl.foreign.any (fun x => x.durable && r.unit == foreignKey x.partner x.number))
             partners := s.jnl.partners.map (fun (e : Nat × Partner) => (e.1, resetPartner e.2))
             foreign := s.jnl.foreign.filter (fun r => r.durable) }
    cru := { parts := s.cru.parts, retired := s.cru.retired, kems := s.cru.kems
             lastHeader := s.cru.lastHeader, lastEntry := s.cru.lastEntry, batches := s.cru.batches
             batchCount := s.cru.batchCount, degraded := true
             memAt := tb, opened := tb, boundaryAt := nextBoundary tb 60 }
    pwr := { bellows := { b with
               latchWord := none, stage48 := true
               feed0 := if lit then b.feed0 else { present := true, qualified := true } }
             frameAt := tb }
    pins := { s.pins with addr := s.pins.strap } }

/-- R413, R437: the cause held beside the latch, if any, becomes `FLT_QUENCH`. -/
def loadQuench (s : State) (w : Option (Nat × Nat)) : State :=
  match w with
  | none => { s with start := { s.start with cause := 1 } }
  | some (source, time) =>
    let s := s.setReg FLT_QUENCH (BitVec.ofNat 64 (2 ^ 63 + source % 64 * 2 ^ 32 + time % 2 ^ 32))
    let s := (s.setBit FLT_STATUS ⟨4, 1⟩).setFld (FLT_COUNT 4) FLT_COUNT.COUNT 1
    { s with start := { s.start with cause := 2 } }

/-- R377, R380, R382: the local oscillator starts its qualification; a master arms its time messages, and a
follower waits for one. -/
def startClocks (s : State) : State :=
  let s := ([281, 282, 283, 284, 286, 291, 292] : List Nat).foldl (fun s d => s.setFld (CLK_DOMAIN d) CLK_DOMAIN.STATE 1) s
  let s := ((s.setMon 1 { running := true }).startQual 1).chooseAll
  if s.image.master then { s with clk := { s.clk with timeAt := some (s.tb + ms 1) } }
  else { s with start := { s.start with waitTime := some (s.tb + sec 1) } }

/-- R431: power-on, to the end of step 7. Log 62 (DEDUCED). Log 63 (DEDUCED). -/
def powerOn (s : State) (x : StartChecks) : State :=
  if s.phase != .off || s.pwr.bellows.latch || s.pwr.bellows.removed then s
  else
    let w := s.pwr.bellows.latchWord
    let s := (s.powerState).bootBundle
    let s := ((s.imageRegs).imageRegs0.startClocks).loadQuench w
    let s := s.showOut
    let s := if x.railStuck then s.logEvent 0 blockPwr causeNone 0 else s
    s.startChecks x true (if w.isSome then 4 else 3)

/-! ### Step 8 -/

/-- R434: every line is written with zeros under the key of its region, and records that hold memory have lost
it. -/
def zeroMemory (s : State) : State :=
  let s := { s with mem := [], mm := { s.mm with keys := [], poison := [], parityPoison := [], bad := [], badCode := [] } }
  let s := s.setRangeKey (s.image.memTop / 64) (memLimit / 64 - 1) 1
  s.cru.parts.foldl (fun s e =>
    if e.2.regions = [] then s
    else
      let s := (blockRuns e.2.block).foldl (fun s r => s.setRangeKey (firstLine r) (lastLine r) (partKey e.1)) s
      s.setBit (CRU_PART e.1) CRU_PART.MEM_LOST) s

/-- R250, R435: the consistency pass of a module reset acts on each row as Planish does; `lost` are data lines that it
finds beyond recomputation. Log 116 (DEDUCED). -/
def consistencyPass (s : State) (lost : List Nat) : State :=
  let codes := s.mm.badCode.flatMap (fun e => let k := e.1; (List.range 15).map (fun i =>
    parityKey (chanGroup (k / 2 ^ 28)) (15 * (k % 2 ^ 28) + i)))
  let rows := (s.mm.bad.map (fun (e : Nat × Bool) => e.1 / 8) ++ codes).eraseDups
  let s := rows.foldl (fun s k => s.planishRow (k / 2 ^ 28) (k % 2 ^ 28) false) s
  lost.foldl (fun s l =>
    if (s.lostMembers (lineGroup l) (lineRow l)).contains (lineMember l) then s.rowLost (lineGroup l) (lineRow l) []
    else s.rowLost (lineGroup l) (lineRow l) [lineMember l]) s

/-- R434, R435, R438: training ends with the channels that failed it; at a module reset `lost` are the data lines
that the consistency pass cannot recompute. Log 116 (DEDUCED). -/
def trained (s : State) (failed lost : List Nat) (p : Bool) : State :=
  let s := failed.foldl (fun s h => s.failChannel h) s
  let dead := fun (g : Nat) => ((List.range 8).filter (fun i => s.fld (MEM_CHAN (memberHome g i)) MEM_CHAN.STATE == 4)).length
  if [0, 1, 2].any (fun g => decide (2 ≤ dead g)) then s.halt 8
  else
    let s := (List.range 24).foldl (fun s h =>
      if s.fld (MEM_CHAN h) MEM_CHAN.STATE < 4 then s.setFld (MEM_CHAN h) MEM_CHAN.STATE 1 else s) s
    let s := if p then s.zeroMemory else s.consistencyPass (lost.filter (fun l => decide (l < memLimit / 64)))
    s.starting 8 p

/-! ### Steps 10 and 11 -/

/-- R436, R437: replay, and ready. -/
def becomeReady (s : State) (p : Bool) : State :=
  let s := (s.setFld JNL_STATUS JNL_STATUS.STATE 3).replayUnits (if p then 4 else 3)
  let fs := ((s.disp.units.map (fun e => keyRing e.1 / 17)).filter (fun f => decide (f < 1025))).eraseDups
  let s := fs.foldl (fun s f => s.afterReset f) s
  let fallback := s.anv.bankFallback
  let s := { s with
    phase := .ready
    flt := { s.flt with readyAt := s.tb }
    start := { s.start with failures := 0 }
    anv := { s.anv with bankFallback := false }
    jnl := { s.jnl with snapAt := some (s.tb + s.snapPeriod) }
    mm := { s.mm with calAt := s.tb + s.calPeriod, planishAt := s.tb }
    hep := { s.hep with trainBy := if s.hep.perst || s.hep.l0 then none else some (s.tb + ms 20) } }
  let s := (s.settleBundle.endGuarded).afcEvent 0 (0x100 + s.start.cause)
  let s := if fallback then s.afcEvent 1 0x400 else s
  if s.linked then s.showFeeds else s

/-! ### Bridges -/

/-- R13: dies that a bridge joins; 4 is the H-die. Log 67 (DEDUCED). -/
def bridgeDies (b : Nat) : Nat × Nat :=
  [(0, 1), (0, 2), (0, 3), (0, 4), (1, 2), (1, 3), (1, 4), (2, 3), (2, 4), (3, 4)].getD b (0, 4)

/-- R13, R27: loss of a C-die: its clusters and its Hearth are dead. Log 67 (DEDUCED). -/
def dieLost (s : State) (d : Nat) : State :=
  if s.coh.dead.contains d then s
  else
    let s := s.logEvent 1 blockCoh causeNone d
    let s := ((List.range 10).map (10 * d + ·)).foldl (fun s c => s.clusterLost c) s
    s.declareDead d

/-- R13: half `h` of bridge `b` fails. Log 67 (DEDUCED). Log 125 (DEDUCED). -/
def bridgeHalf (s : State) (b h : Nat) : State :=
  let old := s.start.bridges.get 0 b
  if old / 2 ^ h % 2 = 1 then s
  else
    let s := { s with start := { s.start with bridges := s.start.bridges.set 0 b (old + 2 ^ h) } }
    if old = 0 then s.logEvent 0 blockCoh causeNone 0
    else if (bridgeDies b).2 < 4 then
      -- the H-die forwards: a bridge failover (R220)
      (s.setBit COH_STATUS COH_STATUS.GUARDED).logEvent 0 blockCoh causeNone 0
    else s.dieLost (bridgeDies b).1

end State

/-! ### The commands -/

/-- R431: `x` is what the checks of steps 4 to 6 find. Log 9 (DESIGN CHOICE). -/
def execPowerOn (x : StartChecks) (s : State) : Host.Outcome State Fault Refusal := .next (s.powerOn x)

/-- R389, R432: a feed is qualified and the bus has held for 100 ms. -/
def State.busStable (s : State) (x : StartChecks) : State :=
  if due s s.pwr.stableAt && ((s.feed 0).qualified || (s.feed 1).qualified) then s.moduleReset 5 x else s

/-- R407: the deadline of the fault collector. -/
def State.class3Reset (s : State) (x : StartChecks) : State :=
  if due s s.flt.class3Due then s.moduleReset 4 x else s

/-- R432, R437: starter 0 is Anvil firmware, 1 the fault collector, 2 Bellows. Log 65 (DEDUCED). -/
def execModuleReset (starter : Fin 3) (x : StartChecks) (s : State) : Host.Outcome State Fault Refusal :=
  onLive s fun s =>
    match starter.val with
    | 0 => if s.bit ANV_STATUS ANV_STATUS.GAP then s else s.moduleReset 3 x
    | 1 => s.class3Reset x
    | _ => s.busStable x

/-- R434, R435: the channels that failed training, and the lines that stay lost. -/
def execGddr7TrainingComplete (failed : List (Fin 24)) (lost : List (BitVec 42)) (s : State) :
    Host.Outcome State Fault Refusal :=
  onLive s fun s =>
    match s.phase with
    | .starting 7 p => s.trained (failed.map (·.val)) (lost.map (·.toNat)) p
    | _ => s

/-- R431 step 9, R42, R438: the journal controller scans both dies; R389: not after the report. -/
def execRecoveryScan (s : State) : Host.Outcome State Fault Refusal :=
  onLive s fun s =>
    match s.phase with
    | .starting 8 p =>
      if s.pwr.reported then s
      else if !s.dieOk 0 ∧ !s.dieOk 1 then s.halt 9
      else
        let s := s.scan
        if !s.dieOk 0 ∧ !s.dieOk 1 then s.halt 9 else s.starting 9 p
    | _ => s

/-- R436, R437. -/
def execReplay (s : State) : Host.Outcome State Fault Refusal :=
  onLive s fun s =>
    match s.phase with
    | .starting 9 p => if s.pwr.reported then s else s.becomeReady p
    | _ => s

/-- R438: a step exceeds its bound: a Class 3 event before ready. Log 65 (DEDUCED). -/
def execStartupStepOverrun (s : State) : Host.Outcome State Fault Refusal :=
  onLive s fun s =>
    match s.phase with
    | .starting n _ => s.logEvent 3 blockFlt causeNone (n + 1)
    | _ => s

/-- R389. -/
def execBusStableTimer (x : StartChecks) (s : State) : Host.Outcome State Fault Refusal := onLive s fun s => s.busStable x

/-- R407. -/
def execClass3ResetDeadline (x : StartChecks) (s : State) : Host.Outcome State Fault Refusal :=
  onLive s fun s => s.class3Reset x

/-- R13. -/
def execBridgeHalfFailure (b : Fin 10) (half : Fin 2) (s : State) : Host.Outcome State Fault Refusal :=
  onLive s fun s => s.bridgeHalf b.val half.val

/-- R13: both halves of a bridge have failed. -/
def execBridgeFailure (b : Fin 10) (s : State) : Host.Outcome State Fault Refusal :=
  onLive s fun s => (s.bridgeHalf b.val 0).bridgeHalf b.val 1

end Sys2Proof.Machine
end

