-- ==== Sys2Proof/Machine/Anvil.lean ====
section
/-!
DEFINITION. Fault events that reach the collector (R405 to R410), what its sequencer does (R430), recovery steps
(R420), and the lease of the Anvil pair with takeover (R415 to R419).
-/
namespace Sys2Proof.Machine
open Sys2Proof

namespace State

/-! ### The collector and its sequencer -/

/-- R406, R409: an event from outside the blocks of this model. -/
def faultInput (s : State) (e : FaultInput) : State :=
  match e with
  | .event cls block cause inst detail => s.logEvent cls.val block.val cause.val inst.toNat detail.toNat
  | .sequencerFailed => s.logEvent 4 blockFlt causeNone 0 0 2
  | .regionsDisagree => s.logEvent 4 blockMem causeNone 0 0 6

/-- R409: a junction sensor above 105 °C is reported once a minute while it lasts. Log 76 (DEDUCED). -/
def hotReport (s : State) (die : Nat) (hot : Bool) : State :=
  let mark := fun (s : State) (t : Option Nat) => { s with anv := { s.anv with hotSince := s.anv.hotSince.set none die t } }
  if !hot then mark s none
  else
    let owed := match s.anv.hotSince.get none die with
      | none => true
      | some t => decide (t + sec 60 ≤ s.tb)
    if owed then ((mark s (some s.tb)).setBit ANV_EVENT ANV_EVENT.HOT).logEvent 0 blockAnv 6 0 else s

/-- R426: a write of `FLT_CLEAR`. -/
def fltClear (s : State) (v : Nat) : State :=
  (s.setFld FLT_STATUS FLT_STATUS.UNCLEARED
    ((List.range 5).map (fun k => if v >>> k % 2 = 0 ∧ s.bit FLT_STATUS ⟨k, 1⟩ then 2 ^ k else 0)).sum).showOut

/-- R430: a write to the hypervisor trigger. -/
def hypTrigger (s : State) (value : Nat) : State := if value = 1 then s.raiseHyp else s

/-- R430: the oldest event leaves the intake. -/
def intakeNext (s : State) : State := { s with flt := { s.flt with intake := s.flt.intake.drop 1 } }

/-! ### Recovery procedures -/

/-- R420: the action that a step of a procedure starts has completed. Log 68 (DEDUCED). -/
def stepDone (s : State) (proc step key : Nat) : Bool :=
  match proc, step with
  | 1, 5 => !s.coh.sweeping.contains (4 + key)
  | 2, 5 => !(s.coh.sweeping.any (fun a => a == key || (decide (4 ≤ a) && (a - 4) / 10 == key)))
  | 4, 2 => s.groupState (chanGroup key) != 1 || s.bit (MEM_GROUP (chanGroup key)) MEM_GROUP.REFUSED
  | 4, 3 => s.groupState (chanGroup key) != 2
  | 5, 2 => s.flt.class3Due.isNone
  | 5, 3 => s.phase == .ready
  | _, _ => true

/-- What completing a step does beside `STEP`: the guarded regime ends (R220), or the fabric of a lost die goes off.
Log 68 (DEDUCED). -/
def stepEffect (s : State) (proc step key : Nat) : State :=
  match proc, step with
  | 1, 6 | 2, 6 => s.endGuarded
  | 2, 7 =>
    let d := 48 + key % 4
    (((s.setDom d {}).domReq d false).setDomState d 0).domPowered d false
  | _, _ => s

def setAnvil (s : State) (b : Bool) (n : Nat) : State :=
  s.setFld ANV_STATUS (if b then ANV_STATUS.B_STATE else ANV_STATUS.A_STATE) n
/-- R420: the active Anvil completes the next step of entry `n`. Log 68 (DEDUCED). -/
def recoveryStep (s : State) (n : Nat) : State :=
  let a := FLT_REC n
  let p := s.fld a FLT_REC.PROC
  let step := s.fld a FLT_REC.STEP + 1
  let key := s.flt.recKey.get 0 n
  if s.fld a FLT_REC.STATE ≠ 1 ∨ !s.anvilActive ∨ !s.stepDone p step key then s
  else
    let s := (s.setFld a FLT_REC.STEP step).stepEffect p step key
    if step < s.fld a FLT_REC.STEPS then s
    else ((s.setFld a FLT_REC.STATE 2).vectorTrigger 6 1).nextRecovery

/-! ### The lease -/

def anvilCore (s : State) (b : Bool) : AnvilCore := if b then s.anv.b else s.anv.a
def setCore (s : State) (b : Bool) (x : AnvilCore) : State :=
  { s with anv := if b then { s.anv with b := x } else { s.anv with a := x } }

/-- R419: no Anvil is left. -/
def bothFailed (s : State) : State :=
  ((s.setAnvil s.holder 4).setBit ANV_EVENT ANV_EVENT.FAILED).logEvent 4 blockAnv 4 0 0 1

/-- R415: a write of RENEW by Anvil `b`. Log 56 (DEDUCED). -/
def lkRenew (s : State) (b : Bool) : State :=
  let st := s.anvilState b
  if st ≠ 2 ∧ st ≠ 3 then s
  else if b == s.holder then { s with anv := { s.anv with leaseEnd := some (s.tb + ms 8) } }
  else s.setBit ANV_EVENT ANV_EVENT.LATE_RENEWAL

/-- R417 step 1: the token passes to the standby, by release (1) or expiry (2); R419: with no standby, Quench.
Log 69 (DEDUCED). -/
def passToken (s : State) (cause : Nat) : State :=
  let old := s.holder
  let s := s.setBit ANV_EVENT (if cause = 1 then ANV_EVENT.RELEASED else ANV_EVENT.EXPIRED)
  if s.anv.gap.isSome ∨ s.anvilState (!old) ≠ 3 then s.bothFailed
  else
    let s := (s.setAnvil old 5).setCore old { restartBy := some (s.tb + ms 250) }
    let s := (s.setBit ANV_STATUS ANV_STATUS.GAP).setBit ANV_STATUS ANV_STATUS.ACTIVE (!old)
    { s with anv := { s.anv with leaseEnd := some (s.tb + ms 8), gap := some (s.tb, cause) } }

/-- R415, R417: the holder, and no one else, releases. Log 69 (DEDUCED). -/
def lkRelease (s : State) (b : Bool) : State :=
  if s.anvilState b = 2 ∧ b = s.holder ∧ s.anv.gap.isNone then s.passToken 1 else s

/-- R417: the 8 ms lease expires. Log 69 (DEDUCED). -/
def leaseRunsOut (s : State) : State := if due s s.anv.leaseEnd then s.passToken 2 else s

/-- R417 steps 2 to 4. Log 69 (DEDUCED). -/
def takeoverDone (s : State) (ok : Bool) : State :=
  match s.anv.gap with
  | none => s
  | some (t, cause) =>
    if !ok then s.bothFailed
    else
      let gap := min ((s.tb - t) / 1000) 65535
      let s := (s.setAnvil s.holder 2).setBit ANV_STATUS ANV_STATUS.GAP false
      let s := ({ s with anv := { s.anv with gap := none } }).takeNotes
      let s := s.setReg ANV_LAST (BitVec.ofNat 64 (s.stamp * 2 ^ 32 + gap * 2 ^ 16 + cause * 2 ^ 8))
      let s := ((s.bump ANV_TAKEOVERS ANV_TAKEOVERS.COUNT).setBit ANV_EVENT ANV_EVENT.TAKEOVER).vectorTrigger 4 1
      s.logEvent 1 blockAnv 0 0

/-- R416: a self-diagnosis pass of Anvil `b` ends. The holder's failed pass releases the lease; a standby's starts
its restart. Log 69 (DEDUCED). -/
def selfDiagnosis (s : State) (b ok : Bool) : State :=
  let st := s.anvilState b
  if st ≠ 2 ∧ st ≠ 3 then s
  else
    if ok then s
    else if st = 2 then s.lkRelease b
    else if b == s.holder then s
    else (s.setAnvil b 5).setCore b { restartBy := some (s.tb + ms 250) }

/-- R419: a former holder's restart ends. -/
def anvilRejoin (s : State) (b ok : Bool) : State :=
  if s.anvilState b ≠ 5 then s
  else
    let s := s.setCore b {}
    if ok then ((s.setAnvil b 3).setBit ANV_EVENT ANV_EVENT.REJOINED).logEvent 0 blockAnv 5 0
    else ((s.setAnvil b 4).setBit ANV_EVENT ANV_EVENT.FAILED).logEvent 1 blockAnv 4 0

/-- R428, R429: a write of `AFC_RAISE` by Anvil `b`; without the token it is discarded. -/
def afcRaise (s : State) (b : Bool) (v : W64) : State :=
  if s.holder != b then s
  else
    let s := s.regWrite AFC_RAISE v
    if getFld v AFC_RAISE.GO = 1 then s.afcEvent (s.fld AFC_RAISE AFC_RAISE.CLASS) (s.fld AFC_RAISE AFC_RAISE.CODE) else s

end State

/-- What runs while the rails are up and Quench does not hold the module, halted or not. -/
def onRails (s : State) (f : State → State) : Host.Outcome State Fault Refusal := .next (if s.railsUp then f s else s)

/-! ### The commands -/

/-- R406; R414: in Quench a further Class 4 event is logged. -/
def execFaultEvent (e : FaultInput) (s : State) : Host.Outcome State Fault Refusal :=
  match e with
  | .event .. => onRails s fun s => s.faultInput e
  | _ => .next (if s.phase = .off then s else s.faultInput e)

/-- R409: above 125 °C for 10 µs; R414: logged in Quench too. -/
def execJunctionOvertemp (_die : Fin 5) (s : State) : Host.Outcome State Fault Refusal :=
  .next (if s.phase = .off then s else s.logEvent 4 blockFlt causeNone 0 0 3)

/-- R409. -/
def execHotReportTimer (die : Fin 5) (hot : Bool) (s : State) : Host.Outcome State Fault Refusal :=
  onRails s fun s => s.hotReport die.val hot

/-- R426. -/
def execFltClear (v : BitVec 32) (s : State) : Host.Outcome State Fault Refusal := onRails s fun s => s.fltClear v.toNat

/-- R430. -/
def execIntakeRelease (s : State) : Host.Outcome State Fault Refusal := onRails s State.intakeNext

/-- R430. Log 70 (DEDUCED). -/
def execVectorTrigger (v : Fin 7) (value : BitVec 32) (s : State) : Host.Outcome State Fault Refusal :=
  onRails s fun s => s.vectorTrigger v.val value.toNat

/-- R430. Log 70 (DEDUCED). -/
def execHypervisorTrigger (value : BitVec 32) (s : State) : Host.Outcome State Fault Refusal :=
  onRails s fun s => s.hypTrigger value.toNat

/-- R420. -/
def execRecoveryProcedureStep (n : Fin 8) (s : State) : Host.Outcome State Fault Refusal :=
  onRails s fun s => s.recoveryStep n.val

/-- R415. Log 56 (DEDUCED). -/
def execLkRenew (b : Bool) (s : State) : Host.Outcome State Fault Refusal := onRails s fun s => s.lkRenew b

/-- R417. -/
def execLkRelease (b : Bool) (s : State) : Host.Outcome State Fault Refusal := onRails s fun s => s.lkRelease b

/-- R417. -/
def execLeaseExpiry (s : State) : Host.Outcome State Fault Refusal := onRails s State.leaseRunsOut

/-- R417: `ok` is false where the standby fails during the takeover. -/
def execAnvilTakeoverComplete (ok : Bool) (s : State) : Host.Outcome State Fault Refusal :=
  onRails s fun s => s.takeoverDone ok

/-- R416. -/
def execSelfDiagnosisPass (b ok : Bool) (s : State) : Host.Outcome State Fault Refusal :=
  onRails s fun s => s.selfDiagnosis b ok

/-- R419: `ok` is false where Assay or the firmware check fails. -/
def execAnvilRejoin (b ok : Bool) (s : State) : Host.Outcome State Fault Refusal := onRails s fun s => s.anvilRejoin b ok

/-- R428. -/
def execAfcRaise (b : Bool) (v : BitVec 32) (s : State) : Host.Outcome State Fault Refusal :=
  onRails s fun s => s.afcRaise b (v.setWidth 64)

end Sys2Proof.Machine
end

