-- ==== Sys2Proof/Machine/Pins.lean ====
section
/-!
DEFINITION. The presence pins and seating (R442, R452, R453), the status outputs (R445) and the test access port
(R444).
-/
namespace Sys2Proof.Machine
open Sys2Proof

/-- IEEE 1149.1: the controller's next state at a rising edge of TCK. Log 72 (DEDUCED). -/
def Tap.next (t : Tap) (tms : Bool) : Tap :=
  match t, tms with
  | .reset, true => .reset
  | .reset, false => .idle
  | .idle, true => .selectDr
  | .idle, false => .idle
  | .selectDr, true => .selectIr
  | .selectDr, false => .captureDr
  | .captureDr, true => .exit1Dr
  | .captureDr, false => .shiftDr
  | .shiftDr, true => .exit1Dr
  | .shiftDr, false => .shiftDr
  | .exit1Dr, true => .updateDr
  | .exit1Dr, false => .pauseDr
  | .pauseDr, true => .exit2Dr
  | .pauseDr, false => .pauseDr
  | .exit2Dr, true => .updateDr
  | .exit2Dr, false => .shiftDr
  | .updateDr, true => .selectDr
  | .updateDr, false => .idle
  | .selectIr, true => .reset
  | .selectIr, false => .captureIr
  | .captureIr, true => .exit1Ir
  | .captureIr, false => .shiftIr
  | .shiftIr, true => .exit1Ir
  | .shiftIr, false => .shiftIr
  | .exit1Ir, true => .updateIr
  | .exit1Ir, false => .pauseIr
  | .pauseIr, true => .exit2Ir
  | .pauseIr, false => .pauseIr
  | .exit2Ir, true => .updateIr
  | .exit2Ir, false => .shiftIr
  | .updateIr, true => .selectDr
  | .updateIr, false => .idle

namespace State

/-! ### Seating -/

def bothLow (s : State) : Bool := s.pins.prsnt1 && s.pins.prsnt2

/-- R452, R453: a presence pin changes level. -/
def pinChange (s : State) (pin : Nat) (low : Bool) : State :=
  let high := fun (t : Option Nat) => if low then none else some (t.getD (s.tb + us 50))
  let p := if pin = 0 then { s.pins with prsnt1 := low, break1At := high s.pins.break1At }
    else { s.pins with prsnt2 := low, break2At := high s.pins.break2At }
  let both := p.prsnt1 && p.prsnt2
  let p := { p with
    seatAt := if both && !p.seated then some (p.seatAt.getD (s.tb + ms 10)) else p.seatAt
    singleAt := if p.prsnt1 != p.prsnt2 then some (s.tb + sec 1) else none }
  { s with pins := p }

/-- R452: seated after 10 ms. -/
def seat (s : State) : State :=
  if due s s.pins.seatAt && s.bothLow then { s with pins := { s.pins with seated := true, seatAt := none } } else s

/-- R402: J1 is gone: surprise down at the endpoint, and the ports are quiet. Log 72 (DEDUCED). -/
def j1Gone (s : State) : State :=
  if !s.live then s
  else
    let s := (List.range 16).foldl (fun s p => if s.portUp p then s.portDown p false else s) s
    if s.hep.l0 then s.endpointReset false else s

/-- R452: a presence pin has read high for 50 µs. -/
def presenceBreak (s : State) : State :=
  if due s s.pins.break1At || due s s.pins.break2At then
    let was := s.pins.seated
    let s := { s with pins := { s.pins with seated := false, seatAt := none, break1At := none, break2At := none } }
    if was then s.j1Gone else s
  else s

/-- R453: one pin alone has read low for 1 s. Log 72 (DEDUCED). -/
def presenceSingle (s : State) : State :=
  if due s s.pins.singleAt && !s.pins.seated then
    let s := { s with pins := { s.pins with singleAt := none } }
    if s.railsUp && s.anvilActive then s.afcEvent 0 0x300 else s
  else s

/-! ### Status outputs -/

/-- R445: READY#, asserted. -/
def pinReady (s : State) : Bool := s.isReady && !s.pwr.reported
/-- R445: FAULT#, asserted. -/
def pinFault (s : State) : Bool := s.phase != .off && s.bit ANV_OUT ANV_OUT.FAULT
/-- R445: REMOVE_OK#, asserted. -/
def pinRemoveOk (s : State) : Bool :=
  s.pwr.bellows.removed && !s.pwr.bellows.stage48 && (s.pwr.bellows.feed0.present || s.pwr.bellows.feed1.present)
/-- R445: LATCH4#, asserted. -/
def pinLatch4 (s : State) : Bool :=
  s.pwr.bellows.latch && (s.pwr.bellows.feed0.present || s.pwr.bellows.feed1.present)
/-- R443: SMBus addresses of the two interfaces. -/
def smbusAddress (s : State) (n : Nat) : Nat := 0x60 + 8 * n + s.pins.addr

/-! ### The test access port -/

/-- R444: an edge of TCK. The controller moves at a rising edge; TDO changes at a falling one, with a bit of a scan
register that the manual does not lay out, while the controller shifts. TRST# low resets it.
Log 72 (DEDUCED). -/
def tckEdge (s : State) (tck tms trst : Bool) : State :=
  let old := s.pins
  if !trst then { s with pins := { old with tap := .reset, tck := tck, tdo := none } }
  else if tck && !old.tck then { s with pins := { old with tap := old.tap.next tms, tck := tck } }
  else if !tck && old.tck then
    if old.tap = .shiftDr ∨ old.tap = .shiftIr then
      let (b, s) := s.freeBit
      { s with pins := { old with tck := tck, tdo := some b } }
    else { s with pins := { old with tck := tck, tdo := none } }
  else { s with pins := { old with tck := tck } }

end State

/-- R452. -/
def execPresenceSeated (s : State) : Host.Outcome State Fault Refusal := .next s.seat

/-- R452. -/
def execPresenceBreak (s : State) : Host.Outcome State Fault Refusal := .next s.presenceBreak

/-- R453. -/
def execPresencePinSingle (s : State) : Host.Outcome State Fault Refusal := .next s.presenceSingle

/-- R452. -/
def execPresencePinChange (pin : Fin 2) (low : Bool) (s : State) : Host.Outcome State Fault Refusal :=
  .next (s.pinChange pin.val low)

/-- R444: `trst` is the level of TRST#; what TDI shifts in reaches no state of the module. -/
def execJtagTck (tck tms _tdi trst : Bool) (s : State) : Host.Outcome State Fault Refusal :=
  .next (s.tckEdge tck tms trst)

end Sys2Proof.Machine
end

