-- ==== Sys2Proof/Machine/Bar.lean ====
section
/-!
DEFINITION. The registers as software reaches them: what a read returns, counts that follow other state
included, and what a write does, from the host (R20, R63, R457), from a main core through device space (R139,
R340), or from an Anvil's window (R429).
-/
namespace Sys2Proof.Machine
open Sys2Proof

/-- Units of a list in a phase. -/
def inPhase (us : List (Nat × WorkUnit)) (p : UnitPhase) : Nat := (us.filter (fun e => e.2.phase == p)).length

/-- Key and width of the register that holds the 4-byte word at key `a`: a row of the register table, an MSI-X
word (R56), or a word of the history or of the first-error capture (R426). Log 39 (DEDUCED). -/
def regAt (a : Nat) : Option (Nat × Nat) :=
  match rowOf a with
  | some (r, k) => some (k, r.bytes)
  | none =>
    let f := if a < 0x100000000 then 0 else (a - 0x100000000) / 0x4000
    if State.inMsix f (a - a % 8) then
      (if a % 16 < 8 ∨ a - a % 8 = msixPba f then some (a - a % 8, 8) else some (a - a % 4, 4))
    else if (0xE00020 ≤ a ∧ a < 0xE00038) ∨ (0xE01000 ≤ a ∧ a < 0xE01400 ∧ a % 32 < 24) then some (a - a % 8, 8)
    else none

namespace State

/-! ### Reads -/

/-- R94: the duplicate-marked copies that ring `r` of function `f` holds: their originals have completed. -/
def dupsHeld (s : State) (f r : Nat) : Nat :=
  let x := s.ring (ringOf f r)
  ((x.postOld ++ x.postQ).filter (fun i => match i with
    | .unit _ => false
    | .dup a _ => (s.itemEntry f r i).isSome || ((s.unit? (unitKey (ringOf f r) a)).map (·.phase)) == some .completed)).length

/-- R100, R102: entries that the completion ring has yet to take: completed units, and duplicate-marked copies.
Log 40 (DEDUCED). -/
def cqHeld (s : State) (f c : Nat) : Nat :=
  if s.cqEnabled f c then
    inPhase ((s.fnUnits f).filter (fun e =>
      let r := keyRing e.1 % 17
      s.sqEnabled f r && s.cqOf f r == c)) .completed +
    (((List.range 17).filter (fun r => s.sqEnabled f r && s.cqOf f r == c)).map (s.dupsHeld f)).sum
  else 0

/-- R134: pairs bound to partition `n`; a pair that drains still serves the partition it runs for. -/
def pairsBound (s : State) (n : Nat) : Nat :=
  ((List.range 160).filter (fun p =>
    match s.fld (UOW_PAIR_BIND p) UOW_PAIR_BIND.STATE with
    | 2 => s.fld (UOW_PAIR_BIND p) UOW_PAIR_BIND.PARTITION == n
    | 3 => s.slotPart p == some n
    | 4 => s.slotPart p == some n
    | 6 => s.slotPart p == some n
    | _ => false)).length

/-- R134: `UOW_PARTn_STATUS`. -/
def partStatus (s : State) (n : Nat) : W64 :=
  let us := s.disp.units.filter (fun e => e.2.part == n && e.2.ring != 16)
  BitVec.ofNat 64 (partUow (s.fld (CRU_PART n) CRU_PART.STATE) * 2 ^ 56 + s.pairsBound n * 2 ^ 48 +
    inPhase us .executing * 2 ^ 32 + inPhase us .queued)

/-- R428: `LK_CTL` as Anvil `b` reads it. Log 69 (DEDUCED). -/
def lkShown (s : State) (b : Bool) : W64 :=
  let h := s.holder == b
  let left := match s.anv.leaseEnd with
    | some t => if h then min ((t - s.tb) / 1000) 8000 else 0
    | none => 0
  BitVec.ofNat 64 (h.toNat * 2 ^ 13 + left)

/-- R372: a seam lane has signal: the far end of its port is heard (R49), or it feeds the recovered timebase clock.
Log 61 (DEDUCED). -/
def seamLaneUp (s : State) (l : Nat) : Bool :=
  (s.jnl.seamPartner.get none (l / 8)).isSome ||
    (s.clk.lane == some l && !s.bit CLK_TB_CFG CLK_TB_CFG.KIND && s.clk.recovered.running)

/-- R372, R384: STATE of clock domain `n`: 0 while its block is off; a read strobe or a recovered receive clock runs
with its channel or its link, and what the board clocks while the module is seated. Log 61 (DEDUCED). -/
def clkShown (s : State) (n : Nat) : Nat :=
  let st := s.fld (CLK_DOMAIN n) CLK_DOMAIN.STATE
  let off := fun (d : Nat) => s.fld PWR_DOMAINS PWR_DOMAINS.ON >>> d % 2 == 0
  if n < 72 then
    let h := n / 3
    let chan := s.fld (MEM_CHAN h) MEM_CHAN.STATE
    if off (61 + chanGroup h) then 0 else if n % 3 = 2 then (chan != 0 && chan != 4).toNat else st
  else if n < 136 then
    let port := (n - 72) / 4
    if off (52 + port / 4) then 0 else if n % 2 = 1 then (if s.portUp port then 1 else 3) else st
  else if n < 264 then if off 60 then 0 else if n % 2 = 1 then (if s.seamLaneUp ((n - 137) / 2) then 1 else 3) else st
  else if 265 ≤ n ∧ n < 281 then (if n - 265 < s.fld HEP_LINK_STATUS HEP_LINK_STATUS.WIDTH then 1 else 3)
  else if n = 288 ∨ n = 289 ∨ n = 290 ∨ n = 293 then (if s.pins.seated then 1 else 3)
  else st

/-- The value a read of the register at key `k` returns. Log 22 (DEDUCED). Log 39 (DEDUCED). -/
def view (s : State) (k : Nat) : W64 :=
  let v := s.reg k
  if k = HEP_HELD then putFld v HEP_HELD.COUNT (min (inPhase s.disp.units .completed) 65536)
  else if HEP_FN_STATE 0 ≤ k ∧ k < HEP_FN_STATE 1025 then
    putFld v HEP_FN_STATE.HELD (min (inPhase (s.fnUnits ((k - HEP_FN_STATE 0) / 4)) .completed) 65535)
  else if k = RING_DEDUP_POOL then putFld v RING_DEDUP_POOL.FREE s.dedupFree
  else if k = UOW_STATUS then
    putFld (putFld v UOW_STATUS.IN_FLIGHT s.inFlight) UOW_STATUS.EXECUTING (inPhase s.disp.units .executing)
  else if UOW_PART_STATUS 0 ≤ k ∧ k < UOW_PART_STATUS 1024 ∧ (k - UOW_PART_STATUS 0) % 16 = 0 then
    s.partStatus ((k - UOW_PART_STATUS 0) / 16)
  else if COH_HOME 0 ≤ k ∧ k < COH_HOME 24 ∧ (k - COH_HOME 0) % 16 = 0 then
    putFld v COH_HOME.OCCUPIED (s.coh.homes.filter (fun e =>
      e.1 / 2 ^ 42 == (k - COH_HOME 0) / 16 && (e.2.dir != .I || e.2.busy.isSome))).length
  else if CIP_SLOT 0 ≤ k ∧ k < CIP_SLOT 8192 then putFld v CIP_SLOT.INUSE (s.cipInUse ((k - CIP_SLOT 0) / 8))
  else if k = CKL_STATE then
    let slot := s.fld CKL_SLOT CKL_SLOT.SLOT
    putFld (putFld v CKL_STATE.GEN (s.fld (CIP_SLOT slot) CIP_SLOT.GEN)) CKL_STATE.INUSE (s.cipInUse slot)
  else if PAIR_COUNTS 0 ≤ k ∧ k < PAIR_COUNTS 320 ∧ (k - PAIR_COUNTS 0) % 0x2000 = 0 then
    let ts := (s.pairSt ((k - PAIR_COUNTS 0) / 0x2000)).transients
    putFld v PAIR_COUNTS.TRANSIENT_24H (min (ts.filter (fun t => decide (s.tb < t + sec 86400))).length 8)
  else if k = JNL_DIE_ROWS 0 ∨ k = JNL_DIE_ROWS 1 then
    let rows := (s.die (if k = JNL_DIE_ROWS 0 then 0 else 1)).recomputed
    putFld v JNL_DIE_ROWS.ROWS_WEAK
      (rows.filter (fun e => (e.2.filter (fun t => decide (s.tb < t + sec 86400))).length == 1)).length
  else if CLK_DOMAIN 0 ≤ k ∧ k < CLK_DOMAIN 296 then putFld v CLK_DOMAIN.STATE (s.clkShown ((k - CLK_DOMAIN 0) / 4))
  else if k = CLK_TB then BitVec.ofNat 64 s.tb
  else if k = ANV_MGMT then
    BitVec.ofNat 64 ((s.ctlByte (mctpBank 2 + 0x10)).toNat * 2 ^ 24 + (s.ctlByte (mctpBank 1 + 0x10)).toNat * 2 ^ 16 +
      (s.ctlByte (mctpBank 0 + 0x10)).toNat * 2 ^ 8 + (s.ctlByte (mctpBank 3 + 0x10)).toNat)
  else if k = LK_CTL 0 then s.lkShown false
  else if k = LK_CTL 1 then s.lkShown true
  else match ringKey k with
    | some (f, o) =>
      if 0x400 ≤ o ∧ o < 0x400 + 0x20 * 17 ∧ o % 0x20 = 0xC then
        putFld v RING_CQ_STATUS.HELD (min (s.cqHeld f ((o - 0x400) / 0x20)) 65535)
      else v
    | none => v

/-- R20: the 4-byte word at key `a`; reserved offsets read zero (R4). -/
def word (s : State) (a : Nat) : Nat :=
  match regAt a with
  | some (k, _) => (s.view k).toNat >>> (8 * (a - a % 4 - k)) % 2 ^ 32
  | none => 0

/-- R20: `n` bytes at key `a`, from the aligned words that hold them. Log 22 (DEDUCED). -/
def regBytes (s : State) (a n : Nat) : Bytes :=
  (List.range n).map (fun i => BitVec.ofNat 8 (s.word (a + i) >>> (8 * ((a + i) % 4))))

/-! ### Writes -/

/-- R102, R103, R107: a write of `v` to the bits of `mask` of the register at offset `o` of a ring page.
Log 41 (DEDUCED). -/
def ringEffect (s : State) (f o k : Nat) (fields : List RegField) (v mask : W64) : State :=
  let n := if o < 0x400 then (o - 0x100) / 0x20 else (o - 0x400) / 0x20
  if o = 0x20 then
    if getFld (v &&& mask) RING_RESYNC_CTL.GO = 1 then s.resyncGo f v
    else s.regStore k (fields.filter (fun x => f == 0 || x.fld != RING_RESYNC_CTL.FUNC)) v mask
  else if 0x100 ≤ o ∧ o < 0x320 ∧ o % 0x20 = 8 then
    if getFld v RING_SQ_CFG.EN = 1 then s.sqEnable f n v
    else if s.sqEnabled f n then s.sqDisable f n
    else s.regStore k fields v mask
  else if 0x400 ≤ o ∧ o < 0x620 ∧ o % 0x20 = 8 then s.cqCfgWrite f n v
  else s.regStore k fields v mask

/-- R56, R75: a write to an MSI-X table entry; clearing a mask sends what it held back. The PBA is read-only. A write to
the table of a TDI that is locked or runs takes it into ERROR.
Log 41 (DEDUCED). -/
def msixWrite (s : State) (f k : Nat) (m : W64) : State :=
  if k = msixPba f then s
  else
  let s := if f = 0 then s else s.tdiError f
  if k % 16 = 12 then (s.setReg k (m &&& 1)).flushPba f
  else if k % 16 = 0 then s.setReg k (m &&& 0xFFFFFFFFFFFFFFFC#64)
  else s.setReg k m

/-- R340: the mailbox that a key belongs to, and whether the register is its CTL. -/
def mailKey (k : Nat) : Option (Nat × Bool) :=
  if CRU_MB_ADDR 0 ≤ k ∧ k < CRU_MB_ADDR 1040 then some ((k - CRU_MB_ADDR 0) / 16, k % 16 == 8) else none

/-- R340: a write to a mailbox register by `who`. The request block of mailbox 0 is what the DMA read of host
memory brings: a free value here, where no command carries it. Log 29 (DEDUCED). -/
def mailStore (s : State) (who : Writer) (m : Nat) (ctl : Bool) (v : W64) : State :=
  if !ctl then s.mailAddr m who v
  else if !mailOwner m who then s.setBit CRU_EVENT CRU_EVENT.MB_DENIED
  else if getFld v CRU_MB_CTL.GO = 1 then
    if m = 0 then
      let (b, s) := s.randomBytes 64
      s.mailGo m who b
    else s.mailGo m who []
  else s

/-- A write of `v` to the bits of `mask` of the register at key `k`: the register's own effect where the manual
gives it one, else what its access codes say (R5). Log 29 (DEDUCED). -/
def regEffect (s : State) (who : Writer) (k : Nat) (v mask : W64) : State :=
  let hit := v &&& mask
  let m := (s.reg k &&& ~~~mask) ||| hit
  let f := if k < 0x100000000 then 0 else (k - 0x100000000) / 0x4000
  match rowOf k with
  | none =>
    if inMsix f k then s.msixWrite f k m
    else if k = FLT_FIRST_EVENT ∧ getFld hit FLT_EVENT.VALID = 1 then s.setBit k FLT_EVENT.VALID false
    else s
  | some (r, _) =>
    let plain := s.regStore k r.fields v mask
    let go := fun (x : Fld) => getFld hit x == 1
    match ringKey k, mailKey k with
    | some (f, o), _ => s.ringEffect f o k r.fields v mask
    | _, some (n, ctl) => s.mailStore who n ctl m
    | none, none =>
      if k = HEP_FREEZE then (if go HEP_FREEZE.RELEASE then s.release else s)
      else if k = WIN_COMMIT then
        (if go WIN_COMMIT.GO then s.winCommit (getFld m WIN_COMMIT.WINDOW) else plain)
      else if UOW_PAIR_BIND 0 ≤ k ∧ k < UOW_PAIR_BIND 160 ∧ k % 16 = 0 then s.bindWrite ((k - UOW_PAIR_BIND 0) / 16) m
      else if PAIR_INJECT 0 ≤ k ∧ k < PAIR_INJECT 320 ∧ k % 0x2000 = 0x20 then
        (if go PAIR_INJECT.GO then injectGo s ((k - PAIR_INJECT 0) / 0x2000) else s)
      else if MEM_GROUP 0 ≤ k ∧ k < MEM_GROUP 3 then
        if go MEM_GROUP.REBUILD then
          let (ok, s) := s.freeBit
          s.rebuildGroup ((k - MEM_GROUP 0) / 8) ok
        else s
      else if SWG_Q_CFG 0 ≤ k ∧ k < SWG_Q_CFG 128 ∧ k % 16 = 0 then
        let n := (k - SWG_Q_CFG 0) / 16
        s.queueOwner (swgRegs n) (s.swgQueue n != [] || (s.swgCtx n).isSome) v
      else if CIP_Q_CFG 0 ≤ k ∧ k < CIP_Q_CFG 128 ∧ k % 16 = 0 then
        let n := (k - CIP_Q_CFG 0) / 16
        s.queueOwner (cipRegs n) (s.cipQueue n != []) v
      else if CHN_Q_CFG 0 ≤ k ∧ k < CHN_Q_CFG 256 ∧ k % 16 = 0 then
        let n := (k - CHN_Q_CFG 0) / 16
        s.queueOwner (chnRegs n) (s.chanQueue n != []) v
      else if k = CHN_INVAL_CTL then (if go CHN_INVAL_CTL.GO then s.chnInval v else plain)
      else if CHN_DEV_CFG 0 ≤ k ∧ k < CHN_DEV_CFG 1024 then s.deviceWrite ((k - CHN_DEV_CFG 0) / 64) (k % 64 / 8) m
      else if SRX_ASSOC_CFG 0 ≤ k ∧ k < SRX_ASSOC_CFG 4096 ∧ k % 32 = 0 then s.assocWrite ((k - SRX_ASSOC_CFG 0) / 32) m
      else if PWR_DOM 0 ≤ k ∧ k < PWR_DOM 64 then
        let d := (k - PWR_DOM 0) / 4
        if go PWR_DOM.ON then s.domOnWrite d else s.domOffWrite d
      else if PWR_VPOINT 0 ≤ k ∧ k < PWR_VPOINT 40 then s.vpointWrite ((k - PWR_VPOINT 0) / 4) (getFld v PWR_VPOINT.POINT)
      else if k = PWR_REMOVE then (if go PWR_REMOVE.GO then s.removal else s)
      else if k = FLT_CLEAR then s.fltClear (getFld hit FLT_CLEAR.CLASS)
      else plain

/-- R20: a write of `n` bytes, 4 or 8 and naturally aligned, at key `a`: to one register, or to two adjacent
32-bit registers in one step. Log 30 (DEDUCED). -/
def keyWrite (s : State) (who : Writer) (a n : Nat) (v : W64) : State :=
  let one := fun (s : State) (a : Nat) (v : W64) (n : Nat) =>
    match regAt a with
    | some (k, _) => s.regEffect who k (v <<< (8 * (a - k))) (byteMask (a - k) n)
    | none => s
  match regAt a with
  | some (_, 8) => one s a v n
  | _ => if n = 8 then one (one s a (v &&& 0xFFFFFFFF#64) 4) (a + 4) (v >>> 32) 4 else one s a (v &&& 0xFFFFFFFF#64) 4

/-- R60, R61: bytes of BAR0 of a function. -/
def bar0Size (s : State) (f : Nat) : Nat := if f = 0 then 2 ^ 26 else s.vfBarSize

/-- R20, R54, R60, R61, R63, R457: a write TLP to BAR0 of function `f`. Log 95 (DEDUCED). -/
def hostWrite (s : State) (f : Nat) (w : BarWrite) : State :=
  if !s.isReady || !s.fnPresent f || decide (s.bar0Size f ≤ w.offset) then s
  else if f ≠ 0 ∧ w.offset < 0x1000 then s.wakePage f false w
  else if !barWriteOk w then s.mmioDiscard f 0 w.offset
  else if !s.pageOpen f w.tee ∨ (f ≠ 0 ∧ 0x4000 ≤ w.offset) then s
  else s.keyWrite .host ((if f = 0 then 0 else 0x100000000 + 0x4000 * f) + w.offset) w.size w.value

/-- R20, R60, R61, R63: a read TLP to BAR0 of function `f`: the bytes of the aligned words that hold them. -/
def hostRead (s : State) (f : Nat) (w : BarWrite) : State :=
  let at_ := fun (i : Nat) => if f ≠ 0 ∧ (w.offset + i < 0x1000 ∨ 0x4000 ≤ w.offset + i) then []
    else s.regBytes ((if f = 0 then 0 else 0x100000000 + 0x4000 * f) + w.offset + i) 1
  if !s.isReady then s
  else s.readBar f 0 w.tee (s.bar0Size f) w.offset w.size
    ((List.range w.size).map (fun i => (at_ i).headD 0))

/-- A register of PF BAR0 written over the H-die fabric, by a main core's store to device space (R139, R333, R340) or
through an Anvil's window (R429). A sealed world reaches its own mailbox and no other register.
Log 22 (DEDUCED). Log 95 (DEDUCED). -/
def fabricWrite (s : State) (who : Writer) (off n : Nat) (v : W64) : State :=
  if 2 ^ 26 ≤ off then s
  else match who, mailKey off with
    | .sealed _, none => s
    | .anvil, some (0, _) => s.keyWrite .host off n v
    | _, _ => s.keyWrite who off n v

end State

/-- R20: `REGISTER_WRITE`: a write by the host to BAR0 of function `f`, or by another writer to PF BAR0's registers
over the fabric. A read by the host, which the command table names nowhere, is the same command with `read` set; over the
fabric reads are loads (R139). Log 39 (DEDUCED). Log 95 (DEDUCED). -/
def execRegisterWrite (who : Writer) (f : Fin 1025) (w : BarWrite) (s : State) : Host.Outcome State Fault Refusal :=
  if w.read then (if who = .host then onServed s f.val (.cpl f.val 1 []) fun s => s.hostRead f.val w else .next s) else
  onLive s fun s =>
    match who with
    | .host => s.hostWrite f.val w
    | _ => if State.barWriteOk w then s.fabricWrite who w.offset w.size w.value else s

end Sys2Proof.Machine
end

