-- ==== Sys2Proof/Decode.lean ====
section
/-!
DEFINITION. The instruction words of the Dirnoza set: the decoder of R141 to R153 and, after it, the encoder
from the same tables. The command table of the block gives no row any bits, so `decodeTableWord` answers
none for every word.
-/
namespace Sys2Proof

/-- R143 gives no command of the table bits: the table has no word for any row. -/
def decodeTableWord (_nbits _w : Nat) : Option Instr := none

/-! ### Fields of a word (R141) -/

def fOp (w : BitVec 32) : Nat := w.toNat / 2 ^ 26
def fD (w : BitVec 32) : RegNo := ⟨w.toNat / 2 ^ 20 % 64, Nat.mod_lt _ (by decide)⟩
def fA (w : BitVec 32) : RegNo := ⟨w.toNat / 2 ^ 14 % 64, Nat.mod_lt _ (by decide)⟩
def fB (w : BitVec 32) : RegNo := ⟨w.toNat / 2 ^ 8 % 64, Nat.mod_lt _ (by decide)⟩
def fC (w : BitVec 32) : RegNo := ⟨w.toNat / 4 % 64, Nat.mod_lt _ (by decide)⟩
def fFn (w : BitVec 32) : Nat := w.toNat % 256
def fV (w : BitVec 32) : Nat := w.toNat % 4
def fImm14 (w : BitVec 32) : BitVec 14 := BitVec.ofNat 14 w.toNat
def fImm13 (w : BitVec 32) : BitVec 13 := BitVec.ofNat 13 w.toNat
def fU (w : BitVec 32) : Bool := w.toNat / 2 ^ 13 % 2 == 1
def fImm20 (w : BitVec 32) : BitVec 20 := BitVec.ofNat 20 w.toNat
def fDisp26 (w : BitVec 32) : BitVec 26 := BitVec.ofNat 26 w.toNat
def fAddr16 (w : BitVec 32) : BitVec 16 := BitVec.ofNat 16 w.toNat
/-- R153: the size field; 4 to 15 are reserved. -/
def fSz (w : BitVec 32) : Nat := w.toNat / 2 ^ 16 % 16
/-- R151: the special register number a × 64 + b. -/
def fSpr (w : BitVec 32) : BitVec 12 := BitVec.ofNat 12 (w.toNat / 2 ^ 8)
/-- R146: RM 0 to 4, or 7 for the current mode; 5 and 6 are reserved. -/
def fRm (w : BitVec 32) : Option Rm :=
  match w.toNat % 8 with
  | 0 => some .rne
  | 1 => some .rz
  | 2 => some .ru
  | 3 => some .rd
  | 4 => some .rna
  | 7 => some .dyn
  | _ => none

/-- Keep `i` if a field that must be zero is zero (R142). -/
def ifZero (n : Nat) (i : Instr) : Option Instr := if n = 0 then some i else none

/-! ### The decoder -/

/-- R145. -/
def decodeInt (p : Proc) (w : BitVec 32) : Option Instr :=
  match fFn w with
  | 0x0 => some (.add p (fD w) (fA w) (fB w))
  | 0x1 => some (.sub p (fD w) (fA w) (fB w))
  | 0x2 => some (.addw p (fD w) (fA w) (fB w))
  | 0x3 => some (.subw p (fD w) (fA w) (fB w))
  | 0x4 => some (.and p (fD w) (fA w) (fB w))
  | 0x5 => some (.or p (fD w) (fA w) (fB w))
  | 0x6 => some (.xor p (fD w) (fA w) (fB w))
  | 0x7 => some (.andn p (fD w) (fA w) (fB w))
  | 0x8 => some (.sll p (fD w) (fA w) (fB w))
  | 0x9 => some (.srl p (fD w) (fA w) (fB w))
  | 0xa => some (.sra p (fD w) (fA w) (fB w))
  | 0xb => some (.ror p (fD w) (fA w) (fB w))
  | 0xc => some (.slt p (fD w) (fA w) (fB w))
  | 0xd => some (.sltu p (fD w) (fA w) (fB w))
  | 0xe => some (.min p (fD w) (fA w) (fB w))
  | 0xf => some (.minu p (fD w) (fA w) (fB w))
  | 0x10 => some (.max p (fD w) (fA w) (fB w))
  | 0x11 => some (.maxu p (fD w) (fA w) (fB w))
  | 0x20 => some (.mul p (fD w) (fA w) (fB w))
  | 0x21 => some (.mulw p (fD w) (fA w) (fB w))
  | 0x22 => some (.mulhs p (fD w) (fA w) (fB w))
  | 0x23 => some (.mulhu p (fD w) (fA w) (fB w))
  | 0x24 => some (.mulhm p (fD w) (fA w) (fB w))
  | 0x28 => some (.div p (fD w) (fA w) (fB w))
  | 0x29 => some (.divu p (fD w) (fA w) (fB w))
  | 0x2a => some (.rem p (fD w) (fA w) (fB w))
  | 0x2b => some (.remu p (fD w) (fA w) (fB w))
  | 0x2c => some (.divw p (fD w) (fA w) (fB w))
  | 0x2d => some (.divuw p (fD w) (fA w) (fB w))
  | 0x2e => some (.remw p (fD w) (fA w) (fB w))
  | 0x2f => some (.remuw p (fD w) (fA w) (fB w))
  | 0x12 => ifZero (fB w).val (.clz p (fD w) (fA w))
  | 0x13 => ifZero (fB w).val (.ctz p (fD w) (fA w))
  | 0x14 => ifZero (fB w).val (.popc p (fD w) (fA w))
  | 0x30 => ifZero ((fD w).val + (fB w).val) (.jr p (fA w))
  | 0x31 => ifZero ((fD w).val + (fB w).val) (.jalr p (fA w))
  | 0x32 => ifZero ((fD w).val + (fA w).val + (fB w).val) (.ret p)
  | 0x33 => ifZero ((fA w).val + (fB w).val) (.mflk p (fD w))
  | 0x34 => ifZero ((fD w).val + (fB w).val) (.mtlk p (fA w))
  | _ => none

/-- R146. -/
def decodeFp (p : Proc) (fmt : Fmt) (w : BitVec 32) : Option Instr :=
  match fFn w / 8 with
  | 0x0 => (fRm w).map (fun rm => .fadd p fmt rm (fD w) (fA w) (fB w))
  | 0x1 => (fRm w).map (fun rm => .fsub p fmt rm (fD w) (fA w) (fB w))
  | 0x2 => (fRm w).map (fun rm => .fmul p fmt rm (fD w) (fA w) (fB w))
  | 0x3 => (fRm w).map (fun rm => .fdiv p fmt rm (fD w) (fA w) (fB w))
  | 0x4 => if (fB w).val = 0 then (fRm w).map (fun rm => .fsqrt p fmt rm (fD w) (fA w)) else none
  | 0x7 => if (fB w).val = 0 then (fRm w).map (fun rm => .fcvt p fmt rm (fD w) (fA w)) else none
  | 0x8 => if (fB w).val = 0 then (fRm w).map (fun rm => .fcvti p fmt rm (fD w) (fA w)) else none
  | 0x9 => if (fB w).val = 0 then (fRm w).map (fun rm => .fcvtiu p fmt rm (fD w) (fA w)) else none
  | 0xa => if (fB w).val = 0 then (fRm w).map (fun rm => .fcvtw p fmt rm (fD w) (fA w)) else none
  | 0xb => if (fB w).val = 0 then (fRm w).map (fun rm => .fcvtwu p fmt rm (fD w) (fA w)) else none
  | 0xc => if (fB w).val = 0 then (fRm w).map (fun rm => .fcvtf p fmt rm (fD w) (fA w)) else none
  | 0xd => if (fB w).val = 0 then (fRm w).map (fun rm => .fcvtfu p fmt rm (fD w) (fA w)) else none
  | 0xe => if (fB w).val = 0 then (fRm w).map (fun rm => .fcvtfw p fmt rm (fD w) (fA w)) else none
  | 0xf => if (fB w).val = 0 then (fRm w).map (fun rm => .fcvtfwu p fmt rm (fD w) (fA w)) else none
  | 0x5 => ifZero (fFn w % 8) (.fmin p fmt (fD w) (fA w) (fB w))
  | 0x6 => ifZero (fFn w % 8) (.fmax p fmt (fD w) (fA w) (fB w))
  | 0x10 => ifZero (fFn w % 8) (.feq p fmt (fD w) (fA w) (fB w))
  | 0x11 => ifZero (fFn w % 8) (.flt p fmt (fD w) (fA w) (fB w))
  | 0x12 => ifZero (fFn w % 8) (.fle p fmt (fD w) (fA w) (fB w))
  | 0x13 => ifZero (fFn w % 8) (.funord p fmt (fD w) (fA w) (fB w))
  | 0x16 => ifZero (fFn w % 8) (.fcpysgn p fmt (fD w) (fA w) (fB w))
  | 0x14 => ifZero (fFn w % 8 + (fB w).val) (.fneg p fmt (fD w) (fA w))
  | 0x15 => ifZero (fFn w % 8 + (fB w).val) (.fabs p fmt (fD w) (fA w))
  | 0x17 => ifZero (fFn w % 8 + (fB w).val) (.fmvtg p fmt (fD w) (fA w))
  | 0x18 => ifZero (fFn w % 8 + (fB w).val) (.fmvfg p fmt (fD w) (fA w))
  | 0x19 => ifZero (fFn w % 8 + (fB w).val) (.fkind p fmt (fD w) (fA w))
  | _ => none

/-- R147. -/
def decodeFma (p : Proc) (fmt : Fmt) (w : BitVec 32) : Option Instr :=
  match fV w with
  | 0 => some (.ffma p fmt (fD w) (fA w) (fB w) (fC w))
  | 1 => some (.ffms p fmt (fD w) (fA w) (fB w) (fC w))
  | 2 => some (.ffna p fmt (fD w) (fA w) (fB w) (fC w))
  | _ => some (.ffns p fmt (fD w) (fA w) (fB w) (fC w))

/-- R148. -/
def decodeAtomic (p : Proc) (w : BitVec 32) : Option Instr :=
  match fFn w with
  | 0x0 => some (.cas p (fD w) (fA w) (fB w))
  | 0x1 => some (.swap p (fD w) (fA w) (fB w))
  | 0x2 => some (.aadd p (fD w) (fA w) (fB w))
  | 0x3 => some (.aand p (fD w) (fA w) (fB w))
  | 0x4 => some (.aor p (fD w) (fA w) (fB w))
  | 0x8 => some (.casw p (fD w) (fA w) (fB w))
  | 0x9 => some (.swapw p (fD w) (fA w) (fB w))
  | 0xa => some (.aaddw p (fD w) (fA w) (fB w))
  | 0xb => some (.aandw p (fD w) (fA w) (fB w))
  | 0xc => some (.aorw p (fD w) (fA w) (fB w))
  | _ => none

/-- R144: SHIFTI. -/
def decodeShift (p : Proc) (w : BitVec 32) : Option Instr :=
  if w.toNat / 64 % 64 = 0 then
    match w.toNat / 2 ^ 12 % 4 with
    | 0 => some (.slli p (fD w) (fA w) ⟨w.toNat % 64, Nat.mod_lt _ (by decide)⟩)
    | 1 => some (.srli p (fD w) (fA w) ⟨w.toNat % 64, Nat.mod_lt _ (by decide)⟩)
    | 2 => some (.srai p (fD w) (fA w) ⟨w.toNat % 64, Nat.mod_lt _ (by decide)⟩)
    | _ => some (.rori p (fD w) (fA w) ⟨w.toNat % 64, Nat.mod_lt _ (by decide)⟩)
  else none

/-- R151. -/
def decodeSys (p : Proc) (w : BitVec 32) : Option Instr :=
  let d := (fD w).val
  let a := (fA w).val
  let b := (fB w).val
  match fFn w with
  | 0x00 => ifZero (d + a + b) (.syscall p)
  | 0x01 => ifZero (d + a + b) (.hvcall p)
  | 0x02 => ifZero (d + a + b) (.brk p)
  | 0x03 => ifZero (d + a + b) (.eret p)
  | 0x04 => ifZero (d + b) (.wexit p (fA w))
  | 0x05 => ifZero (d + a + b) (.fence p)
  | 0x06 => ifZero (d + a + b) (.fenced p)
  | 0x07 => ifZero (d + a + b) (.fencei p)
  | 0x08 => ifZero (d + a + b) (.idle p)
  | 0x09 => some (.mfs p (fD w) (fSpr w))
  | 0x0A => some (.mts p (fD w) (fSpr w))
  | 0x10 => ifZero a (.uinfo p (fD w) (fB w))
  | 0x11 => ifZero (d + b) (.ucommit p (fA w))
  | 0x12 => ifZero (d + b) (.uabort p (fA w))
  | 0x18 => some (.enq p (fD w) (fA w) (fB w))
  | _ => none

/-- R153. -/
def decodeLds (p : Proc) (store : Bool) (w : BitVec 32) : Option Instr :=
  if h : fSz w < 4 then
    some (if store then .sts p (fD w) ⟨fSz w, h⟩ (fAddr16 w) else .lds p (fD w) ⟨fSz w, h⟩ (fAddr16 w))
  else none

/-- R143: the instruction that a word names on processor `p`; `none` for a word R142 makes illegal. -/
def decodeWord (p : Proc) (w : BitVec 32) : Option Instr :=
  match fOp w with
  | 0x00 => decodeInt p w
  | 0x01 => decodeFp p .d w
  | 0x02 => decodeFp p .s w
  | 0x03 => decodeFma p .d w
  | 0x04 => decodeFma p .s w
  | 0x05 => decodeAtomic p w
  | 0x8 => some (.addi p (fD w) (fA w) (fImm14 w))
  | 0x9 => some (.addiw p (fD w) (fA w) (fImm14 w))
  | 0xa => some (.andi p (fD w) (fA w) (fImm14 w))
  | 0xb => some (.ori p (fD w) (fA w) (fImm14 w))
  | 0xc => some (.xori p (fD w) (fA w) (fImm14 w))
  | 0xd => some (.slti p (fD w) (fA w) (fImm14 w))
  | 0xe => some (.sltiu p (fD w) (fA w) (fImm14 w))
  | 0xf => decodeShift p w
  | 0x10 => some (.himm p (fD w) (fImm20 w))
  | 0x11 => some (.himmpc p (fD w) (fImm20 w))
  | 0x18 => some (.lb p (fD w) (fA w) (fU w) (fImm13 w))
  | 0x19 => some (.lbu p (fD w) (fA w) (fU w) (fImm13 w))
  | 0x1a => some (.lh p (fD w) (fA w) (fU w) (fImm13 w))
  | 0x1b => some (.lhu p (fD w) (fA w) (fU w) (fImm13 w))
  | 0x1c => some (.lw p (fD w) (fA w) (fU w) (fImm13 w))
  | 0x1d => some (.lwu p (fD w) (fA w) (fU w) (fImm13 w))
  | 0x1e => some (.ld p (fD w) (fA w) (fU w) (fImm13 w))
  | 0x1f => some (.flw p (fD w) (fA w) (fU w) (fImm13 w))
  | 0x20 => some (.fld p (fD w) (fA w) (fU w) (fImm13 w))
  | 0x21 => some (.sb p (fD w) (fA w) (fU w) (fImm13 w))
  | 0x22 => some (.sh p (fD w) (fA w) (fU w) (fImm13 w))
  | 0x23 => some (.sw p (fD w) (fA w) (fU w) (fImm13 w))
  | 0x24 => some (.sd p (fD w) (fA w) (fU w) (fImm13 w))
  | 0x25 => some (.fsw p (fD w) (fA w) (fU w) (fImm13 w))
  | 0x26 => some (.fsd p (fD w) (fA w) (fU w) (fImm13 w))
  | 0x28 => some (.beq p (fD w) (fA w) (fImm14 w))
  | 0x29 => some (.bne p (fD w) (fA w) (fImm14 w))
  | 0x2a => some (.blt p (fD w) (fA w) (fImm14 w))
  | 0x2b => some (.bge p (fD w) (fA w) (fImm14 w))
  | 0x2c => some (.bltu p (fD w) (fA w) (fImm14 w))
  | 0x2d => some (.bgeu p (fD w) (fA w) (fImm14 w))
  | 0x2e => some (.j p (fDisp26 w))
  | 0x2f => some (.jal p (fDisp26 w))
  | 0x30 => decodeLds p false w
  | 0x31 => decodeLds p true w
  | 0x3f => decodeSys p w
  | _ => none

/-! ### The encoder -/

/-- R141, R format: op, d, a, b, fn. -/
def encR (op d a b fn : Nat) : BitVec 32 := BitVec.ofNat 32 (op * 2 ^ 26 + d * 2 ^ 20 + a * 2 ^ 14 + b * 2 ^ 8 + fn)
/-- R141, I and B formats: op, two registers, 14 bits. -/
def encI (op d a imm : Nat) : BitVec 32 := BitVec.ofNat 32 (op * 2 ^ 26 + d * 2 ^ 20 + a * 2 ^ 14 + imm)
/-- R141, M format. -/
def encM (op t a : Nat) (u : Bool) (imm : Nat) : BitVec 32 := encI op t a (u.toNat * 2 ^ 13 + imm)

def rmCode : Rm → Nat
  | .rne => 0
  | .rz => 1
  | .ru => 2
  | .rd => 3
  | .rna => 4
  | .dyn => 7
def fpOp : Fmt → Nat
  | .d => 1
  | .s => 2
def fmaOp : Fmt → Nat
  | .d => 3
  | .s => 4

/-- The word of an instruction; `none` for a command that is no instruction. -/
def encodeWord : Instr → Option (BitVec 32)
  | .add _ d a b => some (encR 0 d.val a.val b.val 0x0)
  | .sub _ d a b => some (encR 0 d.val a.val b.val 0x1)
  | .addw _ d a b => some (encR 0 d.val a.val b.val 0x2)
  | .subw _ d a b => some (encR 0 d.val a.val b.val 0x3)
  | .and _ d a b => some (encR 0 d.val a.val b.val 0x4)
  | .or _ d a b => some (encR 0 d.val a.val b.val 0x5)
  | .xor _ d a b => some (encR 0 d.val a.val b.val 0x6)
  | .andn _ d a b => some (encR 0 d.val a.val b.val 0x7)
  | .sll _ d a b => some (encR 0 d.val a.val b.val 0x8)
  | .srl _ d a b => some (encR 0 d.val a.val b.val 0x9)
  | .sra _ d a b => some (encR 0 d.val a.val b.val 0xa)
  | .ror _ d a b => some (encR 0 d.val a.val b.val 0xb)
  | .slt _ d a b => some (encR 0 d.val a.val b.val 0xc)
  | .sltu _ d a b => some (encR 0 d.val a.val b.val 0xd)
  | .min _ d a b => some (encR 0 d.val a.val b.val 0xe)
  | .minu _ d a b => some (encR 0 d.val a.val b.val 0xf)
  | .max _ d a b => some (encR 0 d.val a.val b.val 0x10)
  | .maxu _ d a b => some (encR 0 d.val a.val b.val 0x11)
  | .mul _ d a b => some (encR 0 d.val a.val b.val 0x20)
  | .mulw _ d a b => some (encR 0 d.val a.val b.val 0x21)
  | .mulhs _ d a b => some (encR 0 d.val a.val b.val 0x22)
  | .mulhu _ d a b => some (encR 0 d.val a.val b.val 0x23)
  | .mulhm _ d a b => some (encR 0 d.val a.val b.val 0x24)
  | .div _ d a b => some (encR 0 d.val a.val b.val 0x28)
  | .divu _ d a b => some (encR 0 d.val a.val b.val 0x29)
  | .rem _ d a b => some (encR 0 d.val a.val b.val 0x2a)
  | .remu _ d a b => some (encR 0 d.val a.val b.val 0x2b)
  | .divw _ d a b => some (encR 0 d.val a.val b.val 0x2c)
  | .divuw _ d a b => some (encR 0 d.val a.val b.val 0x2d)
  | .remw _ d a b => some (encR 0 d.val a.val b.val 0x2e)
  | .remuw _ d a b => some (encR 0 d.val a.val b.val 0x2f)
  | .clz _ d a => some (encR 0 d.val a.val 0 0x12)
  | .ctz _ d a => some (encR 0 d.val a.val 0 0x13)
  | .popc _ d a => some (encR 0 d.val a.val 0 0x14)
  | .jr _ a => some (encR 0 0 a.val 0 0x30)
  | .jalr _ a => some (encR 0 0 a.val 0 0x31)
  | .ret _ => some (encR 0 0 0 0 0x32)
  | .mflk _ d => some (encR 0 d.val 0 0 0x33)
  | .mtlk _ a => some (encR 0 0 a.val 0 0x34)
  | .fadd _ fmt rm d a b => some (encR (fpOp fmt) d.val a.val b.val (0 * 8 + rmCode rm))
  | .fsub _ fmt rm d a b => some (encR (fpOp fmt) d.val a.val b.val (1 * 8 + rmCode rm))
  | .fmul _ fmt rm d a b => some (encR (fpOp fmt) d.val a.val b.val (2 * 8 + rmCode rm))
  | .fdiv _ fmt rm d a b => some (encR (fpOp fmt) d.val a.val b.val (3 * 8 + rmCode rm))
  | .fsqrt _ fmt rm d a => some (encR (fpOp fmt) d.val a.val 0 (4 * 8 + rmCode rm))
  | .fcvt _ fmt rm d a => some (encR (fpOp fmt) d.val a.val 0 (7 * 8 + rmCode rm))
  | .fcvti _ fmt rm d a => some (encR (fpOp fmt) d.val a.val 0 (8 * 8 + rmCode rm))
  | .fcvtiu _ fmt rm d a => some (encR (fpOp fmt) d.val a.val 0 (9 * 8 + rmCode rm))
  | .fcvtw _ fmt rm d a => some (encR (fpOp fmt) d.val a.val 0 (10 * 8 + rmCode rm))
  | .fcvtwu _ fmt rm d a => some (encR (fpOp fmt) d.val a.val 0 (11 * 8 + rmCode rm))
  | .fcvtf _ fmt rm d a => some (encR (fpOp fmt) d.val a.val 0 (12 * 8 + rmCode rm))
  | .fcvtfu _ fmt rm d a => some (encR (fpOp fmt) d.val a.val 0 (13 * 8 + rmCode rm))
  | .fcvtfw _ fmt rm d a => some (encR (fpOp fmt) d.val a.val 0 (14 * 8 + rmCode rm))
  | .fcvtfwu _ fmt rm d a => some (encR (fpOp fmt) d.val a.val 0 (15 * 8 + rmCode rm))
  | .fmin _ fmt d a b => some (encR (fpOp fmt) d.val a.val b.val (5 * 8))
  | .fmax _ fmt d a b => some (encR (fpOp fmt) d.val a.val b.val (6 * 8))
  | .feq _ fmt d a b => some (encR (fpOp fmt) d.val a.val b.val (16 * 8))
  | .flt _ fmt d a b => some (encR (fpOp fmt) d.val a.val b.val (17 * 8))
  | .fle _ fmt d a b => some (encR (fpOp fmt) d.val a.val b.val (18 * 8))
  | .funord _ fmt d a b => some (encR (fpOp fmt) d.val a.val b.val (19 * 8))
  | .fcpysgn _ fmt d a b => some (encR (fpOp fmt) d.val a.val b.val (22 * 8))
  | .fneg _ fmt d a => some (encR (fpOp fmt) d.val a.val 0 (20 * 8))
  | .fabs _ fmt d a => some (encR (fpOp fmt) d.val a.val 0 (21 * 8))
  | .fmvtg _ fmt d a => some (encR (fpOp fmt) d.val a.val 0 (23 * 8))
  | .fmvfg _ fmt d a => some (encR (fpOp fmt) d.val a.val 0 (24 * 8))
  | .fkind _ fmt d a => some (encR (fpOp fmt) d.val a.val 0 (25 * 8))
  | .ffma _ fmt d a b c => some (encR (fmaOp fmt) d.val a.val b.val (c.val * 4 + 0))
  | .ffms _ fmt d a b c => some (encR (fmaOp fmt) d.val a.val b.val (c.val * 4 + 1))
  | .ffna _ fmt d a b c => some (encR (fmaOp fmt) d.val a.val b.val (c.val * 4 + 2))
  | .ffns _ fmt d a b c => some (encR (fmaOp fmt) d.val a.val b.val (c.val * 4 + 3))
  | .cas _ d a b => some (encR 5 d.val a.val b.val 0x0)
  | .swap _ d a b => some (encR 5 d.val a.val b.val 0x1)
  | .aadd _ d a b => some (encR 5 d.val a.val b.val 0x2)
  | .aand _ d a b => some (encR 5 d.val a.val b.val 0x3)
  | .aor _ d a b => some (encR 5 d.val a.val b.val 0x4)
  | .casw _ d a b => some (encR 5 d.val a.val b.val 0x8)
  | .swapw _ d a b => some (encR 5 d.val a.val b.val 0x9)
  | .aaddw _ d a b => some (encR 5 d.val a.val b.val 0xa)
  | .aandw _ d a b => some (encR 5 d.val a.val b.val 0xb)
  | .aorw _ d a b => some (encR 5 d.val a.val b.val 0xc)
  | .addi _ d a imm => some (encI 0x8 d.val a.val imm.toNat)
  | .addiw _ d a imm => some (encI 0x9 d.val a.val imm.toNat)
  | .andi _ d a imm => some (encI 0xa d.val a.val imm.toNat)
  | .ori _ d a imm => some (encI 0xb d.val a.val imm.toNat)
  | .xori _ d a imm => some (encI 0xc d.val a.val imm.toNat)
  | .slti _ d a imm => some (encI 0xd d.val a.val imm.toNat)
  | .sltiu _ d a imm => some (encI 0xe d.val a.val imm.toNat)
  | .slli _ d a n => some (encI 0xf d.val a.val (0 * 2 ^ 12 + n.val))
  | .srli _ d a n => some (encI 0xf d.val a.val (1 * 2 ^ 12 + n.val))
  | .srai _ d a n => some (encI 0xf d.val a.val (2 * 2 ^ 12 + n.val))
  | .rori _ d a n => some (encI 0xf d.val a.val (3 * 2 ^ 12 + n.val))
  | .himm _ d imm => some (BitVec.ofNat 32 (0x10 * 2 ^ 26 + d.val * 2 ^ 20 + imm.toNat))
  | .himmpc _ d imm => some (BitVec.ofNat 32 (0x11 * 2 ^ 26 + d.val * 2 ^ 20 + imm.toNat))
  | .lb _ t a u imm => some (encM 0x18 t.val a.val u imm.toNat)
  | .lbu _ t a u imm => some (encM 0x19 t.val a.val u imm.toNat)
  | .lh _ t a u imm => some (encM 0x1a t.val a.val u imm.toNat)
  | .lhu _ t a u imm => some (encM 0x1b t.val a.val u imm.toNat)
  | .lw _ t a u imm => some (encM 0x1c t.val a.val u imm.toNat)
  | .lwu _ t a u imm => some (encM 0x1d t.val a.val u imm.toNat)
  | .ld _ t a u imm => some (encM 0x1e t.val a.val u imm.toNat)
  | .flw _ t a u imm => some (encM 0x1f t.val a.val u imm.toNat)
  | .fld _ t a u imm => some (encM 0x20 t.val a.val u imm.toNat)
  | .sb _ t a u imm => some (encM 0x21 t.val a.val u imm.toNat)
  | .sh _ t a u imm => some (encM 0x22 t.val a.val u imm.toNat)
  | .sw _ t a u imm => some (encM 0x23 t.val a.val u imm.toNat)
  | .sd _ t a u imm => some (encM 0x24 t.val a.val u imm.toNat)
  | .fsw _ t a u imm => some (encM 0x25 t.val a.val u imm.toNat)
  | .fsd _ t a u imm => some (encM 0x26 t.val a.val u imm.toNat)
  | .beq _ a b disp => some (encI 0x28 a.val b.val disp.toNat)
  | .bne _ a b disp => some (encI 0x29 a.val b.val disp.toNat)
  | .blt _ a b disp => some (encI 0x2a a.val b.val disp.toNat)
  | .bge _ a b disp => some (encI 0x2b a.val b.val disp.toNat)
  | .bltu _ a b disp => some (encI 0x2c a.val b.val disp.toNat)
  | .bgeu _ a b disp => some (encI 0x2d a.val b.val disp.toNat)
  | .j _ disp => some (BitVec.ofNat 32 (0x2e * 2 ^ 26 + disp.toNat))
  | .jal _ disp => some (BitVec.ofNat 32 (0x2f * 2 ^ 26 + disp.toNat))
  | .lds _ t sz addr => some (BitVec.ofNat 32 (0x30 * 2 ^ 26 + t.val * 2 ^ 20 + sz.val * 2 ^ 16 + addr.toNat))
  | .sts _ t sz addr => some (BitVec.ofNat 32 (0x31 * 2 ^ 26 + t.val * 2 ^ 20 + sz.val * 2 ^ 16 + addr.toNat))
  | .syscall _ => some (encR 0x3f 0 0 0 0)
  | .hvcall _ => some (encR 0x3f 0 0 0 1)
  | .brk _ => some (encR 0x3f 0 0 0 2)
  | .eret _ => some (encR 0x3f 0 0 0 3)
  | .fence _ => some (encR 0x3f 0 0 0 5)
  | .fenced _ => some (encR 0x3f 0 0 0 6)
  | .fencei _ => some (encR 0x3f 0 0 0 7)
  | .idle _ => some (encR 0x3f 0 0 0 8)
  | .wexit _ a => some (encR 0x3f 0 a.val 0 4)
  | .mfs _ d n => some (encR 0x3f d.val (n.toNat / 64) (n.toNat % 64) 9)
  | .mts _ d n => some (encR 0x3f d.val (n.toNat / 64) (n.toNat % 64) 0xa)
  | .uinfo _ d sel => some (encR 0x3f d.val 0 sel.val 0x10)
  | .ucommit _ a => some (encR 0x3f 0 a.val 0 0x11)
  | .uabort _ a => some (encR 0x3f 0 a.val 0 0x12)
  | .enq _ d a b => some (encR 0x3f d.val a.val b.val 0x18)
  | _ => none

end Sys2Proof
end

