-- ==== Sys2Proof/Machine/Float.lean ====
section
/-!
DEFINITION. IEEE 754-2019 binary32 and binary64 arithmetic (R167 to R177): exact results over integers,
rounded once. Flags are numbers in the bit order of `fpc.FLAGS`: 1 invalid, 2 divide by zero, 4 overflow,
8 underflow, 16 inexact.
-/
namespace Sys2Proof

namespace Float

/-- Precision of the significand. -/
def prec : Fmt → Nat
  | .d => 53
  | .s => 24
def expBits : Fmt → Nat
  | .d => 11
  | .s => 8
def width : Fmt → Nat
  | .d => 64
  | .s => 32
def bias (f : Fmt) : Nat := 2 ^ (expBits f - 1) - 1
/-- Exponent of the lowest bit of a subnormal. -/
def minLsb (f : Fmt) : Int := 2 - (bias f : Int) - (prec f : Int)
/-- Exponent of the lowest bit of the largest finite value. -/
def maxLsb (f : Fmt) : Int := (bias f : Int) + 1 - (prec f : Int)

/-- A datum taken apart: a finite non-zero one is `m × 2 ^ e`. -/
inductive Num where
  | zero (neg : Bool)
  | fin (neg : Bool) (m : Nat) (e : Int)
  | inf (neg : Bool)
  /-- sign, quiet, and the bits of the datum -/
  | nan (neg quiet : Bool) (bits : Nat)
  deriving DecidableEq, Repr

/-- What an operation delivers: the result's bits and the flags it sets; `tiny` for a tiny result, exact or
not (R171). -/
structure Res where
  bits : Nat
  flags : Nat := 0
  tiny : Bool := false
  deriving DecidableEq, Repr

def fracBits (f : Fmt) : Nat := prec f - 1
def expMax (f : Fmt) : Nat := 2 ^ expBits f - 1

def signBit (f : Fmt) (neg : Bool) : Nat := if neg then 2 ^ (width f - 1) else 0
def infBits (f : Fmt) (neg : Bool) : Nat := signBit f neg + expMax f * 2 ^ fracBits f
/-- R170: the default NaN. -/
def defaultNan (f : Fmt) : Nat := expMax f * 2 ^ fracBits f + 2 ^ (fracBits f - 1)
def largest (f : Fmt) (neg : Bool) : Nat := infBits f neg - 1

/-- R136: an operand's bits; a binary32 operand ignores bits 63:32. -/
def unpack (f : Fmt) (w : W64) : Num :=
  let b := w.toNat % 2 ^ width f
  let neg := b / 2 ^ (width f - 1) == 1
  let ex := b / 2 ^ fracBits f % 2 ^ expBits f
  let fr := b % 2 ^ fracBits f
  if ex = expMax f then
    if fr = 0 then .inf neg else .nan neg (fr / 2 ^ (fracBits f - 1) == 1) b
  else if ex = 0 then
    if fr = 0 then .zero neg else .fin neg fr (minLsb f)
  else .fin neg (fr + 2 ^ fracBits f) (minLsb f + (ex - 1 : Nat))

/-- Number of bits of a positive number. -/
def bitLen (n : Nat) : Nat := if n = 0 then 0 else Nat.log2 n + 1

/-- Whether a magnitude that lies at `rem / half` of a unit above `q` rounds up (R168). `rem` is compared
with half a unit: 0 exact, 1 below, 2 at, 3 above. -/
def roundUp (rm : Rm) (neg : Bool) (q rem : Nat) : Bool :=
  match rm with
  | .rne | .dyn => rem == 3 || (rem == 2 && q % 2 == 1)
  | .rz => false
  | .ru => !neg && rem != 0
  | .rd => neg && rem != 0
  | .rna => 2 ≤ rem

/-- Position of the part of `m × 2^e` (a nonzero rest below it if `sticky`) under `2^t`: quotient, and the
remainder's place against half. -/
def splitAt (m : Nat) (e t : Int) (sticky : Bool) : Nat × Nat :=
  if t ≤ e then (m * 2 ^ (e - t).toNat, if sticky then 1 else 0)
  else
    let k := (t - e).toNat
    let r := m % 2 ^ k
    let h := 2 ^ (k - 1)
    (m / 2 ^ k,
      if r = 0 then (if sticky then 1 else 0) else if r < h then 1 else if r = h then (if sticky then 3 else 2) else 3)

/-- R167 to R169: round `± m × 2^e` (m positive) once, with overflow, underflow and inexact. `sticky` says
that the exact magnitude lies above by less than one unit of `m`'s last place. -/
def round (f : Fmt) (rm : Rm) (neg : Bool) (m : Nat) (e : Int) (sticky : Bool) : Res :=
  let top := e + bitLen m - prec f
  -- as if the exponent range were unbounded
  let (qu, ru) := splitAt m e top sticky
  let qu := qu + (roundUp rm neg qu ru).toNat
  let tiny := decide ((qu : Int) * 2 ^ ((top - minLsb f).toNat) < (2 ^ fracBits f : Nat)) && decide (minLsb f ≤ top)
    || decide (top < minLsb f) && !decide (2 ^ (fracBits f + (minLsb f - top).toNat) ≤ qu)
  let t := max top (minLsb f)
  let (q, r) := splitAt m e t sticky
  let q' := q + (roundUp rm neg q r).toNat
  -- a carry out of the top moves the exponent
  let (q'', t') := if q' = 2 ^ prec f then (2 ^ fracBits f, t + 1) else (q', t)
  if maxLsb f < t' then
    let toInf := match rm with
      | .rne | .rna | .dyn => true
      | .rz => false
      | .ru => !neg
      | .rd => neg
    ⟨if toInf then infBits f neg else largest f neg, 4 + 16, false⟩
  else
    let bits := if q'' < 2 ^ fracBits f then q''
      else ((t' - minLsb f).toNat + 1) * 2 ^ fracBits f + (q'' - 2 ^ fracBits f)
    let inexact := r != 0
    ⟨signBit f neg + bits, (if tiny && inexact then 8 else 0) + (if inexact then 16 else 0), tiny⟩

/-- R170: a NaN operand, quieted. -/
def quiet (f : Fmt) (bits : Nat) : Nat :=
  if bits / 2 ^ (fracBits f - 1) % 2 = 1 then bits else bits + 2 ^ (fracBits f - 1)

def isNan : Num → Bool
  | .nan _ _ _ => true
  | _ => false
def isSnan : Num → Bool
  | .nan _ q _ => !q
  | _ => false

/-- R169, R170: the result of an operation with a NaN operand: the first NaN quieted, V for a signalling one. -/
def nanResult (f : Fmt) (ops : List Num) : Option Res :=
  match ops.find? isNan with
  | some (.nan _ _ b) => some ⟨quiet f b, if ops.any isSnan then 1 else 0, false⟩
  | _ => none

def invalid (f : Fmt) : Res := ⟨defaultNan f, 1, false⟩

def neg : Num → Num
  | .zero n => .zero !n
  | .fin n m e => .fin (!n) m e
  | .inf n => .inf !n
  | .nan n q b => .nan n q b

def isNeg : Num → Bool
  | .zero n => n
  | .fin n _ _ => n
  | .inf n => n
  | .nan n _ _ => n

/-- R168: the sign of an exact zero sum. -/
def zeroSum (rm : Rm) (na nb : Bool) : Bool := if na = nb then na else rm == .rd

/-- The exact sum of two finite values as sign, magnitude and exponent; magnitude 0 for a zero sum. -/
def exactSum (na : Bool) (ma : Nat) (ea : Int) (nb : Bool) (mb : Nat) (eb : Int) : Bool × Nat × Int :=
  let e := min ea eb
  let x : Int := (ma * 2 ^ (ea - e).toNat : Nat)
  let y : Int := (mb * 2 ^ (eb - e).toNat : Nat)
  let v := (if na then -x else x) + (if nb then -y else y)
  (decide (v < 0), v.natAbs, e)

/-- Addition of operands none of which is a NaN. -/
def addCore (f : Fmt) (rm : Rm) (a b : Num) : Res :=
  match a, b with
  | .inf na, .inf nb => if na = nb then ⟨infBits f na, 0, false⟩ else invalid f
  | .inf na, _ => ⟨infBits f na, 0, false⟩
  | _, .inf nb => ⟨infBits f nb, 0, false⟩
  | .zero na, .zero nb => ⟨signBit f (zeroSum rm na nb), 0, false⟩
  | .zero _, .fin n m e => round f rm n m e false
  | .fin n m e, .zero _ => round f rm n m e false
  | .fin na ma ea, .fin nb mb eb =>
    let (n, m, e) := exactSum na ma ea nb mb eb
    if m = 0 then ⟨signBit f (zeroSum rm na nb), 0, false⟩ else round f rm n m e false
  | _, _ => invalid f

def add (f : Fmt) (rm : Rm) (a b : Num) : Res := (nanResult f [a, b]).getD (addCore f rm a b)
def sub (f : Fmt) (rm : Rm) (a b : Num) : Res := (nanResult f [a, b]).getD (addCore f rm a (neg b))

def mul (f : Fmt) (rm : Rm) (a b : Num) : Res :=
  (nanResult f [a, b]).getD
    (let n := isNeg a != isNeg b
     match a, b with
     | .inf _, .zero _ => invalid f
     | .zero _, .inf _ => invalid f
     | .inf _, _ => ⟨infBits f n, 0, false⟩
     | _, .inf _ => ⟨infBits f n, 0, false⟩
     | .zero _, _ => ⟨signBit f n, 0, false⟩
     | _, .zero _ => ⟨signBit f n, 0, false⟩
     | .fin _ ma ea, .fin _ mb eb => round f rm n (ma * mb) (ea + eb) false
     | _, _ => invalid f)

def div (f : Fmt) (rm : Rm) (a b : Num) : Res :=
  (nanResult f [a, b]).getD
    (let n := isNeg a != isNeg b
     match a, b with
     | .inf _, .inf _ => invalid f
     | .zero _, .zero _ => invalid f
     | .inf _, _ => ⟨infBits f n, 0, false⟩
     | _, .inf _ => ⟨signBit f n, 0, false⟩
     | .zero _, _ => ⟨signBit f n, 0, false⟩
     | .fin _ _ _, .zero _ => ⟨infBits f n, 2, false⟩
     | .fin _ ma ea, .fin _ mb eb =>
       -- enough quotient bits for the rounding, with a sticky rest
       let k := 2 * prec f + 4 + bitLen mb
       let q := ma * 2 ^ k / mb
       round f rm n q (ea - eb - k) (ma * 2 ^ k % mb != 0)
     | _, _ => invalid f)

/-- Integer square root, by bits from the top. -/
def isqrtLoop : Nat → Nat → Nat → Nat
  | 0, _, r => r
  | i + 1, n, r =>
    let c := r + 2 ^ i
    isqrtLoop i n (if c * c ≤ n then c else r)

def isqrt (n : Nat) : Nat := isqrtLoop (bitLen n / 2 + 1) n 0

def sqrt (f : Fmt) (rm : Rm) (a : Num) : Res :=
  (nanResult f [a]).getD
    (match a with
     | .zero n => ⟨signBit f n, 0, false⟩
     | .inf false => ⟨infBits f false, 0, false⟩
     | .fin false m e =>
       let k := 2 * prec f + 4
       let k := if (e - k) % 2 = 0 then k else k + 1
       let x := m * 2 ^ k
       let q := isqrt x
       round f rm false q ((e - k) / 2) (q * q != x)
     | _ => invalid f)

/-- The order of two numbers none of which is a NaN: −1, 0 or 1; zeros are equal. -/
def cmp (a b : Num) : Int :=
  match a, b with
  | .zero _, .zero _ => 0
  | .inf na, .inf nb => if na = nb then 0 else if na then -1 else 1
  | .inf na, _ => if na then -1 else 1
  | _, .inf nb => if nb then 1 else -1
  | .zero _, .fin n _ _ => if n then 1 else -1
  | .fin n _ _, .zero _ => if n then -1 else 1
  | .fin na ma ea, .fin nb mb eb =>
    let (n, m, _) := exactSum na ma ea (!nb) mb eb
    if m = 0 then 0 else if n then -1 else 1
  | _, _ => 0

/-- R173: minimum and maximum order −0 below +0. -/
def lessTotal (a b : Num) : Bool := cmp a b < 0 || (cmp a b == 0 && isNeg a && !isNeg b)

def minMax (f : Fmt) (isMax : Bool) (wa wb : W64) : Res :=
  let a := unpack f wa
  let b := unpack f wb
  (nanResult f [a, b]).getD
    (let first := if isMax then !lessTotal a b else !lessTotal b a
     ⟨(if first then wa else wb).toNat % 2 ^ width f, 0, false⟩)

/-- R172: `a × b + c` rounded once; a NaN result and V as R169 and R170 say. -/
def fma (f : Fmt) (rm : Rm) (a b c : Num) : Res :=
  let zeroTimesInf := match a, b with
    | .zero _, .inf _ => true
    | .inf _, .zero _ => true
    | _, _ => false
  match nanResult f [a, b, c] with
  | some r => if zeroTimesInf then { r with flags := 1 } else r
  | none =>
    if zeroTimesInf then invalid f
    else
      let n := isNeg a != isNeg b
      let p : Num := match a, b with
        | .inf _, _ => .inf n
        | _, .inf _ => .inf n
        | .zero _, _ => .zero n
        | _, .zero _ => .zero n
        | .fin _ ma ea, .fin _ mb eb => .fin n (ma * mb) (ea + eb)
        | x, _ => x
      addCore f rm p c

def isNanBits (f : Fmt) (b : Nat) : Bool :=
  b / 2 ^ fracBits f % 2 ^ expBits f == expMax f && b % 2 ^ fracBits f != 0

/-- R172: RU and RD exchanged. -/
def swapDir : Rm → Rm
  | .ru => .rd
  | .rd => .ru
  | r => r

/-- R172: the four fused variants: bit 0 of `v` subtracts c, bit 1 negates the whole; a NaN is not negated. -/
def fused (f : Fmt) (rm : Rm) (v : Nat) (a b c : W64) : Res :=
  let c' := unpack f c
  let c' := if v % 2 = 1 then neg c' else c'
  if v / 2 = 1 then
    let r := fma f (swapDir rm) (unpack f a) (unpack f b) c'
    if isNanBits f r.bits then r else { r with bits := r.bits ^^^ 2 ^ (width f - 1) }
  else fma f rm (unpack f a) (unpack f b) c'

/-- R175: from the other format. -/
def convert (f : Fmt) (rm : Rm) (w : W64) : Res :=
  let g : Fmt := match f with
    | .d => .s
    | .s => .d
  match unpack g w with
  | .nan n q b =>
    let fr := quiet g b % 2 ^ fracBits g
    let fr := match f with
      | .d => fr * 2 ^ 29
      | .s => fr / 2 ^ 29
    ⟨signBit f n + expMax f * 2 ^ fracBits f + fr, if q then 0 else 1, false⟩
  | .inf n => ⟨infBits f n, 0, false⟩
  | .zero n => ⟨signBit f n, 0, false⟩
  | .fin n m e => round f rm n m e false

/-- R175: to an integer of `bits` bits; the result is the integer's low bits, sign-extended from 32. -/
def toInt (f : Fmt) (rm : Rm) (signed : Bool) (bits : Nat) (w : W64) : Res :=
  let lo : Int := if signed then -(2 ^ (bits - 1) : Nat) else 0
  let hi : Int := if signed then (2 ^ (bits - 1) : Nat) - 1 else (2 ^ bits : Nat) - 1
  let enc := fun (v : Int) =>
    let n := (v % (2 ^ bits : Nat)).toNat
    if bits = 32 && n ≥ 2 ^ 31 then n + (2 ^ 64 - 2 ^ 32) else n
  match unpack f w with
  | .nan _ _ _ => ⟨enc hi, 1, false⟩
  | .inf n => ⟨enc (if n then lo else hi), 1, false⟩
  | .zero _ => ⟨0, 0, false⟩
  | .fin n m e =>
    let (q, r) := splitAt m e 0 false
    let q := q + (roundUp rm n q r).toNat
    let v : Int := if n then -(q : Int) else q
    if hi < v then ⟨enc hi, 1, false⟩
    else if v < lo then ⟨enc lo, 1, false⟩
    else ⟨enc v, if r = 0 then 0 else 16, false⟩

/-- R175: from an integer of `bits` bits. -/
def ofInt (f : Fmt) (rm : Rm) (signed : Bool) (bits : Nat) (w : W64) : Res :=
  let n := w.toNat % 2 ^ bits
  let isN := signed && decide (2 ^ (bits - 1) ≤ n)
  let m := if isN then 2 ^ bits - n else n
  if m = 0 then ⟨0, 0, false⟩ else { round f rm isN m 0 false with tiny := false }

/-- R174: the relations `FEQ`, `FLT`, `FLE`, `FUNORD`, coded 0 to 3. -/
def relation (f : Fmt) (rel : Nat) (wa wb : W64) : Res :=
  let a := unpack f wa
  let b := unpack f wb
  let nan := isNan a || isNan b
  let snan := isSnan a || isSnan b
  let v := match rel with
    | 0 => !nan && cmp a b == 0
    | 1 => !nan && decide (cmp a b < 0)
    | 2 => !nan && decide (cmp a b ≤ 0)
    | _ => nan
  let flag := if rel = 1 ∨ rel = 2 then nan else snan
  ⟨v.toNat, if flag then 1 else 0, false⟩

/-- R177: the kind code. -/
def kind (f : Fmt) (w : W64) : Nat :=
  let b := w.toNat % 2 ^ width f
  let k := match unpack f w with
    | .zero _ => 0
    | .fin _ _ _ => if b / 2 ^ fracBits f % 2 ^ expBits f = 0 then 1 else 2
    | .inf _ => 3
    | .nan _ q _ => if q then 4 else 5
  k + b / 2 ^ (width f - 1) * 8

end Float
end Sys2Proof
end

