-- ==== Sys2Proof/Machine/Flags.lean ====
section
/-!
DEFINITION. Results and flags of arithmetic: the shapes of the integer instructions, division with `ifc`
(R164 to R166), and delivering a floating-point result with `fpc` (R138, R169, R171).
-/
namespace Sys2Proof.Machine
open Sys2Proof State

/-! ### Integer results -/

/-- Bits 31:0, sign-extended (R145). -/
def sext32 (x : W64) : W64 := (x.setWidth 32).signExtend 64
def ofBool (b : Bool) : W64 := if b then 1 else 0
/-- R145: 64 for a zero operand. -/
def clz64 (x : W64) : W64 := BitVec.ofNat 64 (if x.toNat = 0 then 64 else 63 - Nat.log2 x.toNat)
def ctz64 (x : W64) : W64 :=
  BitVec.ofNat 64 ((List.range 64).takeWhile (fun i => !x.getLsbD i)).length
def popc64 (x : W64) : W64 := BitVec.ofNat 64 ((List.range 64).filter (fun i => x.getLsbD i)).length

/-- An instruction of three general registers. -/
def aluR (p : Proc) (d a b : RegNo) (f : W64 → W64 → W64) (s : State) : Host.Outcome State Fault Refusal :=
  instr p s fun s => s.writeG p d (f (s.gReg p a) (s.gReg p b))

/-- An instruction of two general registers and an immediate, sign-extended (R144). -/
def aluI (p : Proc) (d a : RegNo) (imm : BitVec 14) (f : W64 → W64 → W64) (s : State) :
    Host.Outcome State Fault Refusal :=
  instr p s fun s => s.writeG p d (f (s.gReg p a) (imm.signExtend 64))

/-- An instruction of two general registers. -/
def aluS (p : Proc) (d a : RegNo) (f : W64 → W64) (s : State) : Host.Outcome State Fault Refusal :=
  instr p s fun s => s.writeG p d (f (s.gReg p a))

/-! ### Division -/

/-- R138: fields of `ifc`. -/
def IFC.DZ : Fld := ⟨0, 1⟩
def IFC.OV : Fld := ⟨1, 1⟩
def IFC.DZE : Fld := ⟨8, 1⟩
def IFC.OVE : Fld := ⟨9, 1⟩

/-- What a division does: its result, or the special case and the result that R165 gives it. -/
inductive DivCase where
  | plain (v : W64)
  | byZero (v : W64)
  | overflow (v : W64)
  deriving DecidableEq, Repr

/-- R164, R165: quotient or remainder, rounded toward zero; `w` takes 32-bit operands and sign-extends. -/
def divCase (signed w rem : Bool) (x y : W64) : DivCase :=
  let n : Int := if w then (if signed then (x.setWidth 32).toInt else (x.setWidth 32).toNat)
    else (if signed then x.toInt else x.toNat)
  let m : Int := if w then (if signed then (y.setWidth 32).toInt else (y.setWidth 32).toNat)
    else (if signed then y.toInt else y.toNat)
  let out := fun (v : Int) => if w then (BitVec.ofInt 32 v).signExtend 64 else BitVec.ofInt 64 v
  let low : Int := if w then -(2 ^ 31) else -(2 ^ 63)
  if m = 0 then .byZero (if rem then out n else 0)
  else if signed && n == low && m == -1 then .overflow (if rem then 0 else out low)
  else .plain (out (if rem then n.tmod m else n.tdiv m))

/-- R166: a special case traps precisely where its enable is set, else writes its result and its sticky flag. -/
def divide (p : Proc) (signed w rem : Bool) (d a b : RegNo) (s : State) : Host.Outcome State Fault Refusal :=
  instr p s fun s =>
    let x := s.proc (procNo p)
    let ifc := x.getSp spIfc
    match divCase signed w rem (x.getG a) (x.getG b) with
    | .plain v => s.writeG p d v
    | .byZero v =>
      if getFld ifc IFC.DZE = 1 then s.raise p 0x0A x.pc
      else s.onProc p (fun x => ((x.setSp spIfc (putFld ifc IFC.DZ 1)).setG d v).next)
    | .overflow v =>
      if getFld ifc IFC.OVE = 1 then s.raise p 0x0B x.pc
      else s.onProc p (fun x => ((x.setSp spIfc (putFld ifc IFC.OV 1)).setG d v).next)

/-! ### Jumps and branches -/

/-- R145: jump to a register's value, with the link written if asked; a target off a word boundary raises
instruction alignment and leaves `lk` and pc. -/
def State.jumpTo (s : State) (p : Proc) (t : W64) (link : Bool) : State :=
  if t.toNat % 4 ≠ 0 then s.raise p 0x03 t
  else s.onProc p (fun x => (if link then { x with lk := x.pc + 4 } else x).setPc t)

/-- R150: a conditional branch; its displacement counts words from the branch itself (R142). -/
def branch (p : Proc) (a b : RegNo) (disp : BitVec 14) (c : W64 → W64 → Bool) (s : State) :
    Host.Outcome State Fault Refusal :=
  instr p s fun s => s.onProc p (fun x =>
    if c (x.getG a) (x.getG b) then x.setPc (x.pc + disp.signExtend 64 <<< 2) else x.next)

/-! ### Floating-point results -/

/-- R138: fields of `fpc`. -/
def FPC.RM : Fld := ⟨0, 3⟩
def FPC.FLAGS : Fld := ⟨4, 5⟩
def FPC.TEN : Fld := ⟨12, 5⟩
def FPC.TFLAGS : Fld := ⟨20, 5⟩

/-- R146: the rounding mode an instruction runs under. -/
def rmOf (fpc : W64) (rm : Rm) : Rm :=
  match rm with
  | .dyn => match getFld fpc FPC.RM with
    | 0 => .rne
    | 1 => .rz
    | 2 => .ru
    | 3 => .rd
    | _ => .rna
  | r => r

/-- Where a floating-point instruction writes. -/
inductive FDest where
  | g (d : RegNo)
  | f (d : RegNo)
  deriving DecidableEq, Repr

def ProcState.setD (x : ProcState) (d : FDest) (v : W64) : ProcState :=
  match d with
  | .g d => x.setG d v
  | .f d => x.setF d v

/-- R171: the flags that count for a trap. -/
def trapFlags (ten : Nat) (r : Float.Res) : Nat := if r.tiny && ten / 8 % 2 == 1 then r.flags ||| 8 else r.flags

/-- R169, R171: deliver a result: a trap writes `fpc.TFLAGS` alone and raises cause 0x0C; otherwise the flags
stick and the destination is written. -/
def State.fpDeliver (s : State) (p : Proc) (d : FDest) (r : Float.Res) : State :=
  let x := s.proc (procNo p)
  let fpc := x.getSp spFpc
  let ten := getFld fpc FPC.TEN
  let fl := trapFlags ten r
  if fl &&& ten ≠ 0 then (s.onProc p (fun x => x.setSp spFpc (putFld fpc FPC.TFLAGS fl))).raise p 0x0C x.pc
  else s.onProc p (fun x =>
    ((x.setSp spFpc (putFld fpc FPC.FLAGS (getFld fpc FPC.FLAGS ||| r.flags))).setD d (BitVec.ofNat 64 r.bits)).next)

/-- A floating-point instruction: the main profile alone has them (R135). -/
def fpInstr (p : Proc) (s : State) (d : FDest) (rm : Rm) (f : Rm → ProcState → Float.Res) :
    Host.Outcome State Fault Refusal :=
  instr p s fun s =>
    if profile p = .main then
      let x := s.proc (procNo p)
      s.fpDeliver p d (f (rmOf (x.getSp spFpc) rm) x)
    else s.illegal p

/-- R176: an operation that copies bits and sets no flag. -/
def fpCopy (p : Proc) (s : State) (d : FDest) (f : ProcState → W64) : Host.Outcome State Fault Refusal :=
  instr p s fun s =>
    if profile p = .main then s.onProc p (fun x => (x.setD d (f x)).next) else s.illegal p

end Sys2Proof.Machine
end

