-- ==== Sys2Proof/Machine/System.lean ====
section
/-!
DEFINITION. System instructions and special registers (R137, R138, R151, R154, R156 to R158), the unit
instructions (R119, R120, R124), illegal words (R142) and interrupts (R157).
-/
namespace Sys2Proof.Machine
open Sys2Proof State

/-! ### Special registers -/

/-- R135, R137: the special registers of a profile. -/
def spExists (p : Proc) (n : Nat) : Bool :=
  match profile p with
  | .main => decide (n ≤ 0x009) || (decide (0x010 ≤ n) && decide (n ≤ 0x01F)) || n == 0x030 || n == 0x031 ||
      (decide (0x040 ≤ n) && decide (n ≤ 0x047))
  | .channel => decide (n ≤ 0x007) || n == 0x009 || (decide (0x010 ≤ n) && decide (n ≤ 0x01F)) || n == 0x031
  | .controller => decide (n ≤ 0x007) || n == 0x009 || n == 0x020 || n == 0x031

/-- R137: lowest level that may reach a special register. -/
def spLevel (n : Nat) : Nat :=
  if 0x040 ≤ n then 2
  else if n = 0x008 ∨ n = 0x009 ∨ (0x010 ≤ n ∧ n ≤ 0x01F) ∨ n = 0x030 ∨ n = 0x031 then 0
  else 1

/-- R137: `pairid` of an executor. Log 54 (DEDUCED). -/
def pairidOf (s : State) (e : Nat) : W64 :=
  let split := s.isSplit (e / 2)
  BitVec.ofNat 64 (e / 2 + split.toNat * 2 ^ 8 + (split && e % 2 == 1).toNat * 2 ^ 9)

def spRead (s : State) (p : Proc) (n : Nat) : W64 :=
  if n = spTb then BitVec.ofNat 64 s.tb
  else if n = spPairid then pairidOf s (procNo p)
  else (s.proc (procNo p)).getSp n

/-- A field that a write changes unless the value is reserved (R4). -/
def writeFld (old new : W64) (f : Fld) (ok : Nat → Bool) : W64 :=
  if ok (getFld new f) then putFld old f (getFld new f) else old

/-- R138: the bits of the `psr` layout; a reserved PL keeps the field. Log 18 (DEDUCED). -/
def psrImage (old new : W64) : W64 :=
  let v := [PSR.WTAG, PSR.UNIT, PSR.SEALED, PSR.EXL, PSR.IE].foldl
    (fun v f => putFld v f (getFld new f)) old
  writeFld v new PSR.PL (fun n => decide (n ≤ 2))

/-- R137, R138, R154: what `MTS` stores in special register `n`. Log 18 (DEDUCED). Log 20 (DEDUCED). -/
def spWritten (n : Nat) (old new : W64) : W64 :=
  if n = spPsr then putFld old PSR.IE (getFld new PSR.IE)
  else if n = spEpsr ∨ n = spHepsr then psrImage old new
  else if n = spEcause ∨ n = spHcause then new &&& 0x800000000000003F#64
  else if n = spEvbase ∨ n = spHevbase then new &&& 0xFFFFFFFFFFFFF000#64
  else if n = spFpc then
    writeFld (putFld (putFld old FPC.TEN (getFld new FPC.TEN)) FPC.FLAGS (getFld new FPC.FLAGS)) new FPC.RM
      (fun m => decide (m ≤ 4))
  else if n = spIfc then new &&& 0x303#64
  else if n = spBk then new &&& 0xFF#64
  else if 0x010 ≤ n ∧ n ≤ 0x017 then
    let v := writeFld old new ⟨48, 2⟩ (fun m => decide (m ≤ 2))
    let v := putFld v ⟨40, 6⟩ (getFld new ⟨40, 6⟩)
    let v := writeFld v new ⟨32, 5⟩ (fun m => decide (1 ≤ m) && decide (m ≤ 24))
    writeFld v new ⟨0, 32⟩ (fun m => decide (8 ≤ m) && m % 8 == 0)
  else if 0x018 ≤ n ∧ n ≤ 0x01F then (if new.toNat % 8 = 0 then new else old)
  else new

/-- R137: `MFS`. -/
def execMfs (p : Proc) (d : RegNo) (n : BitVec 12) (s : State) : Host.Outcome State Fault Refusal :=
  instr p s fun s =>
    if !spExists p n.toNat then s.illegal p
    else if s.level p < spLevel n.toNat then s.privileged p
    else s.writeG p d (spRead s p n.toNat)

/-- R137, R138: `MTS`; `pairid` and `tb` are read only, and a write raises illegal instruction. -/
def execMts (p : Proc) (d : RegNo) (n : BitVec 12) (s : State) : Host.Outcome State Fault Refusal :=
  instr p s fun s =>
    if !spExists p n.toNat || n.toNat == spPairid || n.toNat == spTb then s.illegal p
    else if s.level p < spLevel n.toNat then s.privileged p
    else s.onProc p (fun x => (x.setSp n.toNat (spWritten n.toNat (x.getSp n.toNat) (x.getG d))).next)

/-! ### Traps and returns -/

/-- R151: cause 0x0D. -/
def execSyscall (p : Proc) (s : State) : Host.Outcome State Fault Refusal :=
  instr p s fun s => s.raise p 0x0D (s.proc (procNo p)).pc

/-- R151: cause 0x0E, to hypervisor level; the main profile alone has it (R135). -/
def execHvcall (p : Proc) (s : State) : Host.Outcome State Fault Refusal :=
  instr p s fun s =>
    if profile p ≠ .main then s.illegal p
    else if s.level p = 0 then s.privileged p
    else s.raise p 0x0E (s.proc (procNo p)).pc

/-- R151: cause 0x0F. -/
def execBrk (p : Proc) (s : State) : Host.Outcome State Fault Refusal :=
  instr p s fun s => s.raise p 0x0F (s.proc (procNo p)).pc

/-- R156: the `psr` an `ERET` restores: WTAG, UNIT and SEALED are never taken from the saved copy.
Log 18 (DEDUCED). -/
def eretPsr (now saved : W64) : W64 :=
  [PSR.PL, PSR.EXL, PSR.IE].foldl (fun v f => putFld v f (getFld saved f)) now

/-- R355: re-enter the suspended world from its save slot. A slot that cannot be read stops the partition. -/
def reenter (s : State) (e : Nat) (w : Suspended) : State :=
  let slot := match s.slotAddr w.part e with
    | some a => s.memRead (.sealed w.part) 1 a 2048
    | none => (none, s)
  match slot with
  | (some (b, _), s) =>
    let x := loadSlot (s.proc e) b
    let psr := putFld (putFld (putFld x.psr PSR.WTAG w.wtag) PSR.SEALED 1) PSR.UNIT w.unit.toNat
    let x := { x.setSp spPsr psr with
      part := some w.part
      segs := blockSegs (s.partRec w.part).block
      suspended := none }
    (s.setProc e x).meterRunStart e
  | (none, s) => s.stopPartEvent w.part blockCru causeNone e

/-- R156, R241, R355: `ERET`. From hypervisor level into a partition that is not sealed, it loads that partition's segment
map. Log 54 (DEDUCED). -/
def execEret (p : Proc) (s : State) : Host.Outcome State Fault Refusal :=
  instr p s fun s =>
    let x := s.proc (procNo p)
    let lvl := s.level p
    if lvl = 0 then s.privileged p
    else
      match lvl, x.suspended with
      | 2, some w => reenter s (procNo p) w
      | _, _ =>
        let saved := x.getSp (if lvl = 2 then spHepsr else spEpsr)
        let pc := x.getSp (if lvl = 2 then spHepc else spEpc)
        if lvl < getFld saved PSR.PL then s.privileged p
        else
          let part := if lvl = 2 ∧ getFld saved PSR.PL < 2 then s.openPart (procNo p) else if lvl = 2 then none else x.part
          let segs := if lvl = 2 then (part.map (fun q => blockSegs (s.partRec q).block)).getD [] else x.segs
          s.onProc p (fun x => { x with segs := segs, part := part }.setSp spPsr (eretPsr x.psr saved) |>.setPc pc)

/-- R158: `WEXIT`: the world exit's resume address is the instruction after it (log 13). -/
def execWexit (p : Proc) (a : RegNo) (s : State) : Host.Outcome State Fault Refusal :=
  instr p s fun s =>
    let x := s.proc (procNo p)
    match p with
    | .exec e =>
      if s.level p = 0 then s.privileged p
      else if s.level p = 2 && getFld x.psr PSR.EXL == 1 then s.raise p 0x14 0
      else s.toHyp e.val 0x14 false 0 (x.pc + 4) (x.getG a) true
    | _ => s.illegal p

/-- R151, R212: every earlier store is visible before a later access: while one waits in the store buffer, the barrier
does not retire. Log 14 (DEDUCED). -/
def execFence (p : Proc) (s : State) : Host.Outcome State Fault Refusal :=
  instr p s fun s => if s.storesDone p then s.advance p else s

/-- R151: every device store and `ENQ` is accepted within its own step, so the wait is over.
Log 14 (DEDUCED). -/
def execFenced (p : Proc) (s : State) : Host.Outcome State Fault Refusal := instr p s fun s => s.advance p

/-- R151, R202: later fetches see every earlier store of this processor: its stores are visible, and its cores'
instruction caches let go of what they hold. Log 14 (DEDUCED). -/
def execFencei (p : Proc) (s : State) : Host.Outcome State Fault Refusal :=
  instr p s fun s => if s.storesDone p then (s.dropFetched p).advance p else s

/-- R151: `IDLE` waits until an interrupt that may be taken is pending. -/
def execIdle (p : Proc) (s : State) : Host.Outcome State Fault Refusal :=
  instr p s fun s =>
    if s.level p = 0 then s.privileged p
    else s.onProc p (fun x => { x.next with waiting := true })

/-! ### Units -/

/-- The unit whose run the executor runs, with `psr.UNIT` set. -/
def runUnit (s : State) (p : Proc) : Option (Nat × WorkUnit) :=
  match s.run (procNo p), getFld (s.proc (procNo p)).psr PSR.UNIT with
  | .unit k, 1 => (s.unit? k).map (fun u => (k, u))
  | _, _ => none

/-- R119: the value of each selector; reserved selectors return 0. Selector 12 counts the exchanges opened or held, and none
that was refused. Log 52 (DEDUCED). Log 112 (DEDUCED). -/
def uinfoValue (u : WorkUnit) (sel : Nat) : Nat :=
  match sel with
  | 0 => u.asn
  | 1 => u.tag
  | 2 => leAt u.args 0 8
  | 3 => leAt u.args 8 8
  | 4 => leAt u.args 16 8
  | 5 => leAt u.args 24 8
  | 6 => u.restarts
  | 7 => u.budget
  | 8 => if u.restarts = 0 then 0 else u.lastCause
  | 9 => u.fn + u.ring * 2 ^ 16 + u.origin * 2 ^ 24
  | 10 => u.part
  | 11 => u.tAccept
  | 12 => (u.exchanges.filter (fun x => x.phase == .opened || x.phase == .held)).length
  | 13 => runStem u u.restarts
  | _ => 0

/-- R119, R151: `UINFO`; without a unit run it raises unit state fault, at problem level as well.
Log 52 (DEDUCED). -/
def execUinfo (p : Proc) (d : RegNo) (sel : Fin 64) (s : State) : Host.Outcome State Fault Refusal :=
  instr p s fun s =>
    if profile p ≠ .main then s.illegal p
    else if s.level p = 0 then s.raise p 0x11 (s.proc (procNo p)).pc
    else match runUnit s p with
      | some (_, u) => s.writeG p d (BitVec.ofNat 64 (uinfoValue u sel.val))
      | none => s.raise p 0x11 (s.proc (procNo p)).pc

/-- R120, R122: `UCOMMIT` ends the run with the result in a. Log 52 (DEDUCED). -/
def execUcommit (p : Proc) (a : RegNo) (s : State) : Host.Outcome State Fault Refusal :=
  instr p s fun s =>
    if profile p ≠ .main then s.illegal p
    else if s.level p = 0 then s.privileged p
    else match runUnit s p with
      | some (k, _) => ((s.advance p).commitRun k (s.gReg p a).toNat)
      | none => s.raise p 0x11 (s.proc (procNo p)).pc

/-- R120, R124: `UABORT` ends the run and aborts its exchanges; the unit ends with 0x0001. Log 52 (DEDUCED). -/
def execUabort (p : Proc) (a : RegNo) (s : State) : Host.Outcome State Fault Refusal :=
  instr p s fun s =>
    if profile p ≠ .main then s.illegal p
    else if s.level p = 0 then s.privileged p
    else match runUnit s p with
      | some (k, _) => ((s.advance p).abortUnit k 1 (s.gReg p a).toNat)
      | none => s.raise p 0x11 (s.proc (procNo p)).pc

/-! ### Illegal words and interrupts -/

/-- R142: a word that names no instruction raises illegal instruction; one that does is not this event.
Log 16 (DEDUCED). -/
def execIllegalInstruction (p : Proc) (word : BitVec 32) (s : State) : Host.Outcome State Fault Refusal :=
  match decodeWord p word with
  | some _ => .next s
  | none => instr p s fun s => s.illegal p

/-- R137: `tb` has reached `tcmp`: cause 0x18 is pending from then on, and a processor that waits in `IDLE`
and may take it goes on. -/
def execSupervisorTimerExpiry (p : Proc) (s : State) : Host.Outcome State Fault Refusal :=
  .next (if s.irqPending p 0x18 && s.irqAllowed p 0x18 then s.onProc p (fun x => { x with waiting := false }) else s)

/-- R137: `tb` has reached `htcmp`: cause 0x1A. -/
def execHypervisorTimerExpiry (p : Proc) (s : State) : Host.Outcome State Fault Refusal :=
  .next (if s.irqPending p 0x1A && s.irqAllowed p 0x1A then s.onProc p (fun x => { x with waiting := false }) else s)

/-- R157: the interrupt of cause 0x18 + `cause` is taken, if it is pending and may be taken.
Log 93 (DESIGN CHOICE). -/
def execInterruptTake (p : Proc) (cause : Fin 4) (s : State) : Host.Outcome State Fault Refusal :=
  .next (s.takeIrq p (0x18 + cause.val))

end Sys2Proof.Machine
end

