-- ==== Sys2Proof/Machine/LoadStore.lean ====
section
/-!
DEFINITION. Loads, stores and atomics (R148, R149, R153): address modes (R154), memory and device space (R139), and
the controllers' own spaces with the registers in them (R335, R428 to R430).
-/
namespace Sys2Proof.Machine
open Sys2Proof State

/-! ### Address modes -/

/-- R154: the number made of the low `k` bits of `x`, in reverse order. -/
def revBits (k x : Nat) : Nat :=
  (List.range k).foldl (fun r i => r + (if Nat.testBit x i then 2 ^ (k - 1 - i) else 0)) 0

/-- R154: the region a base register is bound to, if an address-mode register of non-linear mode binds it: mode, START,
LENGTH and SIZE. The lowest-numbered one applies. Log 20 (DEDUCED). -/
def boundMode (x : ProcState) (a : RegNo) : Option (Nat × Nat × Nat × Nat) :=
  if a.val = 0 then none
  else
    ((List.range 8).find? (fun i =>
      getFld (x.getSp (spAmc i)) ⟨48, 2⟩ != 0 && getFld (x.getSp (spAmc i)) ⟨40, 6⟩ == a.val)).map (fun i =>
        let c := x.getSp (spAmc i)
        (getFld c ⟨48, 2⟩, (x.getSp (spAms i)).toNat, getFld c ⟨0, 32⟩, getFld c ⟨32, 5⟩))

/-- What an address computation gives: the effective address and the base register's new value, or an exception with
its `eaddr`. -/
inductive Eff where
  | ok (ea upd : W64)
  | fault (cause : Nat) (eaddr : W64)
  deriving DecidableEq, Repr

/-- R154: the access of `size` bytes with base value `gB`, offset `off` and update increment `m`, through a region. Its
checks run in R154's order. Log 20 (DEDUCED). -/
def modeAddr (mode start len k : Nat) (gB : W64) (off m : Int) (size : Nat) (acc : Acc) : Eff :=
  let g := gB.toNat
  if mode = 1 then
    if g < start ∨ start + len ≤ g ∨ len ≤ off.natAbs ∨ len ≤ m.natAbs then .fault 0x09 gB
    else
      let at_ := fun (d : Int) => BitVec.ofNat 64 (start + (((g - start : Nat) + d) % (len : Int)).toNat)
      let ea := at_ off
      if ea.toNat % size ≠ 0 then .fault acc.align ea
      else if start + len < ea.toNat + size then .fault 0x09 gB
      else .ok ea (at_ m)
  else
    let span := size * 2 ^ k
    if k = 0 ∨ off ≠ 0 ∨ start % span ≠ 0 ∨ g < start ∨ (g - start) % size ≠ 0 ∨ span ≤ g - start ∨
        m < 0 ∨ m.natAbs % size ≠ 0 ∨ span ≤ m.natAbs then .fault 0x09 gB
    else if g % size ≠ 0 then .fault acc.align gB
    else
      let i := (g - start) / size
      let n := if m = 0 then 2 ^ (k - 1) else m.natAbs / size
      .ok gB (BitVec.ofNat 64 (start + size * revBits k ((revBits k i + revBits k n) % 2 ^ k)))

/-- R149, R154: the effective address of an M-format access, and the base register's value after it. -/
def effective (x : ProcState) (prof : Profile) (a : RegNo) (u : Bool) (imm : BitVec 13) (size : Nat) (acc : Acc) : Eff :=
  let gB := x.getG a
  let d := imm.signExtend 64
  let off := if u then 0 else d
  match (if prof = .controller then none else boundMode x a) with
  | some (mode, start, len, k) => modeAddr mode start len k gB off.toInt (if u then d.toInt else 0) size acc
  | none =>
    let ea := gB + off
    if ea.toNat % size ≠ 0 then .fault acc.align ea else .ok ea (gB + d)

/-! ### The controllers' spaces -/

/-- Key of the byte at address `a` of a controller's space. The Anvils share everything from 0x21_0000 up (R429).
Log 26 (DEDUCED). -/
def ctlKey (p : Proc) (a : Nat) : Nat :=
  match p with
  | .crucible => cruSpace + a
  | .sequencer => 0x500000000 + a
  | .anvilB => if a < 0x210000 then 0x400000000 + a else 0x300000000 + a
  | _ => 0x300000000 + a

/-- R335, R429, R430: the byte lies in a ROM or in a firmware memory that starts from a loaded image.
Log 26 (DEDUCED). -/
def ctlFirmware (p : Proc) (a : Nat) : Bool :=
  match p with
  | .crucible => decide (a < 0x100000)
  | .sequencer => decide (a < 0x40000)
  | _ => decide (a < 0x180000)

/-- Stores reach no ROM, and the sequencer does not write its firmware. -/
def ctlFixed (p : Proc) (a : Nat) : Bool :=
  match p with
  | .sequencer => decide (a < 0x40000)
  | _ => decide (a < 0x100000)

/-- R429: the PF BAR0 offset that a window address reaches. -/
def windowOff (s : State) (a : Nat) : Option Nat :=
  if 0x400000 ≤ a ∧ a < 0x800000 then some (0xC00000 + (a - 0x400000))
  else if 0x800000 ≤ a ∧ a < 0x900000 then some (s.fld ABW_PAGE ABW_PAGE.BLOCK * 2 ^ 20 + (a - 0x800000))
  else none

/-- Controller addresses that are registers: their key. -/
def ctlReg (p : Proc) (a : Nat) : Option Nat :=
  match p with
  | .crucible => if 0x300000 ≤ a ∧ a < 0x330000 then some (cruSpace + a) else none
  | .anvilA | .anvilB =>
    if 0x200000 ≤ a ∧ a < 0x200004 then some (ctlKey p a)
    else if (0x210000 ≤ a ∧ a < 0x210004) ∨ (0x240000 ≤ a ∧ a < 0x240004) ∨ (0x260000 ≤ a ∧ a < 0x260004) then
      some (0x300000000 + a)
    else if 0x220000 ≤ a ∧ a < 0x220080 then some (FLT_REC 0 + (a - 0x220000))
    else if 0x250000 ≤ a ∧ a < 0x250010 then some (CRU_MB_ADDR 2 + (a - 0x250000))
    else none
  | .sequencer => if 0x210000 ≤ a ∧ a < 0x213000 then some (0xE00000 + (a - 0x210000)) else none
  | _ => none

/-- R429, R4: a byte of an MCTP bank, or of a slot of its rings, that is reserved: it reads zero, whatever is stored. -/
def mctpReserved (p : Proc) (a : Nat) : Bool :=
  let o := a % 0x10000
  (p == .anvilA || p == .anvilB) && decide (0x300000 ≤ a) && decide (a < 0x340000) &&
    ((decide (0x11 ≤ o) && decide (o < 0x1000)) || decide (0x9000 ≤ o) ||
      (decide (0x1000 ≤ o) && (o % 512 == 2 || o % 512 == 3)))

/-! ### The sealed store and the store of secrets -/

/-- R336: a datum that the sealed store holds, with its first address: the private halves of the Hallmark at the
beginning, the chain state of the meters at 0x70_0000, and at 0x50_0000 + 2,048 × p the record of partition p with its keys.
Log 144 (DESIGN CHOICE). -/
def sealedDatum (s : State) (a : Nat) : Option (Nat × Bytes) :=
  if a < 0x500000 then some (0x400000, Config.hallmarkPrivate)
  else if 0x700000 ≤ a then
    some (0x700000, leBytes 8 s.cru.batchCount ++ padTo 48 s.cru.lastHeader ++
      ((List.range 2049).map (fun i => padTo 48 (s.cru.lastEntry.get [] i))).flatten)
  else
    let p := (a - 0x500000) / 2048
    if 1024 ≤ p ∨ s.fld (CRU_PART p) CRU_PART.STATE = 0 then none
    else
      let x := s.partRec p
      some (0x500000 + 2048 * p, leBytes 8 (s.reg (CRU_PART p)).toNat ++ x.block ++ padTo 48 x.measurement ++ padTo 64 x.xts ++
        leBytes 8 x.sealTime ++ leBytes 1 x.reason ++ leBytes 1 x.step ++ leBytes 8 x.kem ++ Config.kemPrivate x.kem)

/-- R336: the byte at address `a` of the sealed store: the IV, the AES-256-GCM ciphertext and the tag of the datum there,
and zeros behind them. Log 144 (DESIGN CHOICE). -/
def sealedByte (s : State) (a : Nat) : Byte :=
  match sealedDatum s a with
  | none => 0
  | some (base, d) =>
    let iv := padTo 12 (Config.sealedIv d)
    let c := Crypto.gcmEnc (padTo 32 Config.fuseKey) iv (leBytes 4 base) d
    (iv ++ c.1 ++ c.2).getD (a - base) 0

/-- What a byte of the store of secrets belongs to (R335): byte `i` of the secret of association `a`, or of key set `set` of
IDE stream `st`, each set in 256 bytes. Log 143 (DESIGN CHOICE). -/
inductive SecretCell where
  | assoc (a i : Nat)
  | ide (st set i : Nat)
  deriving DecidableEq, Repr

/-- R335: which one stands at offset `o` of the store, which no rule says: a free value. Log 143 (DESIGN CHOICE). -/
def secretCell (o : Nat) : SecretCell :=
  let n := Config.secretCell o % (131072 + 9 * 512)
  if n < 131072 then .assoc (n / 32) (n % 32)
  else .ide ((n - 131072) / 512) ((n - 131072) / 256 % 2) ((n - 131072) % 256)

/-- R335, R74, R313: Crucible's firmware writes byte `o` of the store: the secret of an association, or a key of an IDE
stream. Log 143 (DESIGN CHOICE). -/
def State.secretStore (s : State) (o : Nat) (b : Byte) : State :=
  match secretCell o with
  | .assoc a i =>
    let x := s.assoc a
    (s.setAssoc a { x with secret := some ((padTo 32 (x.secret.getD [])).set i b) }).setBit
      (SRX_ASSOC_STATUS a) SRX_ASSOC_STATUS.SECRET
  | .ide st set i =>
    let x : IdeStream := s.hep.ide.get {} st
    let k := x.keys.getD set []
    let keys := [x.keys.getD 0 [], x.keys.getD 1 []].set set ((padTo (max k.length (i + 1)) k).set i b)
    { s with hep := { s.hep with ide := s.hep.ide.set {} st { x with keys := keys } } }

/-- What a byte of a controller's space holds beneath what has been stored there: firmware as loaded, or the data of the
sealed store. Log 144 (DESIGN CHOICE). -/
def ctlBase (s : State) (p : Proc) (a : Nat) : Byte :=
  if ctlFirmware p a then Config.romByte (ctlKey p a)
  else if p == .crucible && decide (0x400000 ≤ a) then sealedByte s a
  else 0

/-- R430: the intake's three words: the oldest event not yet routed, EVENT with VALID clear when none waits.
Log 30 (DEDUCED). -/
def intakeBytes (s : State) : Bytes :=
  match s.flt.intake with
  | e :: _ => leBytes 8 e.time ++ leBytes 8 e.event ++ leBytes 8 e.detail
  | [] => zeros 24

/-- A load of `n` bytes at address `a` of controller `p`'s space; `none` is a load access fault.
Log 26 (DEDUCED). Log 30 (DEDUCED). -/
def ctlLoad (s : State) (p : Proc) (a n : Nat) : Option (Bytes × State) :=
  let isAnvil := p = .anvilA ∨ p = .anvilB
  if !ctlMapped p a || !ctlMapped p (a + n - 1) then none
  else match (if isAnvil then windowOff s a else none) with
    | some off => if n < 4 then none else some (s.regBytes off n, s)
    | none => match ctlReg p a with
      | some k => some (s.regBytes k n, s)
      | none =>
        if p = .sequencer ∧ 0x200000 ≤ a ∧ a < 0x200018 then
          some (slice (intakeBytes s) (a - 0x200000) n,
            if a / 8 * 8 = 0x200008 then s.intakeNext else s)
        else if p = .sequencer ∧ 0x220000 ≤ a ∧ a < 0x220024 then some (zeros n, s)
        else if p = .sequencer ∧ 0x230000 ≤ a then
          some (slice (padTo 256 (s.anv.notify.map (leBytes 8 ·)).flatten) (a - 0x230000) n, s)
        else if p = .crucible ∧ 0x330000 ≤ a ∧ a < 0x331000 then some (zeros n, s)
        else some ((List.range n).map (fun i =>
          if mctpReserved p (a + i) then 0 else s.ctlByte (ctlKey p (a + i)) ^^^ ctlBase s p (a + i)), s)

/-- R335, R238: Crucible's firmware writes byte `o` of the key set: entry n of 64 bytes is the key of region n's owner.
Log 120 (DESIGN CHOICE). -/
def State.keyStore (s : State) (o : Nat) (b : Byte) : State :=
  let ctl := HA_REGION_CTL (o / 64)
  let k := match s.fld ctl HA_REGION_CTL.KIND with
    | 0 => State.partKey (s.fld ctl HA_REGION_CTL.OWNER)
    | n => n
  let m := s.keyOf k
  (s.retireKey k).loadKey k ((padTo 64 m).set (o % 64) b)

/-- A write to a register of Crucible's space (R239, R277, R336). -/
def cruRegWrite (s : State) (k : Nat) (v mask : W64) : State :=
  let hit := v &&& mask
  let plain := match rowOf k with
    | some (r, _) => s.regStore k r.fields v mask
    | none => s
  if CKL_KEY 0 ≤ k ∧ k < CKL_KEY 8 then
    let i := (k - CKL_KEY 0) / 8
    { s with cip := { s.cip with stage := s.cip.stage.set 0 i ((s.cip.stage.get 0 i &&& ~~~mask) ||| hit) } }
  else if k = CKL_COMMIT then
    if getFld hit CKL_COMMIT.GO = 1 then plain.cklCommit (plain.fld CKL_COMMIT CKL_COMMIT.OP) else plain
  else if HA_REGION_BASE 0 ≤ k ∧ k < HA_REGION_BASE 64 then
    match rowOf k with
    | some (r, _) => (s.meterMem.regStore k r.fields v mask).showRegions
    | none => s
  else if k = CRU_WDOG then
    if s.fld CRU_STATUS CRU_STATUS.STATE ≤ 1 then { s with cru := { s.cru with wdogAt := some (s.tb + ms 50) } } else s
  else if k = CRU_LEASE_REL then
    if getFld hit CRU_LEASE_REL.GO = 1 then s.leaseRelease (getFld v CRU_LEASE_REL.DOMAIN) else plain
  else plain

/-- R420, R429: Anvil `b` writes its view of `FLT_RECn`; an entry that is no longer open takes a recovery that
waits. Log 30 (DEDUCED). -/
def recWrite (s : State) (k : Nat) (m : W64) : State :=
  let was := getFld (s.reg k) FLT_REC.STATE
  let s := s.setReg k (m &&& 0xFFFFFFFF00FFFFF3#64)
  if was = 1 ∧ getFld m FLT_REC.STATE ≠ 1 then s.nextRecovery else s

/-- A write to a register of the Anvils' space (R415, R428, R429). Log 29 (DEDUCED). -/
def anvRegWrite (s : State) (b : Bool) (k : Nat) (v mask : W64) : State :=
  let hit := v &&& mask
  let m := (s.reg k &&& ~~~mask) ||| hit
  if k = LK_CTL b.toNat then
    let s := if getFld hit LK_CTL.RENEW = 1 then s.lkRenew b else s
    if getFld hit LK_CTL.RELEASE = 1 then s.lkRelease b else s
  else if k = AFC_RAISE then s.afcRaise b m
  else if FLT_REC 0 ≤ k ∧ k < FLT_REC 8 then (if k % 16 = 0 then recWrite s k m else s)
  else match mailKey k with
    | some (n, ctl) => s.mailStore .anvil n ctl m
    | none => s.regWrite k m

/-- A store of the bytes `d` at address `a` of controller `p`'s space; `none` is a store access fault.
Log 26 (DEDUCED). -/
def ctlStore (s : State) (p : Proc) (a : Nat) (d : Bytes) : Option State :=
  let n := d.length
  let b := p == .anvilB
  let isAnvil := p == .anvilA || b
  let v := BitVec.ofNat 64 (ofLe d)
  if !ctlMapped p a || !ctlMapped p (a + n - 1) then none
  else if isAnvil && (windowOff s a).isSome && decide (n < 4) then none
  else if isAnvil && decide (0x210000 ≤ a) && s.holder != b then some s
  else match (if isAnvil then windowOff s a else none) with
    | some off => some (s.fabricWrite .anvil off n v)
    | none => match ctlReg p a with
      | some k =>
        match regAt k, p with
        | some (k', _), .crucible => some (cruRegWrite s k' (v <<< (8 * (k - k'))) (byteMask (k - k') n))
        | some (k', _), .sequencer =>
          some (if FLT_REC 0 ≤ k' ∧ k' < FLT_REC 8 then
              recWrite s k' ((s.reg k' &&& ~~~byteMask (k - k') n) ||| (v <<< (8 * (k - k')) &&& byteMask (k - k') n))
            else s)
        | some (k', _), _ => some (anvRegWrite s b k' (v <<< (8 * (k - k'))) (byteMask (k - k') n))
        | none, _ => some s
      | none =>
        if p = .sequencer ∧ 0x220000 ≤ a ∧ a < 0x22001C then some (s.vectorTrigger ((a - 0x220000) / 4) v.toNat)
        else if p = .sequencer ∧ 0x220020 ≤ a ∧ a < 0x220024 then some (s.hypTrigger v.toNat)
        else if p = .sequencer ∧ 0x200000 ≤ a ∧ a < 0x200018 then some s
        else if p = .sequencer ∧ 0x230000 ≤ a then
          some (if a % 8 = 0 ∧ v ≠ 0 then s.notifyAnvil v.toNat (s.noteClass v.toNat) else s)
        else if p = .crucible ∧ 0x330000 ≤ a ∧ a < 0x331000 then
          some (((List.range n).zip d).foldl (fun (s : State) e => s.keyStore (a - 0x330000 + e.1) e.2) s)
        else if ctlFixed p a then some s
        else some (((List.range n).zip d).foldl (fun (s : State) e =>
          let a := a + e.1
          let s := if p == .crucible && decide (0x340000 ≤ a) && decide (a < 0x350000) then s.secretStore (a - 0x340000) e.2 else s
          if mctpReserved p a then s else s.ctlPut (ctlKey p a) (e.2 ^^^ ctlBase s p a)) s)

namespace State

/-! ### One access -/

/-- R333: a register of device space that processor `p` reaches: a sealed world reaches its own mailbox alone.
Log 95 (DEDUCED). -/
def reachesReg (s : State) (p : Proc) (off : Nat) : Bool :=
  let x := s.proc (procNo p)
  s.level p == 2 || getFld x.psr PSR.SEALED == 0 || (mailKey off).map (·.1) == x.part.map (16 + ·)

/-- Who a main core's store to device space comes from (R340). Log 22 (DEDUCED). -/
def deviceWriter (s : State) (p : Proc) : Writer :=
  let x := s.proc (procNo p)
  if s.level p = 2 then .hypervisor
  else if getFld x.psr PSR.SEALED = 1 then
    (if h : s.level p = 1 ∧ x.part.getD 0 < 1024 then .sealed ⟨x.part.getD 0, h.2⟩ else .other)
  else .other

/-- A read of memory by a processor: a main core reads through its caches, and sees its own waiting stores (R202, R212).
The engine cores are I/O agents. -/
def procRead (s : State) (p : Proc) (a size : Nat) : Option (Bytes × Bool) × State :=
  match p with
  | .exec e => match s.memRead (s.procWorld p) 1 a size (s.hits e.val (s.procWorld p)) with
    | (some (b, bad), s) => (some (s.ownView e.val a b, bad), s.touchLine e.val (lineOf a) .load (s.procWorld p))
    | r => r
  | _ => s.memRead (s.procWorld p) 2 a size

/-- A write of memory by a processor: a main core's waits in its store buffer until the L2 holds the line in M, where it
does not already (R140, R202, R212). -/
def procWrite (s : State) (p : Proc) (ea : W64) (a : Nat) (d : Bytes) : Bool × State :=
  match p with
  | .exec e => match s.writeKey (s.procWorld p) 1 a d.length (s.hits e.val (s.procWorld p)) with
    | (some k, s) =>
      let b : BufStore := { proc := e.val, line := lineOf a, addr := a, ea := ea, data := d, key := k }
      let t : State := { s with coh := { s.coh with stores := s.coh.stores ++ [b] } }
      (true, t.touchLine e.val (lineOf a) .store (s.procWorld p))
    | (none, s) => (false, s)
  | _ => s.memWrite (s.procWorld p) 2 a d

/-- R148: an atomic may read and write its line at one instant: no earlier store waits, and the L2 can write the line. -/
def atomicReady (s : State) (p : Proc) (a : Nat) : Bool :=
  match p with
  | .exec e => s.storesDone p && s.canWrite e.val (lineOf a) (s.procWorld p)
  | _ => true

/-- R148: an atomic that is not ready asks for its line and does not retire. -/
def atomicAsks (s : State) (p : Proc) (a : Nat) : State :=
  match p with
  | .exec e => s.touchLine e.val (lineOf a) .store (s.procWorld p)
  | _ => s

/-- A load of `size` aligned bytes at `ea`: its bytes, or the state after the exception, or after the restart that
consuming poison is (R126, R214, R240). A register that the world does not reach reads zero. Log 95 (DEDUCED). -/
def loadBytes (s : State) (p : Proc) (ea : W64) (size : Nat) : Option Bytes × State :=
  match profile p with
  | .controller =>
    match (if ea.toNat < 2 ^ 24 then ctlLoad s p ea.toNat size else none) with
    | some (b, s) => (some b, s)
    | none => (none, s.raise p 0x07 ea)
  | _ =>
    match s.translate p ea .load with
    | none => (none, s.raise p 0x07 ea)
    | some a =>
      if 2 ^ 47 ≤ a then
        (some (if s.reachesReg p (a - 2 ^ 47) then s.regBytes (a - 2 ^ 47) size else zeros size), s)
      else match s.procRead p a size with
        | (none, s) => (none, s.raise p 0x07 ea)
        | (some (b, bad), s) => if bad then (none, s.consumePoison p (lineOf a)) else (some b, s)

/-- A store of aligned bytes at `ea`; `false` and the state after the exception where it is refused.
Log 130 (DEDUCED). Log 95 (DEDUCED). -/
def storeBytes (s : State) (p : Proc) (ea : W64) (d : Bytes) : Bool × State :=
  match profile p with
  | .controller =>
    match (if ea.toNat < 2 ^ 24 then ctlStore s p ea.toNat d else none) with
    | some s => (true, s)
    | none => (false, s.raise p 0x08 ea)
  | _ =>
    match s.translate p ea .store with
    | none => (false, s.raise p 0x08 ea)
    | some a =>
      if 2 ^ 47 ≤ a then
        (true, if d.length < 4 ∨ (!s.reachesReg p (a - 2 ^ 47) ∧ mailKey (a - 2 ^ 47) = none) then s else s.fabricWrite (s.deviceWriter p) (a - 2 ^ 47) d.length (BitVec.ofNat 64 (ofLe d)))
      else match s.procWrite p ea a d with
        | (true, s) => (true, s)
        | (false, s) => (false, s.raise p 0x08 ea)

end State

/-! ### The shapes of the instructions -/

/-- R149: an M-format load: `put` writes what was loaded. An update of the register that the load writes is
discarded. -/
def load (p : Proc) (a : RegNo) (u : Bool) (imm : BitVec 13) (size : Nat) (same : Bool)
    (put : ProcState → Nat → ProcState) (s : State) : Host.Outcome State Fault Refusal :=
  instr p s fun s =>
    match effective (s.proc (procNo p)) (profile p) a u imm size .load with
    | .fault c e => s.raise p c e
    | .ok ea upd =>
      match s.loadBytes p ea size with
      | (none, s) => s
      | (some b, s) => s.onProc p (fun x => (put (if u && !same then x.setG a upd else x) (ofLe b)).next)

/-- R149: a load into a `g` register. -/
def loadG (p : Proc) (t a : RegNo) (u : Bool) (imm : BitVec 13) (size : Nat) (signed : Bool) (s : State) :
    Host.Outcome State Fault Refusal :=
  load p a u imm size (t == a)
    (fun x v => x.setG t (if signed then (BitVec.ofNat (8 * size) v).signExtend 64 else BitVec.ofNat 64 v)) s

/-- R136, R149: a load into an `f` register, which the main profile alone has; a 32-bit value is held with its upper
half zero. -/
def loadF (p : Proc) (t a : RegNo) (u : Bool) (imm : BitVec 13) (size : Nat) (s : State) : Host.Outcome State Fault Refusal :=
  if profile p = .main then load p a u imm size false (fun x v => x.setF t (BitVec.ofNat 64 v)) s
  else instr p s fun s => s.illegal p

/-- R149: an M-format store of the low bytes of `src`. -/
def store (p : Proc) (a : RegNo) (u : Bool) (imm : BitVec 13) (size : Nat) (src : ProcState → W64) (s : State) :
    Host.Outcome State Fault Refusal :=
  instr p s fun s =>
    let x := s.proc (procNo p)
    match effective x (profile p) a u imm size .store with
    | .fault c e => s.raise p c e
    | .ok ea upd =>
      match s.storeBytes p ea (leBytes size (src x).toNat) with
      | (false, s) => s
      | (true, s) => s.onProc p (fun x => (if u then x.setG a upd else x).next)

def storeF (p : Proc) (t a : RegNo) (u : Bool) (imm : BitVec 13) (size : Nat) (s : State) : Host.Outcome State Fault Refusal :=
  if profile p = .main then store p a u imm size (fun x => x.getF t) s else instr p s fun s => s.illegal p

/-- R148: the new value of memory: `d` as it stood before, the old value and `b`. -/
inductive AtomicOp where
  | cas | swap | add | and | or
  deriving DecidableEq, Repr

/-- R148: what an atomic stores: `CAS` stores b where memory holds d, else what it read; the others combine with b.
Log 21 (DEDUCED). -/
def atomicNew (op : AtomicOp) (d old b : W64) : W64 :=
  match op with
  | .cas => if old = d then b else old
  | .swap => b
  | .add => old + b
  | .and => old &&& b
  | .or => old ||| b

/-- R148: an atomic of `size` bytes: device space refuses it, and it needs leave to read and to write. `CAS` writes back
what it read where memory does not equal d. Log 21 (DEDUCED). Log 130 (DEDUCED). -/
def atomic (op : AtomicOp) (size : Nat) (p : Proc) (d a b : RegNo) (s : State) : Host.Outcome State Fault Refusal :=
  instr p s fun s =>
    let x := s.proc (procNo p)
    let ea := x.getG a
    let low := fun (v : W64) => BitVec.ofNat 64 (v.toNat % 2 ^ (8 * size))
    let reach := match profile p with
      | .controller => true
      | _ => match s.translate p ea .store, s.translate p ea .load with
        | some n, some _ => decide (n < 2 ^ 47)
        | _, _ => false
    if ea.toNat % size ≠ 0 then s.raise p 0x06 ea
    else if !reach then s.raise p 0x08 ea
    else
      let (r, s1) := match profile p with
        | .controller => match (if ea.toNat < 2 ^ 24 then ctlLoad s p ea.toNat size else none) with
          | some (v, s) => (some v, s)
          | none => (none, s.raise p 0x08 ea)
        | _ => match s.translate p ea .load with
          | none => (none, s.raise p 0x08 ea)
          | some n =>
            match s.writeKey (s.procWorld p) (if profile p = .main then 1 else 2) n size (s.fetchHits p) with
            | (none, s) => (none, s.raise p 0x08 ea)
            | (some _, s) =>
              if !s.atomicReady p n then (none, s.atomicAsks p n)
              else match s.procRead p n size with
                | (none, s) => (none, s.raise p 0x08 ea)
                | (some (v, bad), s) => if bad then (none, s.consumePoison p (lineOf n)) else (some v, s)
      match r with
      | none => s1
      | some old =>
        let o := BitVec.ofNat 64 (ofLe old)
        let new := atomicNew op (low (x.getG d)) o (low (x.getG b))
        match s1.storeBytes p ea (leBytes size new.toNat) with
        | (false, s) => s
        | (true, s) => s.writeG p d (if size = 4 then (o.setWidth 32).signExtend 64 else o)

/-- R153: the address of a controller-profile load or store. -/
def bankAddr (x : ProcState) (addr : BitVec 16) : W64 :=
  BitVec.ofNat 64 ((x.getSp spBk).toNat % 256 * 2 ^ 16 + addr.toNat)

/-! ### The instructions -/

/-- R149: `LB`. -/
def execLb (p : Proc) (t a : RegNo) (u : Bool) (imm : BitVec 13) (s : State) : Host.Outcome State Fault Refusal :=
  loadG p t a u imm 1 true s

/-- R149: `LBU`. -/
def execLbu (p : Proc) (t a : RegNo) (u : Bool) (imm : BitVec 13) (s : State) : Host.Outcome State Fault Refusal :=
  loadG p t a u imm 1 false s

/-- R149: `LH`. -/
def execLh (p : Proc) (t a : RegNo) (u : Bool) (imm : BitVec 13) (s : State) : Host.Outcome State Fault Refusal :=
  loadG p t a u imm 2 true s

/-- R149: `LHU`. -/
def execLhu (p : Proc) (t a : RegNo) (u : Bool) (imm : BitVec 13) (s : State) : Host.Outcome State Fault Refusal :=
  loadG p t a u imm 2 false s

/-- R149: `LW`. -/
def execLw (p : Proc) (t a : RegNo) (u : Bool) (imm : BitVec 13) (s : State) : Host.Outcome State Fault Refusal :=
  loadG p t a u imm 4 true s

/-- R149: `LWU`. -/
def execLwu (p : Proc) (t a : RegNo) (u : Bool) (imm : BitVec 13) (s : State) : Host.Outcome State Fault Refusal :=
  loadG p t a u imm 4 false s

/-- R149: `LD`. -/
def execLd (p : Proc) (t a : RegNo) (u : Bool) (imm : BitVec 13) (s : State) : Host.Outcome State Fault Refusal :=
  loadG p t a u imm 8 true s

/-- R149: `FLW`. -/
def execFlw (p : Proc) (t a : RegNo) (u : Bool) (imm : BitVec 13) (s : State) : Host.Outcome State Fault Refusal :=
  loadF p t a u imm 4 s

/-- R149: `FLD`. -/
def execFld (p : Proc) (t a : RegNo) (u : Bool) (imm : BitVec 13) (s : State) : Host.Outcome State Fault Refusal :=
  loadF p t a u imm 8 s

/-- R149: `SB`. -/
def execSb (p : Proc) (t a : RegNo) (u : Bool) (imm : BitVec 13) (s : State) : Host.Outcome State Fault Refusal :=
  store p a u imm 1 (fun x => x.getG t) s

/-- R149: `SH`. -/
def execSh (p : Proc) (t a : RegNo) (u : Bool) (imm : BitVec 13) (s : State) : Host.Outcome State Fault Refusal :=
  store p a u imm 2 (fun x => x.getG t) s

/-- R149: `SW`. -/
def execSw (p : Proc) (t a : RegNo) (u : Bool) (imm : BitVec 13) (s : State) : Host.Outcome State Fault Refusal :=
  store p a u imm 4 (fun x => x.getG t) s

/-- R149: `SD`. -/
def execSd (p : Proc) (t a : RegNo) (u : Bool) (imm : BitVec 13) (s : State) : Host.Outcome State Fault Refusal :=
  store p a u imm 8 (fun x => x.getG t) s

/-- R149: `FSW`. -/
def execFsw (p : Proc) (t a : RegNo) (u : Bool) (imm : BitVec 13) (s : State) : Host.Outcome State Fault Refusal :=
  storeF p t a u imm 4 s

/-- R149: `FSD`. -/
def execFsd (p : Proc) (t a : RegNo) (u : Bool) (imm : BitVec 13) (s : State) : Host.Outcome State Fault Refusal :=
  storeF p t a u imm 8 s

/-- R148: `CAS`. -/
def execCas (p : Proc) (d a b : RegNo) (s : State) : Host.Outcome State Fault Refusal :=
  atomic .cas 8 p d a b s

/-- R148: `CASW`. -/
def execCasw (p : Proc) (d a b : RegNo) (s : State) : Host.Outcome State Fault Refusal :=
  atomic .cas 4 p d a b s

/-- R148: `SWAP`. -/
def execSwap (p : Proc) (d a b : RegNo) (s : State) : Host.Outcome State Fault Refusal :=
  atomic .swap 8 p d a b s

/-- R148: `SWAPW`. -/
def execSwapw (p : Proc) (d a b : RegNo) (s : State) : Host.Outcome State Fault Refusal :=
  atomic .swap 4 p d a b s

/-- R148: `AADD`. -/
def execAadd (p : Proc) (d a b : RegNo) (s : State) : Host.Outcome State Fault Refusal :=
  atomic .add 8 p d a b s

/-- R148: `AADDW`. -/
def execAaddw (p : Proc) (d a b : RegNo) (s : State) : Host.Outcome State Fault Refusal :=
  atomic .add 4 p d a b s

/-- R148: `AAND`. -/
def execAand (p : Proc) (d a b : RegNo) (s : State) : Host.Outcome State Fault Refusal :=
  atomic .and 8 p d a b s

/-- R148: `AANDW`. -/
def execAandw (p : Proc) (d a b : RegNo) (s : State) : Host.Outcome State Fault Refusal :=
  atomic .and 4 p d a b s

/-- R148: `AOR`. -/
def execAor (p : Proc) (d a b : RegNo) (s : State) : Host.Outcome State Fault Refusal :=
  atomic .or 8 p d a b s

/-- R148: `AORW`. -/
def execAorw (p : Proc) (d a b : RegNo) (s : State) : Host.Outcome State Fault Refusal :=
  atomic .or 4 p d a b s

/-- R153: `LDS`, in the controller profile: zero-extended. -/
def execLds (p : Proc) (t : RegNo) (sz : Fin 4) (addr : BitVec 16) (s : State) : Host.Outcome State Fault Refusal :=
  instr p s fun s =>
    if profile p ≠ .controller then s.illegal p
    else
      let ea := bankAddr (s.proc (procNo p)) addr
      if ea.toNat % 2 ^ sz.val ≠ 0 then s.raise p 0x05 ea
      else match s.loadBytes p ea (2 ^ sz.val) with
        | (none, s) => s
        | (some b, s) => s.writeG p t (BitVec.ofNat 64 (ofLe b))

/-- R153: `STS`, in the controller profile. -/
def execSts (p : Proc) (t : RegNo) (sz : Fin 4) (addr : BitVec 16) (s : State) : Host.Outcome State Fault Refusal :=
  instr p s fun s =>
    if profile p ≠ .controller then s.illegal p
    else
      let x := s.proc (procNo p)
      let ea := bankAddr x addr
      if ea.toNat % 2 ^ sz.val ≠ 0 then s.raise p 0x06 ea
      else match s.storeBytes p ea (leBytes (2 ^ sz.val) (x.getG t).toNat) with
        | (false, s) => s
        | (true, s) => s.advance p

end Sys2Proof.Machine
end

