-- ==== Sys2Proof/Machine/Enqueue.lean ====
section
/-!
DEFINITION. `ENQ` (R152): a request block handed to a cipher, compression or channel queue.
-/
namespace Sys2Proof.Machine
open Sys2Proof State

/-- R152: engine kind and queue number of `b`, where it names a queue that exists. Log 31 (DEDUCED). -/
def enqTarget (b : W64) : Option (Nat × Nat) :=
  let kind := b.toNat % 256
  let n := b.toNat / 256
  if (kind = 1 ∧ n < 128) ∨ (kind = 2 ∧ n < 128) ∨ (kind = 3 ∧ n < 256) then some (kind, n) else none

/-- R152, R253, R273: whose requests the processor submits: the hypervisor's (`some none`), those of the partition whose
world it runs, or nobody's. Log 31 (DEDUCED). -/
def enqOwner (s : State) (e : Nat) (level : Nat) : Option (Option Nat) :=
  let x := s.proc e
  if level = 2 then some none
  else if getFld x.psr PSR.SEALED = 1 then x.part.map some
  else (x.part.filter (fun q => !s.partSealed q)).map some

/-- R152: submit a block; the status `ENQ` writes to d. A processor that runs neither a partition nor the hypervisor
owns no queue, and gets status 2. Log 31 (DEDUCED). -/
def enqSubmit (s : State) (p : Proc) (kind n : Nat) (block : Bytes) : Nat × State :=
  match p with
  | .exec e =>
    match enqOwner s e.val (s.level p), kind with
    | none, _ => (2, s)
    | some who, 1 => s.cipEnqueue n who block
    | some who, 2 => s.swgEnqueue n who block
    | some who, _ => s.chanEnqueue n who ((runUnit s p).map (·.1)) block
  | _ => (2, s)

/-- R152: `ENQ`. The block is read as a load reads it. It runs at problem level too, as R253, R273 and R292 say, although
R151's table has supervisor. Log 31 (DEDUCED). Log 110 (DEDUCED). -/
def execEnq (p : Proc) (d a b : RegNo) (s : State) : Host.Outcome State Fault Refusal :=
  instr p s fun s =>
    let addr := s.gReg p a
    match (if addr.toNat % 64 = 0 then enqTarget (s.gReg p b) else none) with
    | none => s.writeG p d 3
    | some (kind, n) =>
      match s.loadBytes p addr 64 with
      | (none, s) => s
      | (some block, s) =>
        let (st, s) := enqSubmit s p kind n block
        s.writeG p d (BitVec.ofNat 64 st)

end Sys2Proof.Machine
end

