-- ==== Sys2Proof/Machine/FloatOps.lean ====
section
/-!
DEFINITION. Floating-point instructions (R146, R147, R167 to R177).
-/
namespace Sys2Proof.Machine
open Sys2Proof State

/-- R136: the bits a datum of the format occupies. -/
def low (fmt : Fmt) (w : W64) : W64 :=
  match fmt with
  | .d => w
  | .s => w &&& 0xFFFFFFFF#64
def signMask (fmt : Fmt) : W64 :=
  match fmt with
  | .d => 0x8000000000000000#64
  | .s => 0x80000000#64

/-- R146, R167. Sum, rounded once. -/
def execFadd (p : Proc) (fmt : Fmt) (rm : Rm) (d a b : RegNo) (s : State) : Host.Outcome State Fault Refusal :=
  fpInstr p s (.f d) rm fun m x => Float.add fmt m (Float.unpack fmt (x.getF a)) (Float.unpack fmt (x.getF b))

/-- R146, R167. Difference, rounded once. -/
def execFsub (p : Proc) (fmt : Fmt) (rm : Rm) (d a b : RegNo) (s : State) : Host.Outcome State Fault Refusal :=
  fpInstr p s (.f d) rm fun m x => Float.sub fmt m (Float.unpack fmt (x.getF a)) (Float.unpack fmt (x.getF b))

/-- R146, R167. Product, rounded once. -/
def execFmul (p : Proc) (fmt : Fmt) (rm : Rm) (d a b : RegNo) (s : State) : Host.Outcome State Fault Refusal :=
  fpInstr p s (.f d) rm fun m x => Float.mul fmt m (Float.unpack fmt (x.getF a)) (Float.unpack fmt (x.getF b))

/-- R146, R167. Quotient, rounded once. -/
def execFdiv (p : Proc) (fmt : Fmt) (rm : Rm) (d a b : RegNo) (s : State) : Host.Outcome State Fault Refusal :=
  fpInstr p s (.f d) rm fun m x => Float.div fmt m (Float.unpack fmt (x.getF a)) (Float.unpack fmt (x.getF b))

/-- R146, R167. Square root. -/
def execFsqrt (p : Proc) (fmt : Fmt) (rm : Rm) (d a : RegNo) (s : State) : Host.Outcome State Fault Refusal :=
  fpInstr p s (.f d) rm fun m x => Float.sqrt fmt m (Float.unpack fmt (x.getF a))

/-- R173. Minimum. -/
def execFmin (p : Proc) (fmt : Fmt) (d a b : RegNo) (s : State) : Host.Outcome State Fault Refusal :=
  fpInstr p s (.f d) .rne fun _ x => Float.minMax fmt false (x.getF a) (x.getF b)

/-- R173. Maximum. -/
def execFmax (p : Proc) (fmt : Fmt) (d a b : RegNo) (s : State) : Host.Outcome State Fault Refusal :=
  fpInstr p s (.f d) .rne fun _ x => Float.minMax fmt true (x.getF a) (x.getF b)

/-- R175. Conversion from the other format. -/
def execFcvt (p : Proc) (fmt : Fmt) (rm : Rm) (d a : RegNo) (s : State) : Host.Outcome State Fault Refusal :=
  fpInstr p s (.f d) rm fun m x => Float.convert fmt m (x.getF a)

/-- R175. To signed 64-bit integer. -/
def execFcvti (p : Proc) (fmt : Fmt) (rm : Rm) (d a : RegNo) (s : State) : Host.Outcome State Fault Refusal :=
  fpInstr p s (.g d) rm fun m x => Float.toInt fmt m true 64 (x.getF a)

/-- R175. To unsigned 64-bit integer. -/
def execFcvtiu (p : Proc) (fmt : Fmt) (rm : Rm) (d a : RegNo) (s : State) : Host.Outcome State Fault Refusal :=
  fpInstr p s (.g d) rm fun m x => Float.toInt fmt m false 64 (x.getF a)

/-- R175. To signed 32-bit integer. -/
def execFcvtw (p : Proc) (fmt : Fmt) (rm : Rm) (d a : RegNo) (s : State) : Host.Outcome State Fault Refusal :=
  fpInstr p s (.g d) rm fun m x => Float.toInt fmt m true 32 (x.getF a)

/-- R175. To unsigned 32-bit integer. -/
def execFcvtwu (p : Proc) (fmt : Fmt) (rm : Rm) (d a : RegNo) (s : State) : Host.Outcome State Fault Refusal :=
  fpInstr p s (.g d) rm fun m x => Float.toInt fmt m false 32 (x.getF a)

/-- R175. From signed 64-bit integer. -/
def execFcvtf (p : Proc) (fmt : Fmt) (rm : Rm) (d a : RegNo) (s : State) : Host.Outcome State Fault Refusal :=
  fpInstr p s (.f d) rm fun m x => Float.ofInt fmt m true 64 (x.getG a)

/-- R175. From unsigned 64-bit integer. -/
def execFcvtfu (p : Proc) (fmt : Fmt) (rm : Rm) (d a : RegNo) (s : State) : Host.Outcome State Fault Refusal :=
  fpInstr p s (.f d) rm fun m x => Float.ofInt fmt m false 64 (x.getG a)

/-- R175. From signed 32-bit integer. -/
def execFcvtfw (p : Proc) (fmt : Fmt) (rm : Rm) (d a : RegNo) (s : State) : Host.Outcome State Fault Refusal :=
  fpInstr p s (.f d) rm fun m x => Float.ofInt fmt m true 32 (x.getG a)

/-- R175. From unsigned 32-bit integer. -/
def execFcvtfwu (p : Proc) (fmt : Fmt) (rm : Rm) (d a : RegNo) (s : State) : Host.Outcome State Fault Refusal :=
  fpInstr p s (.f d) rm fun m x => Float.ofInt fmt m false 32 (x.getG a)

/-- R174. d ← 1 if the operands are equal. -/
def execFeq (p : Proc) (fmt : Fmt) (d a b : RegNo) (s : State) : Host.Outcome State Fault Refusal :=
  fpInstr p s (.g d) .rne fun _ x => Float.relation fmt 0 (x.getF a) (x.getF b)

/-- R174. d ← 1 if the operands are less. -/
def execFlt (p : Proc) (fmt : Fmt) (d a b : RegNo) (s : State) : Host.Outcome State Fault Refusal :=
  fpInstr p s (.g d) .rne fun _ x => Float.relation fmt 1 (x.getF a) (x.getF b)

/-- R174. d ← 1 if the operands are less or equal. -/
def execFle (p : Proc) (fmt : Fmt) (d a b : RegNo) (s : State) : Host.Outcome State Fault Refusal :=
  fpInstr p s (.g d) .rne fun _ x => Float.relation fmt 2 (x.getF a) (x.getF b)

/-- R174. d ← 1 if the operands are unordered. -/
def execFunord (p : Proc) (fmt : Fmt) (d a b : RegNo) (s : State) : Host.Outcome State Fault Refusal :=
  fpInstr p s (.g d) .rne fun _ x => Float.relation fmt 3 (x.getF a) (x.getF b)

/-- R176. The sign bit inverted. -/
def execFneg (p : Proc) (fmt : Fmt) (d a : RegNo) (s : State) : Host.Outcome State Fault Refusal :=
  fpCopy p s (.f d) fun x => low fmt (x.getF a) ^^^ signMask fmt

/-- R176. The sign bit cleared. -/
def execFabs (p : Proc) (fmt : Fmt) (d a : RegNo) (s : State) : Host.Outcome State Fault Refusal :=
  fpCopy p s (.f d) fun x => low fmt (x.getF a) &&& ~~~signMask fmt

/-- R176. a with the sign of b. Log 134 (DEDUCED). -/
def execFcpysgn (p : Proc) (fmt : Fmt) (d a b : RegNo) (s : State) : Host.Outcome State Fault Refusal :=
  fpCopy p s (.f d) fun x => (low fmt (x.getF a) &&& ~~~signMask fmt) ||| (x.getF b &&& signMask fmt)

/-- R176. Bits of an f register to a g register. Log 19 (DEDUCED). -/
def execFmvtg (p : Proc) (fmt : Fmt) (d a : RegNo) (s : State) : Host.Outcome State Fault Refusal :=
  fpCopy p s (.g d) fun x => low fmt (x.getF a)

/-- R176. Bits of a g register to an f register. -/
def execFmvfg (p : Proc) (fmt : Fmt) (d a : RegNo) (s : State) : Host.Outcome State Fault Refusal :=
  fpCopy p s (.f d) fun x => low fmt (x.getG a)

/-- R177. The kind code of a. -/
def execFkind (p : Proc) (fmt : Fmt) (d a : RegNo) (s : State) : Host.Outcome State Fault Refusal :=
  fpCopy p s (.g d) fun x => BitVec.ofNat 64 (Float.kind fmt (x.getF a))

/-- R147, R172. d ← a × b + c, rounded once under `fpc.RM`. -/
def execFfma (p : Proc) (fmt : Fmt) (d a b c : RegNo) (s : State) : Host.Outcome State Fault Refusal :=
  fpInstr p s (.f d) .dyn fun m x => Float.fused fmt m 0 (x.getF a) (x.getF b) (x.getF c)

/-- R147, R172. d ← a × b − c, rounded once under `fpc.RM`. -/
def execFfms (p : Proc) (fmt : Fmt) (d a b c : RegNo) (s : State) : Host.Outcome State Fault Refusal :=
  fpInstr p s (.f d) .dyn fun m x => Float.fused fmt m 1 (x.getF a) (x.getF b) (x.getF c)

/-- R147, R172. d ← −(a × b + c), rounded once under `fpc.RM`. -/
def execFfna (p : Proc) (fmt : Fmt) (d a b c : RegNo) (s : State) : Host.Outcome State Fault Refusal :=
  fpInstr p s (.f d) .dyn fun m x => Float.fused fmt m 2 (x.getF a) (x.getF b) (x.getF c)

/-- R147, R172. d ← −(a × b − c), rounded once under `fpc.RM`. -/
def execFfns (p : Proc) (fmt : Fmt) (d a b c : RegNo) (s : State) : Host.Outcome State Fault Refusal :=
  fpInstr p s (.f d) .dyn fun m x => Float.fused fmt m 3 (x.getF a) (x.getF b) (x.getF c)

end Sys2Proof.Machine
end

