-- ==== Sys2Proof/Machine/Integer.lean ====
section
/-!
DEFINITION. Integer, multiply, divide, jump and branch instructions (R144, R145, R150, R163 to R166).
-/
namespace Sys2Proof.Machine
open Sys2Proof State

/-- R144. d ← a + imm. -/
def execAddi (p : Proc) (d a : RegNo) (imm : BitVec 14) (s : State) : Host.Outcome State Fault Refusal :=
  aluI p d a imm (fun x y => x + y) s

/-- R144. d ← the sign extension of bits 31:0 of a + imm. -/
def execAddiw (p : Proc) (d a : RegNo) (imm : BitVec 14) (s : State) : Host.Outcome State Fault Refusal :=
  aluI p d a imm (fun x y => sext32 (x + y)) s

/-- R144. Bitwise and with the immediate. -/
def execAndi (p : Proc) (d a : RegNo) (imm : BitVec 14) (s : State) : Host.Outcome State Fault Refusal :=
  aluI p d a imm (fun x y => x &&& y) s

/-- R144. Bitwise or with the immediate. -/
def execOri (p : Proc) (d a : RegNo) (imm : BitVec 14) (s : State) : Host.Outcome State Fault Refusal :=
  aluI p d a imm (fun x y => x ||| y) s

/-- R144. Bitwise exclusive or with the immediate. -/
def execXori (p : Proc) (d a : RegNo) (imm : BitVec 14) (s : State) : Host.Outcome State Fault Refusal :=
  aluI p d a imm (fun x y => x ^^^ y) s

/-- R144. d ← 1 if a < imm, signed. -/
def execSlti (p : Proc) (d a : RegNo) (imm : BitVec 14) (s : State) : Host.Outcome State Fault Refusal :=
  aluI p d a imm (fun x y => ofBool (x.slt y)) s

/-- R144. d ← 1 if a < imm sign-extended, unsigned. -/
def execSltiu (p : Proc) (d a : RegNo) (imm : BitVec 14) (s : State) : Host.Outcome State Fault Refusal :=
  aluI p d a imm (fun x y => ofBool (x.ult y)) s

/-- R144. Shift left. -/
def execSlli (p : Proc) (d a : RegNo) (n : Fin 64) (s : State) : Host.Outcome State Fault Refusal :=
  aluS p d a (fun x => x <<< n.val) s

/-- R144. Logical shift right. -/
def execSrli (p : Proc) (d a : RegNo) (n : Fin 64) (s : State) : Host.Outcome State Fault Refusal :=
  aluS p d a (fun x => x >>> n.val) s

/-- R144. Arithmetic shift right. -/
def execSrai (p : Proc) (d a : RegNo) (n : Fin 64) (s : State) : Host.Outcome State Fault Refusal :=
  aluS p d a (fun x => x.sshiftRight n.val) s

/-- R144. Rotate right. -/
def execRori (p : Proc) (d a : RegNo) (n : Fin 64) (s : State) : Host.Outcome State Fault Refusal :=
  aluS p d a (fun x => x.rotateRight n.val) s

/-- R144. d ← imm20 sign-extended and shifted left by 14. -/
def execHimm (p : Proc) (d : RegNo) (imm : BitVec 20) (s : State) : Host.Outcome State Fault Refusal :=
  instr p s fun s => s.writeG p d (imm.signExtend 64 <<< 14)

/-- R144. d ← pc + (imm20 sign-extended and shifted left by 14). -/
def execHimmpc (p : Proc) (d : RegNo) (imm : BitVec 20) (s : State) : Host.Outcome State Fault Refusal :=
  instr p s fun s => s.writeG p d ((s.proc (procNo p)).pc + imm.signExtend 64 <<< 14)

/-- R145. d ← a + b. -/
def execAdd (p : Proc) (d a b : RegNo) (s : State) : Host.Outcome State Fault Refusal :=
  aluR p d a b (fun x y => x + y) s

/-- R145. d ← a − b. -/
def execSub (p : Proc) (d a b : RegNo) (s : State) : Host.Outcome State Fault Refusal :=
  aluR p d a b (fun x y => x - y) s

/-- R145. The 32-bit sum, sign-extended. -/
def execAddw (p : Proc) (d a b : RegNo) (s : State) : Host.Outcome State Fault Refusal :=
  aluR p d a b (fun x y => sext32 (x + y)) s

/-- R145. The 32-bit difference, sign-extended. -/
def execSubw (p : Proc) (d a b : RegNo) (s : State) : Host.Outcome State Fault Refusal :=
  aluR p d a b (fun x y => sext32 (x - y)) s

/-- R145. Bitwise and. -/
def execAnd (p : Proc) (d a b : RegNo) (s : State) : Host.Outcome State Fault Refusal :=
  aluR p d a b (fun x y => x &&& y) s

/-- R145. Bitwise or. -/
def execOr (p : Proc) (d a b : RegNo) (s : State) : Host.Outcome State Fault Refusal :=
  aluR p d a b (fun x y => x ||| y) s

/-- R145. Bitwise exclusive or. -/
def execXor (p : Proc) (d a b : RegNo) (s : State) : Host.Outcome State Fault Refusal :=
  aluR p d a b (fun x y => x ^^^ y) s

/-- R145. a and not b. -/
def execAndn (p : Proc) (d a b : RegNo) (s : State) : Host.Outcome State Fault Refusal :=
  aluR p d a b (fun x y => x &&& ~~~y) s

/-- R145. Shift left by bits 5:0 of b. -/
def execSll (p : Proc) (d a b : RegNo) (s : State) : Host.Outcome State Fault Refusal :=
  aluR p d a b (fun x y => x <<< (y.toNat % 64)) s

/-- R145. Logical shift right by bits 5:0 of b. -/
def execSrl (p : Proc) (d a b : RegNo) (s : State) : Host.Outcome State Fault Refusal :=
  aluR p d a b (fun x y => x >>> (y.toNat % 64)) s

/-- R145. Arithmetic shift right by bits 5:0 of b. -/
def execSra (p : Proc) (d a b : RegNo) (s : State) : Host.Outcome State Fault Refusal :=
  aluR p d a b (fun x y => x.sshiftRight (y.toNat % 64)) s

/-- R145. Rotate right by bits 5:0 of b. -/
def execRor (p : Proc) (d a b : RegNo) (s : State) : Host.Outcome State Fault Refusal :=
  aluR p d a b (fun x y => x.rotateRight (y.toNat % 64)) s

/-- R145. d ← 1 if a < b, signed. -/
def execSlt (p : Proc) (d a b : RegNo) (s : State) : Host.Outcome State Fault Refusal :=
  aluR p d a b (fun x y => ofBool (x.slt y)) s

/-- R145. d ← 1 if a < b, unsigned. -/
def execSltu (p : Proc) (d a b : RegNo) (s : State) : Host.Outcome State Fault Refusal :=
  aluR p d a b (fun x y => ofBool (x.ult y)) s

/-- R145. The lesser, signed. -/
def execMin (p : Proc) (d a b : RegNo) (s : State) : Host.Outcome State Fault Refusal :=
  aluR p d a b (fun x y => if x.slt y then x else y) s

/-- R145. The lesser, unsigned. -/
def execMinu (p : Proc) (d a b : RegNo) (s : State) : Host.Outcome State Fault Refusal :=
  aluR p d a b (fun x y => if x.ult y then x else y) s

/-- R145. The greater, signed. -/
def execMax (p : Proc) (d a b : RegNo) (s : State) : Host.Outcome State Fault Refusal :=
  aluR p d a b (fun x y => if x.slt y then y else x) s

/-- R145. The greater, unsigned. -/
def execMaxu (p : Proc) (d a b : RegNo) (s : State) : Host.Outcome State Fault Refusal :=
  aluR p d a b (fun x y => if x.ult y then y else x) s

/-- R145. Leading zeros; 64 for zero. -/
def execClz (p : Proc) (d a : RegNo) (s : State) : Host.Outcome State Fault Refusal :=
  aluS p d a clz64 s

/-- R145. Trailing zeros; 64 for zero. -/
def execCtz (p : Proc) (d a : RegNo) (s : State) : Host.Outcome State Fault Refusal :=
  aluS p d a ctz64 s

/-- R145. Ones count. -/
def execPopc (p : Proc) (d a : RegNo) (s : State) : Host.Outcome State Fault Refusal :=
  aluS p d a popc64 s

/-- R163. Low 64 bits of the product. -/
def execMul (p : Proc) (d a b : RegNo) (s : State) : Host.Outcome State Fault Refusal :=
  aluR p d a b (fun x y => x * y) s

/-- R163. 32-bit low product, sign-extended. -/
def execMulw (p : Proc) (d a b : RegNo) (s : State) : Host.Outcome State Fault Refusal :=
  aluR p d a b (fun x y => sext32 (x * y)) s

/-- R163. High 64 bits of signed a × signed b. -/
def execMulhs (p : Proc) (d a b : RegNo) (s : State) : Host.Outcome State Fault Refusal :=
  aluR p d a b (fun x y => BitVec.ofInt 64 (x.toInt * y.toInt / 2 ^ 64)) s

/-- R163. High 64 bits of unsigned a × unsigned b. -/
def execMulhu (p : Proc) (d a b : RegNo) (s : State) : Host.Outcome State Fault Refusal :=
  aluR p d a b (fun x y => BitVec.ofNat 64 (x.toNat * y.toNat / 2 ^ 64)) s

/-- R163. High 64 bits of signed a × unsigned b. -/
def execMulhm (p : Proc) (d a b : RegNo) (s : State) : Host.Outcome State Fault Refusal :=
  aluR p d a b (fun x y => BitVec.ofInt 64 (x.toInt * y.toNat / 2 ^ 64)) s

/-- R164 to R166. Quotient, signed, 64-bit. -/
def execDiv (p : Proc) (d a b : RegNo) (s : State) : Host.Outcome State Fault Refusal :=
  divide p true false false d a b s

/-- R164 to R166. Quotient, unsigned, 64-bit. -/
def execDivu (p : Proc) (d a b : RegNo) (s : State) : Host.Outcome State Fault Refusal :=
  divide p false false false d a b s

/-- R164 to R166. Remainder, signed, 64-bit. -/
def execRem (p : Proc) (d a b : RegNo) (s : State) : Host.Outcome State Fault Refusal :=
  divide p true false true d a b s

/-- R164 to R166. Remainder, unsigned, 64-bit. -/
def execRemu (p : Proc) (d a b : RegNo) (s : State) : Host.Outcome State Fault Refusal :=
  divide p false false true d a b s

/-- R164 to R166. Quotient, signed, 32-bit. -/
def execDivw (p : Proc) (d a b : RegNo) (s : State) : Host.Outcome State Fault Refusal :=
  divide p true true false d a b s

/-- R164 to R166. Quotient, unsigned, 32-bit. -/
def execDivuw (p : Proc) (d a b : RegNo) (s : State) : Host.Outcome State Fault Refusal :=
  divide p false true false d a b s

/-- R164 to R166. Remainder, signed, 32-bit. -/
def execRemw (p : Proc) (d a b : RegNo) (s : State) : Host.Outcome State Fault Refusal :=
  divide p true true true d a b s

/-- R164 to R166. Remainder, unsigned, 32-bit. -/
def execRemuw (p : Proc) (d a b : RegNo) (s : State) : Host.Outcome State Fault Refusal :=
  divide p false true true d a b s

/-- R145. pc ← a, if bits 1:0 of the target are zero. -/
def execJr (p : Proc) (a : RegNo) (s : State) : Host.Outcome State Fault Refusal :=
  instr p s fun s => s.jumpTo p (s.gReg p a) false

/-- R145. lk ← pc + 4; pc ← a. -/
def execJalr (p : Proc) (a : RegNo) (s : State) : Host.Outcome State Fault Refusal :=
  instr p s fun s => s.jumpTo p (s.gReg p a) true

/-- R145. pc ← lk. -/
def execRet (p : Proc) (s : State) : Host.Outcome State Fault Refusal :=
  instr p s fun s => s.jumpTo p (s.proc (procNo p)).lk false

/-- R145. d ← lk. -/
def execMflk (p : Proc) (d : RegNo) (s : State) : Host.Outcome State Fault Refusal :=
  instr p s fun s => s.writeG p d (s.proc (procNo p)).lk

/-- R145. lk ← a. -/
def execMtlk (p : Proc) (a : RegNo) (s : State) : Host.Outcome State Fault Refusal :=
  instr p s fun s =>
    s.onProc p (fun x => { x with lk := x.getG a }.next)

/-- R150. Branch if a and b compare equal. -/
def execBeq (p : Proc) (a b : RegNo) (disp : BitVec 14) (s : State) : Host.Outcome State Fault Refusal :=
  branch p a b disp (fun x y => x == y) s

/-- R150. Branch if a and b compare not equal. -/
def execBne (p : Proc) (a b : RegNo) (disp : BitVec 14) (s : State) : Host.Outcome State Fault Refusal :=
  branch p a b disp (fun x y => x != y) s

/-- R150. Branch if a and b compare less, signed. -/
def execBlt (p : Proc) (a b : RegNo) (disp : BitVec 14) (s : State) : Host.Outcome State Fault Refusal :=
  branch p a b disp (fun x y => x.slt y) s

/-- R150. Branch if a and b compare not less, signed. -/
def execBge (p : Proc) (a b : RegNo) (disp : BitVec 14) (s : State) : Host.Outcome State Fault Refusal :=
  branch p a b disp (fun x y => !x.slt y) s

/-- R150. Branch if a and b compare less, unsigned. -/
def execBltu (p : Proc) (a b : RegNo) (disp : BitVec 14) (s : State) : Host.Outcome State Fault Refusal :=
  branch p a b disp (fun x y => x.ult y) s

/-- R150. Branch if a and b compare not less, unsigned. -/
def execBgeu (p : Proc) (a b : RegNo) (disp : BitVec 14) (s : State) : Host.Outcome State Fault Refusal :=
  branch p a b disp (fun x y => !x.ult y) s

/-- R150. Continue at pc + disp26 × 4. -/
def execJ (p : Proc) (disp : BitVec 26) (s : State) : Host.Outcome State Fault Refusal :=
  instr p s fun s => s.onProc p (fun x => x.setPc (x.pc + disp.signExtend 64 <<< 2))

/-- R150. lk ← pc + 4; continue at pc + disp26 × 4. -/
def execJal (p : Proc) (disp : BitVec 26) (s : State) : Host.Outcome State Fault Refusal :=
  instr p s fun s =>
    s.onProc p (fun x => { x with lk := x.pc + 4 }.setPc (x.pc + disp.signExtend 64 <<< 2))

end Sys2Proof.Machine
end

