-- ==== Sys2Proof/Machine/Mgmt.lean ====
section
/-!
DEFINITION. The management interfaces: MCTP packets and their rings (R422, R429), answers through a takeover gap
(R418), and PLDM with firmware update (R423, R425).
-/
namespace Sys2Proof.Machine
open Sys2Proof

/-! ### MCTP packets (DSP0236) -/

/-- R422: transmission unit of an interface: SMBus 64 bytes, else 256. Log 33 (PRESUMED). -/
def mctpUnit (i : Nat) : Nat := if i < 2 then 64 else 256

def mctpSom (p : Bytes) : Bool := leAt p 3 1 / 128 == 1
def mctpEom (p : Bytes) : Bool := leAt p 3 1 / 64 % 2 == 1
def mctpType (p : Bytes) : Nat := leAt p 4 1 % 128
/-- Source EID and tag: what the packets of one message have in common. -/
def mctpKey (p : Bytes) : Bytes := [p.getD 2 0, p.getD 3 0 &&& 0x0F]
/-- A control or PLDM message is a request. Log 33 (PRESUMED). -/
def mctpRequest (p : Bytes) : Bool := leAt p 5 1 / 128 == 1

/-- A one-packet response to the request in `p`: EIDs swapped, the tag not owned, the body after the type.
Log 33 (PRESUMED). -/
def mctpReply (p body : Bytes) : Bytes :=
  [p.getD 0 0, p.getD 2 0, p.getD 1 0, (p.getD 3 0 &&& 0x07) ||| 0xC0, p.getD 4 0, p.getD 5 0 &&& 0x1F] ++ body

/-- R418: ERROR_NOT_READY, to a control or a PLDM request. Log 33 (PRESUMED). -/
def notReady (p : Bytes) : Bytes :=
  mctpReply p (if mctpType p = 0 then [p.getD 6 0, 4] else [p.getD 6 0, p.getD 7 0, 4])

namespace State

/-- R401, R422: the interface carries packets: the module is seated, and for PCIe VDM its link is up. -/
def ifaceUp (s : State) (i : Nat) : Bool := s.pins.seated && (i != 2 || s.hep.l0)

/-- R429: a count of bank `i`. -/
def bankCount (s : State) (i o : Nat) : Nat := ofLe (s.ctlRead (mctpBank i + o) 4)
def setBankCount (s : State) (i o n : Nat) : State := s.ctlWrite (mctpBank i + o) (leBytes 4 n)

/-- R429: put a packet into a ring of bank `i` whose counts stand at `tail` and `head`; a full ring discards it. -/
def ringPut (s : State) (i base tail head : Nat) (phys : W64) (p : Bytes) : State :=
  let t := s.bankCount i tail
  if (t + 2 ^ 32 - s.bankCount i head) % 2 ^ 32 ≥ 32 then s
  else
    let slot := mctpBank i + base + 512 * (t % 32)
    (s.ctlWrite slot (leBytes 2 p.length ++ [0, 0] ++ leBytes 8 phys.toNat ++ p)).setBankCount i tail (t + 1)

/-- R422: Anvil firmware carries out Set Endpoint ID (DSP0236 command 0x01) and answers through the transmit ring.
Log 33 (PRESUMED). -/
def setEid (s : State) (i : Nat) (phys : W64) (p : Bytes) : State :=
  let eid := leAt p 8 1
  if mctpType p ≠ 0 ∨ !mctpRequest p ∨ leAt p 6 1 ≠ 1 ∨ 1 < leAt p 7 1 % 4 ∨ eid = 0 ∨ eid = 255 then s
  else
    let s := s.ctlPut (mctpBank i + 0x10) (BitVec.ofNat 8 eid)
    s.ringPut i 0x5000 8 0xC phys (mctpReply p [1, 0, 0, BitVec.ofNat 8 eid, 0])

/-- R422: a packet of an SPDM message goes to the Crucible responder, which answers the whole message. -/
def spdmPacket (s : State) (i : Nat) (p : Bytes) : State :=
  let held := s.start.mctp.get [] i
  let keep := fun (s : State) (b : Bytes) => { s with start := { s.start with mctp := s.start.mctp.set [] i b } }
  let got : Option Bytes :=
    if mctpSom p then some (p.drop 5) else if held.take 2 == mctpKey p then some (held.drop 2 ++ p.drop 4) else none
  match got with
  | none => s
  | some m => if mctpEom p then (keep s []).spdm (some (Fin.ofNat 4 i)) (.request m) else keep s (mctpKey p ++ m)

/-- R422, R418, R429: a packet arrives on interface `i`. Log 33 (PRESUMED). -/
def mctpIn (s : State) (i : Nat) (phys : W64) (p : Bytes) : State :=
  let partway := !mctpSom p && (s.start.mctp.get [] i) != [] && (s.start.mctp.get [] i).take 2 == mctpKey p
  if p.length < 5 ∨ mctpUnit i + 4 < p.length ∨ !s.ifaceUp i then s
  else if (mctpSom p && mctpType p == 5) || partway then s.spdmPacket i p
  else if !s.anvilActive then
    if mctpSom p && decide (mctpType p ≤ 1) && mctpRequest p then s.emit (.mctp i (notReady p)) else s
  else
    let s := s.ringPut i 0x1000 0 4 phys p
    if mctpSom p then s.setEid i phys p else s

/-- R429: the interface has sent the oldest packet of its transmit ring. -/
def mctpSent (s : State) (i : Nat) : State :=
  let h := s.bankCount i 0xC
  if h = s.bankCount i 8 ∨ !s.ifaceUp i then s
  else
    let slot := mctpBank i + 0x5000 + 512 * (h % 32)
    let n := min (ofLe (s.ctlRead slot 2)) 500
    (s.emit (.mctp i (s.ctlRead (slot + 12) n))).setBankCount i 0xC (h + 1)

/-! ### PLDM -/

/-- R437: the step of a start that runs: 11 once ready, and at a halt the step that failed. -/
def startStep (s : State) : Nat :=
  match s.phase with
  | .off => 0
  | .starting n _ => n + 1
  | .halted n => n
  | .ready => 11

/-- R423, R437: the readings of the sensors that registers hold: voltage, current and power of each feed, the bus and the
intermediate, uncleared classes, the two Anvils' states, the power state, and the step of a start. Junction and coolant
temperatures are no state of the module (log 92). -/
def sensors (s : State) : List Nat :=
  ([0, 1] : List Nat).flatMap (fun n =>
      [PWR_FEED.VOLTAGE, PWR_FEED.CURRENT, PWR_FEED.POWER].map (fun f => s.fld (PWR_FEED n) f)) ++
    [s.fld PWR_BUS PWR_BUS.BUS, s.fld PWR_BUS PWR_BUS.INTERMEDIATE, s.fld FLT_STATUS FLT_STATUS.UNCLEARED,
     s.anvilState false, s.anvilState true, s.fld PWR_STATUS PWR_STATUS.STATE, s.startStep]

/-- R425: firmware update data lands in the bank not in use. Log 37 (PRESUMED). Log 71 (DEDUCED). -/
def bundleWrite (s : State) (o : Nat) (d : Bytes) : State :=
  let n := s.spareBank
  let b := s.bank n
  let s := s.setBank n (padTo o b ++ d ++ b.drop (o + d.length))
  { s with anv := { s.anv with bundlePending := false } }

/-- R418, R423, R442: a PLDM request reaches Anvil firmware, or the interface answers for it. The answer of `apply` is the
result that ApplyComplete carries; a request on an SMBus interface takes its pending event (log 38).
Log 36 (DEDUCED). Log 37 (PRESUMED). -/
def pldm (s : State) (i : Nat) (op : PldmOp) : State :=
  if !s.anvilActive then
    match op with
    | .event => s
    | .request d => s.emit (.pldm ([d.getD 0 0 &&& 0x1F, d.getD 1 0, d.getD 2 0, 4]))
    | _ => s.emit (.mctp i [4])
  else match op with
    | .request d =>
      let answer := Config.pldmAnswer s.rand s.sensors d
      let s := { s with rand := s.rand + 1 }
      let s := if i < 2 then s.setBit ANV_OUT ⟨1 + i, 1⟩ false else s
      s.emit (.pldm answer)
    | .event => s.pldmEvent
    | .write o d => s.bundleWrite o d
    | .apply =>
      if s.bundleOk (s.bank s.spareBank) then s.acceptBundle.emit (.pldm [0]) else s.emit (.pldm [1])

end State

/-- R422: `phys` is the physical address that the interface took the packet from. -/
def execMctpPacket (iface : Fin 4) (phys : W64) (packet : Bytes) (s : State) : Host.Outcome State Fault Refusal :=
  onRails s fun s => s.mctpIn iface.val phys packet

/-- R429. -/
def execMctpPacketSent (iface : Fin 4) (s : State) : Host.Outcome State Fault Refusal :=
  onRails s fun s => s.mctpSent iface.val

/-- R423. Log 36 (DEDUCED). -/
def execPldmRequest (iface : Fin 4) (op : PldmOp) (s : State) : Host.Outcome State Fault Refusal :=
  onRails s fun s => if op = .event ∨ s.ifaceUp iface.val then s.pldm iface.val op else s

end Sys2Proof.Machine
end

