-- ==== Sys2Proof/Machine/Dispatch.lean ====
section
/-!
DEFINITION. One arm per command: each is one call of its meaning.
-/
namespace Sys2Proof.Machine

def exec (i : Instr) (s : State) : Host.Outcome State Fault Refusal :=
  match i with
  | .powerOn x => Sys2Proof.Machine.execPowerOn x s
  | .moduleReset starter x => Sys2Proof.Machine.execModuleReset starter x s
  | .gddr7TrainingComplete failed lost => Sys2Proof.Machine.execGddr7TrainingComplete failed lost s
  | .recoveryScan => Sys2Proof.Machine.execRecoveryScan s
  | .replay => Sys2Proof.Machine.execReplay s
  | .startupStepOverrun => Sys2Proof.Machine.execStartupStepOverrun s
  | .bridgeHalfFailure b half => Sys2Proof.Machine.execBridgeHalfFailure b half s
  | .bridgeFailure b => Sys2Proof.Machine.execBridgeFailure b s
  | .journalBlockWriteComplete die seq failed => Sys2Proof.Machine.execJournalBlockWriteComplete die seq failed s
  | .snapshotGeneration => Sys2Proof.Machine.execSnapshotGeneration s
  | .rowRetire die row => Sys2Proof.Machine.execRowRetire die row s
  | .journalDieFailed die => Sys2Proof.Machine.execJournalDieFailed die s
  | .bothFeedsLostReport => Sys2Proof.Machine.execBothFeedsLostReport s
  | .mirrorRecord partner number blocks posted => Sys2Proof.Machine.execMirrorRecord partner number blocks posted s
  | .mirrorAck partner number => Sys2Proof.Machine.execMirrorAck partner number s
  | .heartbeatTimer partner port => Sys2Proof.Machine.execHeartbeatTimer partner port s
  | .heartbeat partner port index number echo => Sys2Proof.Machine.execHeartbeat partner port index number echo s
  | .fenceTimeout partner => Sys2Proof.Machine.execFenceTimeout partner s
  | .takeoverTimeout partner => Sys2Proof.Machine.execTakeoverTimeout partner s
  | .contactReturn partner adoptedOurs => Sys2Proof.Machine.execContactReturn partner adoptedOurs s
  | .registerWrite who f w => Sys2Proof.Machine.execRegisterWrite who f w s
  | .atomicOpTlp f => Sys2Proof.Machine.execAtomicOpTlp f s
  | .configRequest f op => Sys2Proof.Machine.execConfigRequest f op s
  | .busMasterEnable f on => Sys2Proof.Machine.execBusMasterEnable f on s
  | .vfEnable on => Sys2Proof.Machine.execVfEnable on s
  | .perstAssert => Sys2Proof.Machine.execPerstAssert s
  | .perstDeassert => Sys2Proof.Machine.execPerstDeassert s
  | .hotReset => Sys2Proof.Machine.execHotReset s
  | .flrVf v => Sys2Proof.Machine.execFlrVf v s
  | .flrPf => Sys2Proof.Machine.execFlrPf s
  | .flrDrainComplete f => Sys2Proof.Machine.execFlrDrainComplete f s
  | .flrDrainDeadline f => Sys2Proof.Machine.execFlrDrainDeadline f s
  | .completionTlp tag st data => Sys2Proof.Machine.execCompletionTlp tag st data s
  | .completionTimeout tag => Sys2Proof.Machine.execCompletionTimeout tag s
  | .freezeTrigger c f stream => Sys2Proof.Machine.execFreezeTrigger c f stream s
  | .hepFreezeRelease => Sys2Proof.Machine.execHepFreezeRelease s
  | .atsInvalidateRequest itag f base size => Sys2Proof.Machine.execAtsInvalidateRequest itag f base size s
  | .atsInvalidateCompletion itag f => Sys2Proof.Machine.execAtsInvalidateCompletion itag f s
  | .spdmRequest iface op => Sys2Proof.Machine.execSpdmRequest iface op s
  | .stopInterfaceRequest v => Sys2Proof.Machine.execStopInterfaceRequest v s
  | .peerWindowTlp write off len data => Sys2Proof.Machine.execPeerWindowTlp write off len data s
  | .winCommit w => Sys2Proof.Machine.execWinCommit w s
  | .winCommitDrained => Sys2Proof.Machine.execWinCommitDrained s
  | .wakePageWrite f bar2 w => Sys2Proof.Machine.execWakePageWrite f bar2 w s
  | .pollIntervalExpiry f => Sys2Proof.Machine.execPollIntervalExpiry f s
  | .completionPost f c => Sys2Proof.Machine.execCompletionPost f c s
  | .coalescingTimer f c => Sys2Proof.Machine.execCoalescingTimer f c s
  | .ringSqEnable f r v => Sys2Proof.Machine.execRingSqEnable f r v s
  | .ringSqDisable f r => Sys2Proof.Machine.execRingSqDisable f r s
  | .ringCqCfgWrite f c v => Sys2Proof.Machine.execRingCqCfgWrite f c v s
  | .resyncGo f v => Sys2Proof.Machine.execResyncGo f v s
  | .nop f => Sys2Proof.Machine.execNop f s
  | .resync f => Sys2Proof.Machine.execResync f s
  | .ringDrain f => Sys2Proof.Machine.execRingDrain f s
  | .drainComplete f r => Sys2Proof.Machine.execDrainComplete f r s
  | .ringReset f => Sys2Proof.Machine.execRingReset f s
  | .ringMirror f => Sys2Proof.Machine.execRingMirror f s
  | .ringAdopt f => Sys2Proof.Machine.execRingAdopt f s
  | .ringPurge f => Sys2Proof.Machine.execRingPurge f s
  | .vfSetRings f => Sys2Proof.Machine.execVfSetRings f s
  | .vfSetWindows f => Sys2Proof.Machine.execVfSetWindows f s
  | .vfSetKeyquota f => Sys2Proof.Machine.execVfSetKeyquota f s
  | .vfSetCompshare f => Sys2Proof.Machine.execVfSetCompshare f s
  | .vfSetMeterclass f => Sys2Proof.Machine.execVfSetMeterclass f s
  | .adminOpcodeUnknown f => Sys2Proof.Machine.execAdminOpcodeUnknown f s
  | .pairBindRequest pair value => Sys2Proof.Machine.execPairBindRequest pair value s
  | .ownerConfirmation kind index => Sys2Proof.Machine.execOwnerConfirmation kind index s
  | .unitStart part e => Sys2Proof.Machine.execUnitStart part e s
  | .unitPrepared f r asn => Sys2Proof.Machine.execUnitPrepared f r asn s
  | .unitRestart f r asn poison => Sys2Proof.Machine.execUnitRestart f r asn poison s
  | .partitionStop part => Sys2Proof.Machine.execPartitionStop part s
  | .illegalInstruction p word => Sys2Proof.Machine.execIllegalInstruction p word s
  | .addi p d a imm => Sys2Proof.Machine.execAddi p d a imm s
  | .addiw p d a imm => Sys2Proof.Machine.execAddiw p d a imm s
  | .andi p d a imm => Sys2Proof.Machine.execAndi p d a imm s
  | .ori p d a imm => Sys2Proof.Machine.execOri p d a imm s
  | .xori p d a imm => Sys2Proof.Machine.execXori p d a imm s
  | .slti p d a imm => Sys2Proof.Machine.execSlti p d a imm s
  | .sltiu p d a imm => Sys2Proof.Machine.execSltiu p d a imm s
  | .slli p d a n => Sys2Proof.Machine.execSlli p d a n s
  | .srli p d a n => Sys2Proof.Machine.execSrli p d a n s
  | .srai p d a n => Sys2Proof.Machine.execSrai p d a n s
  | .rori p d a n => Sys2Proof.Machine.execRori p d a n s
  | .himm p d imm => Sys2Proof.Machine.execHimm p d imm s
  | .himmpc p d imm => Sys2Proof.Machine.execHimmpc p d imm s
  | .add p d a b => Sys2Proof.Machine.execAdd p d a b s
  | .sub p d a b => Sys2Proof.Machine.execSub p d a b s
  | .addw p d a b => Sys2Proof.Machine.execAddw p d a b s
  | .subw p d a b => Sys2Proof.Machine.execSubw p d a b s
  | .and p d a b => Sys2Proof.Machine.execAnd p d a b s
  | .or p d a b => Sys2Proof.Machine.execOr p d a b s
  | .xor p d a b => Sys2Proof.Machine.execXor p d a b s
  | .andn p d a b => Sys2Proof.Machine.execAndn p d a b s
  | .sll p d a b => Sys2Proof.Machine.execSll p d a b s
  | .srl p d a b => Sys2Proof.Machine.execSrl p d a b s
  | .sra p d a b => Sys2Proof.Machine.execSra p d a b s
  | .ror p d a b => Sys2Proof.Machine.execRor p d a b s
  | .slt p d a b => Sys2Proof.Machine.execSlt p d a b s
  | .sltu p d a b => Sys2Proof.Machine.execSltu p d a b s
  | .min p d a b => Sys2Proof.Machine.execMin p d a b s
  | .minu p d a b => Sys2Proof.Machine.execMinu p d a b s
  | .max p d a b => Sys2Proof.Machine.execMax p d a b s
  | .maxu p d a b => Sys2Proof.Machine.execMaxu p d a b s
  | .clz p d a => Sys2Proof.Machine.execClz p d a s
  | .ctz p d a => Sys2Proof.Machine.execCtz p d a s
  | .popc p d a => Sys2Proof.Machine.execPopc p d a s
  | .mul p d a b => Sys2Proof.Machine.execMul p d a b s
  | .mulw p d a b => Sys2Proof.Machine.execMulw p d a b s
  | .mulhs p d a b => Sys2Proof.Machine.execMulhs p d a b s
  | .mulhu p d a b => Sys2Proof.Machine.execMulhu p d a b s
  | .mulhm p d a b => Sys2Proof.Machine.execMulhm p d a b s
  | .div p d a b => Sys2Proof.Machine.execDiv p d a b s
  | .divu p d a b => Sys2Proof.Machine.execDivu p d a b s
  | .rem p d a b => Sys2Proof.Machine.execRem p d a b s
  | .remu p d a b => Sys2Proof.Machine.execRemu p d a b s
  | .divw p d a b => Sys2Proof.Machine.execDivw p d a b s
  | .divuw p d a b => Sys2Proof.Machine.execDivuw p d a b s
  | .remw p d a b => Sys2Proof.Machine.execRemw p d a b s
  | .remuw p d a b => Sys2Proof.Machine.execRemuw p d a b s
  | .jr p a => Sys2Proof.Machine.execJr p a s
  | .jalr p a => Sys2Proof.Machine.execJalr p a s
  | .ret p => Sys2Proof.Machine.execRet p s
  | .mflk p d => Sys2Proof.Machine.execMflk p d s
  | .mtlk p a => Sys2Proof.Machine.execMtlk p a s
  | .fadd p fmt rm d a b => Sys2Proof.Machine.execFadd p fmt rm d a b s
  | .fsub p fmt rm d a b => Sys2Proof.Machine.execFsub p fmt rm d a b s
  | .fmul p fmt rm d a b => Sys2Proof.Machine.execFmul p fmt rm d a b s
  | .fdiv p fmt rm d a b => Sys2Proof.Machine.execFdiv p fmt rm d a b s
  | .fsqrt p fmt rm d a => Sys2Proof.Machine.execFsqrt p fmt rm d a s
  | .fmin p fmt d a b => Sys2Proof.Machine.execFmin p fmt d a b s
  | .fmax p fmt d a b => Sys2Proof.Machine.execFmax p fmt d a b s
  | .fcvt p fmt rm d a => Sys2Proof.Machine.execFcvt p fmt rm d a s
  | .fcvti p fmt rm d a => Sys2Proof.Machine.execFcvti p fmt rm d a s
  | .fcvtiu p fmt rm d a => Sys2Proof.Machine.execFcvtiu p fmt rm d a s
  | .fcvtw p fmt rm d a => Sys2Proof.Machine.execFcvtw p fmt rm d a s
  | .fcvtwu p fmt rm d a => Sys2Proof.Machine.execFcvtwu p fmt rm d a s
  | .fcvtf p fmt rm d a => Sys2Proof.Machine.execFcvtf p fmt rm d a s
  | .fcvtfu p fmt rm d a => Sys2Proof.Machine.execFcvtfu p fmt rm d a s
  | .fcvtfw p fmt rm d a => Sys2Proof.Machine.execFcvtfw p fmt rm d a s
  | .fcvtfwu p fmt rm d a => Sys2Proof.Machine.execFcvtfwu p fmt rm d a s
  | .feq p fmt d a b => Sys2Proof.Machine.execFeq p fmt d a b s
  | .flt p fmt d a b => Sys2Proof.Machine.execFlt p fmt d a b s
  | .fle p fmt d a b => Sys2Proof.Machine.execFle p fmt d a b s
  | .funord p fmt d a b => Sys2Proof.Machine.execFunord p fmt d a b s
  | .fneg p fmt d a => Sys2Proof.Machine.execFneg p fmt d a s
  | .fabs p fmt d a => Sys2Proof.Machine.execFabs p fmt d a s
  | .fcpysgn p fmt d a b => Sys2Proof.Machine.execFcpysgn p fmt d a b s
  | .fmvtg p fmt d a => Sys2Proof.Machine.execFmvtg p fmt d a s
  | .fmvfg p fmt d a => Sys2Proof.Machine.execFmvfg p fmt d a s
  | .fkind p fmt d a => Sys2Proof.Machine.execFkind p fmt d a s
  | .ffma p fmt d a b c => Sys2Proof.Machine.execFfma p fmt d a b c s
  | .ffms p fmt d a b c => Sys2Proof.Machine.execFfms p fmt d a b c s
  | .ffna p fmt d a b c => Sys2Proof.Machine.execFfna p fmt d a b c s
  | .ffns p fmt d a b c => Sys2Proof.Machine.execFfns p fmt d a b c s
  | .cas p d a b => Sys2Proof.Machine.execCas p d a b s
  | .casw p d a b => Sys2Proof.Machine.execCasw p d a b s
  | .swap p d a b => Sys2Proof.Machine.execSwap p d a b s
  | .swapw p d a b => Sys2Proof.Machine.execSwapw p d a b s
  | .aadd p d a b => Sys2Proof.Machine.execAadd p d a b s
  | .aaddw p d a b => Sys2Proof.Machine.execAaddw p d a b s
  | .aand p d a b => Sys2Proof.Machine.execAand p d a b s
  | .aandw p d a b => Sys2Proof.Machine.execAandw p d a b s
  | .aor p d a b => Sys2Proof.Machine.execAor p d a b s
  | .aorw p d a b => Sys2Proof.Machine.execAorw p d a b s
  | .lb p t a u imm => Sys2Proof.Machine.execLb p t a u imm s
  | .lbu p t a u imm => Sys2Proof.Machine.execLbu p t a u imm s
  | .lh p t a u imm => Sys2Proof.Machine.execLh p t a u imm s
  | .lhu p t a u imm => Sys2Proof.Machine.execLhu p t a u imm s
  | .lw p t a u imm => Sys2Proof.Machine.execLw p t a u imm s
  | .lwu p t a u imm => Sys2Proof.Machine.execLwu p t a u imm s
  | .ld p t a u imm => Sys2Proof.Machine.execLd p t a u imm s
  | .flw p t a u imm => Sys2Proof.Machine.execFlw p t a u imm s
  | .fld p t a u imm => Sys2Proof.Machine.execFld p t a u imm s
  | .sb p t a u imm => Sys2Proof.Machine.execSb p t a u imm s
  | .sh p t a u imm => Sys2Proof.Machine.execSh p t a u imm s
  | .sw p t a u imm => Sys2Proof.Machine.execSw p t a u imm s
  | .sd p t a u imm => Sys2Proof.Machine.execSd p t a u imm s
  | .fsw p t a u imm => Sys2Proof.Machine.execFsw p t a u imm s
  | .fsd p t a u imm => Sys2Proof.Machine.execFsd p t a u imm s
  | .beq p a b disp => Sys2Proof.Machine.execBeq p a b disp s
  | .bne p a b disp => Sys2Proof.Machine.execBne p a b disp s
  | .blt p a b disp => Sys2Proof.Machine.execBlt p a b disp s
  | .bge p a b disp => Sys2Proof.Machine.execBge p a b disp s
  | .bltu p a b disp => Sys2Proof.Machine.execBltu p a b disp s
  | .bgeu p a b disp => Sys2Proof.Machine.execBgeu p a b disp s
  | .j p disp => Sys2Proof.Machine.execJ p disp s
  | .jal p disp => Sys2Proof.Machine.execJal p disp s
  | .lds p t sz addr => Sys2Proof.Machine.execLds p t sz addr s
  | .sts p t sz addr => Sys2Proof.Machine.execSts p t sz addr s
  | .syscall p => Sys2Proof.Machine.execSyscall p s
  | .hvcall p => Sys2Proof.Machine.execHvcall p s
  | .brk p => Sys2Proof.Machine.execBrk p s
  | .eret p => Sys2Proof.Machine.execEret p s
  | .wexit p a => Sys2Proof.Machine.execWexit p a s
  | .fence p => Sys2Proof.Machine.execFence p s
  | .fenced p => Sys2Proof.Machine.execFenced p s
  | .fencei p => Sys2Proof.Machine.execFencei p s
  | .idle p => Sys2Proof.Machine.execIdle p s
  | .mfs p d n => Sys2Proof.Machine.execMfs p d n s
  | .mts p d n => Sys2Proof.Machine.execMts p d n s
  | .uinfo p d sel => Sys2Proof.Machine.execUinfo p d sel s
  | .ucommit p a => Sys2Proof.Machine.execUcommit p a s
  | .uabort p a => Sys2Proof.Machine.execUabort p a s
  | .enq p d a b => Sys2Proof.Machine.execEnq p d a b s
  | .supervisorTimerExpiry p => Sys2Proof.Machine.execSupervisorTimerExpiry p s
  | .hypervisorTimerExpiry p => Sys2Proof.Machine.execHypervisorTimerExpiry p s
  | .interruptTake p cause => Sys2Proof.Machine.execInterruptTake p cause s
  | .compareMismatch v lane agrees => Sys2Proof.Machine.execCompareMismatch v lane agrees s
  | .splitCheckError v agrees => Sys2Proof.Machine.execSplitCheckError v agrees s
  | .assayVerdict v codeA codeB routeOk parityOk => Sys2Proof.Machine.execAssayVerdict v codeA codeB routeOk parityOk s
  | .clusterLoss c => Sys2Proof.Machine.execClusterLoss c s
  | .pairInjectGo v => Sys2Proof.Machine.execPairInjectGo v s
  | .injectionDone v miss => Sys2Proof.Machine.execInjectionDone v miss s
  | .rds a l bad codeBad => Sys2Proof.Machine.execRds a l bad codeBad s
  | .rdx a l bad codeBad => Sys2Proof.Machine.execRdx a l bad codeBad s
  | .upg a l => Sys2Proof.Machine.execUpg a l s
  | .chk a l w => Sys2Proof.Machine.execChk a l w s
  | .iord w l bad codeBad => Sys2Proof.Machine.execIord w l bad codeBad s
  | .iowr w l off data => Sys2Proof.Machine.execIowr w l off data s
  | .wbd a l kind => Sys2Proof.Machine.execWbd a l kind s
  | .wbclean a l => Sys2Proof.Machine.execWbclean a l s
  | .iodata a l => Sys2Proof.Machine.execIodata a l s
  | .fwds a l => Sys2Proof.Machine.execFwds a l s
  | .fwdx a l => Sys2Proof.Machine.execFwdx a l s
  | .fwdpeek a l => Sys2Proof.Machine.execFwdpeek a l s
  | .inv a l => Sys2Proof.Machine.execInv a l s
  | .recall a l => Sys2Proof.Machine.execRecall a l s
  | .recallDiscard a l => Sys2Proof.Machine.execRecallDiscard a l s
  | .data a l => Sys2Proof.Machine.execData a l s
  | .datae a l => Sys2Proof.Machine.execDatae a l s
  | .datad a l => Sys2Proof.Machine.execDatad a l s
  | .grant a l => Sys2Proof.Machine.execGrant a l s
  | .ack a l => Sys2Proof.Machine.execAck a l s
  | .invack a l => Sys2Proof.Machine.execInvack a l s
  | .fwdack a l sent dirty kept => Sys2Proof.Machine.execFwdack a l sent dirty kept s
  | .nack a l => Sys2Proof.Machine.execNack a l s
  | .wback a l => Sys2Proof.Machine.execWback a l s
  | .wbstale a l => Sys2Proof.Machine.execWbstale a l s
  | .chkok a l => Sys2Proof.Machine.execChkok a l s
  | .chkref a l => Sys2Proof.Machine.execChkref a l s
  | .nackRetryTimer a l => Sys2Proof.Machine.execNackRetryTimer a l s
  | .cacheCheckFail k a l way => Sys2Proof.Machine.execCacheCheckFail k a l way s
  | .declareAgentDead a => Sys2Proof.Machine.execDeclareAgentDead a s
  | .deadAgentSweepDone h a => Sys2Proof.Machine.execDeadAgentSweepDone h a s
  | .snoopTimeout h l => Sys2Proof.Machine.execSnoopTimeout h l s
  | .channelAccessTimeout h => Sys2Proof.Machine.execChannelAccessTimeout h s
  | .memGroupRebuild g ok => Sys2Proof.Machine.execMemGroupRebuild g ok s
  | .rebuildComplete g => Sys2Proof.Machine.execRebuildComplete g s
  | .planishRow bad codes parityBad => Sys2Proof.Machine.execPlanishRow bad codes parityBad s
  | .calibrationWindowStart => Sys2Proof.Machine.execCalibrationWindowStart s
  | .calibrationVerify newOk oldOk => Sys2Proof.Machine.execCalibrationVerify newOk oldOk s
  | .catchUpComplete => Sys2Proof.Machine.execCatchUpComplete s
  | .matchedDelayRetune die => Sys2Proof.Machine.execMatchedDelayRetune die s
  | .haRegionWrite n ctl v => Sys2Proof.Machine.execHaRegionWrite n ctl v s
  | .swgQCfgWrite n v => Sys2Proof.Machine.execSwgQCfgWrite n v s
  | .swageCompress n e mismatch => Sys2Proof.Machine.execSwageCompress n e mismatch s
  | .swageDecompress n e mismatch => Sys2Proof.Machine.execSwageDecompress n e mismatch s
  | .deflateCompress n e mismatch => Sys2Proof.Machine.execDeflateCompress n e mismatch s
  | .deflateDecompress n e mismatch => Sys2Proof.Machine.execDeflateDecompress n e mismatch s
  | .saveStream n e => Sys2Proof.Machine.execSaveStream n e s
  | .restoreStream n e => Sys2Proof.Machine.execRestoreStream n e s
  | .arbitrationRound half => Sys2Proof.Machine.execArbitrationRound half s
  | .cipQCfgWrite n v => Sys2Proof.Machine.execCipQCfgWrite n v s
  | .gcmEncrypt n step => Sys2Proof.Machine.execGcmEncrypt n step s
  | .gcmDecrypt n step => Sys2Proof.Machine.execGcmDecrypt n step s
  | .xtsEncrypt n step => Sys2Proof.Machine.execXtsEncrypt n step s
  | .xtsDecrypt n step => Sys2Proof.Machine.execXtsDecrypt n step s
  | .sha384 n step => Sys2Proof.Machine.execSha384 n step s
  | .hmacGenerate n step => Sys2Proof.Machine.execHmacGenerate n step s
  | .hmacVerify n step => Sys2Proof.Machine.execHmacVerify n step s
  | .cklLoad => Sys2Proof.Machine.execCklLoad s
  | .cklClear => Sys2Proof.Machine.execCklClear s
  | .chnQCfgWrite n v => Sys2Proof.Machine.execChnQCfgWrite n v s
  | .chnDevWrite d k v => Sys2Proof.Machine.execChnDevWrite d k v s
  | .runProgram n => Sys2Proof.Machine.execRunProgram n s
  | .invalidateRange n => Sys2Proof.Machine.execInvalidateRange n s
  | .lockFillRange n => Sys2Proof.Machine.execLockFillRange n s
  | .unlockRange n => Sys2Proof.Machine.execUnlockRange n s
  | .channelRead pid => Sys2Proof.Machine.execChannelRead pid s
  | .channelWrite pid => Sys2Proof.Machine.execChannelWrite pid s
  | .tentativeWrite pid => Sys2Proof.Machine.execTentativeWrite pid s
  | .channelCommit pid => Sys2Proof.Machine.execChannelCommit pid s
  | .channelAbort pid => Sys2Proof.Machine.execChannelAbort pid s
  | .control pid => Sys2Proof.Machine.execControl pid s
  | .sense pid => Sys2Proof.Machine.execSense pid s
  | .jump pid => Sys2Proof.Machine.execJump pid s
  | .wait pid => Sys2Proof.Machine.execWait pid s
  | .waitPoll pid => Sys2Proof.Machine.execWaitPoll pid s
  | .waitTimeout pid => Sys2Proof.Machine.execWaitTimeout pid s
  | .chainCompression pid => Sys2Proof.Machine.execChainCompression pid s
  | .chainCipher pid => Sys2Proof.Machine.execChainCipher pid s
  | .chainedRequestComplete pid => Sys2Proof.Machine.execChainedRequestComplete pid s
  | .descriptorFillComplete e line world => Sys2Proof.Machine.execDescriptorFillComplete e line world s
  | .chnInval v => Sys2Proof.Machine.execChnInval v s
  | .descriptorCacheCheckFail e entry => Sys2Proof.Machine.execDescriptorCacheCheckFail e entry s
  | .assocEnable a v => Sys2Proof.Machine.execAssocEnable a v s
  | .establishTimer a => Sys2Proof.Machine.execEstablishTimer a s
  | .keepaliveTimer a => Sys2Proof.Machine.execKeepaliveTimer a s
  | .probeFrame p b => Sys2Proof.Machine.execProbeFrame p b s
  | .dataFrame p b => Sys2Proof.Machine.execDataFrame p b s
  | .statusFrame p b => Sys2Proof.Machine.execStatusFrame p b s
  | .ackFrame p b => Sys2Proof.Machine.execAckFrame p b s
  | .durableAck p b => Sys2Proof.Machine.execDurableAck p b s
  | .nackFrame p b => Sys2Proof.Machine.execNackFrame p b s
  | .retransmitTimer a => Sys2Proof.Machine.execRetransmitTimer a s
  | .portLinkDown p => Sys2Proof.Machine.execPortLinkDown p s
  | .portLinkUp p => Sys2Proof.Machine.execPortLinkUp p s
  | .commitReissueTimer xid d => Sys2Proof.Machine.execCommitReissueTimer xid d s
  | .mailboxGo m w block => Sys2Proof.Machine.execMailboxGo m w block s
  | .getChain m host => Sys2Proof.Machine.execGetChain m host s
  | .register m host => Sys2Proof.Machine.execRegister m host s
  | .seal m host => Sys2Proof.Machine.execSeal m host s
  | .report m host => Sys2Proof.Machine.execReport m host s
  | .keyLoad m host => Sys2Proof.Machine.execKeyLoad m host s
  | .keyClear m host => Sys2Proof.Machine.execKeyClear m host s
  | .resume m host => Sys2Proof.Machine.execResume m host s
  | .stop m host => Sys2Proof.Machine.execStop m host s
  | .release m host => Sys2Proof.Machine.execRelease m host s
  | .releaseCleaningComplete p => Sys2Proof.Machine.execReleaseCleaningComplete p s
  | .standby m host => Sys2Proof.Machine.execStandby m host s
  | .secretSet m host => Sys2Proof.Machine.execSecretSet m host s
  | .meterGet m host => Sys2Proof.Machine.execMeterGet m host s
  | .serviceRunStart part e => Sys2Proof.Machine.execServiceRunStart part e s
  | .cruWdog => Sys2Proof.Machine.execCruWdog s
  | .crucibleWatchdogExpiry mismatch => Sys2Proof.Machine.execCrucibleWatchdogExpiry mismatch s
  | .crucibleRestartComplete ok => Sys2Proof.Machine.execCrucibleRestartComplete ok s
  | .drainLeaseExpiry d => Sys2Proof.Machine.execDrainLeaseExpiry d s
  | .leaseRelease d => Sys2Proof.Machine.execLeaseRelease d s
  | .meterBoundary => Sys2Proof.Machine.execMeterBoundary s
  | .meterBatchSign => Sys2Proof.Machine.execMeterBatchSign s
  | .clockMonitorTrip k edges => Sys2Proof.Machine.execClockMonitorTrip k edges s
  | .clockQualified k => Sys2Proof.Machine.execClockQualified k s
  | .muxForcedSwitch d => Sys2Proof.Machine.execMuxForcedSwitch d s
  | .holdoverExpiry d => Sys2Proof.Machine.execHoldoverExpiry d s
  | .timeMessageTimer => Sys2Proof.Machine.execTimeMessageTimer s
  | .timeMessage port count delay => Sys2Proof.Machine.execTimeMessage port count delay s
  | .feedLoss n => Sys2Proof.Machine.execFeedLoss n s
  | .feedReturn n absence keep => Sys2Proof.Machine.execFeedReturn n absence keep s
  | .feedQualified n => Sys2Proof.Machine.execFeedQualified n s
  | .busUndervoltage => Sys2Proof.Machine.execBusUndervoltage s
  | .porComparatorTrip => Sys2Proof.Machine.execPorComparatorTrip s
  | .busStableTimer x => Sys2Proof.Machine.execBusStableTimer x s
  | .bellowsStatusFrame ok feed0 feed1 bus => Sys2Proof.Machine.execBellowsStatusFrame ok feed0 feed1 bus s
  | .isolatedLinkLost => Sys2Proof.Machine.execIsolatedLinkLost s
  | .powerFailLine => Sys2Proof.Machine.execPowerFailLine s
  | .latch48vOffTimer => Sys2Proof.Machine.execLatch48vOffTimer s
  | .pwrVpointWrite c n => Sys2Proof.Machine.execPwrVpointWrite c n s
  | .vpointRampComplete c => Sys2Proof.Machine.execVpointRampComplete c s
  | .domainSwitchOff d => Sys2Proof.Machine.execDomainSwitchOff d s
  | .domainSwitchOn d => Sys2Proof.Machine.execDomainSwitchOn d s
  | .domainSwitchOffComplete d => Sys2Proof.Machine.execDomainSwitchOffComplete d s
  | .domainSwitchOnComplete d x => Sys2Proof.Machine.execDomainSwitchOnComplete d x s
  | .domainFault d => Sys2Proof.Machine.execDomainFault d s
  | .pwrRemove => Sys2Proof.Machine.execPwrRemove s
  | .presenceSeated => Sys2Proof.Machine.execPresenceSeated s
  | .presenceBreak => Sys2Proof.Machine.execPresenceBreak s
  | .presencePinSingle => Sys2Proof.Machine.execPresencePinSingle s
  | .faultEvent e => Sys2Proof.Machine.execFaultEvent e s
  | .class3ResetDeadline x => Sys2Proof.Machine.execClass3ResetDeadline x s
  | .junctionOvertemp die => Sys2Proof.Machine.execJunctionOvertemp die s
  | .hotReportTimer die hot => Sys2Proof.Machine.execHotReportTimer die hot s
  | .fltClear v => Sys2Proof.Machine.execFltClear v s
  | .intakeRelease => Sys2Proof.Machine.execIntakeRelease s
  | .vectorTrigger v value => Sys2Proof.Machine.execVectorTrigger v value s
  | .hypervisorTrigger value => Sys2Proof.Machine.execHypervisorTrigger value s
  | .recoveryProcedureStep n => Sys2Proof.Machine.execRecoveryProcedureStep n s
  | .lkRenew b => Sys2Proof.Machine.execLkRenew b s
  | .lkRelease b => Sys2Proof.Machine.execLkRelease b s
  | .leaseExpiry => Sys2Proof.Machine.execLeaseExpiry s
  | .anvilTakeoverComplete ok => Sys2Proof.Machine.execAnvilTakeoverComplete ok s
  | .selfDiagnosisPass b ok => Sys2Proof.Machine.execSelfDiagnosisPass b ok s
  | .anvilRejoin b ok => Sys2Proof.Machine.execAnvilRejoin b ok s
  | .afcRaise b v => Sys2Proof.Machine.execAfcRaise b v s
  | .mctpPacket iface phys packet => Sys2Proof.Machine.execMctpPacket iface phys packet s
  | .pldmRequest iface op => Sys2Proof.Machine.execPldmRequest iface op s
  | .pcieLinkUp gen width flit sris => Sys2Proof.Machine.execPcieLinkUp gen width flit sris s
  | .lockInterfaceRequest v st => Sys2Proof.Machine.execLockInterfaceRequest v st s
  | .startInterfaceRequest v => Sys2Proof.Machine.execStartInterfaceRequest v s
  | .sealingComplete p => Sys2Proof.Machine.execSealingComplete p s
  | .complexMessage partner msg => Sys2Proof.Machine.execComplexMessage partner msg s
  | .muxSwitchComplete d => Sys2Proof.Machine.execMuxSwitchComplete d s
  | .clockEdgesReturn k lane => Sys2Proof.Machine.execClockEdgesReturn k lane s
  | .measurementLeavesWindow k => Sys2Proof.Machine.execMeasurementLeavesWindow k s
  | .presencePinChange pin low => Sys2Proof.Machine.execPresencePinChange pin low s
  | .jtagTck tck tms tdi trst => Sys2Proof.Machine.execJtagTck tck tms tdi trst s
  | .mctpPacketSent iface => Sys2Proof.Machine.execMctpPacketSent iface s

end Sys2Proof.Machine
end

