-- ==== Sys2Proof/WellFormed.lean ====
section
/-!
DEFINITION. What a command must be to be one that the outside can send: lengths and ranges that the operand types do
not already fix. The meanings are total on ill-formed commands too; no claim is made of those.
-/
namespace Sys2Proof

/-- R54: a write TLP carries 1 to 512 bytes, and a read asks for 1 to 4,096. -/
def BarWrite.wf (w : BarWrite) : Bool := decide (1 ≤ w.size) && decide (w.size ≤ if w.read then 4096 else 512)

/-- R60, R61: the write lies in BAR0 of its function: 64 MiB of the PF, and at most one system page of a VF. -/
def inBar0 (f : Fin 1025) (w : BarWrite) : Bool := decide (w.offset < if f.val = 0 then 2 ^ 26 else 2 ^ 43)

/-- R60: the write lies in the wake page named, and in BAR2 perhaps in the reserved rest of its 8 MiB. -/
def inWake (f : Fin 1025) (bar2 : Bool) (w : BarWrite) : Bool :=
  decide (w.offset < if bar2 ∧ f.val = 1024 then 2 ^ 23 - 1024 * 4096 else 0x1000) && (bar2 || f.val != 0)

def wellFormed : Instr → Bool
  | .registerWrite _ f w => w.wf && inBar0 f w
  | .wakePageWrite f bar2 w => w.wf && inWake f bar2 w
  | .completionTlp _ _ d => decide (d.length ≤ 4096)
  | .peerWindowTlp write _ len d =>
    decide (1 ≤ len) && decide (len ≤ if write then 512 else 4096) && (if write then d.length == len else d == [])
  | .atsInvalidateRequest _ _ base size => base % 4096 == 0 && size % 4096 == 0 && decide (0 < size)
  | .mirrorRecord _ _ blocks _ => blocks != [] && blocks.all (fun b => b.length == 64)
  | .gddr7TrainingComplete failed lost => decide failed.Nodup && decide lost.Nodup
  | .iowr _ _ off d => d != [] && decide (off.val + d.length ≤ 64)
  | .descriptorFillComplete _ line _ => decide (line < 2 ^ 42)
  | .mailboxGo _ _ b => b.length == 64
  | .mctpPacket _ _ b => decide (1 ≤ b.length) && decide (b.length ≤ 500)
  | .illegalInstruction p w => (decodeWord p w).isNone
  | _ => true

end Sys2Proof
end

