-- ==== Sys2Proof/Machine/Step.lean ====
section
/-!
DEFINITION. One step: the command at the front of the queue runs with the queue's rest; on an empty queue the
timebase takes one tick (R8, log 2). The rows of the command table have no bits, so no word spells a command.
-/
namespace Sys2Proof.Machine
open Sys2Proof

/-- R8: the timebase counts 10 ns in each of its ticks while a rail is up. Log 2 (DESIGN CHOICE). -/
def State.tick (s : State) : State := if s.phase = .off then s else { s with tb := s.tb + 10 }

def step (s : State) : Host.Outcome State Fault Refusal :=
  match s.pending with
  | [] => .next s.tick
  | c :: rest => exec c { s with pending := rest }

/-- `s` with the command that a word spells at the front of its queue; `s` itself where the word spells none.
Log 9 (DESIGN CHOICE). -/
def State.withFetchWord (s : State) (nbits w : Nat) : State :=
  match decodeTableWord nbits w with
  | some c => { s with pending := c :: s.pending }
  | none => s

end Sys2Proof.Machine
end

