-- ==== Sys2Proof/Safety.lean ====
section
/-!
DEFINITION. The terms claims are stated in: when a processor runs its next instruction, and what a sound state is.
-/
namespace Sys2Proof.Machine
open Sys2Proof

/-- Processor `p` runs instructions now, and the fetch of the next one meets no exception and no poison. -/
def Runs (s : State) (p : Proc) : Prop := s.procRuns p = true ∧ s.fetchCheck p = .ok

/-- R136: what every state of a processor keeps: bits 1:0 of the program counter are zero, and `g0` holds nothing. -/
def ProcState.sound (x : ProcState) : Prop := x.pc &&& 3#64 = 0 ∧ x.g.get 0 0 = 0

/-! ### What an instruction that completes leaves -/

/-- `t` is `s` after processor `p` fetched an instruction, wrote `v` to `g` register `d` and went on to the next one: `g0`
takes nothing (R136), and every other register of `p`, every other processor and everything else in the module is as
before, but for the caches that the fetch went through and the messages it sent (R202). -/
structure OnlyG (s t : State) (p : Proc) (d : RegNo) (v : W64) : Prop where
  result : t.gReg p d = if d.val = 0 then 0 else v
  others : ∀ r : RegNo, r ≠ d → t.gReg p r = s.gReg p r
  floats : ∀ r : RegNo, t.fReg p r = s.fReg p r
  special : ∀ n, (t.proc (procNo p)).getSp n = (s.proc (procNo p)).getSp n
  link : (t.proc (procNo p)).lk = (s.proc (procNo p)).lk
  pc : (t.proc (procNo p)).pc = ((s.proc (procNo p)).pc + 4) &&& 0xFFFFFFFFFFFFFFFC#64
  procs : ∀ n, n ≠ procNo p → t.proc n = s.proc n
  module : t = { s with procs := t.procs, coh := (s.fetched p).coh, out := (s.fetched p).out }

/-- Instruction `i` completes, and writes `v` to `d` and nothing else. -/
def WritesG (s : State) (p : Proc) (i : Instr) (d : RegNo) (v : W64) : Prop :=
  ∃ t, exec i s = .next t ∧ OnlyG s t p d v

/-- `s` after processor `p` fetched an instruction and jumped to `pc`, with `lk` in its link register, and nothing else
changed. -/
def State.goes (s : State) (p : Proc) (pc lk : W64) : State :=
  (s.fetched p).setProc (procNo p)
    { s.proc (procNo p) with pc := pc &&& 0xFFFFFFFFFFFFFFFC#64, lk := lk, waiting := false }

/-- Instruction `i` takes the exception of a cause, with its `eaddr` (R155, R156). -/
def Traps (s : State) (p : Proc) (i : Instr) (cause : Nat) (eaddr : W64) : Prop :=
  exec i s = .next ((s.fetched p).raise p cause eaddr)

/-! ### Sound states -/

/-- Memory stands in its one canonical form. -/
def State.sound (s : State) : Prop := s.mem.wf = true

end Sys2Proof.Machine
end

