-- ==== Sys2Proof/Certificates/Slice0/Obligations.lean ====
section
/-!
DEFINITION. The statements for the provers.
-/
open Sys2Proof Sys2Proof.Machine

/-- A step runs the command at the front of the queue on the state with the rest of the queue.
The model's own choices behind it: log 9. -/
def Obligations.StepRunsFrontCommand : Prop :=
  ∀ (c : Instr) (rest : List Instr) (s : State),
    step { s with pending := c :: rest } = exec c { s with pending := rest }

/-- A step on an empty queue: before power-on nothing moves; afterwards the timebase advances by 10 ns and nothing else
changes (log 2). -/
def Obligations.IdleStepTicks : Prop :=
  ∀ s : State, s.pending = [] →
    (s.phase = .off → step s = .next s) ∧
    (s.phase ≠ .off → step s = .next { s with tb := s.tb + 10 })

/-! ### The journal and its mirrors -/

/-- R21, R39: what the journal reports durable has no block outstanding in a die in service or at its mirror partner;
R32: no operation that issues records leaves a block outstanding in a die more than 32 positions behind the head.
The model's own choices behind it: log 5. -/
def Obligations.DurableMeansWrittenInBothDies : Prop :=
  ∀ (s t : State) (ws : List WriteFor), s.settleWrites = (ws, t) →
    (∀ w ∈ ws, (s.dieOk 0 = true ∨ s.dieOk 1 = true) ∧
      (∃ x ∈ s.jnl.out, x.what = w) ∧
      (∀ x ∈ s.jnl.out, x.what = w → x.done0 = true ∧ x.done1 = true ∧ x.mirror = none) ∧
      (∀ x ∈ t.jnl.out, x.what ≠ w)) ∧
    (∀ x ∈ t.jnl.out, x ∈ s.jnl.out ∧ (s.dieOk 0 = true ∨ s.dieOk 1 = true → ¬ (x.done0 = true ∧ x.done1 = true ∧ x.mirror = none))) ∧
    (let span := fun (u : State) =>
       ∀ x ∈ u.jnl.out, (x.done0 = true ∧ x.done1 = true) ∨ seqLinear u.jnl.head ≤ seqLinear x.seq + 32
     span s → (∀ blocks what mirror, span (s.writeRecord blocks what mirror)) ∧
       ∀ n, span (State.pumpLog n s.carryForward))

/-- R30, R32, R41, R44, R45, R47: block writes, snapshots, retirement of rows, failure of a die, and the clean stop. What
a command leaves is given up to the point where records that became durable act (`settle`).
The model's own choices behind it: log 5, 44, 49. -/
def Obligations.JournalUpkeep : Prop :=
  ∀ (s : State) (d : Fin 2), s.live = true →
    let die := fun (t : State) => t.die d.val
    let state := fun (t : State) => t.fld JNL_STATUS JNL_STATUS.STATE
    (∀ seq x, s.jnl.out.find? (fun y => y.seq == seq) = some x → s.dieOk d.val = true →
      (if d.val = 0 then x.done0 else x.done1) = false →
      (∃ u : State, exec (.journalBlockWriteComplete d seq false) s = .next u.settle ∧
        (die u).log.get [] (seqIndex seq) = x.bytes ∧
        (∀ i, i ≠ seqIndex seq → (die u).log.get [] i = (die s).log.get [] i) ∧
        (∀ y ∈ u.jnl.out, y.seq = seq → (if d.val = 0 then y.done0 else y.done1) = true)) ∧
      (∃ t : State, exec (.journalBlockWriteComplete d seq true) s = .next t ∧ logRow (seqIndex seq) ∈ (die t).badRows ∧
        t.jnl.out = s.jnl.out ∧ t.out = .journalWrite seq x.bytes :: s.out ∧ (die t).log = (die s).log)) ∧
    (state s = 3 → due s s.jnl.snapAt = true →
      ∃ t : State, exec .snapshotGeneration s = .next t ∧ t.jnl.generation = s.jnl.generation + 1 ∧
        t.jnl.snapAt = some (s.tb + 1000000 * s.fld JNL_CFG JNL_CFG.SNAP_MS) ∧
        ((∀ e ∈ s.disp.rings, e.2.purgeFor = none) → t.jnl.out = s.jnl.out) ∧
        (s.dieOk d.val = true →
          let slots := if t.jnl.generation % 2 = 0 then ((die t).genA, (die t).genB, (die s).genB) else ((die t).genB, (die t).genA, (die s).genA)
          slots.1.length = s.ringSnaps.length + 1 ∧ (∀ b ∈ slots.1, blockEpoch b = t.jnl.generation % 2 ^ 32) ∧ slots.2.1 = slots.2.2)) ∧
    (state s ≠ 3 ∨ due s s.jnl.snapAt = false → exec .snapshotGeneration s = .next s) ∧
    (∀ row, s.dieOk d.val = true → s.rowQualifies d.val row.val = true → (die s).sparesUsed < 21504 →
      ∃ u : State, exec (.rowRetire d row) s = .next u.settle ∧
        (die u).rowMap.get row.val row.val = 1048576 + (die s).sparesUsed ∧ (die u).sparesUsed = (die s).sparesUsed + 1 ∧
        u.fld (JNL_DIE_ROWS d.val) JNL_DIE_ROWS.SPARE_LEFT = 21503 - (die s).sparesUsed ∧
        u.bit JNL_EVENT JNL_EVENT.ROW_RETIRED = true ∧ u.jnl.out = s.jnl.out) ∧
    (∀ row, s.rowQualifies d.val row.val = false → exec (.rowRetire d row) s = .next s) ∧
    (s.dieOk d.val = true → ∃ u : State, exec (.journalDieFailed d) s = .next u.settle ∧ u.dieOk d.val = false ∧
      u.bit JNL_STATUS (if d.val = 0 then JNL_STATUS.DIE0_OK else JNL_STATUS.DIE1_OK) = false ∧
      u.bit JNL_STATUS JNL_STATUS.SINGLE_DIE = true ∧ u.bit JNL_EVENT JNL_EVENT.DIE_FAILED = true ∧
      u.fld FLT_SEQ FLT_SEQ.COUNT = (s.fld FLT_SEQ FLT_SEQ.COUNT + 1) % 2 ^ 64 ∧
      (∀ y ∈ u.jnl.out, (if d.val = 0 then y.done0 else y.done1) = true)) ∧
    (state s = 2 ∨ state s = 3 → ∃ t : State, exec .bothFeedsLostReport s = .next t ∧ state t = 5 ∧ t.jnl.snapAt = none) ∧
    (state s ≠ 2 → state s ≠ 3 → exec .bothFeedsLostReport s = .next { s with disp := { s.disp with stopped := true } })

/-- R42: the scan's settlement of every position that either die in service holds: a block that stands passes its check
and is the same in every die in service; outside the window a position that does not stand is damaged, inside it the
position is void in both dies. R29, R42: a series rebuilt from what stands voids only records inside the window, keeps
only units above its Posted ASN and below its Next ASN, and reaches back at most 65,536 ASNs.
The model's own choices behind it: log 45, 48. -/
def Obligations.ScanSettlesPositionsAndSeries : Prop :=
  (∀ (s t : State) (head : Nat) (bs : List (Nat × Bytes)) (dam : List Nat),
    (s.dieOk 0 = true ∨ s.dieOk 1 = true) →
    (∀ d, d < 2 → Tbl.wf [] (s.die d).log = true ∧ ∀ e ∈ (s.die d).log, e.1 < logBlocks) →
    s.settlePositions head = (bs, dam, t) →
      (∀ q b, (q, b) ∈ bs → blockOk b = true ∧ q = mkSeq (blockEpoch b) (seqIndex q) ∧
        ∀ d, d < 2 → s.dieOk d = true → (t.die d).log.get [] (seqIndex q) = b) ∧
      (∀ i ∈ s.logIndices, (∃ q b, (q, b) ∈ bs ∧ seqIndex q = i) ∨ (i ∈ dam ∧ State.inWindow head i = false) ∨
        (State.inWindow head i = true ∧ ∀ d, d < 2 → (t.die d).log.get [] i = []))) ∧
  (∀ (rk : Nat) (x : Ring) (rs : List LogRec) (next : Nat) (posted : Option Nat) (first floor : Nat) (win : Nat → Bool)
      (dam torn : List Nat),
    let o := State.rebuild rk x rs next posted first floor win dam torn
    (∀ i ∈ o.voids, win i = true) ∧ o.ring.nextAsn ≤ o.ring.floor + 65536 ∧ next ≤ o.ring.nextAsn ∧
    (∀ k u, (k, u) ∈ o.units → k = unitKey rk u.asn ∧ u.asn < o.ring.nextAsn ∧
      (∀ p, posted = some p → p < u.asn) ∧ u.exec = none))

/-- R48 to R52: mirror records and acknowledgements, heartbeats, fencing, takeover and the return of contact. What comes over
a seam link comes while the seam ports run (R398, R402).
The model's own choices behind it: log 50, 98. -/
def Obligations.MirrorAndTakeover : Prop :=
  ∀ (s : State) (k port index : Fin 8), s.live = true → s.seamUp = true →
    let p := s.partner k.val
    let up := fun (t : State) => t.bit JNL_MIRROR ⟨k.val, 1⟩
    let fenced := fun (t : State) => t.bit JNL_MIRROR ⟨8 + k.val, 1⟩
    (∀ n blocks, p.clash = false → p.adopted = false → p.mirrorSeen ≤ n →
      ∃ (t : State) (bodies : List Bytes), exec (.mirrorRecord k n blocks none) s = .next t ∧
        t.jnl.foreign = s.jnl.foreign ++ [ForeignRec.mk k.val n bodies none false] ∧
        (t.partner k.val).lastHeard = s.tb ∧ (t.partner k.val).present = true ∧ (t.partner k.val).mirrorSeen = n + 1 ∧
        (∀ b ∈ bodies, leAt b 1 1 / 4 % 2 = 1 ∨ b.length ≤ 1)) ∧
    (∀ n blocks posted, p.clash = false → p.adopted = false → n < p.mirrorSeen →
      ∃ t : State, exec (.mirrorRecord k n blocks posted) s = .next t ∧ t.jnl.foreign = s.jnl.foreign ∧ t.jnl.out = s.jnl.out ∧
        ((s.jnl.foreign.any fun r => r.partner == k.val && r.number == n && !r.durable) = false →
          t.out = .mirrorAck k.val n :: s.out)) ∧
    (∀ n blocks posted, p.adopted = true → exec (.mirrorRecord k n blocks posted) s = .next s) ∧
    (∀ n x, s.jnl.unacked.find? (fun y => y.partner == k.val && y.number == n) = some x →
      ∃ u : State, exec (.mirrorAck k n) s = .next u.settle ∧ x ∉ u.jnl.unacked ∧
        (∀ y ∈ u.jnl.out, y.what = x.what → y.mirror ≠ some k.val) ∧ (u.partner k.val).lastHeard = s.tb) ∧
    (p.clash = false → p.beatAt.get 0 port.val ≤ s.tb → ∃ t : State, exec (.heartbeatTimer k port) s = .next t ∧
      t.out = .heartbeat k.val port.val (s.fld JNL_MIRROR JNL_MIRROR.MODULE) (p.sent + 1) p.received :: s.out ∧
      t.partner k.val = { p with sent := p.sent + 1, beatAt := p.beatAt.set 0 port.val (s.tb + 100000) }) ∧
    (s.tb < p.beatAt.get 0 port.val → exec (.heartbeatTimer k port) s = .next s) ∧
    (∀ n echo, index.val ≠ s.fld JNL_MIRROR JNL_MIRROR.MODULE → ∃ t : State, exec (.heartbeat k port index n echo) s = .next t ∧
      up t = true ∧ fenced t = fenced s ∧
      t.partner k.val = { p with present := true, clash := false, lastHeard := s.tb, received := max p.received n
                                 lastEcho := if 0 < echo ∧ echo ≤ p.sent then s.tb else p.lastEcho }) ∧
    (∀ n echo, index.val = s.fld JNL_MIRROR JNL_MIRROR.MODULE → p.clash = false →
      ∃ u : State, exec (.heartbeat k port index n echo) s = .next u.settle ∧ up u = false ∧ (u.partner k.val).clash = true ∧
        (u.partner k.val).lastHeard = p.lastHeard ∧ (∀ y ∈ u.jnl.out, y.mirror ≠ some k.val) ∧
        ∀ y ∈ u.jnl.unacked, y.partner ≠ k.val) ∧
    (∀ n echo, index.val = s.fld JNL_MIRROR JNL_MIRROR.MODULE → p.clash = true →
      exec (.heartbeat k port index n echo) s = .next s ∧ exec (.heartbeatTimer k port) s = .next s ∧
        exec (.fenceTimeout k) s = .next s ∧ exec (.takeoverTimeout k) s = .next s) ∧
    (s.tb < p.lastEcho + 1000000 → exec (.fenceTimeout k) s = .next s) ∧
    (p.clash = false → p.lastEcho + 1000000 ≤ s.tb → fenced s = false → s.mirroredTo k.val ≠ [] →
      ∃ t : State, exec (.fenceTimeout k) s = .next t ∧ fenced t = true ∧ up t = false ∧ t.bit JNL_EVENT JNL_EVENT.MIRROR_LOST = true ∧
        (∀ rk ∈ s.mirroredTo k.val, (t.ring rk).fenced = true) ∧ t.disp.units = s.disp.units ∧ t.jnl = s.jnl) ∧
    (p.clash = false → p.lastEcho + 1000000 ≤ s.tb → fenced s = false → s.mirroredTo k.val = [] →
      exec (.fenceTimeout k) s = .next (s.setBit JNL_MIRROR ⟨k.val, 1⟩ false)) ∧
    (s.tb < p.lastHeard + 2000000 → exec (.takeoverTimeout k) s = .next s) ∧
    (p.clash = false → p.adopted = false → p.present = true → p.lastHeard + 2000000 ≤ s.tb →
      (∃ r ∈ s.jnl.foreign, r.partner = k.val) →
      exec (.takeoverTimeout k) s = .next ((s.standbyTakeover k.val).takeover k.val)) ∧
    (p.clash = false → p.adopted = false → ∃ t : State, exec (.contactReturn k true) s = .next t ∧ up t = true ∧ fenced t = false ∧
      (∀ rk ∈ s.mirroredTo k.val, (s.ring rk).fenced = true → (t.ring rk).adoptedAway = true ∧ (t.ring rk).fenced = false) ∧
      ∀ y ∈ t.jnl.unacked, y.partner ≠ k.val) ∧
    (p.clash = false → p.adopted = false → (∀ rk ∈ s.mirroredTo k.val, (s.ring rk).fenced = false) →
      ∃ t : State, exec (.contactReturn k false) s = .next t ∧ up t = true ∧ fenced t = false ∧ t.disp = s.disp ∧ t.jnl.unacked = s.jnl.unacked)

/-! ### The host endpoint -/

/-- R28, R54, R57, R64, R65, R66, R67, R69, R437, R456: link and function resets, function-level resets and their
drains, Bus Master Enable, VF Enable and configuration requests. Accepted units stay through all
of them; one whose drain a reset ends is completed.
The model's own choices behind it: log 42. -/
def Obligations.EndpointResets : Prop :=
  ∀ (s : State) (f : Fin 1025) (v : Fin 1024), s.live = true →
    let n := f.val
    let vf := v.val + 1
    let drains := s.inDrain vf
    let waited := (∃ e ∈ s.disp.rings, e.2.drainFor ≠ none) ∨ ∃ e ∈ s.hep.fns, e.2.setRings ≠ none
    let kept := fun (t : State) => (∀ k, (t.unit? k).isSome = (s.unit? k).isSome) ∧ (¬ waited → t.disp.units = s.disp.units)
    let clean := fun (t : State) => kept t ∧ t.hep.vfEnable = false ∧
      t.bit HEP_FREEZE HEP_FREEZE.FROZEN = false ∧ t.reg HEP_LINK_STATUS = 0 ∧ t.hep.reads = [] ∧
      (∀ w : Fin 64, t.reg (WIN_ACTIVE_CTL w.val) = 0) ∧ (∀ g, (g = 0 ∨ (s.fn g).present = true → (t.fn g).bme = false) ∧ (g ≠ 0 → (t.fn g).present = false)) ∧
      t.fnState 0 = if s.fnUnits 0 = [] ∧ s.fnIssued 0 = false then 0 else 3
    (∃ t : State, exec .perstAssert s = .next t ∧ clean t ∧ t.hep.perst = true ∧ t.reg HEP_EVENT = 0) ∧
    (∃ t : State, exec .hotReset s = .next t ∧ clean t ∧ t.bit HEP_EVENT HEP_EVENT.LINK_DOWN = true) ∧
    exec .perstDeassert s = .next { s with hep := { s.hep with perst := false, trainBy := some (s.tb + 20000000) } } ∧
    (∀ gen width flit sris, linkOk gen.val width.val flit = true → s.hep.perst = false → s.stepThree = true → s.pins.seated = true →
      ∃ t : State, exec (.pcieLinkUp gen width flit sris) s = .next t ∧ t.hep.l0 = true ∧
        t.bit HEP_LINK_STATUS HEP_LINK_STATUS.DL_UP = true ∧ t.fld HEP_LINK_STATUS HEP_LINK_STATUS.GEN = gen.val ∧
        t.fld HEP_LINK_STATUS HEP_LINK_STATUS.WIDTH = width.val ∧ t.disp = s.disp) ∧
    (∀ gen width flit sris, linkOk gen.val width.val flit = false → exec (.pcieLinkUp gen width flit sris) s = .next s) ∧
    (s.isReady = true → s.fnPresent vf = true → drains = false →
      ∃ t : State, exec (.flrVf v) s = .next t ∧ t.fnState vf = 2 ∧ (t.fn vf).flrEnd = some (s.tb + 90000000) ∧
        (∀ q ∈ t.hep.reads, q.fn = vf → q.discard = true) ∧ kept t ∧ t.jnl = s.jnl ∧
        (∀ r : Fin 17, ∀ d ∈ (t.ring (ringOf vf r.val)).fetched, d.issued.isSome = true ∨ d.dupOf.isSome = true)) ∧
    (s.isReady = true → s.hep.pfFlr = none → (s.fn 0).flrEnd = none →
      ∃ t : State, exec .flrPf s = .next t ∧ t.fnState 0 = 2 ∧ t.hep.pfFlr = some (s.tb + 90000000) ∧ kept t ∧
        (∀ q ∈ t.hep.reads, q.fn = 0 → q.discard = true)) ∧
    ((s.fn vf).flrEnd.isSome = true → s.readsDone (· == vf) = true →
      ∃ t : State, exec (.flrDrainComplete ⟨vf, by omega⟩) s = .next t ∧ t.bit HEP_EVENT HEP_EVENT.FLR_DONE = true ∧
        (t.fn vf).bme = false ∧ (t.fn vf).flrEnd = none ∧ kept t ∧
        t.fnState vf = if s.fnUnits vf = [] ∧ s.fnIssued vf = false then 0 else 3) ∧
    (s.readsDone (· == vf) = false → exec (.flrDrainComplete ⟨vf, by omega⟩) s = .next s) ∧
    (due s (s.fn vf).flrEnd = true →
      ∃ t : State, exec (.flrDrainDeadline ⟨vf, by omega⟩) s = .next t ∧ t.bit HEP_EVENT HEP_EVENT.FLR_DONE = true ∧
        (∀ q ∈ t.hep.reads, q.fn = vf → q.quarantined = true) ∧ kept t) ∧
    (due s s.hep.pfFlr = true →
      ∃ t : State, exec (.flrDrainDeadline 0) s = .next t ∧ t.hep.pfFlr = none ∧ t.hep.vfEnable = false ∧
        (∀ q ∈ t.hep.reads, q.quarantined = true) ∧ (∀ w : Fin 64, t.reg (WIN_ACTIVE_CTL w.val) = 0)) ∧
    (s.isReady = true → s.fnPresent n = true → s.inDrain n = false →
      exec (.busMasterEnable f false) s = .next (s.setFn n { s.fn n with bme := false }) ∧
      (s.fnState n = 3 → exec (.busMasterEnable f true) s = .next ((s.setFn n { s.fn n with bme := true, d3Back := if (s.fn n).d3 = true ∧ (s.fn n).d3Back = 0 then 1 else (s.fn n).d3Back }).resumeFn n) ∧
        ((s.fn n).d3 = false → s.hep.waiting = [] → s.hep.owed = [] → s.hep.goWait = [] → s.hep.pfOut = [] → s.hep.heldMsgs = [] →
          exec (.busMasterEnable f true) s = .next (s.setFn n { s.fn n with bme := true }))) ∧
      (s.fnState n = 4 → (s.fn n).d3 = true → (s.fn n).d3Back = 0 →
        exec (.busMasterEnable f true) s = .next (s.setFn n { s.fn n with bme := true, d3Back := 1 })) ∧
      (s.fnState n = 0 → ∃ u : State, exec (.busMasterEnable f true) s = .next (u.resumeFn n) ∧ u.fnState n = 1 ∧ (u.fn n).bme = true)) ∧
    (s.isReady = true → s.hep.pfFlr = none →
      (s.hep.vfEnable = false → ∃ t : State, exec (.vfEnable true) s = .next t ∧ t.hep.vfEnable = true ∧
        let count := if s.hep.ari then s.hep.numVfs else min 7 s.hep.numVfs
        (∀ g, 1 ≤ g → g ≤ count → (t.fn g).present = true ∧ (t.fn g).ringCount = 1) ∧ (∀ g, count < g → t.fn g = s.fn g)) ∧
      (s.hep.vfEnable = true → ∃ t : State, exec (.vfEnable false) s = .next t ∧ t.hep.vfEnable = false ∧
        kept t ∧ ∀ g, g ≠ 0 → (t.fn g).present = false)) ∧
    (∀ op, (s.hep.perst = true ∨ s.hep.l0 = false → exec (.configRequest f op) s = .next s) ∧
      (s.hep.perst = false → s.hep.l0 = true →
        (s.isReady = false ∨ s.hep.pfFlr.isSome = true ∨ (s.fn n).flrEnd.isSome = true →
          exec (.configRequest f op) s = .next (s.emitTlp n (.cfgCpl n 2 0))) ∧
        (s.isReady = true → s.hep.pfFlr = none → (s.fn n).flrEnd = none →
          (s.fnPresent n = false → exec (.configRequest f op) s = .next (s.emitTlp n (.cfgCpl n 1 0))) ∧
          (s.fnPresent n = true → ∃ x u, s.cfgOp n op = (x, u) ∧ exec (.configRequest f op) s = .next (u.emitTlp n (.cfgCpl n 0 x))))))

/-- R54, R68, R69, R70, R71, R72, R73: completions and their timeouts, containment freeze and release, AtomicOps and ATS
invalidations.
The model's own choices behind it: log 27, 40, 94, 102, 103. -/
def Obligations.FreezeAndCompletions : Prop :=
  ∀ (s : State) (f : Fin 1025) (tag : Nat), s.live = true →
    let frozen := fun (t : State) => t.bit HEP_FREEZE HEP_FREEZE.FROZEN
    let cause := fun (t : State) => t.fld HEP_FREEZE HEP_FREEZE.CAUSE
    (∀ q, s.hep.reads.find? (fun x => x.tag == tag) = some q →
      (∀ st data, q.quarantined = true → ∃ t : State, exec (.completionTlp tag st data) s = .next t.pumpReads ∧
        t.fld HEP_LATE_CPL HEP_LATE_CPL.COUNT = (s.fld HEP_LATE_CPL HEP_LATE_CPL.COUNT + 1) % 2 ^ 64 ∧
        t.bit HEP_EVENT HEP_EVENT.LATE_CPL = true ∧ t.disp = s.disp ∧ (∀ x ∈ t.hep.reads, x.tag ≠ tag)) ∧
      (∀ st data, q.quarantined = false → q.discard = true ∨ frozen s = true ∨ st ≠ .success →
        let t := s.dropRead q
        exec (.completionTlp tag st data) s = .next (State.pumpReads (if q.kind = .translation ∧ frozen s = false then
            (if q.discard = true then t.atsResume q.fn else t.translated q.fn (q.addr / 4096) []) else t)) ∧
          t.disp.units = s.disp.units ∧ (∀ x ∈ t.hep.reads, x.tag ≠ tag)) ∧
      (∀ data, q.quarantined = false → q.discard = false → frozen s = false →
        ∃ u : State, (∀ x ∈ u.hep.reads, x.tag ≠ tag) ∧ u.disp = s.disp ∧ u.regs = s.regs ∧
          exec (.completionTlp tag .success data) s = .next (State.pumpReads (match q.kind with
            | .doorbell poll => u.doorbellData q.fn poll data
            | .descriptors r c k => u.descriptorData q.fn r c k data
            | .translation => u.translated q.fn (q.addr / 4096) data))) ∧
      (∀ d, q.due = some d → s.tb < d → exec (.completionTimeout tag) s = .next s) ∧
      ((∀ d, q.due = some d → d ≤ s.tb) →
        let u := if q.kind = .translation ∧ q.discard = true then (s.dropRead q).atsResume q.fn else (s.dropRead q).pumpReads
        (q.quarantined = true → exec (.completionTimeout tag) s = .next u) ∧
        (q.quarantined = false → s.inDrain q.fn = true → exec (.completionTimeout tag) s = .next (u.logTimeout q.fn) ∧
          6 ∈ ((u.logTimeout q.fn).fn q.fn).aer ∧ frozen (u.logTimeout q.fn) = frozen u) ∧
        (q.quarantined = false → s.inDrain q.fn = false → ∃ t : State, exec (.completionTimeout tag) s = .next t ∧
          6 ∈ (t.fn q.fn).aer ∧ frozen t = true ∧ (frozen u = false → cause t = 6) ∧
          (q.kind ≠ .translation → frozen s = false → cause t = 6)))) ∧
    (s.hep.reads.find? (fun x => x.tag == tag) = none →
      (∀ st data, exec (.completionTlp tag st data) s = .next s) ∧ exec (.completionTimeout tag) s = .next s) ∧
    (∀ st, (s.hep.reads.find? (fun q => q.fn == f.val && q.expired s.tb) = none → exec (.freezeTrigger .completionTimeout f st) s = .next s) ∧
      (∀ q, s.hep.reads.find? (fun q => q.fn == f.val && q.expired s.tb) = some q →
        exec (.freezeTrigger .completionTimeout f st) s = .next (s.timedOut q))) ∧
    (∀ c st, c ≠ .ideCheck → c ≠ .completionTimeout → ∃ t : State, exec (.freezeTrigger c f st) s = .next t ∧ frozen t = true ∧ t.disp = s.disp ∧ t.jnl = s.jnl ∧
      (frozen s = false → cause t = freezeCode c ∧ t.bit HEP_EVENT HEP_EVENT.FROZE = true) ∧
      (frozen s = true → cause t = cause s) ∧ (freezeCode c < 0x10 → freezeCode c ∈ (t.fn f.val).aer) ∧
      (∀ g r, t.fnActive g = false ∧ t.mayFetch g r = false ∧ t.mayPost g r = false)) ∧
    (∀ st, ∃ t : State, exec (.freezeTrigger .ideCheck f st) s = .next t ∧ frozen t = true ∧
      t.bit HEP_EVENT HEP_EVENT.IDE_FAIL = true ∧ (t.hep.ide.get {} st.val).secure = false) ∧
    (s.hep.pfFlr.isSome = true → exec .hepFreezeRelease s = .next s) ∧
    (frozen s = true → s.hep.pfFlr = none →
      let ok := s.hep.l0 = true ∧ s.bit HEP_LINK_STATUS HEP_LINK_STATUS.DL_UP = true ∧ ∀ e ∈ s.hep.fns, cause s ∉ e.2.aer
      (¬ ok → ∃ t : State, exec .hepFreezeRelease s = .next t ∧ frozen t = true ∧ t.bit HEP_FREEZE HEP_FREEZE.REFUSED = true ∧
        t.out = s.out ∧ t.disp = s.disp) ∧
      (ok → ∃ u : State, frozen u = false ∧ u.bit HEP_FREEZE HEP_FREEZE.REFUSED = false ∧ u.bit HEP_EVENT HEP_EVENT.RELEASED = true ∧
        u.hep = s.hep ∧ u.disp = s.disp ∧ u.out = s.out ∧
        exec .hepFreezeRelease s = .next (u.presentFns.foldl (fun w g =>
          ((w.enabledSqs g).foldl (fun w r => w.writeSq g r) w).resumeFn g) u))) ∧
    (frozen s = false → exec .hepFreezeRelease s = .next s) ∧
    exec (.atomicOpTlp f) s = .next (s.emitTlp f.val (.cpl f.val 1 [])) ∧
    (∀ itag base size,
      (32 ≤ s.hep.invals.length → exec (.atsInvalidateRequest itag f base size) s = .next s) ∧
      (s.hep.invals.length < 32 → (∀ i ∈ s.hep.invals, ¬ (i.itag = itag.val ∧ i.fn = f.val)) →
        ∃ (t : State) (i : AtsInval), exec (.atsInvalidateRequest itag f base size) s = .next t ∧ t.hep.invals = s.hep.invals ++ [i] ∧
          i.itag = itag.val ∧ i.fn = f.val ∧
          (∀ e ∈ t.hep.ats, e ∈ s.hep.ats ∧ ∀ p, e.1 = atsKey f.val p → p < 2 ^ 52 → p * 4096 + 4096 ≤ base ∨ base + size ≤ p * 4096) ∧
          (∀ q ∈ s.hep.reads, q.kind ≠ .translation → q ∈ t.hep.reads ∧
            ((s.fn f.val).ats = true → q.fn = f.val → q.addr < base + size → base < q.addr + q.len → q.tag ∈ i.waits))) ∧
      ((∃ i ∈ s.hep.invals, i.itag = itag.val ∧ i.fn = f.val) → exec (.atsInvalidateRequest itag f base size) s = .next s) ∧
      (∀ i, s.hep.invals.find? (fun i => i.itag == itag.val && i.fn == f.val) = some i →
        ((∃ x ∈ i.waits, ∃ q ∈ s.hep.reads, q.tag = x) → exec (.atsInvalidateCompletion itag f) s = .next s) ∧
        ((∀ x ∈ i.waits, ∀ q ∈ s.hep.reads, q.tag ≠ x) → ∃ t : State, exec (.atsInvalidateCompletion itag f) s = .next t ∧
          t.out = .atsCpl f.val itag.val :: s.out ∧ i ∉ t.hep.invals ∧ t.hep.reads = s.hep.reads)))

/-- R75, R76, R77, R78, R79, R456: assignable functions and peer windows.
The model's own choices behind it: log 28, 43. -/
def Obligations.TdisAndPeerWindows : Prop :=
  ∀ (s : State) (v : Fin 1024) (w : Fin 64), s.live = true →
    let f := v.val + 1
    let ctl := s.reg (WIN_ACTIVE_CTL w.val)
    let size := getFld ctl WIN_ACTIVE_CTL.SIZE
    (∀ st, s.dsmUp = true → s.fnPresent f = true → s.tdi f = 0 → s.inDrain f = false →
      ∃ t : State, exec (.lockInterfaceRequest v st) s = .next t ∧ t.tdi f = 1 ∧ (t.fn f).stream = some (st.val + 1) ∧
        t.fnActive f = false ∧ t.fnState f = s.fnState f) ∧
    (∀ st, s.tdi f ≠ 0 → exec (.lockInterfaceRequest v st) s = .next s) ∧
    (s.dsmUp = true → s.fnPresent f = true → s.tdi f = 1 →
      ∃ u : State, exec (.startInterfaceRequest v) s = .next (u.resumeFn f) ∧ u.tdi f = 2 ∧ u.fnState f = s.fnState f ∧ u.disp = s.disp) ∧
    (s.dsmUp = true → s.fnPresent f = true → s.inDrain f = false →
      ∃ t : State, exec (.stopInterfaceRequest v) s = .next t ∧ t.tdi f = 0 ∧ t.fnState f = 2 ∧
        (t.fn f).flrEnd = some (s.tb + 90000000) ∧ t.disp.units = s.disp.units) ∧
    (s.isReady = true → s.hep.pfFlr = none → ∀ (write : Bool) (o len : Nat) (data : Bytes), o < 2 ^ 38 →
      let off : BitVec 44 := BitVec.ofNat 44 (w.val * 2 ^ 38 + o)
      let allows := getFld ctl (if write then WIN_ACTIVE_CTL.WRITE_OK else WIN_ACTIVE_CTL.READ_OK)
      let world := World.onBehalf (getFld ctl WIN_ACTIVE_CTL.PARTITION)
      let a := s.fld (WIN_ACTIVE_TARGET w.val) WIN_ACTIVE_TARGET.ADDR * 4096 + o
      let refused := fun (u : State) (reason : Nat) => ∃ t : State, exec (.peerWindowTlp write off len data) s = .next t ∧
        t.mem = u.mem ∧ t.fld WIN_CA_COUNT WIN_CA_COUNT.COUNT = (u.fld WIN_CA_COUNT WIN_CA_COUNT.COUNT + 1) % 2 ^ 64 ∧
        (u.bit WIN_CA_LOG WIN_CA_LOG.VALID = false → t.fld WIN_CA_LOG WIN_CA_LOG.REASON = reason ∧
          t.fld WIN_CA_LOG WIN_CA_LOG.WINDOW = w.val ∧ t.fld WIN_CA_LOG WIN_CA_LOG.OFFSET = off.toNat)
      (2 ^ 38 < o + len → refused s 5) ∧
      (o + len ≤ 2 ^ 38 → getFld ctl WIN_ACTIVE_CTL.EN = 0 → refused s 1) ∧
      (o + len ≤ 2 ^ 38 → getFld ctl WIN_ACTIVE_CTL.EN = 1 → 2 ^ size < o + len → refused s 2) ∧
      (o + len ≤ 2 ^ 38 → getFld ctl WIN_ACTIVE_CTL.EN = 1 → o + len ≤ 2 ^ size → allows = 0 → refused s 3) ∧
      (o + len ≤ 2 ^ 38 → getFld ctl WIN_ACTIVE_CTL.EN = 1 → o + len ≤ 2 ^ size → allows = 1 →
        (write = true → ∀ ok u, s.memWrite world 3 a (padTo len data) = (ok, u) →
          (ok = true → ∃ t : State, exec (.peerWindowTlp write off len data) s = .next t ∧ t.mem = u.mem ∧ t.regs = u.regs) ∧
          (ok = false → refused u 4)) ∧
        (write = false →
          (∀ d u, s.memRead world 3 a len = (some d, u) →
            ∃ t : State, exec (.peerWindowTlp write off len data) s = .next t ∧ t.out = (u.completeMem off.toNat a d.1).out ∧ t.mem = u.mem) ∧
          (∀ u, s.memRead world 3 a len = (none, u) → refused u 4)))) ∧
    (s.isReady = true → s.hep.pfFlr.isSome = true → ∀ off len data, exec (.peerWindowTlp true off len data) s = .next s ∧
      exec (.peerWindowTlp false off len data) s = .next (s.emitTlp 0 (.cpl 0 1 []))) ∧
    (∀ a b, ((State.payloadsOf a b).flatMap (·.2)) = b ∧ ∀ p ∈ State.payloadsOf a b, p.2.length ≤ 512 ∧ p.1 / 512 = (p.1 + p.2.length - 1) / 512) ∧
    (s.hep.pfFlr.isSome = true → exec (.winCommit w) s = .next s) ∧
    (s.bit WIN_COMMIT WIN_COMMIT.BUSY = true → exec (.winCommit w) s = .next s) ∧
    (s.bit WIN_COMMIT WIN_COMMIT.BUSY = false → s.hep.pfFlr = none →
      let c := s.reg (WIN_SHADOW_CTL w.val)
      let t_ := s.reg (WIN_SHADOW_TARGET w.val)
      let n := getFld c WIN_SHADOW_CTL.SIZE
      let good := 12 ≤ n ∧ n ≤ 38 ∧ getFld t_ WIN_SHADOW_TARGET.ADDR * 4096 + 2 ^ n ≤ s.fld MEM_TOP MEM_TOP.TOP * 2 ^ 21 ∧
        s.fld (CRU_PART (getFld c WIN_SHADOW_CTL.PARTITION)) CRU_PART.STATE ≠ 0
      ∃ t : State, exec (.winCommit w) s = .next t ∧ t.bit WIN_COMMIT WIN_COMMIT.ERROR = !decide good ∧
        t.bit WIN_COMMIT WIN_COMMIT.BUSY = decide good ∧
        t.reg (WIN_ACTIVE_CTL w.val) = (if good then c else ctl) ∧
        t.reg (WIN_ACTIVE_TARGET w.val) = (if good then t_ else s.reg (WIN_ACTIVE_TARGET w.val)) ∧
        (∀ x : Fin 64, x ≠ w → t.reg (WIN_ACTIVE_CTL x.val) = s.reg (WIN_ACTIVE_CTL x.val) ∧
          t.reg (WIN_ACTIVE_TARGET x.val) = s.reg (WIN_ACTIVE_TARGET x.val))) ∧
    (∃ t : State, exec .winCommitDrained s = .next t ∧ t.bit WIN_COMMIT WIN_COMMIT.BUSY = false ∧
      t.fld WIN_COMMIT WIN_COMMIT.WINDOW = s.fld WIN_COMMIT WIN_COMMIT.WINDOW ∧ t.mem = s.mem)

/-! ### Rings and admin commands -/

/-- R84, R88, R89, R90, R92, R100, R102, R103, R105: wakes and polls, posting, ring setup and drains.
The model's own choices behind it: log 41, 56, 94, 100, 103, 105, 107. -/
def Obligations.RingSetupAndPolling : Prop :=
  ∀ (s : State) (f : Fin 1025) (r : Fin 17) (c : Fin 17), s.live = true →
    let n := f.val
    let rk := ringOf n r.val
    let ck := ringOf n c.val
    let frozen := s.bit HEP_FREEZE HEP_FREEZE.FROZEN
    let sq := RING_SQ_CFG n r.val
    let page := s.pageOpen n (s.tdi n == 2) = true
    (∀ (w : BarWrite) (b : Bool), w.read = false → s.isReady = true → (b = false → n ≠ 0) → w.offset < 0x1000 →
      (State.barWriteOk w = false ∨ (b = true ∧ s.fnPresent n = false)) →
      ∃ t : State, exec (.wakePageWrite f b w) s = .next t ∧ t.bit HEP_EVENT HEP_EVENT.MMIO_DISCARD = true ∧
        t.fld HEP_MMIO_ERR HEP_MMIO_ERR.COUNT = min (s.fld HEP_MMIO_ERR HEP_MMIO_ERR.COUNT + 1) 65535 ∧ t.disp = s.disp ∧ t.out = s.out) ∧
    (∀ (w : BarWrite) (b : Bool), w.read = false → (b = true → s.fnPresent n = true ∧ w.offset < 0x1000) →
      State.barWriteOk w = true → frozen = true → exec (.wakePageWrite f b w) s = .next s) ∧
    (∀ (w : BarWrite) (b : Bool), w.read = false → (b = false → n ≠ 0 ∧ s.pageOpen n w.tee = true) → (b = true → s.fnPresent n = true) →
      State.barWriteOk w = true → s.fnActive n = true → w.offset = 0 →
      (w.size = 4 → ∃ u : State, exec (.wakePageWrite f b w) s = .next (u.readDoorbell n false) ∧
        (∀ q ∈ u.enabledSqs n, (u.ring (ringOf n q)).sleeping = false ∧ (u.ring (ringOf n q)).formatHold = false)) ∧
      (w.size = 8 → getFld w.value ⟨32, 8⟩ = r.val → s.sqEnabled n r.val = true →
        let u := (s.restartPoll n).wakeRing n r.val
        let count := getFld w.value ⟨0, 32⟩
        exec (.wakePageWrite f b w) s = .next
          ((if State.olderTail (u.ring rk) (s.sqSize n r.val) count then u else u.newTail n r.val count false).driveRing n r.val)) ∧
      (w.size = 8 → getFld w.value ⟨32, 8⟩ = 0x20 + c.val →
        exec (.wakePageWrite f b w) s = .next ((s.restartPoll n).newHead n c.val (getFld w.value ⟨0, 32⟩)))) ∧
    (∀ (w : BarWrite) (b : Bool), w.read = true → s.isReady = true → (b = false → n ≠ 0) →
      exec (.wakePageWrite f b w) s = .next
        (if b then s.readBar 0 1 false (2 ^ 23) (n * 0x1000 + w.offset) w.size (zeros w.size)
          else s.readBar n 0 w.tee s.vfBarSize w.offset w.size (zeros w.size))) ∧
    (∀ t p, let x := s.ring rk
      let y := (s.newTail n r.val t p).ring rk
      let dist := fun (a : Nat) => (a + 2 ^ 32 - x.accepted) % 2 ^ 32
      y.accepted = x.accepted ∧ dist x.tail ≤ dist y.tail ∧ (s.sqSize n r.val < dist t → y.tail = x.tail ∧ y.tailInvalid = true) ∧
      (dist t ≤ s.sqSize n r.val → y.tailInvalid = false ∧ dist t ≤ dist y.tail)) ∧
    (due s (s.fn n).pollAt = false → exec (.pollIntervalExpiry f) s = .next s) ∧
    (due s (s.fn n).pollAt = true → (∃ q ∈ s.enabledSqs n, (s.ring (ringOf n q)).sleeping = false) →
      exec (.pollIntervalExpiry f) s = .next ((s.readDoorbell n true).restartPoll n)) ∧
    (due s (s.fn n).pollAt = true → (∀ q ∈ s.enabledSqs n, (s.ring (ringOf n q)).sleeping = true) →
      exec (.pollIntervalExpiry f) s = .next (s.setFn n { s.fn n with pollAt := none })) ∧
    (∃ t : State, exec (.completionPost f c) s = .next t ∧
      let q := s.cq ck
      let y := t.cq ck
      y.head = q.head ∧ ((q.posted + 2 ^ 32 - q.head) % 2 ^ 32 ≤ s.cqSize n c.val →
        (y.posted + 2 ^ 32 - y.head) % 2 ^ 32 ≤ s.cqSize n c.val)) ∧
    exec (.completionPost f c) s = .next (s.postCq n c.val) ∧
    (s.fnActive n = false → exec (.completionPost f c) s = .next s) ∧
    (∀ (asn : Nat) (u : WorkUnit),
      let k := unitKey rk asn
      let q := s.cq ck
      let slot := s.slotAt n c.val
      let e := State.complEntry asn u.tag ⟨u.status, u.result, u.finish.getD 0, u.restarts⟩ r.val false
      s.postersOf n c.val = [r.val] → (s.ring rk).postOld = [] → (s.ring rk).postQ = [.unit asn] → s.unit? k = some u →
      u.phase = .completed → (q.posted + 2 ^ 32 - q.head) % 2 ^ 32 < s.cqSize n c.val →
      s.reach n slot 32 = true → s.reach n (s.cqRecordAt n c.val) 8 = true →
      (∀ x ∈ s.disp.rings, ∀ d ∈ x.2.fetched, d.issued.isSome = true ∨ d.dupOf.isSome = true) →
      ∃ (t : State) (rest : List Output), exec (.completionPost f c) s = .next t ∧
        t.out = rest ++ (s.request n slot 32 (.dma n slot e)).out ∧
        (t.cq ck).posted = (q.posted + 1) % 2 ^ 32 ∧ (t.cq ck).head = q.head ∧ (t.cq ck).full = false ∧
        (t.ring rk).posted = some asn ∧ (t.ring rk).postQ = [] ∧ t.unit? k = none ∧ (∀ x, x ≠ k → t.unit? x = s.unit? x)) ∧
    (s.inDrain n = true → exec (.coalescingTimer f c) s = .next s) ∧
    (let q := s.cq ck
     let us_ := s.fld (RING_CQ_CFG n c.val) RING_CQ_CFG.COAL_US
     (us_ = 0 ∨ q.unsignalled = 0 → exec (.coalescingTimer f c) s = .next s) ∧
     (∀ t0, s.inDrain n = false → us_ ≠ 0 → 0 < q.unsignalled → q.coalAt = some t0 → t0 + 1000 * us_ ≤ s.tb →
       ∃ u : State, exec (.coalescingTimer f c) s = .next (u.sendVector n (s.fld (RING_CQ_CFG n c.val) RING_CQ_CFG.VECTOR)) ∧
         u = s.setCq ck { q with unsignalled := 0, coalAt := none })) ∧
    (page → s.sqEnabled n r.val = true → ∀ v, exec (.ringSqEnable f r v) s = .next s) ∧
    (page → s.sqEnabled n r.val = false → ∀ v : BitVec 32, ∃ t : State, exec (.ringSqEnable f r v) s = .next t ∧
      let size := getFld (v.setWidth 64) RING_SQ_CFG.SIZE
      let part := getFld (v.setWidth 64) RING_SQ_CFG.PARTITION
      let err := t.fld (RING_SQ_STATUS n r.val) RING_SQ_STATUS.ERR
      (t.sqEnabled n r.val = true ↔ err = 0) ∧ t.fld sq RING_SQ_CFG.SIZE = size ∧ t.fld sq RING_SQ_CFG.PARTITION = part ∧
      (size < 6 ∨ 16 < size → err = 1) ∧ (6 ≤ size → size ≤ 16 → r.val ≠ 16 → s.partFunc part ≠ n → err = 2) ∧
      (err = 0 → (t.ring rk).accepted = 0 ∧ (t.ring rk).tail = 0 ∧ (t.ring rk).exists_ = true ∧
        (t.ring rk).nextAsn = (s.ring rk).nextAsn) ∧
      (err ≠ 0 → t.disp = s.disp)) ∧
    (page → s.sqEnabled n r.val = true → (s.ring rk).draining = false → ∃ t : State, exec (.ringSqDisable f r) s = .next t ∧
      (t.ring rk).draining = true ∧ t.sqEnabled n r.val = true ∧ t.mayFetch n r.val = false ∧
      (∀ d ∈ (t.ring rk).fetched, d.issued.isSome = true ∨ d.dupOf.isSome = true) ∧ t.disp.units = s.disp.units) ∧
    (s.sqEnabled n r.val = false → exec (.ringSqDisable f r) s = .next s) ∧
    (page → ∀ v : BitVec 32, ∃ t : State, exec (.ringCqCfgWrite f c v) s = .next t ∧
      let w : W64 := v.setWidth 64
      let size := getFld w RING_CQ_CFG.SIZE
      let ok := 6 ≤ size ∧ size ≤ 16 ∧ State.vectorOk n (getFld w RING_CQ_CFG.VECTOR) = true
      let err := t.fld (RING_CQ_STATUS n c.val) RING_CQ_STATUS.ERR
      (s.cqEnabled n c.val = false → getFld w RING_CQ_CFG.EN = 1 →
        (ok → t.cqEnabled n c.val = true ∧ err = 0 ∧ t.cq ck = {} ∧
          t.fld (RING_CQ_STATUS n c.val) RING_CQ_STATUS.STATE = if s.fnState n = 3 then 3 else 1) ∧
        (¬ ok → t.cqEnabled n c.val = false ∧ err = 2)) ∧
      (s.cqEnabled n c.val = true → t.fld (RING_CQ_CFG n c.val) RING_CQ_CFG.SIZE = s.fld (RING_CQ_CFG n c.val) RING_CQ_CFG.SIZE ∧
        (getFld w RING_CQ_CFG.EN = 1 → t.cqEnabled n c.val = true ∧ t.cq ck = s.cq ck) ∧
        (getFld w RING_CQ_CFG.EN = 0 →
          (t.cqEnabled n c.val = true ↔ ∃ q ∈ s.enabledSqs n, s.cqOf n q = c.val)))) ∧
    (s.drained n r.val = false → exec (.drainComplete f r) s = .next s) ∧
    (s.drained n r.val = true → ∃ t : State, exec (.drainComplete f r) s = .next t ∧
      t.sqEnabled n r.val = false ∧ (t.ring rk).draining = false ∧ (t.ring rk).nextAsn = (s.ring rk).nextAsn ∧
      ((s.fn n).setRings = none → (s.ring rk).drainFor = none → t.disp.units = s.disp.units) ∧
      (∀ k u, (s.ring rk).drainFor = some k → s.unit? k = some u → u.complIssued = false →
        ∃ v, t.unit? k = some v ∧ v.complIssued = true ∧ v.status = 0 ∧ v.result = (s.ring rk).nextAsn))

/-- R107, R108, R109, R110: the Resync Summary and its register path.
The model's own choices behind it: log 50, 59, 99, 103. -/
def Obligations.ResyncSummary : Prop :=
  ∀ (s : State) (f : Fin 1025) (v : BitVec 32), s.live = true → s.pageOpen f.val (s.tdi f.val == 2) = true →
    let n := f.val
    let w : W64 := v.setWidth 64
    let a := RING_RESYNC_CTL n
    let g := if n = 0 then (if getFld w RING_RESYNC_CTL.FUNC ≤ 1024 then getFld w RING_RESYNC_CTL.FUNC else s.fld a RING_RESYNC_CTL.FUNC) else n
    let need := 256 + 64 * (s.summaryRings g).length
    let st := s.fnState g
    let addr := s.fld (RING_RESYNC_ADDR n) RING_RESYNC_ADDR.ADDR * 64
    let ends := fun (e : Nat) => ∃ t : State, exec (.resyncGo f v) s = .next t ∧ t.fld a RING_RESYNC_CTL.ERR = e ∧
      t.bit a RING_RESYNC_CTL.DONE = true ∧ t.out = s.out ∧ t.disp = s.disp ∧ t.fnState g = st
    let frozen := s.bit HEP_FREEZE HEP_FREEZE.FROZEN
    let q : GoWait := ⟨n, g, addr, 64 * getFld w RING_RESYNC_CTL.LEN⟩
    (s.bit a RING_RESYNC_CTL.BUSY = true → ∃ t : State, exec (.resyncGo f v) s = .next t ∧ t.hep = s.hep ∧ t.out = s.out ∧ t.disp = s.disp) ∧
    (s.bit a RING_RESYNC_CTL.BUSY = false →
    (frozen = true → ends 1) ∧
    (frozen = false → (st = 0 ∨ s.fnPresent g = false) → ends 3) ∧
    (frozen = false → st ≠ 0 → s.fnPresent g = true → 64 * getFld w RING_RESYNC_CTL.LEN < need → ends 2) ∧
    (frozen = false → st ≠ 0 → s.fnPresent g = true → need ≤ 64 * getFld w RING_RESYNC_CTL.LEN →
      (s.mayRequest n = false → ends 4) ∧
      (s.mayRequest n = true → s.reach n addr need = true → ∃ u : State, exec (.resyncGo f v) s = .next (u.endOrphan g) ∧
        u.out = (s.dmaWrite n addr (s.summary g)).out ∧ u.fld a RING_RESYNC_CTL.ERR = 0 ∧
        u.bit a RING_RESYNC_CTL.DONE = true ∧ u.disp = s.disp) ∧
      (s.mayRequest n = true → s.reach n addr need = false →
        ∃ t : State, exec (.resyncGo f v) s = .next t ∧ q ∈ t.hep.goWait ∧ t.bit a RING_RESYNC_CTL.BUSY = true ∧ t.disp = s.disp))) ∧
    (∀ x, x < 1025 → let b := s.summary x
      b.length = 256 + 64 * (s.summaryRings x).length ∧ leAt b 0 2 = 1 ∧ leAt b 2 2 = x ∧
      leAt b 4 2 = (s.summaryRings x).length ∧ leAt b 8 8 = s.tb % 2 ^ 64 ∧
      leAt b 252 4 = (Crypto.crc32c (b.take 252 ++ zeros 4 ++ b.drop 256)) % 2 ^ 32 ∧
      (∀ i r, (s.summaryRings x)[i]? = some r → slice b (256 + 64 * i) 64 = s.ringRecord x r)) ∧
    (∀ x r, (s.ringRecord x r).length = 64)

/-- R48, R50, R99, R104, R105, R106: admin commands: what ends one before its action, and the action of each.
The model's own choices behind it: log 58, 59. -/
def Obligations.AdminCommands : Prop :=
  ∀ (s : State) (f : Fin 1025) (k : Nat) (u : WorkUnit), s.live = true → s.isReady = true → s.adminNext f.val = some (k, u) →
    let a := u.args
    let g := admFn a
    let r := admRing a
    let rk := ringOf g r
    let own := ringOf f.val r
    let err := s.adminErr f.val a
    let op := fun (n : Nat) (i : Instr) (act : Host.Outcome State Fault Refusal → Prop) => admOp a = n →
      (err ≠ 0 → exec i s = .next (s.endUnit k err 0)) ∧ (err = 0 → act (exec i s))
    let ends := fun (o : Host.Outcome State Fault Refusal) (w : State) (status result : Nat) => o = .next (w.endUnit k status result)
    op 0x00 (.nop f) (fun o => ends o s 0 0) ∧
    op 0x01 (.resync f) (fun o =>
      let need := 256 + 64 * (s.summaryRings g).length
      (admB a % 64 ≠ 0 → ends o s 0x0101 0) ∧
      (admB a % 64 = 0 → s.bit HEP_FREEZE HEP_FREEZE.FROZEN = false → 64 * (admA a % 32) < need → ends o s 0x0106 need) ∧
      (admB a % 64 = 0 → s.bit HEP_FREEZE HEP_FREEZE.FROZEN = true → o = .next s) ∧
      (admB a % 64 = 0 → s.bit HEP_FREEZE HEP_FREEZE.FROZEN = false → need ≤ 64 * (admA a % 32) → s.fnActive f.val = false →
        ends o s 0x0107 0) ∧
      (admB a % 64 = 0 → need ≤ 64 * (admA a % 32) → s.fnActive f.val = true → s.reach f.val (admB a) need = false →
        ∃ t : State, o = .next t ∧ t.disp = s.disp) ∧
      (admB a % 64 = 0 → need ≤ 64 * (admA a % 32) → s.fnActive f.val = true → s.reach f.val (admB a) need = true →
        ∃ w : State, ends o w 0 need ∧ w.out = (s.dmaWrite f.val (admB a) (s.summary g)).out ∧
          w.disp = s.disp)) ∧
    op 0x02 (.ringDrain f) (fun o =>
      (s.sqEnabled g r = false → ends o s 0 (s.ring rk).nextAsn) ∧
      (s.sqEnabled g r = true → (s.ring rk).draining = true → ends o s 0x0103 0) ∧
      (s.sqEnabled g r = true → (s.ring rk).draining = false → ∃ t : State, o = .next t ∧ (t.ring rk).draining = true ∧
        (t.ring rk).drainFor = some k ∧ t.mayFetch g r = false ∧ (∀ x, x ≠ k → t.unit? x = s.unit? x))) ∧
    op 0x03 (.ringReset f) (fun o =>
      (s.ring rk).broken = true → rk ≠ keyRing k → ∃ w : State, ends o (w.showRing rk) 0 (s.ring rk).nextAsn ∧
        (w.ring rk).broken = false ∧ (w.ring rk).floor = (s.ring rk).nextAsn ∧ (w.ring rk).window = [] ∧
        (∀ e ∈ w.disp.units, e.1 ∉ (s.ringUnits rk).map (·.1))) ∧
    op 0x04 (.ringMirror f) (fun o =>
      let p := admA a / 2 ^ 8 % 8
      let q := s.partner p
      let part := if (s.ring own).exists_ then (s.ring own).part else s.fld (RING_SQ_CFG f.val r) RING_SQ_CFG.PARTITION
      (s.sqEnabled f.val r = true → ends o s 0x0103 0) ∧
      (s.sqEnabled f.val r = false → admA a / 2 ^ 15 % 2 = 1 → (q.present = false ∨ q.clash = true ∨ part ∉ q.standby) →
        ends o s 0x0105 0) ∧
      (s.sqEnabled f.val r = false → (admA a / 2 ^ 15 % 2 = 0 ∨ (q.present = true ∧ q.clash = false ∧ part ∈ q.standby)) →
        ∃ w : State, ends o w 0 0 ∧ (w.ring own).mirror = if admA a / 2 ^ 15 % 2 = 1 then some p else none)) ∧
    op 0x05 (.ringAdopt f) (fun o =>
      let org := (admA a % 8, admB a % 2 ^ 11, admB a / 2 ^ 16 % 16)
      let y := s.ring (adoptKey org.1 org.2.1 org.2.2)
      (s.sqEnabled f.val r = true → ends o s 0x0103 0) ∧
      (s.sqEnabled f.val r = false → (s.ring own).adopted ≠ some org → (s.ring own).exists_ = false → y.adopted ≠ some org →
        ends o s 0x0101 0) ∧
      (s.sqEnabled f.val r = false → (s.ring own).adopted ≠ some org → (s.ring own).exists_ = false → y.adopted = some org →
        s.dedupFree ≠ 0 → ∃ w : State, ends o w 0 y.nextAsn ∧ w.ring own = { y with exists_ := true } ∧
          w.ring (adoptKey org.1 org.2.1 org.2.2) = {})) ∧
    op 0x06 (.ringPurge f) (fun o =>
      ((s.sqEnabled g r = true ∨ s.ringUnits rk ≠ []) → ends o s 0x0103 0) ∧
      (s.sqEnabled g r = false → (s.ring rk).draining = false → s.ringUnits rk = [] → (s.ring rk).fetched = [] →
        ∃ t : State, o = .next t ∧ t.ring rk = { purgeFor := some k } ∧ t.jnl = s.jnl)) ∧
    op 0x20 (.vfSetRings f) (fun o =>
      let x := s.fn g
      (16 < admA a → ends o s 0x0101 0) ∧ (admA a ≤ 16 → x.setRings.isSome = true → ends o s 0x0103 0) ∧
      (admA a ≤ 16 → x.setRings = none → x.ringCount ≤ admA a → ends o (s.setFn g { x with ringCount := admA a }) 0 x.ringCount) ∧
      (x.setRings = none → admA a < x.ringCount → admA a ≤ 16 →
        (∃ q, q < 16 ∧ q < admA a ∧ s.sqEnabled g q = true ∧ admA a ≤ s.cqOf g q) → ends o s 0x0103 0)) ∧
    op 0x21 (.vfSetWindows f) (fun o => ends o (s.setFn g { s.fn g with windows := admB a }) 0 (s.fn g).windows) ∧
    op 0x22 (.vfSetKeyquota f) (fun o =>
      (8192 < admA a → ends o s 0x0101 0) ∧ (admA a ≤ 8192 → admA a < s.slotsOwned g → ends o s 0x0103 0) ∧
      (admA a ≤ 8192 → s.slotsOwned g ≤ admA a → ends o (s.setFn g { s.fn g with keyQuota := admA a }) 0 (s.fn g).keyQuota)) ∧
    op 0x23 (.vfSetCompshare f) (fun o =>
      (255 < admA a → ends o s 0x0101 0) ∧ (admA a ≤ 255 → ends o (s.setFn g { s.fn g with weight := admA a }) 0 (s.fn g).weight)) ∧
    op 0x24 (.vfSetMeterclass f) (fun o =>
      (15 < admA a → ends o s 0x0101 0) ∧ (admA a ≤ 15 → ends o (s.setFn g { s.fn g with nextClass := admA a }) 0 (s.fn g).nextClass)) ∧
    (admKnown (admOp a) = false → exec (.adminOpcodeUnknown f) s = .next (s.endUnit k 0x0100 0)) ∧
    (f.val ≠ 0 → admPfOnly (admOp a) = true → r ≤ 15 → g ≤ 1024 → err = 0x0102) ∧
    (f.val = 0 → admHasFn (admOp a) = true → g ≠ 0 → g ≤ 1024 → r ≤ 15 → s.fnPresent g = true → s.tdi g ≠ 0 → err = 0x0102)

/-! ### Units of work and compared pairs -/

/-- R22: a unit ends once. R111, R112, R114 to R116,
R122, R126 to R130, R348: bindings, the start of a run and its registers, the Commit Record, restarts, and stopped
partitions.
The model's own choices behind it: log 46, 47, 51. -/
def Obligations.UnitsOfWork : Prop :=
  ∀ (s : State) (k : Nat) (u : WorkUnit), s.unit? k = some u → s.live = true →
    (u.complIssued = false → ∀ st r st' r', let t := s.endUnit k st r
      (t.unit? k = some { u with status := st, result := r, complIssued := true, finish := some (u.finish.getD s.stamp) }) ∧
      (∀ x, x ≠ k → t.unit? x = s.unit? x) ∧ t.endUnit k st' r' = t) ∧
    (u.phase = .restarting → let t := s.restartDurable k
      t.unit? k = some { u with phase := .queued, restarts := u.restarts + 1, closed := false } ∧
      t.bit UOW_EVENT UOW_EVENT.RESTART = true ∧ t.mem = s.mem) ∧
    (∀ (pair : Fin 160) (v : BitVec 32), let a := UOW_PAIR_BIND pair.val
      let en := v.getLsbD 31
      let part := v.toNat / 2 ^ 16 % 2 ^ 10
      let busy := s.slotBusy pair.val || s.slotAssay pair.val
      (s.fld a UOW_PAIR_BIND.STATE = 5 → exec (.pairBindRequest pair v) s = .next s) ∧
      (s.fld a UOW_PAIR_BIND.STATE = 0 → busy = false → ∃ t : State, exec (.pairBindRequest pair v) s = .next t ∧
        t.fld a UOW_PAIR_BIND.PARTITION = part ∧ t.bit a UOW_PAIR_BIND.EN = en ∧
        t.fld a UOW_PAIR_BIND.STATE = (if en then 1 else 0) ∧
        t.cru.confirms = s.cru.confirms ++ (if en then [(1, pair.val, part)] else [])) ∧
      (s.fld a UOW_PAIR_BIND.STATE ≠ 5 → busy = true → s.slotPart pair.val ≠ some part →
        s.fld a UOW_PAIR_BIND.PARTITION ≠ part → ∃ t : State, exec (.pairBindRequest pair v) s = .next t ∧
          t.fld a UOW_PAIR_BIND.STATE = 4 ∧ t.disp.runs = s.disp.runs ∧ t.disp.units = s.disp.units ∧ t.procs = s.procs ∧
          t.disp.bindWait.get none pair.val = some v.toNat)) ∧
    (∀ (kind : Fin 6) (index : Fin 1024) (c : Nat × Nat × Nat),
      s.cru.confirms.find? (fun c => c.1 == kind.val && c.2.1 == index.val) = some c →
      (s.fld CRU_STATUS CRU_STATUS.STATE ≠ 1 → exec (.ownerConfirmation kind index) s = .next s) ∧
      (s.fld CRU_STATUS CRU_STATUS.STATE = 1 → let ok := s.confirms kind.val index.val c.2.2
        (ok = true → s.fld (CRU_PART c.2.2) CRU_PART.STATE = 3 ∨ s.fld (CRU_PART c.2.2) CRU_PART.STATE = 4) ∧
        (∃ t : State, exec (.ownerConfirmation kind index) s = .next t ∧ t.cru.confirms = s.cru.confirms.erase c ∧
          (kind.val = 1 → s.fld (UOW_PAIR_BIND index.val) UOW_PAIR_BIND.STATE = 1 →
            s.fld (UOW_PAIR_BIND index.val) UOW_PAIR_BIND.PARTITION = c.2.2 →
            t.fld (UOW_PAIR_BIND index.val) UOW_PAIR_BIND.STATE = (if ok then 2 else 0) ∧
            (ok = false → t.bit (UOW_PAIR_BIND index.val) UOW_PAIR_BIND.EN = false ∧
              t.bit UOW_EVENT UOW_EVENT.BIND_REFUSED = true)) ∧
          (kind.val = 2 → s.fld (SWG_Q_STATUS index.val) SWG_Q_STATUS.STATE = 1 →
            t.fld (SWG_Q_STATUS index.val) SWG_Q_STATUS.STATE = (if ok then 2 else 0)) ∧
          (kind.val = 3 → s.fld (CIP_Q_STATUS index.val) CIP_Q_STATUS.STATE = 1 →
            t.fld (CIP_Q_STATUS index.val) CIP_Q_STATUS.STATE = (if ok then 2 else 0)) ∧
          (kind.val = 4 → s.fld (CHN_Q_STATUS index.val) CHN_Q_STATUS.STATE = 1 →
            t.fld (CHN_Q_STATUS index.val) CHN_Q_STATUS.STATE = (if ok then 2 else 0)) ∧
          (kind.val = 5 → ok = false → s.fld (CHN_DEV_CFG index.val) CHN_DEV_CFG.STATE = 1 →
            t.fld (CHN_DEV_CFG index.val) CHN_DEV_CFG.STATE = 1 ∧ t.bit CHN_EVENT CHN_EVENT.OWNER_REFUSED = true)))) ∧
    (∀ rk v, s.startable rk v = true → ∀ x ∈ s.ringUnits rk, v.asn < x.2.asn + 4096 ∧ (x.2.phase = .restarting → v.asn ≤ x.2.asn)) ∧
    (∀ (p : Fin 1024) (e : Fin 320) (rk : Nat), s.isReady = true →
      let st := s.fld (CRU_PART p.val) CRU_PART.STATE
      let block := (s.partRec p.val).block
      (st = 3 → exec (.unitStart p e) s = .next s) ∧
      (st ≠ 3 → st ≠ 4 → (s.ringsInTurn p.val).head? = some rk → s.firstQueued rk = some (k, u) →
        exec (.unitStart p e) s = .next ((s.passTurn p.val rk).endUnit k 4 0)) ∧
      (st = 4 → (s.ringsInTurn p.val).find? (fun rk =>
          decide (s.ringRunning rk < 2 ^ s.fld (UOW_PART_CFG p.val) UOW_PART_CFG.RING_CONC) &&
            (s.firstQueued rk).any (fun x => s.startable rk x.2)) = some rk →
        s.firstQueued rk = some (k, u) →
        (s.execIdleFor p.val e.val = false → exec (.unitStart p e) s = .next s) ∧
        (s.execIdleFor p.val e.val = true → u.part = p.val → ∃ t : State, exec (.unitStart p e) s = .next t ∧
          let x := t.proc e.val
          t.run e.val = .unit k ∧
          t.unit? k = some { u with phase := .executing, exec := some e.val, closed := false, exchanges := [], refused := none } ∧
          (e.val % 2 = 0 → t.fld (UOW_PAIR_BIND (e.val / 2)) UOW_PAIR_BIND.STATE = 3) ∧
          x.pc = BitVec.ofNat 64 (leAt block 8 8) &&& 0xFFFFFFFFFFFFFFFC#64 ∧ x.lk = 0 ∧
          x.getG 1 = BitVec.ofNat 64 (leAt u.args 0 8) ∧ x.getG 4 = BitVec.ofNat 64 (leAt u.args 24 8) ∧
          x.getG 5 = BitVec.ofNat 64 u.asn ∧ x.getG 6 = BitVec.ofNat 64 u.restarts ∧
          x.getG 7 = BitVec.ofNat 64 (e.val / 2) ∧ x.getG 8 = BitVec.ofNat 64 e.val ∧
          x.getG 62 = BitVec.ofNat 64 (leAt block 24 8 + (e.val + 1) * leAt block 4 4) ∧
          (∀ r : RegNo, 8 < r.val → r.val ≠ 62 → x.getG r = 0) ∧ (∀ r, x.getF r = 0) ∧
          getFld x.psr PSR.PL = 1 ∧ getFld x.psr PSR.UNIT = 1 ∧ getFld x.psr PSR.SEALED = 1 ∧
          x.getSp spFpc = 0 ∧ x.part = some p.val ∧ (∀ n, n ≠ e.val → t.proc n = s.proc n)))) ∧
    (∀ (f : Fin 9225) (r : Fin 16) (asn : Nat), k = unitKey (ringOf f.val r.val) asn →
      (u.aborts ≠ [] ∨ s.unitProgs k ≠ [] ∨ s.originAborted u = false ∨ u.phase ≠ .preparing ∨ u.refused ≠ none ∨ s.ringServed (keyRing k) = false → exec (.unitPrepared f r asn) s = .next s) ∧
      (u.phase = .preparing → u.commitIssued = false → u.complIssued = false → u.aborts = [] → s.unitProgs k = [] →
        s.originAborted u = true → u.refused = none → s.ringServed (keyRing k) = true →
        (u.exchanges = [] → exec (.unitPrepared f r asn) s = .next (s.endUnit k 0 u.result)) ∧
        (u.exchanges ≠ [] → (∀ x ∈ u.exchanges, x.phase = .held) → ∃ (t : State) (blocks : List Bytes),
          exec (.unitPrepared f r asn) s = .next (t.writeRecord blocks (.commit k) (s.ring (keyRing k)).mirror) ∧
          t = s.setUnit k { u with commitIssued := true } ∧
          (u.exchanges.length ≤ 64 → blocks.length = 1 + u.exchanges.length / 4) ∧
          leAt (blocks.headD []) 0 1 = 3 ∧ leAt (blocks.headD []) 16 8 = u.result % 2 ^ 64)) ∧
      (∀ poison, (u.phase = .executing → exec (.unitRestart f r asn poison) s = .next (s.restartUnit k (if poison then 2 else 1))) ∧
        (u.phase ≠ .executing → exec (.unitRestart f r asn poison) s = .next s)) ∧
      (∀ cause, u.complIssued = false → u.budget ≤ u.restarts → s.restartUnit k cause = s.abortUnit k 2 cause)) ∧
    (∀ p : Fin 1024, (s.fld (CRU_PART p.val) CRU_PART.STATE ≠ 5 → exec (.partitionStop p) s = .next s) ∧
      (s.fld (CRU_PART p.val) CRU_PART.STATE = 5 → ∃ t : State, exec (.partitionStop p) s = .next t ∧
        (∀ e ∈ t.procs, (e.2.suspended.map (·.part)) ≠ some p.val)))

/-- R185, R187, R188, R189, R190, R191, R192, R195, R196: mismatches and retries, Assay verdicts and substitution,
cluster loss and injection.
The model's own choices behind it: log 53. -/
def Obligations.ComparedPairs : Prop :=
  ∀ (s : State) (v : Fin 320), s.live = true →
    let n := v.val
    let c := n / 8
    let x := s.pairSt n
    let st := s.viewState n
    let split := s.isSplit (n / 2)
    let used : Nat := match x.last with | none => 0 | some t => if t + 10000 ≤ s.tb then 0 else x.used
    let spare := s.fld (SPARE_STATUS c) SPARE_STATUS.STATE
    let late : Bool := match x.assayAt with | none => false | some t => decide (t + 400000 < s.tb)
    let outOfTime : Bool := match x.assayAt with | none => false | some t => decide (t + 400000 ≤ s.tb)
    let noSpare := if s.fld (PAIR_STATUS n) PAIR_STATUS.CORE_A = 8 ∨ s.fld (PAIR_STATUS n) PAIR_STATUS.CORE_B = 8 then
      s.setFld (SPARE_STATUS c) SPARE_STATUS.STATE 4 else spareBack s n
    let event : (Bool → Instr) → Prop := fun i => (st = 1 ∨ st = 2) →
      (used < 2 → ∃ t : State, exec (i true) s = .next t ∧ t.viewState n = 1 ∧ t.bit (PAIR_EVENT n) PAIR_EVENT.MISMATCH = true ∧
        t.bit (PAIR_EVENT n) PAIR_EVENT.RETRIED = true ∧ t.fld (PAIR_LAST n) PAIR_LAST.OUTCOME = 1 ∧
        (t.pairSt n).used = used + 1 ∧ (t.pairSt n).last = some s.tb ∧ t.disp = s.disp) ∧
      (used < 2 → ∃ t : State, exec (i false) s = .next t ∧ t.viewState n = 2 ∧ (t.pairSt n).used = used + 1 ∧ t.disp = s.disp) ∧
      (2 ≤ used → x.transients.length < 8 → ∀ b, ∃ t : State, exec (i b) s = .next t ∧ t.viewState n = 3 ∧ t.disp = s.disp ∧
        (t.pairSt n).assayAt = some s.tb ∧ (∀ q, t.gReg (.exec v) q = s.gReg (.exec v) q)) ∧
      (2 ≤ used → 8 ≤ x.transients.length → ∀ b, ∃ u : State, exec (i b) s = .next (u.retireView n 5 15 1 1) ∧ u.disp = s.disp)
    (∀ lane, (split = false → event (.compareMismatch v lane)) ∧
      (split = true → ∀ b, exec (.compareMismatch v lane b) s = .next s)) ∧
    (split = true → event (.splitCheckError (v.castLE (by decide)))) ∧
    (split = false → ∀ b, exec (.splitCheckError (v.castLE (by decide)) b) s = .next s) ∧
    (∀ (w : Fin 384), 320 ≤ w.val → exec (.splitCheckError w true) s = .next s ∧
      (s.chanInService (w.val - 320) = false → exec (.splitCheckError w false) s = .next s) ∧
      (s.chanInService (w.val - 320) = true → exec (.splitCheckError w false) s = .next (s.retireChan (w.val - 320)))) ∧
    (st ≠ 3 → ∀ a b r q, exec (.assayVerdict v a b r q) s = .next s) ∧
    (st = 3 → outOfTime = false → ∀ (a b : Fin 10) r q, (a = 9 ∨ b = 9) → exec (.assayVerdict v a b r q) s = .next s) ∧
    (st = 3 → split = false → late = true → ∀ a b r q,
      exec (.assayVerdict v a b r q) s = .next ((noSpare.retireView n 5 14 9 9).afterVerdict c)) ∧
    (st = 3 → split = true → late = false → ∀ b r q, (b = 9 → outOfTime = true) →
      exec (.assayVerdict v 1 b r q) s = .next ((assayPassed s n 0).afterVerdict c)) ∧
    (st = 3 → split = false → late = false → (∀ r q, exec (.assayVerdict v 1 1 r q) s = .next ((assayPassed s n 1).afterVerdict c)) ∧
      (∀ a b r q, a ≠ 1 → b ≠ 1 → (a = 9 ∨ b = 9 → outOfTime = true) →
        exec (.assayVerdict v a b r q) s = .next ((noSpare.retireView n 5 14 a.val b.val).afterVerdict c)) ∧
      (let u := assayPassed s n 1;
        u.viewState n = 1 ∧ u.bit (PAIR_EVENT n) PAIR_EVENT.TRANSIENT = true ∧ u.fld (PAIR_LAST n) PAIR_LAST.OUTCOME = 2 ∧
        s.tb ∈ (u.pairSt n).transients ∧ u.disp.units = s.disp.units) ∧
      (∀ a, a ≠ 1 → (a = 9 → outOfTime = true) → (spare = 0 ∨ spare = 1) →
        s.fld (SPARE_STATUS c) SPARE_STATUS.ROUTE_OK >>> (2 * (n / 2 % 4)) % 2 = 1 →
        ∃ u : State, exec (.assayVerdict v a 1 true true) s = .next (u.afterVerdict c) ∧ u.viewState n = 1 ∧
          u.fld (PAIR_STATUS n) PAIR_STATUS.CORE_A = 8 ∧ u.fld (PAIR_STATUS n) PAIR_STATUS.CORE_B = s.fld (PAIR_STATUS n) PAIR_STATUS.CORE_B ∧
          u.fld (SPARE_STATUS c) SPARE_STATUS.STATE = 2 ∧ u.fld (SPARE_STATUS c) SPARE_STATUS.SLOT = n / 2 % 4 ∧
          u.bit (PAIR_EVENT n) PAIR_EVENT.SUBSTITUTED = true ∧ u.fld (PAIR_LAST n) PAIR_LAST.OUTCOME = 3 ∧
          u.disp.units = s.disp.units ∧ u.disp.runs = s.disp.runs) ∧
      (∀ a r q, a ≠ 1 → (a = 9 → outOfTime = true) → (2 ≤ spare ∨ r = false ∨ q = false) → spare ≠ 1 →
        s.fld (PAIR_STATUS n) PAIR_STATUS.CORE_A ≠ 8 → exec (.assayVerdict v a 1 r q) s =
          .next ((s.retireView n 5 (s.fld (PAIR_STATUS n) PAIR_STATUS.CORE_A) a.val 1).afterVerdict c))) ∧
    (∀ cl : Fin 40, (s.prs.lost.get false cl.val = true → exec (.clusterLoss cl) s = .next s) ∧
      (s.prs.lost.get false cl.val = false → ∃ u : State, exec (.clusterLoss cl) s = .next u ∧ u = s.clusterLost cl.val ∧
        (s.clusterGone cl.val).fld (SPARE_STATUS cl.val) SPARE_STATUS.STATE = 3)) ∧
    (split = false → n % 2 = 1 → exec (.pairInjectGo v) s = .next s) ∧
    (split = true ∨ n % 2 = 0 → let bind := s.fld (UOW_PAIR_BIND (n / 2)) UOW_PAIR_BIND.STATE
      let may := split = false ∧ (bind = 0 ∨ bind = 2)
      ∃ t : State, exec (.pairInjectGo v) s = .next t ∧ t.disp = s.disp ∧
        (may → t.bit (PAIR_INJECT n) PAIR_INJECT.BUSY = true ∧ t.bit (PAIR_INJECT n) PAIR_INJECT.REFUSED = false ∧ t.viewState n = 6) ∧
        (¬ may → t.bit (PAIR_INJECT n) PAIR_INJECT.REFUSED = true ∧ t.viewState n = st)) ∧
    (s.bit (PAIR_INJECT n) PAIR_INJECT.BUSY = false → ∀ miss, exec (.injectionDone v miss) s = .next s) ∧
    (s.bit (PAIR_INJECT n) PAIR_INJECT.BUSY = true →
      (∃ t : State, exec (.injectionDone v 0) s = .next t ∧ t.viewState n = 1 ∧ t.fld (PAIR_STATUS n) PAIR_STATUS.LANE_MISS = 0 ∧
        t.bit (PAIR_EVENT n) PAIR_EVENT.INJECT_DONE = true ∧ t.bit (PAIR_INJECT n) PAIR_INJECT.BUSY = false ∧ t.disp = s.disp) ∧
      (∀ miss, miss ≠ 0 → ∃ u : State, exec (.injectionDone v miss) s = .next ((((u.viewGone n 0)).pairEvent n 1 6).checkCluster c) ∧
        u.fld (PAIR_STATUS n) PAIR_STATUS.LANE_MISS = miss.toNat ∧ u.bit (PAIR_INJECT n) PAIR_INJECT.BUSY = false ∧
        u.fld (PAIR_LAST n) PAIR_LAST.OUTCOME = 4 ∧ u.disp = s.disp))

/-! ### Integer instructions -/

/-- R163: sums, differences and products modulo 2^64, W forms modulo 2^32 and sign-extended, high products from the exact
128-bit product; only d and pc change, so no flag is set. -/
def Obligations.IntegerWraps : Prop :=
  ∀ (p : Proc) (d a b : RegNo) (imm : BitVec 14) (s : State), Runs s p →
    let x := s.gReg p a
    let y := s.gReg p b
    let does := fun (i : Instr) (ok : W64 → Prop) => ∃ v, WritesG s p i d v ∧ ok v
    does (.add p d a b) (fun v => v.toNat = (x.toNat + y.toNat) % 2 ^ 64) ∧
    does (.sub p d a b) (fun v => (v.toNat : Int) = ((x.toNat : Int) - y.toNat) % 2 ^ 64) ∧
    does (.addi p d a imm) (fun v => (v.toNat : Int) = ((x.toNat : Int) + imm.toInt) % 2 ^ 64) ∧
    does (.mul p d a b) (fun v => v.toNat = x.toNat * y.toNat % 2 ^ 64) ∧
    does (.addw p d a b) (fun v => v.toInt = Int.bmod ((x.toNat : Int) + y.toNat) (2 ^ 32)) ∧
    does (.subw p d a b) (fun v => v.toInt = Int.bmod ((x.toNat : Int) - y.toNat) (2 ^ 32)) ∧
    does (.addiw p d a imm) (fun v => v.toInt = Int.bmod ((x.toNat : Int) + imm.toInt) (2 ^ 32)) ∧
    does (.mulw p d a b) (fun v => v.toInt = Int.bmod ((x.toNat : Int) * y.toNat) (2 ^ 32)) ∧
    does (.mulhs p d a b) (fun v => v.toInt = x.toInt * y.toInt / 2 ^ 64) ∧
    does (.mulhu p d a b) (fun v => v.toNat = x.toNat * y.toNat / 2 ^ 64) ∧
    does (.mulhm p d a b) (fun v => v.toInt = x.toInt * y.toNat / 2 ^ 64)

/-- R144, R145: bitwise operations, bit by bit, and comparisons. -/
def Obligations.IntegerBitwiseAndCompare : Prop :=
  ∀ (p : Proc) (d a b : RegNo) (imm : BitVec 14) (s : State), Runs s p →
    let x := s.gReg p a
    let y := s.gReg p b
    let k : W64 := imm.signExtend 64
    let bits := fun (i : Instr) (f : Bool → Bool → Bool) (z : W64) =>
      ∃ v, WritesG s p i d v ∧ ∀ n, n < 64 → v.getLsbD n = f (x.getLsbD n) (z.getLsbD n)
    let is := fun (i : Instr) (v : W64) => WritesG s p i d v
    bits (.and p d a b) (fun m n => m && n) y ∧ bits (.or p d a b) (fun m n => m || n) y ∧
    bits (.xor p d a b) (fun m n => m != n) y ∧ bits (.andn p d a b) (fun m n => m && !n) y ∧
    bits (.andi p d a imm) (fun m n => m && n) k ∧ bits (.ori p d a imm) (fun m n => m || n) k ∧
    bits (.xori p d a imm) (fun m n => m != n) k ∧
    is (.slt p d a b) (if x.toInt < y.toInt then 1 else 0) ∧ is (.sltu p d a b) (if x.toNat < y.toNat then 1 else 0) ∧
    is (.slti p d a imm) (if x.toInt < imm.toInt then 1 else 0) ∧
    is (.sltiu p d a imm) (if x.toNat < k.toNat then 1 else 0) ∧
    is (.min p d a b) (if x.toInt < y.toInt then x else y) ∧ is (.minu p d a b) (if x.toNat < y.toNat then x else y) ∧
    is (.max p d a b) (if x.toInt < y.toInt then y else x) ∧ is (.maxu p d a b) (if x.toNat < y.toNat then y else x)

/-- R144, R145: shifts and rotates by bits 5:0 of b or by the amount of the instruction, by their bits. -/
def Obligations.IntegerShifts : Prop :=
  ∀ (p : Proc) (d a b : RegNo) (n : Fin 64) (s : State), Runs s p →
    let x := s.gReg p a
    let k := (s.gReg p b).toNat % 64
    let bits := fun (i : Instr) (f : Nat → Bool) => ∃ v, WritesG s p i d v ∧ ∀ j, j < 64 → v.getLsbD j = f j
    let left := fun (k j : Nat) => decide (k ≤ j) && x.getLsbD (j - k)
    let right := fun (k j : Nat) => x.getLsbD (j + k)
    let arith := fun (k j : Nat) => if j + k < 64 then x.getLsbD (j + k) else x.getLsbD 63
    let turn := fun (k j : Nat) => x.getLsbD ((j + k) % 64)
    bits (.sll p d a b) (left k) ∧ bits (.srl p d a b) (right k) ∧ bits (.sra p d a b) (arith k) ∧
    bits (.ror p d a b) (turn k) ∧
    bits (.slli p d a n) (left n.val) ∧ bits (.srli p d a n) (right n.val) ∧ bits (.srai p d a n) (arith n.val) ∧
    bits (.rori p d a n) (turn n.val)

/-- R144, R145: `CLZ`, `CTZ` and `POPC` by the bits of a, and R144's `HIMM` and `HIMMPC`. -/
def Obligations.IntegerCounts : Prop :=
  ∀ (p : Proc) (d a : RegNo) (imm : BitVec 20) (s : State), Runs s p →
    let x := s.gReg p a
    (∃ n, n ≤ 64 ∧ WritesG s p (.clz p d a) d (BitVec.ofNat 64 n) ∧
      (∀ j, 64 - n ≤ j → x.getLsbD j = false) ∧ (n < 64 → x.getLsbD (63 - n) = true)) ∧
    (∃ n, n ≤ 64 ∧ WritesG s p (.ctz p d a) d (BitVec.ofNat 64 n) ∧
      (∀ j, j < n → x.getLsbD j = false) ∧ (n < 64 → x.getLsbD n = true)) ∧
    WritesG s p (.popc p d a) d (BitVec.ofNat 64 ((List.range 64).countP (fun j => x.getLsbD j))) ∧
    (∃ v, WritesG s p (.himm p d imm) d v ∧ v.toInt = imm.toInt * 2 ^ 14) ∧
    (∃ v, WritesG s p (.himmpc p d imm) d v ∧
      (v.toNat : Int) = (((s.proc (procNo p)).pc.toNat : Int) + imm.toInt * 2 ^ 14) % 2 ^ 64)

/-- R164: outside R165's cases, quotient and remainder are what rounding toward zero gives, in all four widths and
signs. -/
def Obligations.DivisionRoundsTowardZero : Prop :=
  ∀ (p : Proc) (d a b : RegNo) (s : State), Runs s p →
    let x := s.gReg p a
    let y := s.gReg p b
    let divides := fun (quot rem : Instr) (w : Nat) (n m : Int) =>
      m ≠ 0 → ¬ (n = -(2 ^ (w - 1) : Nat) ∧ m = -1) →
        ∃ (q r : Int), n = q * m + r ∧ r.natAbs < m.natAbs ∧ (r = 0 ∨ (0 < r ↔ 0 < n)) ∧
          WritesG s p quot d ((BitVec.ofInt w q).signExtend 64) ∧ WritesG s p rem d ((BitVec.ofInt w r).signExtend 64)
    let lowS := fun (z : W64) => (z.setWidth 32).toInt
    let lowU := fun (z : W64) => ((z.setWidth 32).toNat : Int)
    divides (.div p d a b) (.rem p d a b) 64 x.toInt y.toInt ∧
    divides (.divu p d a b) (.remu p d a b) 64 x.toNat y.toNat ∧
    divides (.divw p d a b) (.remw p d a b) 32 (lowS x) (lowS y) ∧
    divides (.divuw p d a b) (.remuw p d a b) 32 (lowU x) (lowU y)

/-- R165, R166: division by zero and signed overflow: the table's result and the sticky flag with the enable clear, the
precise exception with it set. -/
def Obligations.DivisionSpecialCases : Prop :=
  ∀ (p : Proc) (d a b : RegNo) (s : State), Runs s p →
    let x := s.gReg p a
    let y := s.gReg p b
    let ifc := (s.proc (procNo p)).getSp spIfc
    let pc := (s.proc (procNo p)).pc
    let lowX : W64 := (x.setWidth 32).signExtend 64
    let case := fun (i : Instr) (en fl : Fld) (cause : Nat) (v : W64) =>
      (getFld ifc en = 0 →
        exec i s = .next ((s.fetched p).onProc p (fun r => ((r.setSp spIfc (putFld ifc fl 1)).setG d v).next))) ∧
      (getFld ifc en = 1 → Traps s p i cause pc)
    (y = 0 → case (.div p d a b) ⟨8, 1⟩ ⟨0, 1⟩ 0x0A 0 ∧ case (.divu p d a b) ⟨8, 1⟩ ⟨0, 1⟩ 0x0A 0 ∧
      case (.rem p d a b) ⟨8, 1⟩ ⟨0, 1⟩ 0x0A x ∧ case (.remu p d a b) ⟨8, 1⟩ ⟨0, 1⟩ 0x0A x) ∧
    (y.setWidth 32 = 0#32 → case (.divw p d a b) ⟨8, 1⟩ ⟨0, 1⟩ 0x0A 0 ∧ case (.divuw p d a b) ⟨8, 1⟩ ⟨0, 1⟩ 0x0A 0 ∧
      case (.remw p d a b) ⟨8, 1⟩ ⟨0, 1⟩ 0x0A lowX ∧ case (.remuw p d a b) ⟨8, 1⟩ ⟨0, 1⟩ 0x0A lowX) ∧
    (x.toInt = -(2 ^ 63) → y.toInt = -1 →
      case (.div p d a b) ⟨9, 1⟩ ⟨1, 1⟩ 0x0B x ∧ case (.rem p d a b) ⟨9, 1⟩ ⟨1, 1⟩ 0x0B 0) ∧
    ((x.setWidth 32).toInt = -(2 ^ 31) → (y.setWidth 32).toInt = -1 →
      case (.divw p d a b) ⟨9, 1⟩ ⟨1, 1⟩ 0x0B lowX ∧ case (.remw p d a b) ⟨9, 1⟩ ⟨1, 1⟩ 0x0B 0)

/-- R150, with R142's targets: branches and jumps by displacement. -/
def Obligations.Branches : Prop :=
  ∀ (p : Proc) (a b : RegNo) (disp : BitVec 14) (far : BitVec 26) (s : State), Runs s p →
    let x := s.gReg p a
    let y := s.gReg p b
    let r := s.proc (procNo p)
    let to_ := fun (w : Int) => r.pc + BitVec.ofInt 64 (4 * w)
    let goesIf := fun (i : Instr) (c : Prop) =>
      (c → exec i s = .next (s.goes p (to_ disp.toInt) r.lk)) ∧ (¬ c → exec i s = .next (s.goes p (r.pc + 4) r.lk))
    goesIf (.beq p a b disp) (x = y) ∧ goesIf (.bne p a b disp) (x ≠ y) ∧
    goesIf (.blt p a b disp) (x.toInt < y.toInt) ∧ goesIf (.bge p a b disp) (y.toInt ≤ x.toInt) ∧
    goesIf (.bltu p a b disp) (x.toNat < y.toNat) ∧ goesIf (.bgeu p a b disp) (y.toNat ≤ x.toNat) ∧
    exec (.j p far) s = .next (s.goes p (to_ far.toInt) r.lk) ∧
    exec (.jal p far) s = .next (s.goes p (to_ far.toInt) (r.pc + 4))

/-- R145: jumps to a register or to `lk`, and moves of `lk`; a target off a word boundary raises instruction alignment. -/
def Obligations.RegisterJumps : Prop :=
  ∀ (p : Proc) (d a : RegNo) (s : State), Runs s p →
    let x := s.gReg p a
    let r := s.proc (procNo p)
    (x.toNat % 4 = 0 → exec (.jr p a) s = .next (s.goes p x r.lk) ∧ exec (.jalr p a) s = .next (s.goes p x (r.pc + 4))) ∧
    (x.toNat % 4 ≠ 0 → Traps s p (.jr p a) 0x03 x ∧ Traps s p (.jalr p a) 0x03 x) ∧
    (r.lk.toNat % 4 = 0 → exec (.ret p) s = .next (s.goes p r.lk r.lk)) ∧
    (r.lk.toNat % 4 ≠ 0 → Traps s p (.ret p) 0x03 r.lk) ∧
    WritesG s p (.mflk p d) d r.lk ∧
    exec (.mtlk p a) s = .next (s.goes p (r.pc + 4) x)

/-! ### Loads, stores and atomics -/

/-- R149, R153, R154: the effective address of an access and the base register's update: linear; modulo, which keeps
both inside the region; and bit-reversed, which keeps the update inside it. A fault names the cause and `eaddr` of
the first check that fails.
The model's own choices behind it: log 20. -/
def Obligations.AddressModes : Prop :=
  ∀ (x : ProcState) (prof : Profile) (a : RegNo) (u : Bool) (imm : BitVec 13) (lg : Fin 4) (acc : Acc),
    let size := 2 ^ lg.val
    let gB := x.getG a
    let off : Int := if u then 0 else imm.toInt
    let m : Int := if u then imm.toInt else 0
    let e := effective x prof a u imm size acc
    ((prof = .controller ∨ boundMode x a = none) →
      let ea : W64 := gB + BitVec.ofInt 64 off
      e = if ea.toNat % size = 0 then .ok ea (gB + BitVec.ofInt 64 imm.toInt) else .fault acc.align ea) ∧
    (∀ S L k, prof ≠ .controller → boundMode x a = some (1, S, L, k) → S + L ≤ 2 ^ 64 →
      ((gB.toNat < S ∨ S + L ≤ gB.toNat ∨ (L : Int) ≤ off.natAbs ∨ (L : Int) ≤ m.natAbs) → e = .fault 0x09 gB) ∧
      (∀ ea upd, e = .ok ea upd → S ≤ ea.toNat ∧ ea.toNat + size ≤ S + L ∧ S ≤ upd.toNat ∧ upd.toNat < S + L ∧
        ea.toNat % size = 0 ∧ ((ea.toNat : Int) - gB.toNat - off) % L = 0 ∧ ((upd.toNat : Int) - gB.toNat - m) % L = 0)) ∧
    (∀ S L k, prof ≠ .controller → boundMode x a = some (2, S, L, k) → 1 ≤ k → S + size * 2 ^ k ≤ 2 ^ 64 →
      ((off ≠ 0 ∨ S % (size * 2 ^ k) ≠ 0 ∨ gB.toNat < S ∨ (gB.toNat - S) % size ≠ 0 ∨ size * 2 ^ k ≤ gB.toNat - S ∨
          m < 0 ∨ m % size ≠ 0 ∨ size * 2 ^ k ≤ m) → e = .fault 0x09 gB) ∧
      (∀ ea upd, e = .ok ea upd → ea = gB ∧ S ≤ upd.toNat ∧ upd.toNat < S + size * 2 ^ k ∧ (upd.toNat - S) % size = 0 ∧
        ∃ i n : Nat, gB.toNat = S + size * i ∧ (if m = 0 then n = 2 ^ (k - 1) else m = size * n) ∧
          upd.toNat = S + size * revBits k ((revBits k i + revBits k n) % 2 ^ k)))

/-- R149, R135, R136: what each load leaves when its access is made, and its exceptions. The access is `effective` and
`State.loadBytes`, after the fetch; where t and a name one register the loaded value stands.
The model's own choices behind it: log 17, 22. -/
def Obligations.Loads : Prop :=
  ∀ (p : Proc) (t a : RegNo) (u : Bool) (imm : BitVec 13) (s : State), Runs s p →
    let loads := fun (i : Instr) (size : Nat) (own : Bool) (put : ProcState → Nat → ProcState) =>
      (∀ c e, effective (s.proc (procNo p)) (profile p) a u imm size .load = .fault c e → Traps s p i c e) ∧
      (∀ ea upd, effective (s.proc (procNo p)) (profile p) a u imm size .load = .ok ea upd →
        (∀ b s', (s.fetched p).loadBytes p ea size = (some b, s') →
          exec i s = .next (s'.onProc p fun r => (put (if u = true ∧ own = false then r.setG a upd else r) (ofLe b)).next)) ∧
        (∀ s', (s.fetched p).loadBytes p ea size = (none, s') → exec i s = .next s'))
    let signed := fun (w : Nat) (r : ProcState) (v : Nat) => r.setG t ((BitVec.ofNat w v).signExtend 64)
    let plain := fun (r : ProcState) (v : Nat) => r.setG t (BitVec.ofNat 64 v)
    let float := fun (r : ProcState) (v : Nat) => r.setF t (BitVec.ofNat 64 v)
    let own := t == a
    loads (.lb p t a u imm) 1 own (signed 8) ∧ loads (.lh p t a u imm) 2 own (signed 16) ∧
    loads (.lw p t a u imm) 4 own (signed 32) ∧ loads (.ld p t a u imm) 8 own (signed 64) ∧
    loads (.lbu p t a u imm) 1 own plain ∧ loads (.lhu p t a u imm) 2 own plain ∧ loads (.lwu p t a u imm) 4 own plain ∧
    (profile p = .main → loads (.flw p t a u imm) 4 false float ∧ loads (.fld p t a u imm) 8 false float) ∧
    (profile p ≠ .main →
      Traps s p (.flw p t a u imm) 0x01 (s.proc (procNo p)).pc ∧ Traps s p (.fld p t a u imm) 0x01 (s.proc (procNo p)).pc)

/-- R149, R135: what each store leaves when its access is made, and its exceptions; the low bytes of t are taken before
any update of a.
The model's own choices behind it: log 17, 22. -/
def Obligations.Stores : Prop :=
  ∀ (p : Proc) (t a : RegNo) (u : Bool) (imm : BitVec 13) (s : State), Runs s p →
    let stores := fun (i : Instr) (size : Nat) (v : W64) =>
      (∀ c e, effective (s.proc (procNo p)) (profile p) a u imm size .store = .fault c e → Traps s p i c e) ∧
      (∀ ea upd, effective (s.proc (procNo p)) (profile p) a u imm size .store = .ok ea upd →
        (∀ s', (s.fetched p).storeBytes p ea (leBytes size v.toNat) = (true, s') →
          exec i s = .next (s'.onProc p fun r => (if u then r.setG a upd else r).next)) ∧
        (∀ s', (s.fetched p).storeBytes p ea (leBytes size v.toNat) = (false, s') → exec i s = .next s'))
    stores (.sb p t a u imm) 1 (s.gReg p t) ∧ stores (.sh p t a u imm) 2 (s.gReg p t) ∧
    stores (.sw p t a u imm) 4 (s.gReg p t) ∧ stores (.sd p t a u imm) 8 (s.gReg p t) ∧
    (profile p = .main → stores (.fsw p t a u imm) 4 (s.fReg p t) ∧ stores (.fsd p t a u imm) 8 (s.fReg p t)) ∧
    (profile p ≠ .main →
      Traps s p (.fsw p t a u imm) 0x01 (s.proc (procNo p)).pc ∧ Traps s p (.fsd p t a u imm) 0x01 (s.proc (procNo p)).pc)

/-- R139, R140, R149, R202, R212, R239, R240, R241: a store within one line to memory that the processor's world may
write. A main core's waits in its store buffer while its L2 cannot write the line, and memory stays as it is; where
the L2 can, and no older store to the line waits, and where a channel processor's line is in a sound group, the
bytes stand under the region's key and no other byte of memory changes under any key it had. -/
def Obligations.StoreChangesOnlyItsBytes : Prop :=
  ∀ (p : Proc) (ea : W64) (d : Bytes) (s : State) (n : Nat), profile p ≠ .controller → s.translate p ea .store = some n →
    d ≠ [] → n / 64 = (n + d.length - 1) / 64 → n + d.length ≤ memLimit → s.memOn = true →
    ∀ k, (s.regionCheck (s.procWorld p) (64 * lineOf n) true).2 = some k →
      let l := lineOf n
      let held := fun (e : Nat) => ({ s with coh := { s.coh with
        stores := s.coh.stores ++ [{ proc := e, line := l, addr := n, ea := ea, data := d, key := k }] } } : State)
      let atOnce := match p with
        | .exec e => (held e.val).canWrite e.val l (s.procWorld p) = true ∧ ∀ b ∈ s.buffered e.val, b.line ≠ l
        | _ => s.groupState (lineGroup l) = 0 ∧ s.missingMembers (lineGroup l) (lineRow l) = [] ∧ s.mm.window = none ∧
          s.mm.bad = [] ∧ s.mm.badCode = []
      ∃ t, s.storeBytes p ea d = (true, t) ∧ (∀ q r, t.gReg q r = s.gReg q r) ∧
        (atOnce →
          (∀ i, i < d.length → some (t.keyedByte k (n + i)) = d[i]?) ∧
          (∀ c, lineOf c ≠ l → t.mem.byte c = s.mem.byte c ∧ t.lineKey (lineOf c) = s.lineKey (lineOf c)) ∧
          (∀ c, lineOf c = l → (c < n ∨ n + d.length ≤ c) → t.keyedByte k c = s.keyedByte k c)) ∧
        (∀ e, p = .exec e → (held e.val).canWrite e.val l (s.procWorld p) = false →
          t.mem = s.mem ∧ t.mm = s.mm ∧ t.coh.stores = (held e.val).coh.stores)

/-- R148, R202: an atomic on memory that the processor may read and write: the old value goes to d, the new one to
memory, at an instant at which no older store waits and the L2 can write the line; until then it asks for the line
and does not retire. An address off its size raises store alignment, and device space or a refused address raises
store access fault.
The model's own choices behind it: log 21. -/
def Obligations.Atomics : Prop :=
  ∀ (p : Proc) (d a b : RegNo) (s : State), Runs s p →
    let x := s.proc (procNo p)
    let ea := x.getG a
    let f := s.fetched p
    let req := if profile p = .main then 1 else 2
    let does := fun (i : Instr) (size : Nat) (new : W64 → W64) (put : W64 → W64) =>
      (ea.toNat % size ≠ 0 → Traps s p i 0x06 ea) ∧
      (profile p ≠ .controller → ea.toNat % size = 0 →
        (∀ n, s.translate p ea .store = some n → 2 ^ 47 ≤ n → Traps s p i 0x08 ea) ∧
        (s.translate p ea .store = none → Traps s p i 0x08 ea) ∧
        (∀ n, f.translate p ea .store = some n → f.translate p ea .load = some n → n < 2 ^ 47 →
          (∀ s1, f.writeKey (f.procWorld p) req n size = (none, s1) → exec i s = .next (s1.raise p 0x08 ea)) ∧
          (∀ k s1, f.writeKey (f.procWorld p) req n size = (some k, s1) →
            (s1.atomicReady p n = false → exec i s = .next (s1.atomicAsks p n)) ∧
            (∀ old s' s'', s1.atomicReady p n = true → s1.procRead p n size = (some (old, false), s') →
              s'.storeBytes p ea (leBytes size (new (BitVec.ofNat 64 (ofLe old))).toNat) = (true, s'') →
              exec i s = .next (s''.writeG p d (put (BitVec.ofNat 64 (ofLe old))))))))
    let low := fun (v : W64) => BitVec.ofNat 64 (v.toNat % 2 ^ 32)
    let full := fun (v : W64) => v
    let word := fun (v : W64) => (v.setWidth 32).signExtend 64
    does (.cas p d a b) 8 (fun o => if o = x.getG d then x.getG b else o) full ∧
    does (.swap p d a b) 8 (fun _ => x.getG b) full ∧ does (.aadd p d a b) 8 (fun o => o + x.getG b) full ∧
    does (.aand p d a b) 8 (fun o => o &&& x.getG b) full ∧ does (.aor p d a b) 8 (fun o => o ||| x.getG b) full ∧
    does (.casw p d a b) 4 (fun o => if o = low (x.getG d) then low (x.getG b) else o) word ∧
    does (.swapw p d a b) 4 (fun _ => low (x.getG b)) word ∧ does (.aaddw p d a b) 4 (fun o => o + low (x.getG b)) word ∧
    does (.aandw p d a b) 4 (fun o => o &&& low (x.getG b)) word ∧
    does (.aorw p d a b) 4 (fun o => o ||| low (x.getG b)) word

/-- R153, R135: `LDS` and `STS` reach controller address bk × 2^16 + addr16, in the controller profile; the address is
aligned to the size, or the alignment exception of its kind is raised.
The model's own choices behind it: log 30. -/
def Obligations.ControllerBankAccess : Prop :=
  ∀ (p : Proc) (t : RegNo) (sz : Fin 4) (addr : BitVec 16) (s : State), Runs s p →
    let x := s.proc (procNo p)
    let ea : W64 := BitVec.ofNat 64 ((x.getSp spBk).toNat % 256 * 2 ^ 16 + addr.toNat)
    let size := 2 ^ sz.val
    (profile p ≠ .controller → Traps s p (.lds p t sz addr) 0x01 x.pc ∧ Traps s p (.sts p t sz addr) 0x01 x.pc) ∧
    (profile p = .controller → addr.toNat % size ≠ 0 →
      Traps s p (.lds p t sz addr) 0x05 ea ∧ Traps s p (.sts p t sz addr) 0x06 ea) ∧
    (profile p = .controller → addr.toNat % size = 0 →
      (∀ b s', ctlLoad (s.fetched p) p ea.toNat size = some (b, s') →
        exec (.lds p t sz addr) s = .next (s'.writeG p t (BitVec.ofNat 64 (ofLe b)))) ∧
      (ctlLoad (s.fetched p) p ea.toNat size = none → Traps s p (.lds p t sz addr) 0x07 ea) ∧
      (∀ s', ctlStore (s.fetched p) p ea.toNat (leBytes size (s.gReg p t).toNat) = some s' →
        exec (.sts p t sz addr) s = .next (s'.advance p)) ∧
      (ctlStore (s.fetched p) p ea.toNat (leBytes size (s.gReg p t).toNat) = none → Traps s p (.sts p t sz addr) 0x08 ea))

/-! ### Exceptions, system instructions and interrupts -/

/-- R151, R155, R156, R142: the system calls, breakpoints and illegal words take their exception: at problem and
supervisor level, with no exception under way, into the supervisor's registers; at hypervisor level into the
hypervisor's.
The model's own choices behind it: log 12. -/
def Obligations.ExceptionEntry : Prop :=
  ∀ (p : Proc) (s : State) (w : BitVec 32), Runs s p →
    let x := s.proc (procNo p)
    let enters := fun (i : Instr) (cause : Nat) =>
      ∃ t, exec i s = .next t ∧ (∀ n, n ≠ procNo p → t.proc n = s.proc n) ∧ t.mem = s.mem ∧ (∀ a, t.reg a = s.reg a) ∧
        let y := t.proc (procNo p)
        let base := if s.level p = 2 then spHepc else spEpc
        y.getSp base = x.pc ∧ y.getSp (base + 1) = x.psr ∧ (y.getSp (base + 2)).toNat = cause ∧ y.getSp (base + 3) = x.pc ∧
        getFld y.psr PSR.PL = (if s.level p = 2 then 2 else 1) ∧ getFld y.psr PSR.EXL = 1 ∧ getFld y.psr PSR.IE = 0 ∧
        getFld y.psr PSR.WTAG = getFld x.psr PSR.WTAG ∧ getFld y.psr PSR.UNIT = getFld x.psr PSR.UNIT ∧
        getFld y.psr PSR.SEALED = getFld x.psr PSR.SEALED ∧
        y.pc = (x.getSp (base + 4) + BitVec.ofNat 64 (0x40 * cause)) &&& 0xFFFFFFFFFFFFFFFC#64 ∧
        y.g = x.g ∧ y.f = x.f ∧ y.lk = x.lk ∧
        (∀ n, n ≠ 0 → (n < base ∨ base + 3 < n) → y.getSp n = x.getSp n)
    getFld x.psr PSR.EXL = 0 →
      enters (.syscall p) 0x0D ∧ enters (.brk p) 0x0F ∧ (decodeWord p w = none → enters (.illegalInstruction p w) 0x01)

/-- R151, R155, R156: exceptions under an exception: from supervisor level a double fault at hypervisor level, with
`epc` in `headdr`; at hypervisor level the pair stops with a Class 3 event. `HVCALL` goes to hypervisor level at
once. -/
def Obligations.HypervisorEntry : Prop :=
  ∀ (e : Fin 320) (s : State), Runs s (.exec e) →
    let p := Proc.exec e
    let x := s.proc e.val
    let plain := s.level p ≠ 2 ∧ getFld x.psr PSR.SEALED = 0
    let enters := fun (i : Instr) (cause : Nat) (addr : W64) =>
      ∃ t, exec i s = .next t ∧
        let y := t.proc e.val
        y.getSp spHepc = x.pc ∧ y.getSp spHepsr = x.psr ∧ (y.getSp spHcause).toNat = cause ∧ y.getSp spHeaddr = addr ∧
        getFld y.psr PSR.PL = 2 ∧ getFld y.psr PSR.EXL = 1 ∧ getFld y.psr PSR.IE = 0 ∧
        y.pc = (x.getSp spHevbase + BitVec.ofNat 64 (0x40 * cause)) &&& 0xFFFFFFFFFFFFFFFC#64 ∧
        y.g = x.g ∧ y.f = x.f ∧ y.lk = x.lk
    (plain → s.level p = 1 → enters (.hvcall p) 0x0E x.pc) ∧
    (s.level p = 0 → Traps s p (.hvcall p) 0x02 x.pc) ∧
    (plain → getFld x.psr PSR.EXL = 1 → enters (.syscall p) 0x13 (x.getSp spEpc) ∧ enters (.brk p) 0x13 (x.getSp spEpc)) ∧
    (s.level p = 2 → getFld x.psr PSR.EXL = 0 → exec (.hvcall p) s = .next ((s.fetched p).raise p 0x0E x.pc) ∧
      enters (.hvcall p) 0x0E x.pc) ∧
    (s.level p = 2 → getFld x.psr PSR.EXL = 1 →
      exec (.syscall p) s = .next (((s.fetched p).setProc e.val { x with stopped := true }).logEvent 3 blockPair causeNone (e.val / 2)))

/-- R151, R156, R241: `ERET` restores pc and `psr`, but never WTAG, UNIT and SEALED, from the level's own saved copies;
a saved level above the current one raises privileged instruction. R241: the return from hypervisor level to a
partition that is not sealed loads its segment map; within the partition the map stays.
The model's own choices behind it: log 18, 54. -/
def Obligations.ExceptionReturn : Prop :=
  ∀ (p : Proc) (s : State), Runs s p → (s.proc (procNo p)).suspended = none →
    let x := s.proc (procNo p)
    let base := if s.level p = 2 then spHepc else spEpc
    let saved := x.getSp (base + 1)
    (s.level p = 0 → Traps s p (.eret p) 0x02 x.pc) ∧
    (s.level p ≠ 0 → s.level p < getFld saved PSR.PL → Traps s p (.eret p) 0x02 x.pc) ∧
    (s.level p ≠ 0 → getFld saved PSR.PL ≤ s.level p →
      ∃ t, exec (.eret p) s = .next t ∧ (∀ n, n ≠ procNo p → t.proc n = s.proc n) ∧ t.mem = s.mem ∧ (∀ a, t.reg a = s.reg a) ∧
        let y := t.proc (procNo p)
        y.pc = x.getSp base &&& 0xFFFFFFFFFFFFFFFC#64 ∧
        getFld y.psr PSR.PL = getFld saved PSR.PL ∧ getFld y.psr PSR.EXL = getFld saved PSR.EXL ∧
        getFld y.psr PSR.IE = getFld saved PSR.IE ∧ getFld y.psr PSR.WTAG = getFld x.psr PSR.WTAG ∧
        getFld y.psr PSR.UNIT = getFld x.psr PSR.UNIT ∧ getFld y.psr PSR.SEALED = getFld x.psr PSR.SEALED ∧
        y.g = x.g ∧ y.f = x.f ∧ y.lk = x.lk ∧ (∀ n, n ≠ 0 → y.getSp n = x.getSp n) ∧
        (s.level p = 1 → y.part = x.part ∧ y.segs = x.segs) ∧
        (s.level p = 2 → getFld saved PSR.PL = 2 → y.part = none ∧ y.segs = []) ∧
        (s.level p = 2 → getFld saved PSR.PL < 2 → y.part = s.openPart (procNo p) ∧
          ∀ q, y.part = some q → y.segs = State.blockSegs (s.partRec q).block))

/-- R151, R157, R202: `FENCE` and `FENCEI` end once no store of the processor waits, `FENCEI` with nothing left in its
cores' instruction caches, and `FENCED` ends at once. `IDLE` ends and waits, and a processor that waits executes
nothing until an interrupt that it may take is pending.
The model's own choices behind it: log 14. -/
def Obligations.BarriersAndIdle : Prop :=
  ∀ (p : Proc) (s : State), Runs s p →
    let x := s.proc (procNo p)
    let on := s.goes p (x.pc + 4) x.lk
    let f := s.fetched p
    exec (.fenced p) s = .next on ∧
    (f.storesDone p = true → exec (.fence p) s = .next on ∧
      ∃ t, exec (.fencei p) s = .next t ∧ t = (f.dropFetched p).advance p ∧
        ∀ e k l, p = .exec e → k ∈ f.viewCores e.val → l < 2 ^ 42 → t.hasL1 (l1Array k false) l = false) ∧
    (f.storesDone p = false → exec (.fence p) s = .next f ∧ exec (.fencei p) s = .next f) ∧
    (s.level p = 0 → Traps s p (.idle p) 0x02 x.pc) ∧
    (s.level p ≠ 0 →
      let t := f.onProc p (fun _ => { x with pc := (x.pc + 4) &&& 0xFFFFFFFFFFFFFFFC#64, waiting := true })
      exec (.idle p) s = .next t ∧ (t.irqReady p = false → exec (.fence p) t = .next t ∧ exec (.syscall p) t = .next t))

/-- R135, R137, R138: `MFS` and `MTS`: which registers a profile and a level reach, what is read, and what a write changes
in `psr` (IE alone), in the vector bases (bits 11:0 stay zero) and in the registers free for software.
The model's own choices behind it: log 18, 20, 54. -/
def Obligations.SpecialRegisters : Prop :=
  ∀ (p : Proc) (d : RegNo) (n : BitVec 12) (s : State), Runs s p →
    let x := s.proc (procNo p)
    let k := n.toNat
    let can := spExists p k = true ∧ spLevel k ≤ s.level p
    let write := fun (v : W64) => exec (.mts p d n) s = .next ((s.fetched p).onProc p (fun r => (r.setSp k v).next))
    (spExists p k = false → Traps s p (.mfs p d n) 0x01 x.pc ∧ Traps s p (.mts p d n) 0x01 x.pc) ∧
    (spExists p k = true → s.level p < spLevel k → Traps s p (.mfs p d n) 0x02 x.pc) ∧
    (can → k = 0x031 → WritesG s p (.mfs p d n) d (BitVec.ofNat 64 s.tb) ∧ Traps s p (.mts p d n) 0x01 x.pc) ∧
    (can → k = 0x030 → WritesG s p (.mfs p d n) d (pairidOf s (procNo p)) ∧ Traps s p (.mts p d n) 0x01 x.pc) ∧
    (can → k ≠ 0x030 → k ≠ 0x031 → WritesG s p (.mfs p d n) d (x.getSp k)) ∧
    (spExists p k = true → k ≠ 0x030 → k ≠ 0x031 → s.level p < spLevel k → Traps s p (.mts p d n) 0x02 x.pc) ∧
    (can → k = 0x000 → write (putFld x.psr PSR.IE (getFld (s.gReg p d) PSR.IE))) ∧
    (can → k = 0x005 ∨ k = 0x044 → write (s.gReg p d &&& 0xFFFFFFFFFFFFF000#64)) ∧
    (can → k = 0x001 ∨ k = 0x004 ∨ k = 0x006 ∨ k = 0x007 ∨ k = 0x040 ∨ k = 0x043 ∨ k = 0x045 ∨ k = 0x046 ∨ k = 0x047 →
      write (s.gReg p d))

/-- R119, R120, R124, R151: the unit instructions within a unit's run; without one they raise unit state fault, and
`UINFO` does so at problem level too.
The model's own choices behind it: log 52. -/
def Obligations.UnitInstructions : Prop :=
  ∀ (e : Fin 320) (d a : RegNo) (sel : Fin 64) (s : State), Runs s (.exec e) →
    let p := Proc.exec e
    let pc := (s.proc e.val).pc
    (s.level p = 0 → Traps s p (.uinfo p d sel) 0x11 pc ∧ Traps s p (.ucommit p a) 0x02 pc ∧ Traps s p (.uabort p a) 0x02 pc) ∧
    (s.level p ≠ 0 → runUnit s p = none →
      Traps s p (.uinfo p d sel) 0x11 pc ∧ Traps s p (.ucommit p a) 0x11 pc ∧ Traps s p (.uabort p a) 0x11 pc) ∧
    (∀ k u, s.level p ≠ 0 → runUnit s p = some (k, u) →
      exec (.ucommit p a) s = .next (((s.fetched p).advance p).commitRun k (s.gReg p a).toNat) ∧
      exec (.uabort p a) s = .next (((s.fetched p).advance p).abortUnit k 1 (s.gReg p a).toNat) ∧
      (sel.val = 0 → WritesG s p (.uinfo p d sel) d (BitVec.ofNat 64 u.asn)) ∧
      (sel.val = 1 → WritesG s p (.uinfo p d sel) d (BitVec.ofNat 64 u.tag)) ∧
      (sel.val = 6 → WritesG s p (.uinfo p d sel) d (BitVec.ofNat 64 u.restarts)) ∧
      (sel.val = 7 → WritesG s p (.uinfo p d sel) d (BitVec.ofNat 64 u.budget)) ∧
      (sel.val = 9 → WritesG s p (.uinfo p d sel) d (BitVec.ofNat 64 (u.fn + u.ring * 2 ^ 16 + u.origin * 2 ^ 24))) ∧
      (sel.val = 10 → WritesG s p (.uinfo p d sel) d (BitVec.ofNat 64 u.part)) ∧
      (13 < sel.val → WritesG s p (.uinfo p d sel) d 0))

/-- R158, R353: a world exit by `WEXIT` from a sealed partition discloses `hexit` alone: every `g` and `f` register,
`lk` and every special register of supervisor level and below, but `psr`, reads zero afterwards, no store of the
executor waits, and nothing is left in its cores' L1s. Outside a sealed partition nothing is cleared.
The model's own choices behind it: log 13, 90. -/
def Obligations.WorldExit : Prop :=
  ∀ (e : Fin 320) (a : RegNo) (s : State), Runs s (.exec e) →
    let p := Proc.exec e
    let x := s.proc e.val
    (s.level p = 0 → Traps s p (.wexit p a) 0x02 x.pc) ∧
    (s.level p = 1 → ∃ t, exec (.wexit p a) s = .next t ∧
      let y := t.proc e.val
      y.getSp spHexit = x.getG a ∧ (y.getSp spHcause).toNat = 0x14 ∧ y.getSp spHeaddr = 0 ∧ getFld y.psr PSR.PL = 2 ∧
      y.pc = (x.getSp spHevbase + 0x500) &&& 0xFFFFFFFFFFFFFFFC#64 ∧
      (getFld x.psr PSR.SEALED = 1 →
        (∀ r, y.getG r = 0) ∧ (∀ r, y.getF r = 0) ∧ y.lk = 0 ∧ (∀ n, 0 < n → n < 0x040 → y.getSp n = 0) ∧
        y.getSp spHepc = 0 ∧ y.part = none ∧ y.segs = [] ∧ t.buffered e.val = [] ∧
        ∀ k l b, k ∈ s.viewCores e.val → l < 2 ^ 42 → t.hasL1 (l1Array k b) l = false) ∧
      (getFld x.psr PSR.SEALED = 0 → y.g = x.g ∧ y.f = x.f ∧ y.lk = x.lk ∧ y.getSp spHepsr = x.psr))

/-- R151, R152: `ENQ`: 3 for a block off a 64-byte boundary or a `b` that names no queue; otherwise the answer of the
queue that `b` names, to a block read as a load reads it; the answer goes to d.
The model's own choices behind it: log 31, 110. -/
def Obligations.Enqueue : Prop :=
  ∀ (p : Proc) (d a b : RegNo) (s : State), Runs s p →
    let addr := s.gReg p a
    let n := (s.gReg p b).toNat / 256
    let kind := (s.gReg p b).toNat % 256
    let names := (kind = 1 ∧ n < 128) ∨ (kind = 2 ∧ n < 128) ∨ (kind = 3 ∧ n < 256)
    ((addr.toNat % 64 ≠ 0 ∨ ¬ names) → WritesG s p (.enq p d a b) d 3) ∧
    (addr.toNat % 64 = 0 → names →
      (∀ s', (s.fetched p).loadBytes p addr 64 = (none, s') → exec (.enq p d a b) s = .next s') ∧
      (∀ block s' st t, (s.fetched p).loadBytes p addr 64 = (some block, s') → enqSubmit s' p kind n block = (st, t) →
        exec (.enq p d a b) s = .next (t.writeG p d (BitVec.ofNat 64 st))))

/-- R137, R156, R157: a timer's interrupt is pending from `tb` ≥ its compare register on, and the external interrupt to
the partition arrives with the command that takes it; taking an interrupt saves the address of the first instruction
not retired, and while `psr.UNIT` is set the hypervisor's interrupts stay pending.
The model's own choices behind it: log 52, 93. -/
def Obligations.Interrupts : Prop :=
  ∀ (e : Fin 320) (s : State),
    let p := Proc.exec e
    let x := s.proc e.val
    let takes := fun (c : Fin 4) (base : Nat) (pl : Nat) =>
      ∃ t, exec (.interruptTake p c) s = .next t ∧
        let y := t.proc e.val
        y.getSp base = x.pc ∧ y.getSp (base + 1) = x.psr ∧ (y.getSp (base + 2)).toNat = 2 ^ 63 + 0x18 + c.val ∧
        y.getSp (base + 3) = 0 ∧ getFld y.psr PSR.PL = pl ∧ getFld y.psr PSR.IE = 0 ∧
        y.pc = (x.getSp (base + 4) + BitVec.ofNat 64 (0x40 * (0x18 + c.val))) &&& 0xFFFFFFFFFFFFFFFC#64
    let due_ := fun (n : Nat) => x.getSp n ≠ 0 ∧ (x.getSp n).toNat ≤ s.tb
    (s.irqPending p 0x18 = true ↔ due_ spTcmp) ∧ (s.irqPending p 0x1A = true ↔ due_ spHtcmp) ∧
    (s.inService p = true → s.level p ≠ 2 → getFld x.psr PSR.IE = 1 →
      (due_ spTcmp → takes 0 spEpc 1 ∧
        exec (.supervisorTimerExpiry p) s = .next (s.onProc p (fun r => { r with waiting := false }))) ∧
      takes 1 spEpc 1) ∧
    (s.inService p = true → s.level p ≠ 2 → getFld x.psr PSR.SEALED = 0 → getFld x.psr PSR.UNIT = 0 →
      (due_ spHtcmp → takes 2 spHepc 2 ∧
        exec (.hypervisorTimerExpiry p) s = .next (s.onProc p (fun r => { r with waiting := false }))) ∧
      (x.hext = true → takes 3 spHepc 2)) ∧
    (getFld x.psr PSR.UNIT = 1 → exec (.interruptTake p 2) s = .next s ∧ exec (.interruptTake p 3) s = .next s)

/-! ### Floating point -/

/-- R135, R146, R147, R169, R171, R172, R173, R174, R175: how the main profile delivers a rounded result: without an
enabled flag the flags stick and the destination is written; with one, `fpc.TFLAGS` alone is written and cause 0x0C
raised. The other profiles have no floating point. -/
def Obligations.FloatingResults : Prop :=
  ∀ (p : Proc) (fmt : Fmt) (rm : Rm) (d a b c : RegNo) (s : State), Runs s p →
    let x := s.proc (procNo p)
    let fpc := x.getSp spFpc
    let ten := getFld fpc ⟨12, 5⟩
    let m := rmOf fpc rm
    let u := fun (r : RegNo) => Sys2Proof.Float.unpack fmt (x.getF r)
    let gives := fun (i : Instr) (to_ : ProcState → W64 → ProcState) (r : Sys2Proof.Float.Res) =>
      let fl := if r.tiny = true ∧ ten / 8 % 2 = 1 then r.flags ||| 8 else r.flags
      (profile p ≠ .main → Traps s p i 0x01 x.pc) ∧
      (profile p = .main → fl &&& ten = 0 →
        exec i s = .next ((s.fetched p).onProc p (fun y =>
          (to_ (y.setSp spFpc (putFld fpc ⟨4, 5⟩ (getFld fpc ⟨4, 5⟩ ||| r.flags))) (BitVec.ofNat 64 r.bits)).next))) ∧
      (profile p = .main → fl &&& ten ≠ 0 →
        exec i s = .next (((s.fetched p).onProc p (fun y => y.setSp spFpc (putFld fpc ⟨20, 5⟩ fl))).raise p 0x0C x.pc))
    let f := fun (y : ProcState) (v : W64) => y.setF d v
    let g := fun (y : ProcState) (v : W64) => y.setG d v
    gives (.fadd p fmt rm d a b) f (Sys2Proof.Float.add fmt m (u a) (u b)) ∧ gives (.fsub p fmt rm d a b) f (Sys2Proof.Float.sub fmt m (u a) (u b)) ∧
    gives (.fmul p fmt rm d a b) f (Sys2Proof.Float.mul fmt m (u a) (u b)) ∧ gives (.fdiv p fmt rm d a b) f (Sys2Proof.Float.div fmt m (u a) (u b)) ∧
    gives (.fsqrt p fmt rm d a) f (Sys2Proof.Float.sqrt fmt m (u a)) ∧
    gives (.ffma p fmt d a b c) f (Sys2Proof.Float.fma fmt (rmOf fpc .dyn) (u a) (u b) (u c)) ∧
    gives (.ffms p fmt d a b c) f (Sys2Proof.Float.fma fmt (rmOf fpc .dyn) (u a) (u b) (Sys2Proof.Float.neg (u c))) ∧
    gives (.ffna p fmt d a b c) f (Sys2Proof.Float.fused fmt (rmOf fpc .dyn) 2 (x.getF a) (x.getF b) (x.getF c)) ∧
    gives (.ffns p fmt d a b c) f (Sys2Proof.Float.fused fmt (rmOf fpc .dyn) 3 (x.getF a) (x.getF b) (x.getF c)) ∧
    gives (.fmin p fmt d a b) f (Sys2Proof.Float.minMax fmt false (x.getF a) (x.getF b)) ∧
    gives (.fmax p fmt d a b) f (Sys2Proof.Float.minMax fmt true (x.getF a) (x.getF b)) ∧
    gives (.fcvt p fmt rm d a) f (Sys2Proof.Float.convert fmt m (x.getF a)) ∧
    gives (.fcvti p fmt rm d a) g (Sys2Proof.Float.toInt fmt m true 64 (x.getF a)) ∧
    gives (.fcvtiu p fmt rm d a) g (Sys2Proof.Float.toInt fmt m false 64 (x.getF a)) ∧
    gives (.fcvtw p fmt rm d a) g (Sys2Proof.Float.toInt fmt m true 32 (x.getF a)) ∧
    gives (.fcvtwu p fmt rm d a) g (Sys2Proof.Float.toInt fmt m false 32 (x.getF a)) ∧
    gives (.fcvtf p fmt rm d a) f (Sys2Proof.Float.ofInt fmt m true 64 (x.getG a)) ∧
    gives (.fcvtfu p fmt rm d a) f (Sys2Proof.Float.ofInt fmt m false 64 (x.getG a)) ∧
    gives (.fcvtfw p fmt rm d a) f (Sys2Proof.Float.ofInt fmt m true 32 (x.getG a)) ∧
    gives (.fcvtfwu p fmt rm d a) f (Sys2Proof.Float.ofInt fmt m false 32 (x.getG a)) ∧
    gives (.feq p fmt d a b) g (Sys2Proof.Float.relation fmt 0 (x.getF a) (x.getF b)) ∧
    gives (.flt p fmt d a b) g (Sys2Proof.Float.relation fmt 1 (x.getF a) (x.getF b)) ∧
    gives (.fle p fmt d a b) g (Sys2Proof.Float.relation fmt 2 (x.getF a) (x.getF b)) ∧
    gives (.funord p fmt d a b) g (Sys2Proof.Float.relation fmt 3 (x.getF a) (x.getF b))

/-- R136, R176, R177: the copies of bits and the kind code, which set no flag and never trap.
The model's own choices behind it: log 19. -/
def Obligations.FloatingBitCopies : Prop :=
  ∀ (e : Fin 320) (fmt : Fmt) (d a b : RegNo) (s : State), Runs s (.exec e) →
    let p := Proc.exec e
    let w := match fmt with
      | .d => 64
      | .s => 32
    let copies := fun (i : Instr) (bit : Nat → Bool) =>
      ∃ v : W64, exec i s = .next ((s.fetched p).onProc p (fun y => (y.setF d v).next)) ∧
        ∀ n, n < 64 → v.getLsbD n = (decide (n < w) && bit n)
    let x := fun (n : Nat) => (s.fReg p a).getLsbD n
    copies (.fneg p fmt d a) (fun n => if n = w - 1 then !x n else x n) ∧
    copies (.fabs p fmt d a) (fun n => if n = w - 1 then false else x n) ∧
    copies (.fcpysgn p fmt d a b) (fun n => if n = w - 1 then (s.fReg p b).getLsbD n else x n) ∧
    copies (.fmvfg p fmt d a) (fun n => (s.gReg p a).getLsbD n) ∧
    (∃ v, WritesG s p (.fmvtg p fmt d a) d v ∧ ∀ n, n < 64 → v.getLsbD n = (decide (n < w) && x n)) ∧
    (∃ k, k < 6 ∧ WritesG s p (.fkind p fmt d a) d (BitVec.ofNat 64 (k + if x (w - 1) then 8 else 0)) ∧
      let v := (s.fReg p a).toNat % 2 ^ (w - 1)
      let frac := if w = 64 then 52 else 23
      let top := 2 ^ (w - 1) / 2 ^ frac - 1
      (k = 0 ↔ v = 0) ∧ (k = 1 ↔ 0 < v ∧ v < 2 ^ frac) ∧ (k = 2 ↔ 2 ^ frac ≤ v ∧ v < top * 2 ^ frac) ∧
      (k = 3 ↔ v = top * 2 ^ frac) ∧ (k = 4 ↔ top * 2 ^ frac + 2 ^ (frac - 1) ≤ v) ∧
      (k = 5 ↔ top * 2 ^ frac < v ∧ v < top * 2 ^ frac + 2 ^ (frac - 1)))

/-- R179, R180: sums, differences, products and quotients of the smallest subnormal s and the largest finite M with one,
with each other and with themselves, in both formats and every mode, with their flags. -/
def Obligations.FloatingEdgeResults : Prop :=
  let check := fun (fmt : Fmt) (s M one P Q : Nat) (w : Nat) =>
    let n := fun (x : Nat) => Sys2Proof.Float.unpack fmt (BitVec.ofNat 64 x)
    let sg := 2 ^ (w - 1)
    let inf := M + 1
    let each := fun (op : Rm → Sys2Proof.Float.Res) (r : List (Nat × Nat)) =>
      [Rm.rne, .rz, .ru, .rd, .rna].map (fun m => ((op m).bits, (op m).flags)) = r
    let same := fun (op : Rm → Sys2Proof.Float.Res) (v fl : Nat) => each op (List.replicate 5 (v, fl))
    let ovf := [(inf, 20), (M, 20), (inf, 20), (M, 20), (inf, 20)]
    let unf := [(0, 24), (0, 24), (s, 24), (0, 24), (0, 24)]
    let a := fun (x y : Nat) (m : Rm) => Sys2Proof.Float.add fmt m (n x) (n y)
    let d := fun (x y : Nat) (m : Rm) => Sys2Proof.Float.sub fmt m (n x) (n y)
    let p := fun (x y : Nat) (m : Rm) => Sys2Proof.Float.mul fmt m (n x) (n y)
    let q := fun (x y : Nat) (m : Rm) => Sys2Proof.Float.div fmt m (n x) (n y)
    each (a s one) [(one, 16), (one, 16), (one + 1, 16), (one, 16), (one, 16)] ∧
    each (d s one) [(sg + one, 16), (sg + one - 1, 16), (sg + one - 1, 16), (sg + one, 16), (sg + one, 16)] ∧
    same (p s one) s 0 ∧ same (q s one) s 0 ∧ each (q one s) ovf ∧
    same (a s s) 2 0 ∧ each (d s s) [(0, 0), (0, 0), (0, 0), (sg, 0), (0, 0)] ∧ each (p s s) unf ∧ same (q s s) one 0 ∧
    each (a s M) [(M, 16), (M, 16), (inf, 20), (M, 16), (M, 16)] ∧
    each (d M s) [(M, 16), (M - 1, 16), (M, 16), (M - 1, 16), (M, 16)] ∧
    same (p s M) P 0 ∧ each (q s M) unf ∧ each (q M s) ovf ∧
    same (q s 0) inf 2 ∧ same (q M sg) (sg + inf) 2 ∧ same (q 0 M) 0 0 ∧ same (a M inf) inf 0 ∧ same (q s inf) 0 0 ∧
    each (a M one) [(M, 16), (M, 16), (inf, 20), (M, 16), (M, 16)] ∧ same (p M one) M 0 ∧
    each (q one M) [(Q, 24), (Q, 24), (Q + 1, 24), (Q, 24), (Q, 24)] ∧
    each (a M M) ovf ∧ each (p M M) ovf ∧ same (q M M) one 0
  check .s 1 0x7F7FFFFF 0x3F800000 0x34FFFFFF 0x00200000 32 ∧
  check .d 1 0x7FEFFFFFFFFFFFFF 0x3FF0000000000000 0x3CCFFFFFFFFFFFFF 0x0004000000000000 64

/-! ### Words -/

/-- R141, R142, R143, R145, R146, R147, R148, R149, R150, R151, R153: the decoder reads back every word the encoder
writes, with every operand at every value. -/
def Obligations.DecodeReadsEncodedWords : Prop :=
  ∀ (i : Instr) (w : BitVec 32), encodeWord i = some w → ∃ p, decodeWord p w = some i

/-- R141, R142, R143: a word that decodes is the encoding of what it decodes to: no two words spell one instruction, and
no reserved field is let through. -/
def Obligations.DecodedWordsAreEncodings : Prop :=
  ∀ (p : Proc) (i : Instr) (w : BitVec 32), decodeWord p w = some i → encodeWord i = some w

/-! ### Caches and coherence -/

/-- R202, R208, R213, R215: what a message does to a line of an L2, and what the L2 sends.
The model's own choices behind it: log 15, 60, 123. -/
def Obligations.CacheLineStates : Prop :=
  ∀ (s : State) (a : Fin 44) (l : BitVec 42), s.live = true → 4 ≤ a.val →
    let n := l.toNat
    let x := s.cline a.val n
    let home := homeNode (homeFor a.val n)
    let r := s.fwdTarget (homeFor a.val n) n
    let set := cacheSet a.val n
    let stays : Instr → Prop := fun i => exec i s = .next s.exitsTaken
    let leaves : State → List (Msg × Nat × Nat) → Prop := fun t ms =>
      t.out = (ms.map fun m => Output.coh m.1.code a.val m.2.1 n m.2.2) ++ s.out ∧
        (∀ k, k ≠ a.val * 2 ^ 42 + n → t.coh.lines.get {} k = s.coh.lines.get {} k) ∧
        t.coh.homes = s.coh.homes ∧ t.regs = s.regs ∧ t.mem = s.mem
    let becomes : Instr → CacheLine → List (Msg × Nat × Nat) → Prop := fun i y ms =>
      ∃ t : State, exec i s = .next t.exitsTaken ∧ t.cline a.val n = y ∧ leaves t ms
    let reruns : Instr → CacheLine → List (Msg × Nat × Nat) → Prop := fun i y ms =>
      ∃ t : State, exec i s = .next (t.rerun a.val n).exitsTaken ∧ t.cline a.val n = y ∧ leaves t ms
    let frees : Instr → CacheLine → List (Msg × Nat × Nat) → Prop := fun i y ms =>
      ∃ t : State, exec i s = .next ((t.rerun a.val n).rerunSet a.val set).exitsTaken ∧ t.cline a.val n = y ∧ leaves t ms ∧
        (∀ i, i / 18 = a.val - 4 → t.hasL1 i n = false)
    let left : CacheLine := if x.want.isSome then
        { waits := x.waits, want := some .rdx, nacks := x.nacks, retryAt := x.retryAt, tag := x.tag } else { waits := x.waits }
    let gives : Instr → List (Msg × Nat × Nat) → Prop := fun i ms => frees i left ms
    let gone : LineState → Prop := fun st => st = .I ∨ st = .IS ∨ st = .IX
    (∀ t : State, (t.cline a.val n).waits = [] → t.rerun a.val n = t) ∧
    (∀ t : State, (∀ p ∈ t.procs, (t.proc p.1).exitDue = none) → t.exitsTaken = t) ∧
    (x.st = .M → becomes (.fwds a l) { x with st := .O } [(.fwdAck, home, 7), (.data, r, 0)] ∧
      gives (.fwdx a l) [(.fwdAck, home, 3), (.dataD, r, 0)] ∧ gives (.recall a l) [(.wbD, home, 2)] ∧
      gives (.recallDiscard a l) [(.ack, home, 0)] ∧ stays (.inv a l)) ∧
    (x.st = .O → becomes (.fwds a l) x [(.fwdAck, home, 7), (.data, r, 0)] ∧
      gives (.fwdx a l) [(.fwdAck, home, 3), (.dataD, r, 0)] ∧ gives (.recall a l) [(.wbD, home, 2)] ∧
      gives (.recallDiscard a l) [(.ack, home, 0)] ∧ stays (.inv a l)) ∧
    (x.st = .E → becomes (.fwds a l) { x with st := .S, twin := none } [(.fwdAck, home, 5), (.data, r, 0)] ∧
      gives (.fwdx a l) [(.fwdAck, home, 1), (.data, r, 0)] ∧ gives (.recall a l) [(.ack, home, 0)] ∧
      gives (.recallDiscard a l) [(.ack, home, 0)] ∧ stays (.inv a l)) ∧
    (x.st = .S → stays (.fwds a l) ∧ stays (.fwdx a l) ∧ gives (.inv a l) [(.invAck, home, 0)] ∧ stays (.recall a l) ∧
      stays (.recallDiscard a l)) ∧
    (gone x.st → becomes (.fwds a l) x [(.fwdAck, home, 0), (.ack, r, 0)] ∧ becomes (.fwdx a l) x [(.fwdAck, home, 0), (.ack, r, 0)] ∧
      becomes (.inv a l) x [(.invAck, home, 0)] ∧ becomes (.recall a l) x [(.ack, home, 0)] ∧
      becomes (.recallDiscard a l) x [(.ack, home, 0)]) ∧
    (x.st = .UX → x.dirty = true → becomes (.fwds a l) x [(.fwdAck, home, 7), (.data, r, 0)] ∧
      becomes (.fwdx a l) { x with st := .IX, dirty := false } [(.fwdAck, home, 3), (.dataD, r, 0)] ∧
      becomes (.recall a l) { x with st := .IX, dirty := false } [(.wbD, home, 2)] ∧ stays (.inv a l)) ∧
    (x.st = .UX → x.dirty = false → becomes (.inv a l) { x with st := .IX } [(.invAck, home, 0)] ∧ stays (.fwds a l) ∧
      stays (.fwdx a l) ∧ stays (.recall a l)) ∧
    (x.st = .WB → let had := if x.dirty then 3 else 0
      becomes (.fwds a l) x [(.fwdAck, home, had), (if x.dirty then .data else .ack, r, 0)] ∧
      becomes (.fwdx a l) x [(.fwdAck, home, had), (if x.dirty then .dataD else .ack, r, 0)] ∧
      becomes (.inv a l) x [(.invAck, home, 0)] ∧
      becomes (.recall a l) x [if x.dirty then (.wbD, home, 2) else (.ack, home, 0)] ∧
      frees (.wback a l) { waits := x.waits } [] ∧ frees (.wbstale a l) { waits := x.waits } []) ∧
    (x.readable = true ∨ (x.st = .WB ∧ x.dirty = true) → becomes (.fwdpeek a l) x [(.ioData, home, 0)]) ∧
    (x.readable = false → (x.st ≠ .WB ∨ x.dirty = false) → becomes (.fwdpeek a l) x [(.ack, home, 0)]) ∧
    (x.st = .IS → exec (.data a l) s = .next (filled s a.val n .S).exitsTaken ∧ exec (.datae a l) s = .next (filled s a.val n .E).exitsTaken) ∧
    (x.st = .IX → exec (.datae a l) s = .next (filled s a.val n .M).exitsTaken ∧
      (x.haveGrant = false → becomes (.data a l) { x with haveData := true } [] ∧ becomes (.datad a l) { x with haveData := true } []) ∧
      (x.haveData = false → becomes (.grant a l) { x with haveGrant := true } []) ∧
      (x.haveGrant = true → let u := s.setCline a.val n { x with haveData := true }
        exec (.data a l) s = .next (filled u a.val n .M).exitsTaken ∧ exec (.datad a l) s = .next (filled u a.val n .M).exitsTaken) ∧
      (x.haveData = true →
        exec (.grant a l) s = .next (filled (s.setCline a.val n { x with haveGrant := true }) a.val n .M).exitsTaken)) ∧
    (x.st = .UX → exec (.grant a l) s = .next (filled s a.val n .M).exitsTaken) ∧
    (∀ (st : LineState), ∃ t : State, filled s a.val n st = (t.rerun a.val n).rerunSet a.val set ∧ leaves t [] ∧
      t.cline a.val n = { x with st := st, dirty := false, haveData := true, haveGrant := false, want := none, nacks := 0
                                 retryAt := none, twin := if st = .M then x.twin else none, used := s.coh.clock + 1 }) ∧
    (let k := x.nacks + 1
     let back := { x with nacks := k, retryAt := some (retryTime s.tb k), haveData := false, haveGrant := false }
     s.tb + (if k ≤ 4 then 10 * 2 ^ (k - 1) else 80) ≤ retryTime s.tb k ∧ retryTime s.tb k % 10 = 0 ∧
     retryTime s.tb k < s.tb + (if k ≤ 4 then 10 * 2 ^ (k - 1) else 80) + 10 ∧
     (x.st = .IS → becomes (.nack a.castSucc l) { back with st := .I, want := some .rds } []) ∧
     (x.st = .IX → becomes (.nack a.castSucc l) { back with st := .I, want := some .rdx } []) ∧
     (x.st = .UX → becomes (.nack a.castSucc l) { back with st := if x.dirty then .O else .S, want := some .upg } [])) ∧
    (due s x.retryAt = false → stays (.nackRetryTimer a.castSucc l)) ∧
    (due s x.retryAt = true →
      let again := { x with retryAt := none }
      (x.st = .I → x.want = some .rds → becomes (.nackRetryTimer a.castSucc l) { again with st := .IS } [(.rdS, home, 0)]) ∧
      (x.st = .I → x.want = some .rdx → let r := s.readyDirty a.val n
        (r.1 = false → exec (.nackRetryTimer a.castSucc l) s = .next r.2.exitsTaken) ∧
        (r.1 = true → (r.2.cline a.val n).want = some .rdx → exec (.nackRetryTimer a.castSucc l) s = .next
          ((r.2.setCline a.val n { r.2.cline a.val n with st := .IX, retryAt := none }).sendCoh .rdX a.val home n).exitsTaken) ∧
        (x.way.isSome = true → x.twin.isSome = true →
          becomes (.nackRetryTimer a.castSucc l) { again with st := .IX } [(.rdX, home, 0)])) ∧
      (x.st = .S → x.want = some .upg →
        becomes (.nackRetryTimer a.castSucc l) { again with st := .UX, dirty := false } [(.upg, home, 0)]) ∧
      (x.st = .O → x.want = some .upg →
        becomes (.nackRetryTimer a.castSucc l) { again with st := .UX, dirty := true } [(.upg, home, 0)])) ∧
    (let cleans := fun (i : Instr) (y : CacheLine) => ∃ t : State, exec i s = .next (t.rerunSet a.val set).exitsTaken ∧
        t.cline a.val n = y ∧ leaves t []
     (x.st = .M → x.cleaning = true → cleans (.wback a l) { x with st := .E, cleaning := false, twin := none }) ∧
     (x.st = .O → x.cleaning = true → cleans (.wback a l) { x with st := .S, cleaning := false, twin := none }) ∧
     (x.st = .UX → x.cleaning = true → cleans (.wback a l) { x with dirty := false, cleaning := false }) ∧
     (x.st = .M ∨ x.st = .O ∨ x.st = .UX → x.cleaning = false → stays (.wback a l)) ∧
     (gone x.st ∨ x.st = .E ∨ x.st = .S → becomes (.wback a l) { x with cleaning := false } []) ∧
     (x.st ≠ .WB → cleans (.wbstale a l) { x with cleaning := false })) ∧
    (x.chk = none → stays (.chkok a l)) ∧
    (∀ tag w, x.chk = some (tag, w) → reruns (.chkok a l) { x with tag := tag, chk := none } [] ∧
      ((∀ y ∈ x.waits, ¬ (y.tag = tag ∧ y.kind = .store)) →
        reruns (.chkref a l) { x with chk := none, waits := x.waits.filter (fun y => y.tag != tag) } [])) ∧
    (x.chk = none → (∀ y ∈ x.waits, ¬ (y.tag = x.tag ∧ y.kind = .store)) →
      let ended := { x with want := none, nacks := 0, retryAt := none, waits := x.waits.filter (fun y => y.tag != x.tag) }
      (x.st = .IS ∨ x.st = .IX → reruns (.chkref a l) { ended with st := .I } []) ∧
      (x.st = .UX → reruns (.chkref a l) { ended with st := if x.dirty then .O else .S } []) ∧
      (¬ gone x.st ∧ x.st ≠ .UX ∨ x.st = .I → stays (.chkref a l))) ∧
    (∀ (e : Fin 320) (b : BufStore), s.coh.stores.find? (fun b => b.proc == e.val && b.line == n) = some b →
      ∃ u : State, storeRefused s e.val n = (if u.viewOut e.val then u else u.raise (.exec e) 0x08 b.ea) ∧ u.mem = s.mem ∧
        u.coh.stores = s.coh.stores.filter (fun b => !(b.proc == e.val && b.line == n)))

/-- R205, R209, R210, R211, R213, R215, R219, R220, R240: what a home agent does with a request, an answer and a
writeback, with I/O agents, with dead and silent agents, and with failing arrays.
The model's own choices behind it: log 60, 116, 118, 123. -/
def Obligations.HomeDirectories : Prop :=
  ∀ (s : State) (a : Fin 44) (l : BitVec 42), s.live = true → a.val < 4 →
    let n := l.toNat
    let h := lineHome n
    let e := s.home h n
    let me := homeNode h
    let world := tagWorld (s.cline a.val n).tag
    let may := fun (write : Bool) => (s.regionCheck world (64 * n) write).2.isSome = true
    let healthy := s.groupState (lineGroup n) = 0
    let alive : List Nat → List Nat := fun ss => ss.filter (fun c => !s.isDead c)
    let others : List Nat → List Nat := fun ss => alive (ss.filter (· != a.val))
    let free := e.busy = none ∧ (e.waits = [] ∨ e.waits.head? = some a.val) ∧ e.reserved = none ∧ e.held = [] ∧ s.isDead a.val = false ∧
      s.dirHasRoom h n = true ∧ s.fld COH_STATUS COH_STATUS.MODE = 1
    let answers : Instr → DirState → Msg → Prop := fun i d m => ∃ t : State, exec i s = .next t ∧
      (t.home h n).dir = d ∧ (t.home h n).busy = none ∧ t.out.head? = some (.coh m.code me a.val n 0) ∧ (healthy → t.mem = s.mem)
    let waitsFor : Instr → Option Nat → List Nat → Prop := fun i f inv => ∃ (t : State) (x : HomeTrans), exec i s = .next t ∧
      (t.home h n).busy = some x ∧ x.requester = a.val ∧ x.fwd = f ∧ x.invs = inv ∧ x.answered = f.isNone ∧
      (t.home h n).dir = e.dir ∧ (healthy → t.mem = s.mem) ∧
      (s.bit COH_STATUS COH_STATUS.GUARDED = true → x.timeout = some (s.tb + 20000)) ∧
      (s.bit COH_STATUS COH_STATUS.GUARDED = false → x.timeout = none)
    let refused : Instr → Msg → Prop := fun i m => ∃ t : State, exec i s = .next t ∧ t.coh = s.coh ∧ t.mem = s.mem ∧
      t.out = .coh m.code me a.val n 0 :: s.out ∧ t.bit MEM_EVENT MEM_EVENT.REFUSED = true ∧
      (m = .wbStale → t.reg COH_STALE_WB = s.reg COH_STALE_WB + 1)
    let late : Instr → Prop := fun i => ∃ t : State, exec i s = .next t ∧ t.bit COH_EVENT COH_EVENT.LATE_RESPONSE = true ∧
      t.coh = s.coh ∧ t.mem = s.mem
    let rds := Instr.rds a l [] false
    let wbd : Bool → WbdKind := fun keep => if keep then .keeps else .leaves
    let rdx := Instr.rdx a l [] false
    (∀ bad cb kind b b' b'', s.isDead a.val = true → ∀ i ∈ [Instr.rds a l bad cb, .rdx a l bad cb, .upg a l, .wbd a l kind,
      .wbclean a l, .ack a l, .iodata a l, .invack a l, .fwdack a l b b' b''], exec i s = .next s) ∧
    (∀ bad cb kind, s.isDead a.val = false →
      (¬ may false → refused (.rds a l bad cb) .chkRef ∧ refused (.wbclean a l) .wbStale) ∧
      (¬ may true → refused (.rdx a l bad cb) .chkRef ∧ refused (.upg a l) .chkRef ∧ refused (.wbd a l kind) .wbStale)) ∧
    (∀ bad cb, s.isDead a.val = false → may false → may true →
      (e.busy.isSome = true ∨ ∃ r, e.waits.head? = some r ∧ r ≠ a.val) → e.reserved = none →
      s.fld COH_STATUS COH_STATUS.MODE = 1 → ∀ i ∈ [Instr.rds a l bad cb, .rdx a l bad cb, .upg a l],
        ∃ t : State, exec i s = .next t ∧ t.out.head? = some (.coh Msg.nack.code me a.val n 0) ∧ (t.home h n).dir = e.dir ∧
          (t.home h n).busy = e.busy ∧ (e.busy.isSome = true → a.val ∈ (t.home h n).waits) ∧ (healthy → t.mem = s.mem)) ∧
    (free → may false → may true →
      (e.dir = .I → answers rds (.X a.val) .dataE ∧ answers rdx (.X a.val) .dataE ∧ answers (.upg a l) (.X a.val) .dataE) ∧
      (∀ ss, e.dir = .S ss → answers rds (.S (a.val :: ss.filter (· != a.val))) .data ∧
        (others ss = [] → answers rdx (.X a.val) .dataE) ∧ (others ss ≠ [] → waitsFor rdx none (others ss)) ∧
        (a.val ∈ ss → others ss = [] → answers (.upg a l) (.X a.val) .grant) ∧
        (others ss ≠ [] → waitsFor (.upg a l) none (others ss))) ∧
      (∀ o, e.dir = .X o → s.isDead o = false → waitsFor rds (some o) [] ∧ waitsFor rdx (some o) [] ∧
        waitsFor (.upg a l) (some o) []) ∧
      (∀ o ss, e.dir = .O o ss → s.isDead o = false → waitsFor rds (some o) [] ∧ waitsFor rdx (some o) (alive ss) ∧
        (o ≠ a.val → waitsFor (.upg a l) (some o) (alive ss)) ∧
        (o = a.val → alive ss = [] → answers (.upg a l) (.X a.val) .grant) ∧
        (o = a.val → alive ss ≠ [] → waitsFor (.upg a l) none (alive ss)))) ∧
    (∀ x, s.isDead a.val = false → e.busy = some x → x.outer = false → x.room = false →
      (x.fwd = some a.val → x.answered = false → ∀ sent dirty kept, x.kind = .rds ∨ x.kind = .rdx ∨ x.kind = .upg ∨ x.kind = .iord →
        let after := fun (sent dirty kept : Bool) =>
          s.setHome h n { e with busy := some { x with answered := true, sent := sent, dirty := dirty, kept := kept } }
        let y := after sent dirty kept
        exec (.fwdack a l sent dirty kept) s = .next (y.closeAll h n) ∧
        exec (.ack a l) s = .next ((after false false false).closeAll h n) ∧
        exec (.iodata a l) s = .next ((after true false true).closeAll h n) ∧
        (x.invs ≠ [] → y.closeAll h n = y) ∧
        (x.invs = [] → e.held = [] → let z := (y.closeBusy h n).home h n
          z.busy = none ∧ (x.kind = .iord → z.dir = e.dir) ∧
          (x.kind = .rdx ∨ x.kind = .upg → z.dir = if s.isDead x.requester then .I else .X x.requester) ∧
          (x.kind = .rds → s.isDead x.requester = false → ∀ o, e.dir = .X o →
            z.dir = (if dirty then .O o [x.requester] else if kept then .S [o, x.requester] else .S [x.requester])))) ∧
      (x.fwd ≠ some a.val ∨ x.answered = true → ∀ b b' b'', late (.fwdack a l b b' b'') ∧ late (.ack a l) ∧ late (.iodata a l)) ∧
      (a.val ∈ x.invs → exec (.invack a l) s = .next
        ((s.setHome h n { e with busy := some { x with invs := x.invs.filter (· != a.val) } }).closeAll h n)) ∧
      (a.val ∉ x.invs → late (.invack a l)) ∧
      (may true → ∀ keep, exec (.wbd a l (wbd keep)) s = .next (s.setHome h n { e with held := e.held ++ [(a.val, true, keep)] })) ∧
      (may false → exec (.wbclean a l) s = .next (s.setHome h n { e with held := e.held ++ [(a.val, false, false)] }))) ∧
    (∀ keep, s.isDead a.val = false → e.busy = none → may true → may false →
      (e.dir = .X a.val → ∃ t : State, exec (.wbd a l (wbd keep)) s = .next t ∧
        (t.home h n).dir = (if keep then .X a.val else .I) ∧ t.out.head? = some (.coh Msg.wbAck.code me a.val n 0)) ∧
      (∀ ss, e.dir = .O a.val ss → ∃ t : State, exec (.wbd a l (wbd keep)) s = .next t ∧
        (t.home h n).dir = .S (if keep then a.val :: ss.filter (· != a.val) else ss)) ∧
      (e.dir = .X a.val → ∃ t : State, exec (.wbclean a l) s = .next t ∧ (t.home h n).dir = .I) ∧
      (e.dir = .I ∨ (∃ o, e.dir = .X o ∧ o ≠ a.val) ∨ (∃ ss, e.dir = .S ss) ∨ (∃ o ss, e.dir = .O o ss ∧ o ≠ a.val) →
        ∀ i ∈ [Instr.wbd a l (wbd keep), .wbclean a l], ∃ t : State, exec i s = .next t ∧ t.coh = s.coh ∧ t.mem = s.mem ∧
          t.out = .coh Msg.wbStale.code me a.val n 0 :: s.out ∧
          t.reg COH_STALE_WB = s.reg COH_STALE_WB + 1) ∧
      late (.wbd a l .answers) ∧ late (.invack a l) ∧ late (.ack a l) ∧ late (.iodata a l) ∧ late (.fwdack a l true true true)) ∧
    (∀ (b : Fin 44) w r, let write := ((s.cline b.val n).chk.map (·.2)).getD false
      (s.regionCheck w (64 * n) write = (r, none) → ∃ t : State, exec (.chk b l w) s = .next t ∧
        t.out = .coh Msg.chkRef.code me b.val n 0 :: s.out ∧ t.coh = s.coh) ∧
      (∀ k, s.regionCheck w (64 * n) write = (r, some k) → exec (.chk b l w) s = .next (s.sendCoh .chkOk me b.val n))) ∧
    let reached := ioReaches s n = true
    (¬ reached → ∀ w bad cb off d, exec (.iord w l bad cb) s = .next s ∧ exec (.iowr w l off d) s = .next s) ∧
    (∀ w r, reached → s.regionCheck w (64 * n) false = (r, none) → ∀ bad cb, ∃ t : State, exec (.iord w l bad cb) s = .next t ∧
      t.bit MEM_EVENT MEM_EVENT.REFUSED = true ∧ t.coh = s.coh ∧ t.mem = s.mem ∧ t.mm = s.mm) ∧
    (∀ w r k, reached → s.regionCheck w (64 * n) false = (r, some k) → s.ioHead n = none → s.isDead ioAgent = false → e.busy = none →
      e.waits = [] → e.reserved = none → s.fld COH_STATUS COH_STATUS.MODE = 1 → (e.dir = .I ∨ ∃ ss, e.dir = .S ss) →
      ∃ t : State, exec (.iord w l [] false) s = .next t ∧ (t.home h n).dir = e.dir ∧ (t.home h n).busy = none ∧ t.ioHead n = none ∧
        t.out.head? = some (.ioData n (if t.poisoned n then zeros 64 else t.lineUnder k n) (t.poisoned n)) ∧
        (healthy → s.missingMembers (lineGroup n) (lineRow n) = [] →
          s.memberFails (lineGroup n) (lineRow n) (lineMember n) = false → t.mem = s.mem ∧ t.lineUnder k n = s.lineUnder k n)) ∧
    (∀ w r k o, reached → s.regionCheck w (64 * n) false = (r, some k) → s.ioHead n = none → s.isDead ioAgent = false → e.busy = none →
      e.waits = [] → e.reserved = none → s.fld COH_STATUS COH_STATUS.MODE = 1 → (e.dir = .X o ∨ ∃ ss, e.dir = .O o ss) →
      s.isDead o = false → ∃ (t : State) (x : HomeTrans), exec (.iord w l [] false) s = .next t ∧ (t.home h n).busy = some x ∧
        x.kind = .iord ∧ x.fwd = some o ∧ x.invs = [] ∧ x.answered = false ∧ t.out.head? = some (.coh Msg.fwdPeek.code me o n 0)) ∧
    (∀ w r, reached → s.regionCheck w (64 * n) true = (r, none) → ∀ off d, ∃ t : State, exec (.iowr w l off d) s = .next t ∧
      t.bit MEM_EVENT MEM_EVENT.REFUSED = true ∧ t.coh = s.coh ∧ t.mem = s.mem) ∧
    (∀ w r k off d, reached → s.regionCheck w (64 * n) true = (r, some k) →
      (s.ioHead n ≠ none → ∃ t : State, exec (.iowr w l off d) s = .next t ∧ t.mem = s.mem ∧ t.coh.homes = s.coh.homes ∧
        t.coh.io = s.coh.io ++ [{ line := n, write := true, world := w, off := off.val, data := d.take (64 - off.val) }]) ∧
      (s.ioHead n = none → s.isDead ioAgent = false → e.busy.isSome = true → ∃ t : State,
        exec (.iowr w l off d) s = .next t ∧ t.mem = s.mem ∧ ioAgent ∈ (t.home h n).waits ∧ (t.ioHead n).isSome = true) ∧
      (s.ioHead n = none → s.isDead ioAgent = false → e.busy = none → e.waits = [] → e.reserved = none →
        s.fld COH_STATUS COH_STATUS.MODE = 1 → e.dir = .I → s.mm.window = none →
        ∃ t : State, exec (.iowr w l off d) s = .next t ∧ (t.home h n).dir = .I ∧ t.ioHead n = none ∧
          (∀ j, j < (d.take (64 - off.val)).length → t.mem.byte (64 * n + off.val + j) = (d.take (64 - off.val)).getD j 0))) ∧
    (∀ c : Fin 44, (s.coh.dead.contains c.val = true → exec (.declareAgentDead c) s = .next s) ∧
      (s.coh.dead.contains c.val = false → ∃ t : State, exec (.declareAgentDead c) s = .next t ∧ t.coh.dead = c.val :: s.coh.dead ∧
        t.bit COH_EVENT COH_EVENT.AGENT_DEAD = true ∧ t.isDead c.val = true ∧
        (4 ≤ c.val → t.fld (COH_L2 (c.val - 4)) COH_L2.STATE = 3)) ∧
      (∀ g : Fin 28, s.isDead c.val = false → exec (.deadAgentSweepDone g c) s = .next s) ∧
      (∀ g : Fin 28, s.isDead c.val = true → ∃ t : State, exec (.deadAgentSweepDone g c) s = .next t ∧ t.coh.dead = s.coh.dead ∧
        ∀ j, (s.home g.val j).busy = none → (s.home g.val j).dir = .X c.val → j < 2 ^ 42 → (t.home g.val j).dir = .I)) ∧
    (∀ g : Fin 28, let x := s.home g.val n
      (x.busy = none → exec (.snoopTimeout g l) s = .next s) ∧
      (∀ y, x.busy = some y → due s y.timeout = false → exec (.snoopTimeout g l) s = .next s) ∧
      (∀ y, x.busy = some y → due s y.timeout = true → ∃ u : State, exec (.snoopTimeout g l) s = .next (u.closeAll g.val n) ∧
        u.bit COH_EVENT COH_EVENT.SNOOP_TIMEOUT = true ∧
        (u.home g.val n).dir = x.dir.without ((if y.answered then [] else y.fwd.toList) ++ y.invs) ∧
        (u.home g.val n).busy = some { y with answered := true, invs := [], timeout := none })) ∧
    (∀ way : Fin 20,
      (∃ t : State, exec (.cacheCheckFail .dirtyOne (.cache a) l way) s = .next t ∧ t.bit COH_EVENT COH_EVENT.TWIN_READ = true) ∧
      (∃ t : State, exec (.cacheCheckFail .dirtyBoth (.cache a) l way) s = .next t ∧ t.poisoned n = true) ∧
      (∃ t : State, exec (.cacheCheckFail .tagBoth (.cache a) l way) s = .next t ∧ t.bit COH_EVENT COH_EVENT.ENTRY_LOST = true) ∧
      (∀ g, (∃ t : State, exec (.cacheCheckFail .tagBoth (.directory g) l way) s = .next t ∧
          t.bit COH_EVENT COH_EVENT.ENTRY_LOST = true) ∧
        (∃ t : State, exec (.cacheCheckFail .tagOne (.directory g) l way) s = .next t ∧ t.coh = s.coh ∧ t.mem = s.mem)) ∧
      (∀ k core data, ∃ t : State, exec (.cacheCheckFail k (.l1 core data) l way) s = .next t ∧ t.coh.lines = s.coh.lines ∧
        t.coh.homes = s.coh.homes ∧ t.mem = s.mem ∧
        (s.hasL1 (l1Array core.val data) n = false → t.hasL1 (l1Array core.val data) n = false)))

/-! ### Memory channels, regions and keys -/

/-- R226, R227: every memory line has one place, and no two lines share one. R229: the map of the last lines. -/
def Obligations.AddressMapIsOneToOne : Prop :=
  (∀ l, l < 3963617280 → lineGroup l < 3 ∧ lineRow l < groupRows ∧ lineMember l < 8 ∧ lineMember l ≠ parityMember (lineRow l) ∧
    lineHome l < 24 ∧ chanGroup (lineHome l) = lineGroup l ∧ chanMember (lineHome l) = lineMember l ∧
    memberLine (lineGroup l) (lineRow l) (lineMember l) = some l) ∧
  (∀ l l', l < 3963617280 → l' < 3963617280 → lineGroup l = lineGroup l' → lineRow l = lineRow l' →
    lineMember l = lineMember l' → l = l') ∧
  (∀ h h', h < 24 → h' < 24 → chanGroup h = chanGroup h' → chanMember h = chanMember h' → h = h')

/-- R239, R240: which accesses the region check permits, and under which key.
The model's own choices behind it: log 54, 55. -/
def Obligations.RegionCheckTable : Prop :=
  ∀ (s : State) (a : Nat) (write : Bool) (p : Nat),
    (s.regionOf a = none →
      s.worldCheck .opened a write = (0, some 0) ∧ s.worldCheck (.sealed p) a write = (3, none) ∧
      (s.partSealed p = true → s.worldCheck (.onBehalf p) a write = (3, none)) ∧
      (s.partSealed p = false → s.worldCheck (.onBehalf p) a write = (0, some 0))) ∧
    (∀ n, s.regionOf a = some n → n < 64 ∧
      s.bit (HA_REGION_BASE n) HA_REGION_BASE.VALID = true ∧
      s.fld (HA_REGION_BASE n) HA_REGION_BASE.BASE ≤ a / 2 ^ 21 ∧ a / 2 ^ 21 ≤ s.fld (HA_REGION_CTL n) HA_REGION_CTL.LIMIT ∧
      (∀ k, k < n → ¬ (s.bit (HA_REGION_BASE k) HA_REGION_BASE.VALID = true ∧
        s.fld (HA_REGION_BASE k) HA_REGION_BASE.BASE ≤ a / 2 ^ 21 ∧ a / 2 ^ 21 ≤ s.fld (HA_REGION_CTL k) HA_REGION_CTL.LIMIT)) ∧
      let kind := s.fld (HA_REGION_CTL n) HA_REGION_CTL.KIND
      let owner := s.fld (HA_REGION_CTL n) HA_REGION_CTL.OWNER
      let may := s.fld (HA_REGION_CTL n) (if write then HA_REGION_CTL.OPEN_W else HA_REGION_CTL.OPEN_R)
      (kind = 0 → s.worldCheck (.sealed owner) a write = (0, some (State.partKey owner)) ∧
        (p ≠ owner → s.worldCheck (.sealed p) a write = (1, none) ∧ s.worldCheck (.onBehalf p) a write = (1, none)) ∧
        s.worldCheck (.onBehalf owner) a write = (if may = 1 then (0, some (State.partKey owner)) else (1, none)) ∧
        s.worldCheck .module a write = (1, none) ∧ s.worldCheck .crucible a write = (1, none)) ∧
      (kind = 1 → s.worldCheck .module a write = (0, some 1) ∧ s.worldCheck .opened a write = (1, none) ∧
        s.worldCheck (.sealed p) a write = (1, none) ∧ s.worldCheck (.onBehalf p) a write = (1, none) ∧
        s.worldCheck .crucible a write = (1, none)) ∧
      (kind = 2 → s.worldCheck .crucible a write = (0, some 2) ∧ s.worldCheck .opened a write = (1, none) ∧
        s.worldCheck (.sealed p) a write = (1, none) ∧ s.worldCheck (.onBehalf p) a write = (1, none) ∧
        s.worldCheck .module a write = (1, none))) ∧
    (∀ w r, s.worldCheck w a write = (r, none) → s.regionCheck w a write = (r, none)) ∧
    (∀ w r k, s.worldCheck w a write = (r, some k) →
      s.regionCheck w a write = (if s.mm.loaded.get [] k = [] then (2, none) else (0, some k))) ∧
    (∀ w req n, (s.memRead w req a n).1 = none → (s.memRead w req a n).2.mem = s.mem ∧ (s.memRead w req a n).2.coh = s.coh) ∧
    (∀ w req d, (s.memWrite w req a d).1 = false → (s.memWrite w req a d).2.mem = s.mem ∧ (s.memWrite w req a d).2.coh = s.coh) ∧
    (∀ w req n, s.memOn = true → a + n ≤ memLimit → (s.rangeCheck w a n false).2.isSome = true → (s.memRead w req a n).1.isSome = true) ∧
    (∀ w req d, s.memOn = true → a + d.length ≤ memLimit → (s.rangeCheck w a d.length true).2.isSome = true →
      (s.memWrite w req a d).1 = true) ∧
    (∀ w req d, (req = 1 ∨ (s.mm.badCode = [] ∧ s.mm.window = none)) → (s.memWrite w req a d).1 = true → ∀ b, (b / 64 < a / 64 ∨ (a + d.length - 1) / 64 < b / 64) →
      (s.memWrite w req a d).2.mem.byte b = s.mem.byte b)

/-- R226, R230, R232, R234, R236, R239, R243, R244, R245, R247, R248: parity and code lines, failing checks and
channels, Planish, calibration and region writes.
The model's own choices behind it: log 23, 24, 114, 116, 117, 119. -/
def Obligations.MemoryChannels : Prop :=
  ∀ (s : State), s.live = true →
    (∀ (h : Fin 24), let g := chanGroup h.val
      (s.fld (MEM_CHAN h.val) MEM_CHAN.STATE = 4 → exec (.channelAccessTimeout h) s = .next s) ∧
      (s.fld (MEM_CHAN h.val) MEM_CHAN.STATE ≠ 4 → ∃ t : State, exec (.channelAccessTimeout h) s = .next t ∧
        t.fld (MEM_CHAN h.val) MEM_CHAN.STATE = 4 ∧ t.bit MEM_EVENT MEM_EVENT.CHAN_FAILED = true ∧
        (s.groupState g = 0 → t.groupState g = 1 ∧ t.fld (MEM_GROUP g) MEM_GROUP.MEMBER = chanMember h.val) ∧
        (s.groupState g = 2 → t.groupState g = 1 ∧ t.fld (MEM_GROUP g) MEM_GROUP.PROGRESS = s.fld (MEM_GROUP g) MEM_GROUP.PROGRESS) ∧
        (∀ w, s.mm.window = some w → w.chan = h.val → t.mm.window = none) ∧
        (∀ w, s.mm.window = some w → w.chan ≠ h.val → chanGroup w.chan = g → w.catchUp = false →
          (∃ w', t.mm.window = some w' ∧ w'.chan = w.chan ∧ w'.catchUp = true ∧ w'.fromCopies = true ∧ w'.marked = w.marked) ∧
          t.bit MEM_EVENT MEM_EVENT.CAL_ABORTED = true) ∧ t.mem = s.mem)) ∧
    (∀ (g : Fin 3), let h := memberHome g.val (s.fld (MEM_GROUP g.val) MEM_GROUP.MEMBER)
      (s.groupState g.val ≠ 1 → ∀ ok, exec (.memGroupRebuild g ok) s = .next s) ∧
      (s.groupState g.val = 1 →
        (∃ t : State, exec (.memGroupRebuild g false) s = .next t ∧ t.groupState g.val = 1 ∧
          t.bit (MEM_GROUP g.val) MEM_GROUP.REFUSED = true ∧ t.mm = s.mm ∧ t.mem = s.mem) ∧
        (∃ t : State, exec (.memGroupRebuild g true) s = .next t ∧ t.groupState g.val = 2 ∧
          t.fld (MEM_GROUP g.val) MEM_GROUP.PROGRESS = 0 ∧ t.bit (MEM_GROUP g.val) MEM_GROUP.REFUSED = false ∧
          t.fld (MEM_CHAN h) MEM_CHAN.STATE = 5 ∧ t.mm = s.mm ∧ t.mem = s.mem)) ∧
      (s.groupState g.val ≠ 2 → exec (.rebuildComplete g) s = .next s) ∧
      (s.groupState g.val = 2 → ∃ t : State, exec (.rebuildComplete g) s = .next t ∧ t.fld (MEM_CHAN h) MEM_CHAN.STATE = 1 ∧
        (s.mm.badCode = [] → t.mem = s.mem) ∧
        (s.mm.window = none → (∀ i, i < 8 → memberHome g.val i ≠ h → s.fld (MEM_CHAN (memberHome g.val i)) MEM_CHAN.STATE ≠ 4) →
          t.groupState g.val = 0 ∧ t.bit MEM_EVENT MEM_EVENT.REBUILD_DONE = true))) ∧
    (∀ bad cb pb, (s.planishGroup = none → exec (.planishRow bad cb pb) s = .next s) ∧
      (s.tb < s.planishDue → exec (.planishRow bad cb pb) s = .next s) ∧
      (∀ g, s.planishGroup = some g → s.planishDue ≤ s.tb →
        let r := s.mm.planish.get 0 g
        let sound := s.groupState g = 0 ∧ s.missingMembers g r = [] ∧ ∀ i, i < 8 → s.memberFails g r i = false
        ∃ t : State, exec (.planishRow bad cb pb) s = .next t ∧
        (s.planishCount + 1 ≠ 3 * groupRows → t.mm.planish.get 0 g = r + 1) ∧
        (s.planishCount + 1 = 3 * groupRows → t.mm.planishAt = s.tb ∧ t.mm.planish = [] ∧ t.bit MEM_EVENT MEM_EVENT.PLANISH_PASS = true) ∧
        (s.mm.badCode = [] → cb = [] → t.mem = s.mem) ∧
        (sound → bad = [] → cb = [] → t.mm.poison = s.mm.poison ∧ (pb = true → t.bit MEM_EVENT MEM_EVENT.PARITY_FIXED = true)) ∧
        (∀ m, sound → bad = [m] → cb = [] →
          t.bit MEM_EVENT MEM_EVENT.RECOMPUTED = true ∧ t.mm.poison = s.mm.poison ∧ t.memberFails g r m.val = false) ∧
        (∀ m : Fin 8, sound → bad = [] → cb = [m] → (∀ j k, s.memberFails g j k = false) →
          t.bit MEM_EVENT MEM_EVENT.CODE_REBUILT = true ∧ t.mm.poison = s.mm.poison ∧ t.mem = s.mem ∧ t.memberFails g r m.val = false))) ∧
    (∀ l bad cb, let g := lineGroup l
      let r := lineRow l
      let m := lineMember l
      let t := s.readLine l bad cb
      let quiet := s.groupState g = 0 ∧ s.missingMembers g r = [] ∧ s.parityOut g r = false ∧
        ∀ w, s.mm.window = some w → w.fromCopies = false
      let code := cb = true ∨ s.codeFails (lineHome l) r = true
      let failing := m ∈ bad ∨ code ∨ s.memberFails g r m = true
      let alone := (∀ b ∈ bad, b = m) ∧ ∀ j, j < 8 → j ≠ m → s.memberFails g r j = false
      (s.groupState g = 0 ∧ s.mm.window = none ∨ (s.mm.badCode = [] ∧ cb = false) → t.mem = s.mem) ∧
      (quiet → ¬ failing → ∀ x, t.marked x = s.marked x) ∧
      (quiet → failing → alone → t.memberFails g r m = false ∧ t.bit MEM_EVENT MEM_EVENT.RECOMPUTED = true ∧
        (∀ x, t.marked x = s.marked x) ∧ (code → t.bit MEM_EVENT MEM_EVENT.CODE_REBUILT = true)) ∧
      (quiet → failing → (∃ b, b < 8 ∧ b ≠ m ∧ (b ∈ bad ∨ s.memberFails g r b = true)) →
        t.poisoned l = true ∧ t.bit MEM_EVENT MEM_EVENT.POISONED = true)) ∧
    ((s.bit MEM_TEMPER_CFG MEM_TEMPER_CFG.EN = false ∨ s.mm.window.isSome = true ∨ s.tb < s.mm.calAt →
        exec .calibrationWindowStart s = .next s) ∧
      (s.bit MEM_TEMPER_CFG MEM_TEMPER_CFG.EN = true → s.mm.window = none → s.mm.calAt ≤ s.tb →
        ∃ t : State, exec .calibrationWindowStart s = .next t ∧ t.mm.calAt = s.tb + s.calPeriod ∧ t.mem = s.mem ∧
          ((∀ h, h < 24 → s.calEligible h = false) → t.mm.window = none ∧ t.regs = s.regs) ∧
          (∀ w, t.mm.window = some w → s.calEligible w.chan = true ∧ w.catchUp = false ∧ w.marked = [] ∧
            s.copyHost (chanGroup w.chan) = some w.host ∧
            t.fld (MEM_CHAN w.chan) MEM_CHAN.STATE = 2 ∧ t.fld MEM_STATUS MEM_STATUS.CAL_STATE = 1 ∧
            t.fld MEM_STATUS MEM_STATUS.CAL_CHAN = w.chan) ∧
          ((∃ h, h < 24 ∧ s.calEligible h = true) → t.mm.window.isSome = true))) ∧
    (∀ w, s.mm.window = some w → w.chan < 24 → w.catchUp = false →
      (∀ old, ∃ t : State, exec (.calibrationVerify true old) s = .next t ∧ t.mm.window = some { w with catchUp := true, fromCopies := false } ∧
        t.fld (MEM_CHAN w.chan) MEM_CHAN.STATE = 3 ∧ t.fld (MEM_CHAN w.chan) MEM_CHAN.LAST_CAL = s.stamp ∧
        t.fld MEM_STATUS MEM_STATUS.CAL_STATE = 2 ∧ t.mem = s.mem) ∧
      (∃ t : State, exec (.calibrationVerify false true) s = .next t ∧ t.bit MEM_EVENT MEM_EVENT.CAL_FAILED = true ∧
        t.mm.window = some { w with catchUp := true, fromCopies := false }) ∧
      exec (.calibrationVerify false false) s = .next (s.failChannel w.chan) ∧
      exec .catchUpComplete s = .next s) ∧
    (s.mm.window = none → exec .catchUpComplete s = .next s ∧ ∀ a b, exec (.calibrationVerify a b) s = .next s) ∧
    (∀ w, s.mm.window = some w → w.chan < 24 → w.catchUp = true → ∃ t : State, exec .catchUpComplete s = .next t ∧
      t.mm.window = none ∧ t.fld MEM_STATUS MEM_STATUS.CAL_CHAN = 0x1F ∧ t.fld MEM_STATUS MEM_STATUS.CAL_STATE = 0 ∧
      t.fld MEM_TEMPER_STATUS MEM_TEMPER_STATUS.MARKED = 0 ∧
      (s.mm.bad = [] → s.mm.badCode = [] → t.fld (MEM_CHAN w.chan) MEM_CHAN.STATE = 1 ∧ t.mem = s.mem)) ∧
    (∀ die, exec (.matchedDelayRetune die) s = .next s) ∧
    (∀ (n : Fin 64) (ctl : Bool) (v : W64), ∃ t : State, exec (.haRegionWrite n ctl v) s = .next t ∧ t.mem = s.mem ∧ t.coh = s.coh ∧
      t.fld CRU_STATUS CRU_STATUS.REGIONS_FREE = t.freeRegions.length ∧
      (ctl = false → t.fld (HA_REGION_BASE n.val) HA_REGION_BASE.BASE = getFld v HA_REGION_BASE.BASE ∧
        t.bit (HA_REGION_BASE n.val) HA_REGION_BASE.VALID = (getFld v HA_REGION_BASE.VALID == 1) ∧
        t.reg (HA_REGION_CTL n.val) = s.reg (HA_REGION_CTL n.val)) ∧
      (ctl = true → t.fld (HA_REGION_CTL n.val) HA_REGION_CTL.LIMIT = getFld v HA_REGION_CTL.LIMIT ∧
        t.fld (HA_REGION_CTL n.val) HA_REGION_CTL.KIND = getFld v HA_REGION_CTL.KIND ∧
        t.fld (HA_REGION_CTL n.val) HA_REGION_CTL.OWNER = getFld v HA_REGION_CTL.OWNER ∧
        t.reg (HA_REGION_BASE n.val) = s.reg (HA_REGION_BASE n.val))) ∧
    (∀ g r i, i < 8 → s.parityOut g r = false → (∀ p, p < 7 → (s.storedLine (rowLine g r p)).length = 64) →
      s.recompute g r i = (s.storedMember g r i).1) ∧
    (∀ h b, (s.codeLine h b).length = 64 ∧
      (∀ k, k < 15 → slice (s.codeLine h b) (4 * k) 4 =
        let m := s.storedMember (chanGroup h) (15 * b + k) (chanMember h)
        leBytes 4 (State.lineCode m.1 m.2)) ∧
      slice (s.codeLine h b) 60 4 = leBytes 4 (Crypto.crc32c ((s.codeLine h b).take 60)))

/-! ### Compression -/

/-- R259, R260, R261, R262: every block an engine codes decodes to the block it coded.
The model's own choices behind it: log 84. -/
def Obligations.SwageBlocksDecode : Prop :=
  ∀ (stream pad : Bool) (max blocks : Nat) (hist block : Bytes), max ≤ 5 → block.length = 4096 →
    let x := swageCode stream pad max blocks hist block
    swageDecode (if stream then hist else []) x.1 = some block ∧
    x.1.length = 16 + classSize x.2.1 ∧ 1 ≤ x.2.1 ∧ x.2.1 ≤ 5 ∧
    (x.2.2 = true → x.2.1 = 5 ∧ max ≠ 5) ∧ (x.2.2 = false → x.2.1 ≤ max ∧ (pad = true → x.2.1 = max))

/-- R252, R253, R254, R255, R257, R265, R266, R267, R268: queue owners, arbitration rounds, and what becomes of the
request at the head of a queue.
The model's own choices behind it: log 83, 85. -/
def Obligations.CompressionQueues : Prop :=
  ∀ (s : State) (n : Fin 128), s.live = true →
    let q := n.val
    let busy := s.swgQueue q ≠ [] ∨ (s.swgCtx q).isSome = true
    (∀ v : BitVec 32, ∃ t : State, exec (.swgQCfgWrite n v) s = .next t ∧ t.swg = s.swg ∧ t.mem = s.mem ∧
      (busy → t.fld (SWG_Q_STATUS q) SWG_Q_STATUS.ERR = 1 ∧ t.reg (SWG_Q_CFG q) = s.reg (SWG_Q_CFG q)) ∧
      (¬ busy → let part := v.toNat / 2 ^ 16 % 2 ^ 10
        t.fld (SWG_Q_CFG q) SWG_Q_CFG.PARTITION = part ∧ t.fld (SWG_Q_CFG q) SWG_Q_CFG.FUNC = v.toNat % 2 ^ 11 ∧
        t.fld (SWG_Q_CFG q) SWG_Q_CFG.KIND = v.toNat / 2 ^ 30 ∧ t.fld (SWG_Q_STATUS q) SWG_Q_STATUS.ERR = 0 ∧
        (v.toNat / 2 ^ 30 = 0 → t.fld (SWG_Q_STATUS q) SWG_Q_STATUS.STATE = 0) ∧
        (v.toNat / 2 ^ 30 = 1 → t.fld (SWG_Q_STATUS q) SWG_Q_STATUS.STATE = (if s.partSealed part then 1 else 2)) ∧
        (v.toNat / 2 ^ 30 = 2 → t.fld (SWG_Q_STATUS q) SWG_Q_STATUS.STATE = 2))) ∧
    (∀ h : Fin 2, ∃ t : State, exec (.arbitrationRound h) s = .next t ∧ t.mem = s.mem ∧ t.swg.ctxs = s.swg.ctxs ∧
      ((t.swgQueue q).map (·.block) = (s.swgQueue q).map (·.block)) ∧
      (q / 64 ≠ h.val → t.swgQueue q = s.swgQueue q) ∧
      (q / 64 = h.val → s.swgHungry q = true →
        let w := s.swgWeight (s.fld (SWG_Q_CFG q) SWG_Q_CFG.FUNC)
        (w ≠ 0 → t.swgQueue q = State.grantBlocks w (s.swgQueue q)) ∧
        (w = 0 → (∃ m, m / 64 = h.val ∧ m < 128 ∧ s.swgHungry m = true ∧ s.swgWeight (s.fld (SWG_Q_CFG m) SWG_Q_CFG.FUNC) ≠ 0) →
          t.swgQueue q = s.swgQueue q) ∧
        (w = 0 → (∀ m, m / 64 = h.val → m < 128 → s.swgHungry m = true → s.swgWeight (s.fld (SWG_Q_CFG m) SWG_Q_CFG.FUNC) = 0) →
          t.swgQueue q = State.grantBlocks 1 (s.swgQueue q)))) ∧
    (∀ (w : Nat) (rs : List SwgReq), ((State.grantBlocks w rs).map (·.block) = rs.map (·.block)) ∧
      ((∀ r : SwgReq, r ∈ rs → r.granted ≤ swgBlocks r.block) →
        (∀ r : SwgReq, r ∈ State.grantBlocks w rs → r.granted ≤ swgBlocks r.block) ∧
        ((State.grantBlocks w rs).map (·.granted)).sum =
          min ((rs.map (·.granted)).sum + w) (rs.map (fun r => swgBlocks r.block)).sum)) ∧
    (∀ (e : Fin 8) (c : Nat × (Bool → Instr)),
      c ∈ [(1, fun m => Instr.swageCompress n e m), (2, fun m => .swageDecompress n e m), (3, fun m => .deflateCompress n e m),
        (4, fun m => .deflateDecompress n e m), (0x10, fun _ => .saveStream n e), (0x11, fun _ => .restoreStream n e)] →
      (s.swgQueue q = [] → ∀ m, exec (c.2 m) s = .next s) ∧
      (∀ r rs, s.swgQueue q = r :: rs →
        let f := swgFields r.block
        let served : State → Prop := fun t => t.swgQueue q = rs ∧ ∀ k, k ≠ q → t.swgQueue k = s.swgQueue k
        (f.op ∈ [1, 2, 3, 4, 0x10, 0x11] → f.op ≠ c.1 → ∀ m, exec (c.2 m) s = .next s) ∧
        (f.op = c.1 → s.swgHalfServes q = false → ∀ m, ∃ t : State, exec (c.2 m) s = .next t ∧ served t ∧ t.swg.ctxs = s.swg.ctxs) ∧
        (f.op = c.1 → s.swgHalfServes q = true → (r.granted < swgBlocks r.block ∨ e.val / 4 ≠ q / 64 ∨ s.swgInService e.val = false) →
          ∀ m, exec (c.2 m) s = .next s) ∧
        (f.op = c.1 → swgBlocks r.block ≤ r.granted → e.val / 4 = q / 64 → s.swgInService e.val = true →
          (swgValid r.block = false → ∀ m, ∃ t : State, exec (c.2 m) s = .next t ∧ served t ∧ t.swg.ctxs = s.swg.ctxs ∧
            t.fld (SWG_ENG e.val) SWG_ENG.STATE = 1) ∧
          (swgValid r.block = true → c.1 < 0x10 → ∃ t : State, exec (c.2 true) s = .next t ∧
            served t ∧ (∀ k, k ≠ q → t.swgCtx k = s.swgCtx k) ∧
            (∀ k, k / 4 = q / 64 → k ≠ e.val → s.swgInService k = true →
              (∀ m, m / 4 = q / 64 → m ≠ e.val → s.swgInService m = true → k ≤ m) →
              t = (s.swgRetire e.val).swgRunOn q r.block k) ∧
            ((∀ k, k / 4 = q / 64 → k ≠ e.val → s.swgInService k = false) → t.swg.ctxs = s.swg.ctxs) ∧
            t.fld (SWG_ENG e.val) SWG_ENG.STATE = 2 ∧ t.bit SWG_EVENT SWG_EVENT.ENGINE_RETIRED = true ∧
            t.bit SWG_EVENT SWG_EVENT.VERIFY_MISMATCH = true) ∧
          (swgValid r.block = true → ∃ t : State, exec (c.2 false) s = .next t ∧ served t ∧
            (∀ k, k ≠ q → t.swgCtx k = s.swgCtx k) ∧ (c.1 = 0x10 → t.swgCtx q = s.swgCtx q) ∧
            (c.1 < 0x10 → f.stream = 0 → t.swgCtx q = s.swgCtx q) ∧
            (c.1 < 0x10 → (s.swgData q f).1.status ≠ 0 → (s.swgData q f).1.status ≠ 1 → t.swgCtx q = s.swgCtx q) ∧
            (c.1 = 0x11 → t.swgCtx q ≠ s.swgCtx q → (s.swgRestore q f).1.status = 0)))))

/-! ### Ciphers and key slots -/

/-- R272, R273, R274, R275, R276, R277, R278, R279, R281, R282, R283, R284: queues and their owners, starting and ending
requests, mismatches, key slots; a GCM decrypt gives back what was encrypted.
The model's own choices behind it: log 82, 83. -/
def Obligations.CipherQueuesAndSlots : Prop :=
  (∀ key iv aad pt : Bytes, key.length = 32 → iv.length = 12 →
    let x := Crypto.gcmEnc key iv aad pt
    x.1.length = pt.length ∧ Crypto.gcmDec key iv aad x.1 x.2 = some pt ∧ ∀ tag, tag ≠ x.2 → Crypto.gcmDec key iv aad x.1 tag = none) ∧
  ∀ (s : State) (n : Fin 128), s.live = true →
    let q := n.val
    let e := s.cipEngineOf q
    (∀ v : BitVec 32, ∃ t : State, exec (.cipQCfgWrite n v) s = .next t ∧ t.cip = s.cip ∧ t.mem = s.mem ∧
      (s.cipQueue q ≠ [] → t.fld (CIP_Q_STATUS q) CIP_Q_STATUS.ERR = 1 ∧ t.reg (CIP_Q_CFG q) = s.reg (CIP_Q_CFG q)) ∧
      (s.cipQueue q = [] → let part := v.toNat / 2 ^ 16 % 2 ^ 10
        t.fld (CIP_Q_CFG q) CIP_Q_CFG.PARTITION = part ∧ t.fld (CIP_Q_CFG q) CIP_Q_CFG.FUNC = v.toNat % 2 ^ 11 ∧
        t.fld (CIP_Q_STATUS q) CIP_Q_STATUS.ERR = 0 ∧
        (v.toNat / 2 ^ 30 = 0 → t.fld (CIP_Q_STATUS q) CIP_Q_STATUS.STATE = 0) ∧
        (v.toNat / 2 ^ 30 = 1 → t.fld (CIP_Q_STATUS q) CIP_Q_STATUS.STATE = (if s.partSealed part then 1 else 2)) ∧
        (v.toNat / 2 ^ 30 = 2 → t.fld (CIP_Q_STATUS q) CIP_Q_STATUS.STATE = 2))) ∧
    (∀ c : Nat × (EngStep → Instr),
      c ∈ [(1, fun x => Instr.gcmEncrypt n x), (2, fun x => .gcmDecrypt n x), (3, fun x => .xtsEncrypt n x), (4, fun x => .xtsDecrypt n x),
        (5, fun x => .sha384 n x), (6, fun x => .hmacGenerate n x), (7, fun x => .hmacVerify n x)] →
      (s.cipQueue q = [] → ∀ x, exec (c.2 x) s = .next s) ∧
      (∀ r rs, s.cipQueue q = r :: rs →
        let f := cipFields r.block
        let ends : Instr → Prop := fun i => ∃ t : State, exec i s = .next t ∧ t.cipQueue q = rs ∧ t.cip.keys = s.cip.keys ∧
          (∀ k, k ≠ q → t.cipQueue k = s.cipQueue k)
        (f.op ≠ c.1 → 1 ≤ f.op → f.op ≤ 7 → ∀ x, exec (c.2 x) s = .next s) ∧
        (f.op = c.1 → r.started = true → exec (c.2 .start) s = .next s ∧ ends (c.2 .finish) ∧
          (r.withdrawn = true → ∃ t : State, exec (c.2 .finish) s = .next t ∧ t.bit CIP_EVENT CIP_EVENT.KEY_WITHDRAWN = true) ∧
          (e < 8 → ∃ t : State, exec (c.2 .mismatch) s = .next t ∧ t.fld (CIP_ENG e) CIP_ENG.STATE = 2 ∧
            t.bit CIP_EVENT CIP_EVENT.ENGINE_RETIRED = true ∧ t.bit CIP_EVENT CIP_EVENT.VERIFY_MISMATCH = true ∧
            t.cip.keys = s.cip.keys ∧
            ((∃ k, k / 4 = q / 64 ∧ k ≠ e ∧ s.cipInService k = true) → t.mem = s.mem ∧
              t.cipQueue q = (if r.withdrawn then r else { r with started := false, copy := none }) :: rs) ∧
            ((∀ k, k / 4 = q / 64 → k ≠ e → s.cipInService k = false) → t.cipQueue q = rs))) ∧
        (f.op = c.1 → r.started = false → (∀ y ∈ rs, y.started = false) →
          (s.cipInService e = false → ∀ x, ends (c.2 x)) ∧
          (s.cipInService e = true → s.cipRoom e (decide (5 ≤ f.op)) = false ∨ s.cipTurn q = false → ∀ x, exec (c.2 x) s = .next s) ∧
          (s.cipInService e = true → s.cipRoom e (decide (5 ≤ f.op)) = true → s.cipTurn q = true →
            (cipValid r.block = false → ∀ x, ends (c.2 x)) ∧ ends (c.2 .finish) ∧
            (cipValid r.block = true → f.op ≠ 5 → s.cipSlotOk q f.slot f.op = false → ∀ x, ends (c.2 x)) ∧
            (cipValid r.block = true → f.op = 5 → ∃ t : State, exec (c.2 .start) s = .next t ∧ t.mem = s.mem ∧
              t.cip.turn.get none e = some q ∧ t.cipQueue q = { r with started := true } :: rs) ∧
            (cipValid r.block = true → f.op ≠ 5 → s.cipSlotOk q f.slot f.op = true → ∃ t : State, exec (c.2 .start) s = .next t ∧
              t.mem = s.mem ∧ t.cip.turn.get none e = some q ∧
              t.cipQueue q = { r with started := true, copy := some ⟨f.slot, s.fld (CIP_SLOT f.slot) CIP_SLOT.GEN,
                s.cip.keys.get [] f.slot⟩ } :: rs))))) ∧
    (let slot := s.fld CKL_SLOT CKL_SLOT.SLOT
      let kind := s.fld CKL_SLOT CKL_SLOT.KIND
      let owner := s.fld CKL_SLOT CKL_SLOT.OWNER
      let okind := s.fld CKL_SLOT CKL_SLOT.OWNER_KIND
      let len := s.fld CKL_SLOT CKL_SLOT.KEYLEN
      let key := ((List.range 8).map (fun k => leBytes 8 (s.cip.stage.get 0 k).toNat)).flatten
      let err := s.loadErr slot kind okind owner len key
      (∀ i ∈ [Instr.cklLoad, .cklClear], ∃ t : State, exec i s = .next t ∧ t.cip.stage = [] ∧
        (s.fld CRU_STATUS CRU_STATUS.STATE = 2 → t.mem = s.mem ∧ t.cip.queues = s.cip.queues ∧ t.fld CKL_COMMIT CKL_COMMIT.ERR = 5 ∧ t.cip.keys = s.cip.keys ∧
          t.reg (CIP_SLOT slot) = s.reg (CIP_SLOT slot))) ∧
      (s.fld CRU_STATUS CRU_STATUS.STATE ≠ 2 →
        (∃ t : State, exec .cklLoad s = .next t ∧ t.cip.queues = s.cip.queues ∧ t.mem = s.mem ∧
          (err ≠ 0 → t.fld CKL_COMMIT CKL_COMMIT.ERR = err ∧ t.cip.keys = s.cip.keys ∧ t.reg (CIP_SLOT slot) = s.reg (CIP_SLOT slot)) ∧
          (err = 0 → t.fld CKL_COMMIT CKL_COMMIT.ERR = 0 ∧ t.cip.keys.get [] slot = State.keyBytes kind len key ∧
            t.fld (CIP_SLOT slot) CIP_SLOT.GEN = (s.fld (CIP_SLOT slot) CIP_SLOT.GEN + 1) % 65536 ∧
            t.fld (CIP_SLOT slot) CIP_SLOT.KIND = kind ∧ t.fld (CIP_SLOT slot) CIP_SLOT.OWNER = owner ∧
            t.fld (CIP_SLOT slot) CIP_SLOT.OWNER_KIND = okind ∧ t.fld (CIP_SLOT slot) CIP_SLOT.KEYLEN = len)) ∧
        (∃ t : State, exec .cklClear s = .next t ∧ t.fld CKL_COMMIT CKL_COMMIT.ERR = 0 ∧ t.cip.keys.get [] slot = [] ∧
          t.fld (CIP_SLOT slot) CIP_SLOT.GEN = (s.fld (CIP_SLOT slot) CIP_SLOT.GEN + 1) % 65536 ∧
          t.fld (CIP_SLOT slot) CIP_SLOT.KIND = 0 ∧ t.fld (CIP_SLOT slot) CIP_SLOT.OWNER_KIND = 0 ∧
          (∀ l ∈ t.cip.queues, ∀ r ∈ l.2, ∀ c, r.copy = some c → c.slot = slot → r.withdrawn = true ∧ c.key = []) ∧
          (∀ m r rs, s.cipQueue m = r :: rs → (∃ c, r.copy = some c ∧ c.slot = slot) → (∀ y ∈ rs, y.copy = none ∧ y.withdrawn = false) →
            t.cipQueue m = rs ∧ t.bit CIP_EVENT CIP_EVENT.KEY_WITHDRAWN = true))) ∧
      (kind = 0 ∨ 3 < kind ∨ okind = 0 ∨ okind = 3 → err = 1) ∧
      (kind = 2 → (okind = 1 ∧ owner < 1024 ∨ okind = 2 ∧ owner < 1025) → slice key 0 32 = slice key 32 32 → err = 2) ∧
      (∀ k, k ≠ slot → k < 8192 → ∀ i ∈ [Instr.cklLoad, .cklClear], ∃ t : State, exec i s = .next t ∧
        t.reg (CIP_SLOT k) = s.reg (CIP_SLOT k) ∧ t.cip.keys.get [] k = s.cip.keys.get [] k))

/-! ### Channel engines -/

/-- R291, R292, R293, R294, R296, R297, R298, R302, R304, R306, R307, R309: owners and devices, the start of requests,
the entries of a program, waits, chains, fills, invalidation and failing cache entries.
The model's own choices behind it: log 87, 88. -/
def Obligations.ChannelPrograms : Prop :=
  ∀ (s : State), s.live = true →
    (∀ (n : Fin 256) (v : BitVec 32), ∃ t : State, exec (.chnQCfgWrite n v) s = .next t ∧ t.chn = s.chn ∧ t.mem = s.mem ∧
      (s.chanQueue n.val ≠ [] → t.fld (CHN_Q_STATUS n.val) CHN_Q_STATUS.ERR = 1 ∧ t.reg (CHN_Q_CFG n.val) = s.reg (CHN_Q_CFG n.val)) ∧
      (s.chanQueue n.val = [] → t.fld (CHN_Q_CFG n.val) CHN_Q_CFG.PARTITION = v.toNat / 2 ^ 16 % 2 ^ 10 ∧
        t.fld (CHN_Q_STATUS n.val) CHN_Q_STATUS.ERR = 0 ∧
        (v.toNat / 2 ^ 30 = 0 → t.fld (CHN_Q_STATUS n.val) CHN_Q_STATUS.STATE = 0) ∧
        (v.toNat / 2 ^ 30 = 1 → t.fld (CHN_Q_STATUS n.val) CHN_Q_STATUS.STATE = (if s.partSealed (v.toNat / 2 ^ 16 % 2 ^ 10) then 1 else 2)))) ∧
    (∀ (d : Fin 1024) (k : Fin 5) (v : W64),
      ((∃ x ∈ s.chn.steps, x.dev = d.val) → exec (.chnDevWrite d k v) s = .next (s.setBit CHN_EVENT CHN_EVENT.DEV_BUSY)) ∧
      ((∀ x ∈ s.chn.steps, x.dev ≠ d.val) → ∃ t : State, exec (.chnDevWrite d k v) s = .next t ∧
        (k = 0 → t.mem = s.mem ∧ let a := CHN_DEV_CFG d.val
          t.fld a CHN_DEV_CFG.TARGET = getFld v CHN_DEV_CFG.TARGET ∧ t.fld a CHN_DEV_CFG.OWNER = getFld v CHN_DEV_CFG.OWNER ∧
          (getFld v CHN_DEV_CFG.EN = 0 → t.fld a CHN_DEV_CFG.STATE = 0) ∧
          (getFld v CHN_DEV_CFG.EN = 1 → getFld v CHN_DEV_CFG.OWNER_KIND = 1 → s.partSealed (getFld v CHN_DEV_CFG.OWNER) = true →
            t.fld a CHN_DEV_CFG.STATE = 1)))) ∧
    (∀ (n : Fin 256) (c : Nat × Instr),
      c ∈ [(1, Instr.runProgram n), (2, .invalidateRange n), (3, .lockFillRange n), (4, .unlockRange n)] →
      ((∀ p ∈ s.chanQueue n.val, p.started = true) → exec c.2 s = .next s) ∧
      (∀ p, (s.chanQueue n.val).find? (fun p => !p.started) = some p →
        (p.bad = false → p.op ≠ c.1 → exec c.2 s = .next s) ∧
        (s.mayBegin p = false ∨ (p.op ≠ 1 ∧ (s.chanQueue n.val).head? ≠ some p) ∨ s.chanTurn n.val = false → exec c.2 s = .next s) ∧
        (p.op = c.1 ∨ p.bad = true → s.canBegin n.val = true → s.chanTurn n.val = true → s.progOf p.id = some p →
          (s.chanInService (s.chanEngineOf n.val) = false ∨ p.bad = true → ∃ t : State, exec c.2 s = .next t ∧ t.progOf p.id = none)) ∧
        (p.op = c.1 → p.bad = false → s.mayBegin p = true → (c.1 = 1 ∨ (s.chanQueue n.val).head? = some p) →
          s.chanTurn n.val = true → s.progOf p.id = some p →
          (s.chanInService (s.chanEngineOf n.val) = true → c.1 = 1 →
            (p.unit.isSome = true → s.fld (CHN_Q_CFG n.val) CHN_Q_CFG.KIND ≠ 1 → ∃ t : State, exec c.2 s = .next t ∧ t.progOf p.id = none) ∧
            (p.unit = none ∨ s.fld (CHN_Q_CFG n.val) CHN_Q_CFG.KIND = 1 → ∃ t : State, exec c.2 s = .next t ∧ t.mem = s.mem ∧
              (t.engine (s.chanEngineOf n.val)).turn = some n.val ∧
              t.progOf p.id = some { p with engine := s.chanEngineOf n.val, lastEntry := p.start, started := true, pc := p.start, counter := p.counter0 })) ∧
          (s.chanInService (s.chanEngineOf n.val) = true → c.1 ≠ 1 → ∃ t : State, exec c.2 s = .next t ∧ t.progOf p.id = none)))) ∧
    (∀ (pid : Nat) (c : Nat × Instr),
      c ∈ [(1, Instr.channelRead pid), (2, .channelWrite pid), (3, .tentativeWrite pid), (4, .channelCommit pid), (5, .channelAbort pid),
        (6, .control pid), (7, .sense pid), (8, .jump pid), (9, .wait pid), (10, .chainCompression pid), (11, .chainCipher pid)] →
      (s.progOf pid = none → exec c.2 s = .next s) ∧
      (∀ p, s.progOf pid = some p →
        (p.started = false ∨ p.ended.isSome = true ∨ p.last = true ∨ p.wait ≠ .none ∨ p.op ≠ 1 ∨ s.chanInService p.engine = false →
          exec c.2 s = .next s) ∧
        (p.started = true → p.ended = none → p.last = false → p.wait = .none → p.op = 1 → s.chanInService p.engine = true →
          (∀ s', s.fetchEntry p = (none, s') → exec c.2 s = .next s' ∧ s'.mem = s.mem) ∧
          (∀ b s', s.fetchEntry p = (some b, s') →
            ((leAt b 0 1 ≠ c.1 ∧ 1 ≤ leAt b 0 1 ∧ leAt b 0 1 ≤ 11) ∨ s.mayStart pid (leAt b 0 1) = false → exec c.2 s = .next s) ∧
            (leAt b 0 1 = c.1 → s.mayStart pid c.1 = true → ∀ p', s'.progOf pid = some p' →
              exec c.2 s = .next (State.runEntry s s' p' b) ∧
              let e := cceOf b
              let q := { p' with entries := p'.entries + 1, lastEntry := p'.pc, pc := p'.pc + 32, last := e.flags % 2 == 1 }
              let s1 := s'.setProg q
              (cceOk e = false → State.runEntry s s' p' b = s1.chanFail pid 8 p'.pc 0) ∧
              (cceOk e = true → p'.unit.isSome = true → c.1 = 2 ∨ c.1 = 4 ∨ c.1 = 5 → State.runEntry s s' p' b = s1.chanFail pid 7 p'.pc 0) ∧
              (cceOk e = true → p'.entries < 1048575 → c.1 = 8 → e.aux = 0 →
                (State.runEntry s s' p' b).progOf pid = some { q with pc := e.mem, last := false } ∧
                (State.runEntry s s' p' b).mem = s'.mem) ∧
              (cceOk e = true → p'.entries < 1048575 → c.1 = 9 → e.aux = 1 →
                (State.runEntry s s' p' b).progOf pid = some { q with wait := .time (s'.tb + e.length) }) ∧
              (cceOk e = true → c.1 = 4 ∨ c.1 = 5 → p'.unit = none → p'.free[e.aux]? = none →
                State.runEntry s s' p' b = s1.chanFail pid 8 p'.pc 0) ∧
              (cceOk e = true → c.1 = 10 → s1.chainOwner p'.queue (swgRegs e.aux) = false → State.runEntry s s' p' b = s1.chanFail pid 9 p'.pc 0) ∧
              (cceOk e = true → c.1 = 11 → s1.chainOwner p'.queue (cipRegs e.aux) = false → State.runEntry s s' p' b = s1.chanFail pid 9 p'.pc 0) ∧
              (cceOk e = true → c.1 ∈ [1, 3, 6, 7] ∨ (c.1 = 2 ∧ p'.unit = none) → s1.deviceFor p'.queue e.dev = false →
                State.runEntry s s' p' b = (s1.setProg (State.dataBegun q e)).chanFail pid 9 p'.pc 0)))))) ∧
    (∀ pid p, s.progOf pid = some p →
      (∀ a u next, p.wait = .word a u next → (s.tb < next → exec (.waitPoll pid) s = .next s) ∧
        (next ≤ s.tb → exec (.waitPoll pid) s = .next (s.readWord p a (.word a u (s.tb + 1000)))) ∧
        (s.tb < u → exec (.waitTimeout pid) s = .next s) ∧
        (u ≤ s.tb → exec (.waitTimeout pid) s = .next ((s.setProg { p with wait := .none }).chanFail pid 0x0C p.lastEntry 0))) ∧
      (∀ u, p.wait = .time u → (s.tb < u → exec (.waitTimeout pid) s = .next s) ∧
        (u ≤ s.tb → exec (.waitTimeout pid) s = .next ((s.setProg { p with wait := .none }).chanSettle pid))) ∧
      (p.wait = .none → exec (.waitPoll pid) s = .next s ∧ exec (.waitTimeout pid) s = .next s ∧ exec (.chainedRequestComplete pid) s = .next s) ∧
      (∀ k q a, p.wait = .chain k q a → (s.chainEnded k q a = false → exec (.chainedRequestComplete pid) s = .next s) ∧
        (s.chainEnded k q a = true → ∃ t : State, exec (.chainedRequestComplete pid) s = .next t ∧
          ∀ p', t.progOf pid = some p' → p'.wait = .none))) ∧
    (∀ (e : Fin 64) (line : Nat) (w : Fin 1025), exec (.descriptorFillComplete e line w) s = .next ((s.fillReturns e.val line w.val).chanSettleAll)) ∧
    (∀ (v : BitVec 32), v.getLsbD 31 = true → v.toNat % 2 ^ 20 ≠ 0 → ∃ t : State, exec (.chnInval v) s = .next t ∧ t.mem = s.mem ∧
      let lo := s.fld CHN_INVAL_BASE CHN_INVAL_BASE.ADDR
      let hi := lo + v.toNat % 2 ^ 20 - 1
      ∀ e : Fin 64, (v.getLsbD 30 = true ∨ e.val = v.toNat / 2 ^ 24 % 64 →
          (∀ i, i < 48 → (State.cacheEntry (t.engine e.val) i).valid = true →
            ¬ (lo ≤ (State.cacheEntry (t.engine e.val) i).line ∧ (State.cacheEntry (t.engine e.val) i).line ≤ hi)) ∧
          State.lockedCount (t.engine e.val) = State.lockedCount (s.engine e.val)) ∧
        (v.getLsbD 30 = false → e.val ≠ v.toNat / 2 ^ 24 % 64 → t.engine e.val = s.engine e.val)) ∧
    (∀ (e : Fin 64) (i : Fin 56), (48 ≤ i.val → exec (.descriptorCacheCheckFail e i) s =
        .next (s.setEngine e.val { s.engine e.val with prefetch := (s.engine e.val).prefetch.eraseIdx (i.val - 48) })) ∧
      (i.val < 48 → (State.cacheEntry (s.engine e.val) i.val).disabled = true → exec (.descriptorCacheCheckFail e i) s = .next s) ∧
      (i.val < 48 → (State.cacheEntry (s.engine e.val) i.val).disabled = false →
        let fails := s.tb :: (State.cacheEntry (s.engine e.val) i.val).fails.filter (fun t => decide (s.tb < t + 86400000000000))
        let c := State.cacheEntry (s.engine e.val) i.val
        ∃ t : State, exec (.descriptorCacheCheckFail e i) s = .next t ∧ t.bit CHN_EVENT CHN_EVENT.ENTRY_ERROR = true ∧
          (fails.length < 3 → let c' := State.cacheEntry (t.engine e.val) i.val
            t.chn.progs = s.chn.progs ∧ c'.fails = fails ∧ c'.disabled = false ∧ c'.locked = c.locked ∧
            (c.valid = false → c'.valid = false ∧ t.mem = s.mem) ∧
            (c.valid = true →
              (∀ d, (s.ioRead (State.worldOfNo c.world) (64 * c.line) 64).1 = some (d, false) →
                c'.valid = true ∧ c'.line = c.line ∧ c'.world = c.world ∧ c'.data = d) ∧
              ((∀ d, (s.ioRead (State.worldOfNo c.world) (64 * c.line) 64).1 ≠ some (d, false)) → c'.valid = false))) ∧
          (3 ≤ fails.length → t.bit CHN_EVENT CHN_EVENT.ENTRY_DISABLED = true ∧
            (State.cacheEntry (t.engine e.val) i.val).disabled = true ∧ (State.cacheEntry (t.engine e.val) i.val).locked = false)))

/-! ### The Surex protocol -/

/-- R315, R320, R321, R322, R323, R324, R327, R328, R329, R330: frames that arrive, sequences and credit, timers, and
the links of the ports.
The model's own choices behind it: log 89, 141, 142. -/
def Obligations.SurexAssociations : Prop :=
  ∀ (s : State), s.live = true →
    (∀ (p : Fin 16) (b : Bytes) (c : List Nat × Instr),
      c ∈ [([10], Instr.probeFrame p b), ([2, 1, 7, 8, 9], .dataFrame p b), ([3], .statusFrame p b), ([4], .ackFrame p b),
        ([5], .durableAck p b), ([6], .nackFrame p b)] →
      let s0 := s
      (s.portUp p.val = false → exec c.2 s = .next s) ∧
      ∀ s : State, s0.portUp p.val = true → s = s0.countFec p.val →
        (∀ a, a ≠ SRX_PORT_STATUS p.val → s.reg a = s0.reg a) ∧ s.mem = s0.mem ∧ s.srx = s0.srx ∧ s.chn = s0.chn ∧ s.disp = s0.disp ∧
        (s.readFrame p.val b = .ignore → exec c.2 s0 = .next s) ∧
        (s.readFrame p.val b = .macControl → exec c.2 s0 = .next (s.bumpSat (SRX_PORT_STATUS p.val) SRX_PORT_STATUS.MAC_CONTROL)) ∧
        (s.readFrame p.val b = .malformed → ∃ t : State, exec c.2 s0 = .next t ∧ t.reg SRX_MALFORMED = s.reg SRX_MALFORMED + 1 ∧
          t.srx = s.srx ∧ t.chn = s.chn ∧ t.disp = s.disp ∧ t.mem = s.mem ∧ t.out = s.out) ∧
        (∀ f, s.readFrame p.val b = .frame f →
          (f.type ∉ c.1 → exec c.2 s0 = .next s) ∧
          (f.type ∈ c.1 → s.openFrame f = none → ∃ t : State, exec c.2 s0 = .next t ∧ t.reg SRX_AUTH_FAIL = s.reg SRX_AUTH_FAIL + 1 ∧
            t.bit SRX_EVENT SRX_EVENT.AUTH_FAIL = true ∧ t.srx = s.srx ∧ t.chn = s.chn ∧ t.disp = s.disp ∧ t.mem = s.mem ∧ t.out = s.out) ∧
          (∀ pay, f.type ∈ c.1 → s.openFrame f = some pay →
            let body := pay.take (pay.length - 4)
            let crcOk := leAt pay (pay.length - 4) 4 = Crypto.crc32c (f.header ++ body)
            let x := s.assoc f.assoc
            (¬ crcOk → ∃ t : State, exec c.2 s0 = .next t ∧ t.bit SRX_EVENT SRX_EVENT.CRC_FAIL = true ∧ t.srx = s.srx ∧
              t.chn = s.chn ∧ t.disp = s.disp ∧ t.mem = s.mem) ∧
            (crcOk → f.type ≠ 10 → f.type ≠ 4 → f.seq ≠ x.rxNext → ∃ t : State, exec c.2 s0 = .next t ∧
              (t.assoc f.assoc).rxNext = x.rxNext ∧ (t.assoc f.assoc).txNext = x.txNext ∧ t.chn = s.chn ∧ t.disp = s.disp ∧ t.mem = s.mem) ∧
            (crcOk → f.type = 10 → leAt body 0 1 ≠ 2 → leAt body 0 1 ≠ 4 → exec c.2 s0 = .next s) ∧
            (crcOk → f.type = 10 → leAt body 0 1 = 2 → x.estAt.isSome = true → leAt body 4 4 = x.estEpoch →
              64 ≤ leAt body 8 4 → leAt body 8 4 ≤ 2 ^ 20 → exec c.2 s0 = .next (s.assocUp f.assoc (leAt body 8 4) (slice body 16 32))) ∧
            (crcOk → f.type = 4 → ∃ t : State, exec c.2 s0 = .next ((t.takeCredit f.assoc f.credit).renewEpoch f.assoc) ∧
              (∀ y ∈ (t.assoc f.assoc).unacked, f.seq < y.seq) ∧ (t.assoc f.assoc).txCredit = x.txCredit ∧ t.chn = s.chn) ∧
            (crcOk → f.type ≠ 10 → f.type ≠ 4 → f.seq = x.rxNext → ∃ t u : State,
              exec c.2 s0 = .next ((u.sendAck f.assoc).renewEpoch f.assoc) ∧ (t.assoc f.assoc).rxNext = x.rxNext + 1 ∧
              t.chn.steps = s.chn.steps ∧ t.mem = s.mem ∧
              u = (match f.type with
                | 2 => t.dataFrame f body
                | 3 => t.statusFrame f body
                | 5 => t.durableFrame f
                | 6 => t.nackFrame f body
                | _ => t))))) ∧
    (∀ (a : Nat) (credit : Nat), (s.assoc a).txCredit ≤ ((s.takeCredit a credit).assoc a).txCredit ∧
      (s.sendAck a).mem = s.mem ∧ (s.assoc a).rxCredit ≤ ((s.sendAck a).assoc a).rxCredit) ∧
    (∀ (a : Fin 4096), let x := s.assoc a.val
      let st := s.assocState a.val
      (due s x.estAt = false → exec (.establishTimer a) s = .next s) ∧
      (due s x.estAt = true → exec (.establishTimer a) s = .next (s.startEstablish a.val)) ∧
      (st ≠ 2 ∨ due s x.kaAt = false → exec (.keepaliveTimer a) s = .next s) ∧
      (st = 2 → due s x.kaAt = true →
        (s.fld SRX_CFG SRX_CFG.TRIES ≤ x.keepalives → exec (.keepaliveTimer a) s = .next ((s.assocDown a.val).afterDown)) ∧
        (x.keepalives < s.fld SRX_CFG SRX_CFG.TRIES → ∃ t : State, exec (.keepaliveTimer a) s = .next t ∧
          (t.assoc a.val).keepalives = x.keepalives + 1 ∧ t.assocState a.val = 2 ∧ t.chn = s.chn ∧ t.mem = s.mem)) ∧
      (x.unacked = [] ∨ st ≠ 2 → exec (.retransmitTimer a) s = .next s) ∧
      (∀ y ys, x.unacked = y :: ys → st = 2 →
        (s.tb < y.sentAt + s.retx → exec (.retransmitTimer a) s = .next s) ∧
        (y.sentAt + s.retx ≤ s.tb → s.fld SRX_CFG SRX_CFG.TRIES ≤ y.tries →
          exec (.retransmitTimer a) s = .next ((s.assocDown a.val).afterDown)) ∧
        (y.sentAt + s.retx ≤ s.tb → y.tries < s.fld SRX_CFG SRX_CFG.TRIES → ∃ t : State, exec (.retransmitTimer a) s = .next t ∧
          t.out = ((x.unacked.map (fun (f : TxFrame) => Output.frame (s.assocPort a.val) f.bytes)).reverse) ++ s.out ∧
          (t.assoc a.val).unacked.map (·.bytes) = x.unacked.map (·.bytes) ∧ (t.assoc a.val).unacked.map (·.seq) = x.unacked.map (·.seq) ∧
          ((t.assoc a.val).unacked.map (·.tries)).head? = some (y.tries + 1) ∧ t.chn = s.chn ∧ t.mem = s.mem)) ∧
      (∀ v : W64, let was := s.bit (SRX_ASSOC_CFG a.val) SRX_ASSOC_CFG.EN
        let en := getFld v SRX_ASSOC_CFG.EN
        ∃ u : State, (u.fld (SRX_ASSOC_CFG a.val) SRX_ASSOC_CFG.PEER_MAC = getFld v SRX_ASSOC_CFG.PEER_MAC) ∧
          (u.fld (SRX_ASSOC_CFG a.val) SRX_ASSOC_CFG.PORT = getFld v SRX_ASSOC_CFG.PORT) ∧ u.chn = s.chn ∧ u.srx = s.srx ∧
          (was = false → en = 1 → exec (.assocEnable a v) s = .next (u.startEstablish a.val)) ∧
          (was = true → en = 0 → exec (.assocEnable a v) s =
            .next ((((u.assocDown a.val).setFld (SRX_ASSOC_CFG a.val) SRX_ASSOC_CFG.STATE 0).showPaths a.val).afterDown)) ∧
          (was = (en == 1) → exec (.assocEnable a v) s = .next u))) ∧
    (∀ (p : Fin 16), (∃ u : State, exec (.portLinkDown p) s = .next u.afterDown ∧ u.portUp p.val = false ∧
        (s.portUp p.val = true → u.bit SRX_EVENT SRX_EVENT.PORT_DOWN = true) ∧ u.mem = s.mem) ∧
      (s.pins.seated = false ∨ s.fld (SRX_PORT_STATUS p.val) SRX_PORT_STATUS.MODE = 0 → exec (.portLinkUp p) s = .next s) ∧
      (s.pins.seated = true → s.fld (SRX_PORT_STATUS p.val) SRX_PORT_STATUS.MODE ≠ 0 →
        s.fld CHN_STATUS CHN_STATUS.QUARTER_ON >>> (p.val / 4) % 2 = 1 →
        ∃ t : State, exec (.portLinkUp p) s = .next t ∧ t.portUp p.val = true ∧ t.bit (SRX_PORT_STATUS p.val) SRX_PORT_STATUS.LINK_UP = true ∧
          t.chn.steps = s.chn.steps ∧ t.mem = s.mem)) ∧
    (∀ (xid : W64) (d : Fin 1024),
      ((∀ t ∈ s.chn.steps, t.xid = xid.toNat → t.dev = d.val → due s t.reissueAt = false) →
        exec (.commitReissueTimer xid d) s = .next s) ∧
      (∀ t, s.chn.steps.find? (fun t => t.xid == xid.toNat && t.dev == d.val && due s t.reissueAt) = some t →
        ∃ u : State, u.srx = s.srx ∧ u.mem = s.mem ∧ { t with reissueAt := some (s.tb + s.retx) } ∈ u.chn.steps ∧
          exec (.commitReissueTimer xid d) s = .next (if u.stepWithheld t then u else u.sendStep { t with reissueAt := some (s.tb + s.retx) })) ∧
      (∀ (k : Nat) (t : XStep), t.owner = .unit k → (s.stepWithheld t = true ↔ t.kind = .commit ∧
        ((s.ring (keyRing k)).fenced = true ∨ (s.ring (keyRing k)).adoptedAway = true ∨ (s.ring (keyRing k)).broken = true))))

/-! ### Crucible, sealed partitions and metering -/

/-- R340, R341, R342, R343, R344, R345, R347, R351, R352, R356, R357: who may write a mailbox, when a request begins,
and what each op does with it.
The model's own choices behind it: log 77, 78, 139, 145. -/
def Obligations.MailboxRequests : Prop :=
  ∀ (s : State), s.live = true →
    (∀ (m : Fin 1040) (w : Writer) (b : Bytes), if w = .host ∧ s.hep.pfFlr.isSome = true then exec (.mailboxGo m w b) s = .next s else
      (State.mailOwner m.val w = false → exec (.mailboxGo m w b) s = .next (s.setBit CRU_EVENT CRU_EVENT.MB_DENIED)) ∧
      (State.mailOwner m.val w = true → s.bit (CRU_MB_CTL m.val) CRU_MB_CTL.BUSY = true → exec (.mailboxGo m w b) s = .next s) ∧
      (State.mailOwner m.val w = true → s.bit (CRU_MB_CTL m.val) CRU_MB_CTL.BUSY = false → ∃ u : State,
        u = s.setBit (CRU_MB_CTL m.val) CRU_MB_CTL.BUSY ∧ u.bit (CRU_MB_CTL m.val) CRU_MB_CTL.BUSY = true ∧
        (s.fld CRU_STATUS CRU_STATUS.STATE = 1 → exec (.mailboxGo m w b) s = .next (u.mailFetch m.val b)) ∧
        (s.fld CRU_STATUS CRU_STATUS.STATE ≠ 1 → exec (.mailboxGo m w b) s =
          .next (u.setMail m.val (some { req := padTo 64 b })))) ∧
      (w = .other → State.mailOwner m.val w = false) ∧ (3 ≤ m.val → m.val < 16 → State.mailOwner m.val w = false)) ∧
    (∀ (m : Nat) (r : Bytes), (s.mailCheck m r) =
      (if rqValid r = false then (s.setMail m (some { req := r })).mailEnd m 3
      else if rqPermitted m r = false then (s.setMail m (some { req := r })).mailEnd m 1
      else s.setMail m (some { req := r }))) ∧
    (∀ (m st out v : Nat) (q : MailReq), m < 1040 → s.mail m = some q →
      let t := s.mailEnd m st out v
      t.mail m = none ∧ t.bit (CRU_MB_CTL m) CRU_MB_CTL.BUSY = false ∧
      t.fld (CRU_MB_CTL m) CRU_MB_CTL.LAST_STATUS = st % 65536) ∧
    (∀ (m : Fin 1040) (h : Bytes), ∀ c ∈ [(0x01, Instr.getChain m h), (0x02, .register m h), (0x03, .seal m h), (0x04, .report m h),
        (0x05, .keyLoad m h), (0x06, .keyClear m h), (0x07, .resume m h), (0x08, .stop m h), (0x09, .release m h),
        (0x0A, .standby m h), (0x0B, .secretSet m h), (0x0C, .meterGet m h)],
      (s.mail m.val = none → exec c.2 s = .next s) ∧
      (∀ q, s.mail m.val = some q → (s.fld CRU_STATUS CRU_STATUS.STATE ≠ 1 ∨ q.begun = true ∨ rqOp q.req ≠ c.1) →
        exec c.2 s = .next s)) ∧
    (∀ (m : Fin 1040) (h : Bytes) (q : MailReq), s.mail m.val = some q → s.fld CRU_STATUS CRU_STATUS.STATE = 1 → q.begun = false →
      rqValid q.req = true →
      let r := q.req
      let m' := m.val
      let p := rqPart r
      let st := s.fld (CRU_PART p) CRU_PART.STATE
      let arg := s.mailRead m' (rqArg r) (rqArgLen r) h
      (rqOp r = 0x01 →
        (rqResultLen r < (Config.hallmarkChain (rqA r % 2)).length →
          exec (.getChain m h) s = .next (s.mailEnd m' 9 0 (Config.hallmarkChain (rqA r % 2)).length)) ∧
        ((Config.hallmarkChain (rqA r % 2)).length ≤ rqResultLen r →
          ∃ w, w = s.mailWrite m' (rqResult r) (Config.hallmarkChain (rqA r % 2)) ∧
            exec (.getChain m h) s = .next (if w.1 = true then w.2.mailEnd m' 0 (Config.hallmarkChain (rqA r % 2)).length
              else w.2.mailEnd m' 5))) ∧
      (rqOp r = 0x02 →
        (st ≠ 0 → exec (.register m h) s = .next (s.mailEnd m' 2)) ∧
        (st = 0 → rqArgLen r ≠ 320 → exec (.register m h) s = .next (s.mailEnd m' 3)) ∧
        (st = 0 → rqArgLen r = 320 → arg.1 = none → exec (.register m h) s = .next (arg.2.mailEnd m' 5)) ∧
        (∀ b, st = 0 → rqArgLen r = 320 → arg.1 = some b → regBlockOk p b = false →
          exec (.register m h) s = .next (arg.2.mailEnd m' 3)) ∧
        (∀ b, st = 0 → rqArgLen r = 320 → arg.1 = some b → regBlockOk p b = true → ∃ u : State,
          exec (.register m h) s = .next (u.mailEnd m' 0) ∧ (u.partRec p).block = b ∧ (u.partRec p).regions = [] ∧
          u.fld (CRU_PART p) CRU_PART.STATE = 1 ∧ u.mem = arg.2.mem ∧ u.disp = arg.2.disp)) ∧
      (rqOp r = 0x03 →
        (st ≠ 1 → exec (.seal m h) s = .next (s.mailEnd m' 2)) ∧
        (st = 1 → s.runsFit (s.partRec p).block = false → exec (.seal m h) s = .next (s.mailEnd m' 4)) ∧
        (st = 1 → s.runsFit (s.partRec p).block = true → State.imageMapped (s.partRec p).block = false →
          exec (.seal m h) s = .next (s.mailEnd m' 5)) ∧
        (st = 1 → s.runsFit (s.partRec p).block = true → State.imageMapped (s.partRec p).block = true → ∃ t : State,
          exec (.seal m h) s = .next t ∧ t.mem = s.mem ∧ t.disp = s.disp ∧ if s.asymCheck.1 = false then t = s.asymCheck.2 else
          t.fld (CRU_PART p) CRU_PART.STATE = 2 ∧
          (t.partRec p).block = (s.partRec p).block ∧ (t.partRec p).mailbox = some m' ∧
          (t.partRec p).regions.length = (blockRuns (s.partRec p).block).length)) ∧
      (rqOp r = 0x04 →
        (st < 3 → exec (.report m h) s = .next (s.mailEnd m' 2)) ∧
        (3 ≤ st → rqArgLen r ≠ 32 → exec (.report m h) s = .next (s.mailEnd m' 3)) ∧
        (∀ nonce, 3 ≤ st → rqArgLen r = 32 → arg.1 = some nonce → ∃ sigs : Bytes, sigs.length = 96 + 4627 ∧
          ∃ u : State, u = { arg.2 with rand := arg.2.rand + 2 } ∧ exec (.report m h) s =
            .next (if arg.2.asymCheck.1 = false then arg.2.asymCheck.2 else u.mailResult m' (arg.2.reportBody p nonce ++ sigs ++ padTo 1568 (Config.kemPublic (arg.2.partRec p).kem))))) ∧
      (rqOp r = 0x05 → exec (.keyLoad m h) s = .next (s.opKeyLoad m' r h) ∧
        (rqArgLen r ≠ (if 16 ≤ m' then 1668 else 72) → s.opKeyLoad m' r h = s.mailEnd m' 3)) ∧
      (rqOp r = 0x06 → let slot := rqA r % 8192
        let kind := s.fld (CIP_SLOT slot) CIP_SLOT.KIND
        let mine := if 16 ≤ m' then s.fld (CIP_SLOT slot) CIP_SLOT.OWNER_KIND = 1 ∧ s.fld (CIP_SLOT slot) CIP_SLOT.OWNER = m' - 16
          else s.fld (CIP_SLOT slot) CIP_SLOT.OWNER_KIND = 2
        (kind = 0 → exec (.keyClear m h) s = .next (s.mailEnd m' 3)) ∧
        (kind ≠ 0 → ¬ mine → exec (.keyClear m h) s = .next (s.mailEnd m' 8)) ∧
        (kind ≠ 0 → mine → exec (.keyClear m h) s = .next (((s.setFld CKL_SLOT CKL_SLOT.SLOT slot).cklCommit 2).mailEnd m' 0))) ∧
      (rqOp r = 0x07 →
        (st = 3 → exec (.resume m h) s = .next ((s.setPartState p 4).mailEnd m' 0)) ∧
        (st ≠ 3 → exec (.resume m h) s = .next (s.mailEnd m' 2))) ∧
      (rqOp r = 0x08 →
        (st = 3 ∨ st = 4 → exec (.stop m h) s = .next ((s.setPartState p 5).mailEnd m' 0)) ∧
        (st ≠ 3 → st ≠ 4 → exec (.stop m h) s = .next (s.mailEnd m' 2))) ∧
      (rqOp r = 0x09 →
        (st = 1 → exec (.release m h) s = .next ((s.dropRecord p).mailEnd m' 0)) ∧
        (st = 5 ∨ st = 7 → ∃ u : State, u = (s.setPartState p 6).releaseHolds p ∧ exec (.release m h) s =
          .next ((u.setPartRec p { u.partRec p with step := 4, mailbox := some m' }).mailBegun m')) ∧
        (st ≠ 1 → st ≠ 5 → st ≠ 7 → exec (.release m h) s = .next (s.mailEnd m' 2))) ∧
      (rqOp r = 0x0A →
        (st ≠ 0 → exec (.standby m h) s = .next (s.mailEnd m' 2)) ∧
        (∀ b, st = 0 → rqArgLen r = 320 → arg.1 = some b → regBlockOk p b = true → arg.2.runsFit b = true →
          (s.partner (rqA r % 8)).present = true → (s.partner (rqA r % 8)).clash = false →
          ∃ u : State, exec (.standby m h) s = .next (u.mailBegun m') ∧
            u.out = (if arg.2.seamUp then Output.complex (rqA r % 8) (if (s.partner (rqA r % 8)).session then
              .standby (Fin.ofNat 1024 p) else .hello (Config.hallmarkProof (rqA r % 8)) false) :: arg.2.out else arg.2.out) ∧ (u.partRec p).block = b ∧
            (u.partRec p).origin = rqA r % 8 ∧ u.fld (CRU_PART p) CRU_PART.STATE = arg.2.fld (CRU_PART p) CRU_PART.STATE)) ∧
      (rqOp r = 0x0B →
        (rqArgLen r ≠ 72 → exec (.secretSet m h) s = .next (s.mailEnd m' 3)) ∧
        (∀ b, rqArgLen r = 72 → arg.1 = some b → leAt b 0 1 = 2 → blobSlot b = 0 → ∃ u : State,
          exec (.secretSet m h) s = .next ((u.startEstablish (rqA r % 4096)).mailEnd m' 0) ∧
          (u.assoc (rqA r % 4096)).secret = some (slice b 8 32) ∧ u.bit (SRX_ASSOC_STATUS (rqA r % 4096)) SRX_ASSOC_STATUS.SECRET = true)) ∧
      (rqOp r = 0x0C → let i := rqA r % 4096
        (16 ≤ m' → i ≠ m' - 16 → exec (.meterGet m h) s = .next (s.mailEnd m' 1)) ∧
        (m' < 16 ∨ i = m' - 16 → s.cru.batches[rqA r / 2 ^ 16 % 64]? = none → exec (.meterGet m h) s = .next (s.mailEnd m' 3)) ∧
        (∀ b, (m' < 16 ∨ i = m' - 16) → s.cru.batches[rqA r / 2 ^ 16 % 64]? = some b → b.entries.get [] i ≠ [] →
          exec (.meterGet m h) s = .next (s.mailResult m' (b.header ++ b.signatures ++ b.entries.get [] i ++ batchProof b.entries i)))))

/-- R339, R345, R347, R350, R351, R352, R358, R359, R364, R365, R367, R368: the moves of partition records, service
runs, Crucible's restart, the meter's boundary and its batches.
The model's own choices behind it: log 32, 66, 79, 80, 139, 145. -/
def Obligations.SealingRestartAndMeters : Prop :=
  ∀ (s : State), s.live = true →
    (∀ p : Fin 1024, let st := s.fld (CRU_PART p.val) CRU_PART.STATE
      (st ≠ 2 ∨ s.fld CRU_STATUS CRU_STATUS.STATE ≠ 1 → exec (.sealingComplete p) s = .next s) ∧
      (st = 2 → s.fld CRU_STATUS CRU_STATUS.STATE = 1 → ∃ u : State,
        u.fld (CRU_PART p.val) CRU_PART.STATE = 3 ∧ (u.partRec p.val).reason = 1 ∧ (u.partRec p.val).sealTime = s.tb ∧
        (u.partRec p.val).block = (s.partRec p.val).block ∧ (u.partRec p.val).mailbox = none ∧ u.disp = s.disp ∧
        exec (.sealingComplete p) s = .next (match (s.partRec p.val).mailbox with
          | some m => u.mailEnd m 0
          | none => u)) ∧
      (st ≠ 6 ∨ s.fld CRU_STATUS CRU_STATUS.STATE ≠ 1 ∨ s.isReady = false → exec (.releaseCleaningComplete p) s = .next s) ∧
      (st = 6 → s.fld CRU_STATUS CRU_STATUS.STATE = 1 → s.isReady = true → ∃ u : State,
        u.fld (CRU_PART p.val) CRU_PART.STATE = 0 ∧ u.partRec p.val = {} ∧
        (∀ n ∈ (s.partRec p.val).regions, n < 64 → u.bit (HA_REGION_BASE n) HA_REGION_BASE.VALID = false) ∧
        (∀ r ∈ blockRuns (s.partRec p.val).block, ∀ l, firstLine r ≤ l → l ≤ lastLine r → u.lineKey l = 0 ∧ ∀ i, i < 64 → u.mem.byte (64 * l + i) = 0) ∧
        exec (.releaseCleaningComplete p) s = .next (match (s.partRec p.val).mailbox with
          | some m => u.mailEnd m 0
          | none => u))) ∧
    (∀ (p : Fin 1024) (e : Fin 320), let x := s.partRec p.val
      (s.isReady = false ∨ s.fld (CRU_PART p.val) CRU_PART.STATE ≠ 3 ∨ x.serviceOn.isSome = true ∨ s.tb < x.serviceAt ∨
        s.execIdleFor p.val e.val = false → exec (.serviceRunStart p e) s = .next s) ∧
      (s.isReady = true → s.fld (CRU_PART p.val) CRU_PART.STATE = 3 → x.serviceOn = none → x.serviceAt ≤ s.tb →
        s.execIdleFor p.val e.val = true → ∃ t : State, exec (.serviceRunStart p e) s = .next t ∧
          t.run e.val = .service p.val ∧ (t.partRec p.val).serviceOn = some e.val ∧ (t.proc e.val).part = some p.val ∧
          (t.proc e.val).g.get 0 1 = BitVec.ofNat 64 x.reason ∧ (t.proc e.val).g.get 0 2 = 0 ∧ (t.proc e.val).g.get 0 3 = 0 ∧
          (t.proc e.val).g.get 0 4 = 0 ∧ (t.proc e.val).g.get 0 5 = BitVec.ofNat 64 s.jnl.bootCount ∧
          getFld (t.proc e.val).psr PSR.UNIT = 0 ∧ t.mem = s.mem ∧ t.disp.units = s.disp.units)) ∧
    (∀ (k : Fin 8) (proof : Bytes) (answer : Bool), s.seamUp = true → s.fld CRU_STATUS CRU_STATUS.STATE = 1 →
      let q := s.partner k.val
      ∃ t : State, exec (.complexMessage k (.hello proof answer)) s = .next t ∧
        (t.partner k.val).session = Config.hallmarkHolds k.val proof ∧
        (Config.hallmarkHolds k.val proof = true → (answer = false → Output.complex k.val (.hello (Config.hallmarkProof k.val) true) ∈ t.out) ∧
          (∀ e ∈ s.waitingStandbys, e.2.origin = k.val → Output.complex k.val (.standby (Fin.ofNat 1024 e.1)) ∈ t.out) ∧
          t.regs = s.regs ∧ t.mem = s.mem ∧ t.cru = s.cru) ∧
        (Config.hallmarkHolds k.val proof = false → (∀ e ∈ s.waitingStandbys, e.2.origin ≠ k.val) →
          t = s.setPartner k.val { q with session := false })) ∧
    (∀ (k : Fin 8) (p : Fin 1024), let st := s.fld (CRU_PART p.val) CRU_PART.STATE
      let x := s.partRec p.val
      (∀ msg, s.seamUp = false ∨ s.fld CRU_STATUS CRU_STATUS.STATE ≠ 1 → exec (.complexMessage k msg) s = .next s) ∧
      ((s.partner k.val).session = false → exec (.complexMessage k (.standby p)) s = .next s ∧
        exec (.complexMessage k (.refused p)) s = .next s ∧
        ∀ (me xts : Bytes) (kem t0 : Nat), exec (.complexMessage k (.accepted p me xts kem t0)) s = .next s) ∧
      (s.seamUp = true → s.fld CRU_STATUS CRU_STATUS.STATE = 1 →
      (exec (.complexMessage k (.check p)) s = .next (s.emit (.complex k.val (.checked p (st == 7 && x.origin == k.val))))) ∧
      (∀ holds : Bool, ∃ t : State, exec (.complexMessage k (.checked p holds)) s = .next t ∧
        (p.val ∈ (t.partner k.val).standby ↔ holds = true) ∧ t.regs = s.regs ∧ t.mem = s.mem)) ∧
      (s.seamUp = true → s.fld CRU_STATUS CRU_STATUS.STATE = 1 → (s.partner k.val).session = true →
      (st = 3 ∨ st = 4 → ∃ t : State, exec (.complexMessage k (.standby p)) s = .next t ∧
        t.out = Output.complex k.val (.accepted p x.measurement x.xts x.kem x.sealTime) :: s.out ∧
        p.val ∈ (t.partner k.val).standby ∧ t.regs = s.regs ∧ t.mem = s.mem) ∧
      (st ≠ 3 → st ≠ 4 → exec (.complexMessage k (.standby p)) s = .next (s.emit (.complex k.val (.refused p)))) ∧
      (∀ mm, st = 0 → x.origin = k.val → x.mailbox = some mm → ∃ u : State, u.partRec p.val = {} ∧ u.regs = s.regs ∧
        exec (.complexMessage k (.refused p)) s = .next (u.mailEnd mm 0x0B)) ∧
      (∀ (me xts : Bytes) (kem t0 : Nat),
        (st ≠ 0 ∨ x.block = [] ∨ x.origin ≠ k.val → exec (.complexMessage k (.accepted p me xts kem t0)) s = .next s) ∧
        (st = 0 → x.block ≠ [] → x.origin = k.val → s.runsFit x.block = true → ∃ u : State,
          u.fld (CRU_PART p.val) CRU_PART.STATE = 7 ∧ (u.partRec p.val).measurement = me ∧ (u.partRec p.val).xts = xts ∧
          exec (.complexMessage k (.accepted p me xts kem t0)) s = .next (match x.mailbox with
            | some m => u.mailEnd m 0
            | none => u))))) ∧
    (let st := s.fld CRU_STATUS CRU_STATUS.STATE;
      (st ≤ 1 → exec .cruWdog s = .next { s with cru := { s.cru with wdogAt := some (s.tb + 50000000) } }) ∧
      (1 < st → exec .cruWdog s = .next s) ∧
      (due s s.cru.wdogAt = false → exec (.crucibleWatchdogExpiry false) s = .next s) ∧
      (st ≤ 1 → due s s.cru.wdogAt = true → ∃ (u : State) (cls : Nat),
        exec (.crucibleWatchdogExpiry false) s = .next (u.logEvent cls blockCru 1 0) ∧ u.bit CRU_EVENT CRU_EVENT.WATCHDOG = true ∧
        u.hep.spdmSessions = [] ∧ u.cru.mail = s.cru.mail ∧ u.cru.meters = s.cru.meters ∧ u.cip = s.cip ∧ u.mm = s.mm ∧ u.mem = s.mem ∧
        (cls = 0 ∨ cls = 3) ∧ u.fld CRU_STATUS CRU_STATUS.STATE = (if cls = 3 then 3 else 2) ∧
        (cls = 3 ↔ 2 ≤ (s.cru.restarts.filter (fun t => decide (s.tb < t + 600000000000))).length)) ∧
      (st ≤ 1 → ∃ (u : State) (cls : Nat), exec (.crucibleWatchdogExpiry true) s = .next (u.logEvent cls blockCru causeNone 0) ∧
        u.fld CRU_STATUS CRU_STATUS.STATE = (if cls = 3 then 3 else 2) ∧ u.mem = s.mem ∧ u.cip = s.cip) ∧
      (∀ ok, st ≠ 2 → exec (.crucibleRestartComplete ok) s = .next s) ∧
      (st = 2 → exec (.crucibleRestartComplete false) s = .next (s.setFld CRU_STATUS CRU_STATUS.STATE 3)) ∧
      (st = 2 → ∃ (u : State) (w : PowerState), u.fld CRU_STATUS CRU_STATUS.STATE = 1 ∧ u.bit CRU_EVENT CRU_EVENT.RESTARTED = true ∧
        u.reg CRU_RESTARTS = s.reg CRU_RESTARTS + 1 ∧ u.cru = { s.cru with restartCount := s.cru.restartCount + 1 } ∧ u.mem = s.mem ∧
        exec (.crucibleRestartComplete true) s = .next { u.mailServe with pwr := w })) ∧
    (∀ (i : Option (Fin 4)) (op : SpdmOp) (t : State), identityHalted t = true → i ≠ none ∨ State.spdmSize op ≤ 65536 →
      exec (.spdmRequest i op) t = .next (t.spdmReply i (State.spdmError 5))) ∧
    (∀ (i : Option (Fin 4)) (op : SpdmOp), if i = none ∧ s.hep.pfFlr.isSome = true then exec (.spdmRequest i op) s = .next s else
      (i = none → 65536 < State.spdmSize op → exec (.spdmRequest i op) s = .next s) ∧
      (i ≠ none ∨ State.spdmSize op ≤ 65536 → s.cru.identityBad = true →
        exec (.spdmRequest i op) s = .next (s.spdmReply i (State.spdmError 5))) ∧
      (i ≠ none ∨ State.spdmSize op ≤ 65536 → s.cru.identityBad = false → s.fld CRU_STATUS CRU_STATUS.STATE = 2 → exec (.spdmRequest i op) s = .next (s.spdmReply i (State.spdmError 3))) ∧
      (s.cru.identityBad = false → s.fld CRU_STATUS CRU_STATUS.STATE = 1 → 4 ≤ s.hep.spdmSessions.length →
        exec (.spdmRequest i .openSession) s = .next (s.spdmReply i (State.spdmError 0x0A))) ∧
      (s.cru.identityBad = false → s.fld CRU_STATUS CRU_STATUS.STATE = 1 → s.hep.spdmSessions.length < 4 → ∃ (u : State) (d : Bytes),
        exec (.spdmRequest i .openSession) s = .next (u.spdmReply i d) ∧
        if s.asymCheck.1 = false then u = s.asymCheck.2 ∧ d = State.spdmError 5 else u.hep.spdmSessions.length = s.hep.spdmSessions.length + 1) ∧
      (∀ st, s.cru.identityBad = false → s.fld CRU_STATUS CRU_STATUS.STATE = 1 → s.hep.spdmSessions = [] →
        exec (.spdmRequest i (.ideStop st)) s = .next (s.spdmReply i (State.spdmError 5)))) ∧
    (let b := s.cru.banks;
      (2 ≤ b.length → exec .meterBoundary s = .next s) ∧
      (s.pwr.reported = false → s.tb < s.cru.boundaryAt → exec .meterBoundary s = .next s) ∧
      (b.length < 2 → s.pwr.reported = true ∨ s.cru.boundaryAt ≤ s.tb → ∃ (t : State) (k : MeterBank), exec .meterBoundary s = .next t ∧
        t.cru.banks = b ++ [k] ∧ k.late = (s.fld CRU_STATUS CRU_STATUS.STATE == 2) ∧ t.cru.meters = [] ∧ k.start = s.cru.opened ∧ t.cru.opened = k.stop ∧ k.final = s.pwr.reported ∧
        t.regs = s.regs ∧ t.mem = s.mem ∧
        ∀ e, let was := s.meter e
          let now := k.counts.get {} e
          now.channel = was.channel ∧ now.window = was.window ∧ now.cipher = was.cipher ∧ now.cipherReqs = was.cipherReqs ∧
          now.blocks = was.blocks ∧ now.units = was.units ∧ now.restarts = was.restarts ∧ was.pairNs ≤ now.pairNs ∧
          was.memory ≤ now.memory) ∧
      (b = [] ∨ s.fld CRU_STATUS CRU_STATUS.STATE ≠ 1 ∨ s.cru.identityBad = true → exec .meterBatchSign s = .next s) ∧
      (∀ k rest, b = k :: rest → s.fld CRU_STATUS CRU_STATUS.STATE = 1 → s.cru.identityBad = false → ∃ (t u : State) (c : MeterBatch),
        exec .meterBatchSign s = .next t ∧ if s.asymCheck.1 = false then t = s.asymCheck.2 else t = u.deliverBatch c ∧ u.cru.banks = rest ∧ u.cru.batchCount = s.cru.batchCount + 1 ∧
        u.cru.batches = (c :: s.cru.batches).take 64 ∧ u.cru.lastHeader = Crypto.sha384 c.header ∧
        u.cru.meters = s.cru.meters ∧ u.bit MTR_EVENT MTR_EVENT.BATCH = true ∧ u.fld MTR_LAST MTR_LAST.INTERVAL = (s.cru.batchCount + 1) % 2 ^ 64 ∧
        (k.late = true ∨ k.stop + 10000000 < s.tb → u.bit MTR_EVENT MTR_EVENT.LATE = true) ∧ (k.degraded = true → u.bit MTR_EVENT MTR_EVENT.DEGRADED = true))) ∧
    (∀ c : MeterBatch, let size := 2 ^ s.fld MTR_DEST_CTL MTR_DEST_CTL.SIZE
      let tail := s.fld MTR_DEST_IDX MTR_DEST_IDX.TAIL
      let full := decide ((tail + 2 ^ 32 - s.fld MTR_DEST_IDX MTR_DEST_IDX.HEAD) % 2 ^ 32 = size)
      (s.bit MTR_DEST_CTL MTR_DEST_CTL.EN = false ∨ s.fnActive 0 = false → s.deliverBatch c = s) ∧
      (s.bit MTR_DEST_CTL MTR_DEST_CTL.EN = true → s.fnActive 0 = true → full = true → s.deliverBatch c = s.setBit MTR_EVENT MTR_EVENT.DEST_FULL) ∧
      (s.bit MTR_DEST_CTL MTR_DEST_CTL.EN = true → s.fnActive 0 = true → full = false →
        let slot := s.fld MTR_DEST MTR_DEST.ADDR * 4096 + tail % size * 0x44000
        (s.deliverBatch c).fld MTR_DEST_IDX MTR_DEST_IDX.TAIL = (tail + 1) % 2 ^ 32 ∧
        (s.hep.pfOut = [] → (s.fn 0).ats = false → ∃ d : Bytes, s.deliverBatch c =
          ((((s.dmaWrite 0 slot (c.header ++ c.signatures)).dmaWrite 0 (slot + 0x2000) d).setFld
            MTR_DEST_IDX MTR_DEST_IDX.TAIL (tail + 1)).sendVector 0 (s.fld MTR_DEST_CTL MTR_DEST_CTL.VECTOR)))))

/-! ### Clocks and power -/

/-- R362, R375, R376, R377, R378, R381, R388, R391, R394, R395, R397, R399: the monitor, qualification and switches of
the clocks, the count of a follower, feeds, the latch, voltage points, and the switched domains with their drains.
The model's own choices behind it: log 73, 74, 75, 81. -/
def Obligations.ClocksAndPower : Prop :=
  ∀ (s : State), s.live = true →
    (∀ (k : Fin 2) (edges : Bool), ∃ u : State, exec (.clockMonitorTrip k edges) s = .next u.chooseAll ∧
      (u.mon k.val).qualified = false ∧ (u.mon k.val).running = edges ∧ u.bit CLK_EVENT CLK_EVENT.MON_TRIP = true ∧
      u.fld (CLK_DOMAIN (monDomain k.val)) CLK_DOMAIN.TRIPS = min (s.fld (CLK_DOMAIN (monDomain k.val)) CLK_DOMAIN.TRIPS + 1) 65535 ∧
      (u.mon k.val).qualAt = (if edges then some (s.tb + s.qualPeriod) else none) ∧
      (edges = true → (u.mon k.val).byRing = !(s.mon (1 - k.val)).qualified) ∧ u.mem = s.mem) ∧
    (s.sourceOk s.bestSource = true ∧ (s.bestSource = 2 → s.sourceOk 0 = false ∧ s.sourceOk 1 = false) ∧
      (s.tickSource ≤ s.bestSource → s.sourceOk s.tickSource = true → s.chooseTick = s) ∧
      (s.bestSource < s.tickSource ∨ s.sourceOk s.tickSource = false → s.chooseTick.switching tickDomain =
        some ⟨s.bestSource, s.tb, s.clockStopped (s.fld CLK_STATUS CLK_STATUS.SOURCE)⟩)) ∧
    (∀ k : Fin 2, let x := s.mon k.val
      (x.running = false ∨ due s x.qualAt = false → exec (.clockQualified k) s = .next s) ∧
      (x.running = true → due s x.qualAt = true → ∃ u : State, exec (.clockQualified k) s = .next u.chooseAll ∧
        (u.mon k.val).qualified = true ∧ (u.mon k.val).qualAt = none ∧ u.mem = s.mem) ∧
      (∀ lane : Fin 64, (x.running = true → exec (.clockEdgesReturn k lane) s = .next s) ∧
        (x.running = false → ∃ t : State, exec (.clockEdgesReturn k lane) s = .next t ∧ (t.mon k.val).running = true ∧
          (t.mon k.val).qualAt = some (s.tb + s.qualPeriod) ∧ (k = 0 → t.clk.lane = some lane.val) ∧ t.mem = s.mem)) ∧
      (x.qualAt = none → exec (.measurementLeavesWindow k) s = .next s) ∧
      (x.qualAt.isSome = true → ∃ t : State, exec (.measurementLeavesWindow k) s = .next t ∧
        (t.mon k.val).qualAt = some (s.tb + s.qualPeriod) ∧ (t.mon k.val).qualified = x.qualified)) ∧
    (∀ d : Fin 296,
      (s.switching d.val = none → exec (.muxSwitchComplete d) s = .next s ∧ exec (.muxForcedSwitch d) s = .next s) ∧
      (∀ m, s.switching d.val = some m →
        (s.clockStopped (s.passedClock d.val) = true → exec (.muxSwitchComplete d) s = .next s) ∧
        (s.clockStopped (s.passedClock d.val) = false → exec (.muxSwitchComplete d) s = .next (s.passClock d.val m)) ∧
        (m.stopped = false ∨ s.tb < m.begun + 160 → exec (.muxForcedSwitch d) s = .next s) ∧
        (m.stopped = true → m.begun + 160 ≤ s.tb → ∃ u : State, exec (.muxForcedSwitch d) s = .next (u.passClock d.val m) ∧
          u.bit CLK_EVENT CLK_EVENT.FORCED = true ∧ u.reg CLK_FORCED = s.reg CLK_FORCED + 1 ∧ u.clk = s.clk ∧ u.mem = s.mem)) ∧
      (∀ m : MuxSwitch, m.dest < 3 → let t := s.passClock d.val m
        t.switching d.val = none ∧ t.passedClock d.val = m.dest ∧ t.fld (CLK_DOMAIN d.val) CLK_DOMAIN.STATE = 1 ∧ t.tb = s.tb ∧ t.mem = s.mem ∧
        (d.val ≠ tickDomain → t.fld (CLK_DOMAIN d.val) CLK_DOMAIN.SRC = if m.dest = 1 then 0 else 1) ∧
        (d.val = tickDomain → t.fld CLK_STATUS CLK_STATUS.SOURCE = m.dest ∧ t.bit CLK_STATUS CLK_STATUS.COARSE = (m.dest == 2) ∧
          (s.fld CLK_STATUS CLK_STATUS.SOURCE ≠ m.dest → t.bit CLK_EVENT CLK_EVENT.SOURCE_CHANGE = true) ∧
          (m.dest = 2 → s.fld CLK_STATUS CLK_STATUS.SOURCE ≠ 2 → t.bit CLK_EVENT CLK_EVENT.COARSE_ENTER = true ∧ t.cru.degraded = true) ∧
          (m.dest ≠ 2 → s.fld CLK_STATUS CLK_STATUS.SOURCE = 2 → t.bit CLK_EVENT CLK_EVENT.COARSE_EXIT = true))) ∧
      (∀ k : Fin 3, (s.beginSwitch d.val k.val).clk.holdEnd.get none d.val = none ∧
        (s.beginSwitch d.val k.val).fld (CLK_DOMAIN d.val) CLK_DOMAIN.STATE = 2) ∧
      (due s (s.clk.holdEnd.get none d.val) = false → exec (.holdoverExpiry d) s = .next s) ∧
      (due s (s.clk.holdEnd.get none d.val) = true → ∃ u : State, exec (.holdoverExpiry d) s = .next (u.logEvent 3 blockClk 6 d.val) ∧
        u.regs = s.regs ∧ u.clk.holdEnd.get none d.val = none ∧ u.mem = s.mem)) ∧
    (s.bit CLK_STATUS CLK_STATUS.MASTER = false ∨ due s s.clk.timeAt = false → exec .timeMessageTimer s = .next s) ∧
    (s.bit CLK_STATUS CLK_STATUS.MASTER = true → due s s.clk.timeAt = true → ∃ t : State, exec .timeMessageTimer s = .next t ∧
      t.out = (if s.seamUp then ((List.range 8).map (fun p => Output.timeMessage p (leBytes 8 s.tb))).reverse else []) ++ s.out ∧
      t.clk.timeAt = some (s.tb + 1000000) ∧ t.regs = s.regs) ∧
    (∀ (p : Fin 8) (count delay : Nat), let m := count + delay
      (s.seamUp = false ∨ s.bit CLK_STATUS CLK_STATUS.MASTER = true → exec (.timeMessage p count delay) s = .next s) ∧
      (s.seamUp = true → s.bit CLK_STATUS CLK_STATUS.MASTER = false → ∃ t : State, exec (.timeMessage p count delay) s = .next t ∧ s.tb ≤ t.tb ∧
        (t.tb ≠ s.tb → t.tb = m ∧ t.bit CLK_EVENT CLK_EVENT.STEPPED = true) ∧ t.mem = s.mem ∧ t.disp.units = s.disp.units ∧
        t.cru.wdogAt = s.cru.wdogAt.map (· + (t.tb - s.tb)) ∧ t.reg CLK_OFFSET = BitVec.ofInt 64 ((s.tb : Int) - m) ∧
        (s.start.waitTime = none → s.tb ≤ m + 100 → m ≤ s.tb + 100 → t.tb = s.tb ∧ t.bit CLK_STATUS CLK_STATUS.LOCKED = true) ∧
        (s.start.waitTime = none → m + 100 < s.tb → t.tb = s.tb ∧ t.clk.steer = 100 ∧ t.bit CLK_STATUS CLK_STATUS.LOCKED = false) ∧
        (s.start.waitTime = none → s.tb + 100 < m → m ≤ s.tb + 1000 → t.tb = s.tb ∧ t.clk.steer = -100 ∧ t.bit CLK_STATUS CLK_STATUS.LOCKED = false) ∧
        (s.tb + 1000 < m → t.tb = m))) ∧
    (∀ n : Fin 2, let f := s.feed n.val
      (f.present = false → exec (.feedLoss n) s = .next s) ∧
      (f.present = true → s.bit PWR_STATUS PWR_STATUS.LINK_UP = false → ∃ t : State, exec (.feedLoss n) s = .next t ∧
        t.feed n.val = { lost := true } ∧ t.regs = s.regs ∧ t.mem = s.mem) ∧
      (f.present = true → s.bit PWR_STATUS PWR_STATUS.LINK_UP = true → ∃ u : State,
        exec (.feedLoss n) s = .next (u.logEvent 0 blockPwr (2 + n.val) 0) ∧ u.feed n.val = { lost := true } ∧
        u.bit PWR_EVENT ⟨2 + n.val, 1⟩ = true ∧ u.mem = s.mem) ∧
      (∀ (absence : Nat) (keep : Bool),
        (f.present = true → exec (.feedReturn n absence keep) s = .next s) ∧
        (f.present = false → ∃ t : State, exec (.feedReturn n absence keep) s = .next t ∧ (t.feed n.val).present = true ∧
          (t.feed n.val).qualified = f.qualified ∧ t.mem = s.mem ∧
          ((s.feed (1 - n.val)).present = true ∨ absence < 8000000000 → t.pwr.bellows.latch = s.pwr.bellows.latch) ∧
          ((s.feed (1 - n.val)).present = false → 8800000000 < absence → t.pwr.bellows.latch = false) ∧
          (s.pwr.reported = true → s.pwr.stableAt = none → t.pwr.stableAt = some (s.tb + 100000000)))) ∧
      (f.present = false ∨ f.qualified = true ∨ (∃ q, f.qualAt = some q ∧ s.tb < q) → exec (.feedQualified n) s = .next s) ∧
      (f.present = true → f.qualified = false → (∀ q, f.qualAt = some q → q ≤ s.tb) → ∃ t : State, exec (.feedQualified n) s = .next t ∧ (t.feed n.val).qualified = true ∧
        (t.pwr.bellows.stage48 = (s.pwr.bellows.stage48 || (!s.pwr.bellows.latch && !s.pwr.bellows.removed))) ∧
        (s.bit PWR_STATUS PWR_STATUS.LINK_UP = true → f.lost = true → t.bit PWR_EVENT ⟨n.val, 1⟩ = true) ∧ t.mem = s.mem)) ∧
    (((s.feed 0).present = true ∨ (s.feed 1).present = true → exec .busUndervoltage s = .next s) ∧
      ((s.feed 0).present = false → (s.feed 1).present = false → exec .busUndervoltage s = exec .powerFailLine s) ∧
      (s.pwr.reported = true → exec .powerFailLine s = .next s) ∧
      (s.pwr.reported = false → ∃ u : State,
        exec .powerFailLine s = .next ((u.abandonDoms.cleanStop).setFld PWR_STATUS PWR_STATUS.STATE 4) ∧ u.pwr.reported = true ∧
        u.bit PWR_STATUS PWR_STATUS.PFAIL = true ∧ u.bit PWR_EVENT PWR_EVENT.POWER_FAIL = true ∧ u.mem = s.mem ∧ u.disp = s.disp) ∧
      (s.pwr.bellows.stage48 = true → (s.feed 0).present = true ∨ (s.feed 1).present = true → exec .porComparatorTrip s = .next s) ∧
      (s.pwr.bellows.stage48 = false ∨ ((s.feed 0).present = false ∧ (s.feed 1).present = false) → ∃ t : State,
        exec .porComparatorTrip s = .next t ∧ t.phase = .off ∧ t.pwr.bellows.stage48 = false ∧ t.pwr.reported = false ∧
        t.jnl = s.jnl ∧ t.regs = s.regs) ∧
      (∀ x, (due s s.pwr.stableAt = false ∨ ((s.feed 0).qualified = false ∧ (s.feed 1).qualified = false) →
          exec (.busStableTimer x) s = .next s) ∧
        (due s s.pwr.stableAt = true → (s.feed 0).qualified = true ∨ (s.feed 1).qualified = true →
          exec (.busStableTimer x) s = .next (s.moduleReset 5 x))) ∧
      (∀ (a b : W64) (bus : BitVec 32), exec (.bellowsStatusFrame false a b bus) s = .next s ∧
        ∃ t : State, exec (.bellowsStatusFrame true a b bus) s = .next t ∧ t.reg (PWR_FEED 0) = a &&& 0xFFFFFFFFFFFFFF00#64 ∧
          t.reg (PWR_FEED 1) = b &&& 0xFFFFFFFFFFFFFF00#64 ∧ t.reg PWR_BUS = BitVec.ofNat 64 bus.toNat ∧
          t.bit PWR_STATUS PWR_STATUS.LINK_UP = true ∧ t.pwr.frameAt = s.tb ∧ t.mem = s.mem) ∧
      (s.bit PWR_STATUS PWR_STATUS.LINK_UP = false ∨ s.tb < s.pwr.frameAt + 50000 → exec .isolatedLinkLost s = .next s) ∧
      (s.bit PWR_STATUS PWR_STATUS.LINK_UP = true → s.pwr.frameAt + 50000 ≤ s.tb → ∃ u : State,
        exec .isolatedLinkLost s = .next (u.logEvent 1 blockPwr 7 0) ∧ u.bit PWR_STATUS PWR_STATUS.LINK_UP = false ∧
        u.bit PWR_EVENT PWR_EVENT.LINK_LOST = true ∧ u.reg (PWR_FEED 0) = s.reg (PWR_FEED 0) ∧ u.reg PWR_BUS = s.reg PWR_BUS) ∧
      (due s s.pwr.bellows.latchAt = false → exec .latch48vOffTimer s = .next s) ∧
      (due s s.pwr.bellows.latchAt = true → ∃ t : State, exec .latch48vOffTimer s = .next t ∧ t.pwr.bellows.stage48 = false ∧
        t.out = Output.stage48Off :: s.out ∧ t.regs = s.regs) ∧
      (∃ t : State, exec .pwrRemove s = .next t ∧ t.bit PWR_REMOVE PWR_REMOVE.READY = true ∧ t.fld PWR_STATUS PWR_STATUS.STATE = 5 ∧
        t.pwr.bellows.stage48 = false ∧ t.pwr.bellows.removed = true ∧ t.out.head? = some .stage48Off)) ∧
    (∀ (c : Fin 40) (n : Fin 8),
      (∃ t : State, exec (.pwrVpointWrite c n) s = .next t ∧ t.fld (PWR_VPOINT c.val) PWR_VPOINT.POINT = n.val ∧
        t.fld (PWR_VPOINT c.val) PWR_VPOINT.ACTIVE = s.fld (PWR_VPOINT c.val) PWR_VPOINT.ACTIVE ∧ t.mem = s.mem ∧
        (s.domAssay c.val = true → t.pwr.vWait.get none c.val = some n.val ∧ t.pwr.ramp = s.pwr.ramp) ∧
        (s.domAssay c.val = false → (t.pwr.ramp.get none c.val).isSome = true ∧ t.pwr.vWait.get none c.val = none)) ∧
      (s.pwr.ramp.get none c.val = none → exec (.vpointRampComplete c) s = .next s) ∧
      (∀ w, s.pwr.ramp.get none c.val = some w →
        (s.tb < w / 8 → exec (.vpointRampComplete c) s = .next s) ∧
        (w / 8 ≤ s.tb → ∃ t : State, exec (.vpointRampComplete c) s = .next t ∧ t.fld (PWR_VPOINT c.val) PWR_VPOINT.ACTIVE = w % 8 ∧
          t.fld (PWR_VPOINT c.val) PWR_VPOINT.POINT = s.fld (PWR_VPOINT c.val) PWR_VPOINT.POINT ∧ t.mem = s.mem))) ∧
    (∀ k : Fin 4, let on := fun (c : Nat) => s.bit PWR_DOMAINS ⟨c, 1⟩
      let mv := fun (c : Nat) => State.pointMv (s.fld (PWR_VPOINT c) PWR_VPOINT.ACTIVE)
      720 ≤ s.dieRail k.val ∧ (∀ c, 10 * k.val ≤ c → c < 10 * k.val + 10 → on c = true → mv c ≤ s.dieRail k.val) ∧
      (s.dieRail k.val = 720 ∨ ∃ c, 10 * k.val ≤ c ∧ c < 10 * k.val + 10 ∧ on c = true ∧ mv c = s.dieRail k.val)) ∧
    (∀ d : Fin 64, let st := s.domState d.val
      (s.bit (PWR_DOM d.val) PWR_DOM.ON = false → exec (.domainSwitchOff d) s = .next s) ∧
      (s.bit (PWR_DOM d.val) PWR_DOM.ON = true → s.domRefusal d.val ≠ 0 → ∃ t : State, exec (.domainSwitchOff d) s = .next t ∧
        t.bit (PWR_DOM d.val) PWR_DOM.ON = true ∧ t.fld (PWR_DOM d.val) PWR_DOM.ERR = s.domRefusal d.val ∧ t.domState d.val = st ∧
        t.bit PWR_EVENT PWR_EVENT.REFUSED = true ∧ t.pwr = s.pwr ∧ t.mem = s.mem) ∧
      (s.bit (PWR_DOM d.val) PWR_DOM.ON = true → s.domRefusal d.val = 0 → st = 1 → ∃ u : State, u = s.domReq d.val false ∧
        u.bit (PWR_DOM d.val) PWR_DOM.ON = false ∧
        (u.domAssay d.val = true ∨ (u.domHeld d.val = true ∧ 16 ≤ u.drains) → ∃ t : State, exec (.domainSwitchOff d) s = .next t ∧
          (t.dom d.val).waits = true ∧ t.regs = u.regs) ∧
        (u.domAssay d.val = false → u.domHeld d.val = true → u.drains < 16 → ∃ t : State, exec (.domainSwitchOff d) s = .next t ∧
          t.domState d.val = 2 ∧ t.mem = s.mem ∧
          (t.dom d.val).leaseEnd = if s.fld CRU_STATUS CRU_STATUS.STATE = 2 then none else some (s.tb + 2000000)) ∧
        (u.domAssay d.val = false → u.domHeld d.val = false → ∃ w : State, exec (.domainSwitchOff d) s = .next (w.beginOff d.val) ∧
          w.regs = u.regs ∧ w.mem = s.mem)) ∧
      (st = 0 ∨ st = 5 → ∃ t : State, exec (.domainSwitchOn d) s = .next t ∧ t.domState d.val = 4 ∧
        t.bit (PWR_DOM d.val) PWR_DOM.ON = true ∧ t.mem = s.mem) ∧
      (st = 2 → ∃ u : State, exec (.domainSwitchOn d) s = .next (u.showDrains.pumpDrains) ∧ u.domState d.val = 1 ∧ u.dom d.val = {}) ∧
      (st = 3 → (s.dom d.val).drained = true → ∃ t : State, exec (.domainSwitchOn d) s = .next t ∧ t.domState d.val = 3 ∧
        (t.dom d.val).backOn = true) ∧
      (st = 3 → (s.dom d.val).drained = false → ∃ t : State, exec (.domainSwitchOn d) s = .next t ∧ t.domState d.val = 1) ∧
      (st ≠ 3 → exec (.domainSwitchOffComplete d) s = .next s) ∧
      (st = 3 → s.domIdle d.val = false → exec (.domainSwitchOffComplete d) s = .next (s.flushDom d.val)) ∧
      (st = 3 → s.domIdle d.val = true → exec (.domainSwitchOffComplete d) s =
        .next (((s.powerOff d.val).setDom d.val {}).setDomState d.val (if (s.dom d.val).backOn = true then 4 else 0))) ∧
      (∀ x, (st ≠ 4 → exec (.domainSwitchOnComplete d x) s = .next s) ∧
        (st = 4 → 40 ≤ d.val → isCipHalf d.val = false → ∃ u : State, exec (.domainSwitchOnComplete d x) s = .next u.pumpDrains ∧
          u.domState d.val = 1 ∧ u.bit PWR_DOMAINS ⟨d.val, 1⟩ = true ∧ u.mem = s.mem)) ∧
      (st = 0 ∨ st = 5 → exec (.domainFault d) s = .next s) ∧
      (st ≠ 0 → st ≠ 5 → ∃ u : State, exec (.domainFault d) s = .next (u.showDrains.pumpDrains) ∧ u.domState d.val = 5 ∧
        u.bit PWR_DOMAINS ⟨d.val, 1⟩ = false) ∧
      (1 < s.fld CRU_STATUS CRU_STATUS.STATE → exec (.leaseRelease d) s = .next s) ∧
      (s.fld CRU_STATUS CRU_STATUS.STATE ≤ 1 → st ≠ 2 → ∃ t : State, exec (.leaseRelease d) s = .next t ∧
        t.bit CRU_LEASE_REL CRU_LEASE_REL.LATE = (st != 1) ∧ t.pwr = s.pwr ∧ t.mem = s.mem) ∧
      (s.fld CRU_STATUS CRU_STATUS.STATE ≤ 1 → st = 2 → ∃ u : State, exec (.leaseRelease d) s = .next (u.handOver d.val) ∧
        u.bit CRU_LEASE_REL CRU_LEASE_REL.LATE = false ∧ u.pwr = s.pwr) ∧
      (st ≠ 2 ∨ due s (s.dom d.val).leaseEnd = false → exec (.drainLeaseExpiry d) s = .next s) ∧
      (st = 2 → due s (s.dom d.val).leaseEnd = true → ∃ (u : State) (log : Nat),
        exec (.drainLeaseExpiry d) s = .next (((u.zeroizeDom d.val).logEvent 0 blockCru 2 d.val log).handOver d.val) ∧
        u.bit CRU_EVENT CRU_EVENT.LEASE_EXPIRED = true ∧
        (s.bit CRU_DRAIN_LOG CRU_DRAIN_LOG.VALID = false → u.fld CRU_DRAIN_LOG CRU_DRAIN_LOG.DOMAIN = d.val ∧
          u.bit CRU_DRAIN_LOG CRU_DRAIN_LOG.VALID = true)))

/-! ### Fault classes, Quench, the Anvil pair and management -/

/-- R405, R406, R407, R409, R411, R412, R415, R417, R418, R419, R420, R430: what the collector does with an event,
Quench, recovery steps, the lease and its takeover, and the management interfaces.
The model's own choices behind it: log 36, 38, 68, 69, 70, 76, 146. -/
def Obligations.FaultsAndManagement : Prop :=
  ∀ (s : State), s.railsUp = true →
    (∀ (cls block cause inst detail : Nat), cls < 5 → let t := s.recordEvent cls block cause inst detail
      let head := s.fld FLT_STATUS FLT_STATUS.HEAD
      let ev := eventWord (s.fld FLT_SEQ FLT_SEQ.COUNT + 1) cls block cause inst
      t.reg FLT_SEQ = s.reg FLT_SEQ + 1 ∧ t.fld FLT_STATUS FLT_STATUS.HEAD = (head + 1) % 32 ∧
      t.reg (FLT_HIST_TIME head) = BitVec.ofNat 64 s.tb ∧ t.reg (FLT_HIST_EVENT head) = ev ∧
      t.reg (FLT_HIST_DETAIL head) = BitVec.ofNat 64 detail ∧ t.reg (FLT_COUNT cls) = s.reg (FLT_COUNT cls) + 1 ∧
      t.bit FLT_STATUS ⟨cls, 1⟩ = true ∧ t.mem = s.mem ∧ t.disp = s.disp ∧
      (getFld (s.reg FLT_FIRST_EVENT) FLT_EVENT.VALID = 0 → s.fld FLT_CFG FLT_CFG.FIRST_MIN ≤ cls → t.reg FLT_FIRST_EVENT = ev) ∧
      (getFld (s.reg FLT_FIRST_EVENT) FLT_EVENT.VALID = 1 → t.reg FLT_FIRST_EVENT = s.reg FLT_FIRST_EVENT ∧
        t.reg FLT_FIRST_TIME = s.reg FLT_FIRST_TIME ∧ t.reg FLT_FIRST_DETAIL = s.reg FLT_FIRST_DETAIL)) ∧
    (∀ (cls : Fin 4) (block : Fin 32) (cause : Fin 64) (inst : BitVec 16) (detail : W64), ∃ t : State,
      exec (.faultEvent (.event cls block cause inst detail)) s = .next t ∧
      t = s.logEvent cls.val block.val cause.val inst.toNat detail.toNat ∧
      (cls.val = 1 → s.anvilActive = true → t.bit ANV_EVENT ANV_EVENT.MGMT = true) ∧
      (cls.val = 3 → s.escalates = false → s.flt.class3Due = none → t.flt.class3Due = some (s.tb + 12000000)) ∧
      (cls.val = 3 → s.escalates = true → t.flt.quenched = true) ∧
      (cls.val = 2 → (s.fld (CRU_PART (inst.toNat % 1024)) CRU_PART.STATE = 3 ∨ s.fld (CRU_PART (inst.toNat % 1024)) CRU_PART.STATE = 4) →
        t.fld (CRU_PART (inst.toNat % 1024)) CRU_PART.STATE = 5) ∧
      (cls.val < 3 → t.flt.class3Due = s.flt.class3Due ∧ t.flt.quenched = false ∧ t.mem = s.mem)) ∧
    (∀ c ∈ [(Instr.faultEvent .sequencerFailed, 2), (.faultEvent .regionsDisagree, 6), (.junctionOvertemp 0, 3), (.junctionOvertemp 4, 3)],
      ∃ t : State, exec c.1 s = .next t ∧ t.flt.quenched = true ∧ t.fld JNL_STATUS JNL_STATUS.STATE = 6 ∧
        t.pwr.bellows.latch = true ∧ (s.pwr.bellows.latch = false → t.pwr.bellows.latchWord = some (c.2, s.stamp)) ∧
        t.cip.keys = [] ∧ t.mm.loaded = [] ∧ t.hep.ide = [] ∧ t.disp.stopped = true ∧ (∀ e ∈ t.procs, e.2.stopped = true) ∧
        (∀ e ∈ t.srx.assocs, e.2.secret = none)) ∧
    (∀ x, s.live = true →
      (due s s.flt.class3Due = false → exec (.class3ResetDeadline x) s = .next s) ∧
      (due s s.flt.class3Due = true → exec (.class3ResetDeadline x) s = .next (s.moduleReset 4 x))) ∧
    (∀ die : Fin 5, let last := s.anv.hotSince.get none die.val
      (∃ t : State, exec (.hotReportTimer die false) s = .next t ∧ t.anv.hotSince.get none die.val = none ∧ t.regs = s.regs) ∧
      (∀ t0, last = some t0 → s.tb < t0 + 60000000000 → exec (.hotReportTimer die true) s = .next s) ∧
      (last = none → ∃ u : State, exec (.hotReportTimer die true) s = .next (u.logEvent 0 blockAnv 6 0) ∧
        u.bit ANV_EVENT ANV_EVENT.HOT = true ∧ u.anv.hotSince.get none die.val = some s.tb)) ∧
    (∀ v : BitVec 32, ∃ t : State, exec (.fltClear v) s = .next t ∧ t.flt = s.flt ∧ t.mem = s.mem ∧
      (∀ k, k < 5 → t.bit FLT_STATUS ⟨k, 1⟩ = (s.bit FLT_STATUS ⟨k, 1⟩ && v.toNat >>> k % 2 == 0)) ∧
      (∀ k, k < 5 → t.reg (FLT_COUNT k) = s.reg (FLT_COUNT k))) ∧
    (∃ t : State, exec .intakeRelease s = .next t ∧ t.flt.intake = s.flt.intake.drop 1 ∧ t.regs = s.regs) ∧
    (∀ (v : Fin 7) (value : BitVec 32),
      (value = 1 → s.fld FLT_CFG FLT_CFG.INT_EN >>> v.val % 2 = 1 → exec (.vectorTrigger v value) s = .next (s.sendVector 0 (24 + v.val))) ∧
      (value ≠ 1 ∨ s.fld FLT_CFG FLT_CFG.INT_EN >>> v.val % 2 = 0 → exec (.vectorTrigger v value) s = .next s) ∧
      (value ≠ 1 → exec (.hypervisorTrigger value) s = .next s) ∧
      (value = 1 → ∃ t : State, exec (.hypervisorTrigger value) s = .next t ∧
        (t.proc (2 * s.fld FLT_CFG FLT_CFG.HV_PAIR)).hext = true ∧ t.regs = s.regs ∧ t.mem = s.mem)) ∧
    (∀ n : Fin 8, let a := FLT_REC n.val
      let p := s.fld a FLT_REC.PROC
      let step := s.fld a FLT_REC.STEP + 1
      let key := s.flt.recKey.get 0 n.val
      (s.fld a FLT_REC.STATE ≠ 1 ∨ s.anvilActive = false ∨ s.stepDone p step key = false → exec (.recoveryProcedureStep n) s = .next s) ∧
      (s.fld a FLT_REC.STATE = 1 → s.anvilActive = true → s.stepDone p step key = true → ∃ u : State, u.fld a FLT_REC.STEP = step % 256 ∧
        u.mem = s.mem ∧
        exec (.recoveryProcedureStep n) s = .next (if step < s.fld a FLT_REC.STEPS then u
          else ((u.setFld a FLT_REC.STATE 2).vectorTrigger 6 1).nextRecovery))) ∧
    (∀ b : Bool, let st := s.anvilState b
      (st ≠ 2 → st ≠ 3 → exec (.lkRenew b) s = .next s) ∧
      (st = 2 ∨ st = 3 → b = s.holder → exec (.lkRenew b) s =
        .next { s with anv := { s.anv with leaseEnd := some (s.tb + 8000000) } }) ∧
      (st = 2 ∨ st = 3 → b ≠ s.holder → exec (.lkRenew b) s = .next (s.setBit ANV_EVENT ANV_EVENT.LATE_RENEWAL)) ∧
      (st ≠ 2 ∨ b ≠ s.holder ∨ s.anv.gap.isSome = true → exec (.lkRelease b) s = .next s) ∧
      (st = 2 → b = s.holder → s.anv.gap = none → exec (.lkRelease b) s = .next (s.passToken 1)) ∧
      (∀ ok, (st ≠ 2 → st ≠ 3 → exec (.selfDiagnosisPass b ok) s = .next s) ∧
        (st ≠ 5 → exec (.anvilRejoin b ok) s = .next s)) ∧
      (st = 2 ∨ st = 3 → ∃ t : State, exec (.selfDiagnosisPass b true) s = .next t ∧ t.anvilState b = st ∧ t.regs = s.regs) ∧
      (st = 2 → b = s.holder → s.anv.gap = none → ∃ u : State, exec (.selfDiagnosisPass b false) s = .next (u.passToken 1) ∧ u.regs = s.regs) ∧
      (st = 3 → b ≠ s.holder → ∃ t : State, exec (.selfDiagnosisPass b false) s = .next t ∧ t.anvilState b = 5 ∧ t.holder = s.holder) ∧
      (st = 5 → ∃ u : State, exec (.anvilRejoin b true) s = .next (u.logEvent 0 blockAnv 5 0) ∧ u.anvilState b = 3 ∧
        u.bit ANV_EVENT ANV_EVENT.REJOINED = true ∧ u.holder = s.holder) ∧
      (st = 5 → ∃ u : State, exec (.anvilRejoin b false) s = .next (u.logEvent 1 blockAnv 4 0) ∧ u.anvilState b = 4 ∧
        u.bit ANV_EVENT ANV_EVENT.FAILED = true) ∧
      (∀ v : BitVec 32, (s.holder ≠ b → exec (.afcRaise b v) s = .next s) ∧
        (s.holder = b → v.toNat >>> 31 % 2 = 0 → exec (.afcRaise b v) s = .next (s.regWrite AFC_RAISE (v.setWidth 64))) ∧
        (s.holder = b → v.toNat >>> 31 % 2 = 1 → ∃ u : State, u = s.regWrite AFC_RAISE (v.setWidth 64) ∧ exec (.afcRaise b v) s =
          .next (u.logEvent (u.fld AFC_RAISE AFC_RAISE.CLASS) blockAnv 0x3E (u.fld AFC_RAISE AFC_RAISE.CODE) 0 5)))) ∧
    (due s s.anv.leaseEnd = false → exec .leaseExpiry s = .next s) ∧
    (due s s.anv.leaseEnd = true → exec .leaseExpiry s = .next (s.passToken 2)) ∧
    (∀ cause, cause = 1 ∨ cause = 2 →
      (s.anv.gap = none → s.anvilState (!s.holder) = 3 → let t := s.passToken cause
        t.holder = (!s.holder) ∧ t.bit ANV_STATUS ANV_STATUS.GAP = true ∧ t.anv.gap = some (s.tb, cause) ∧ t.anvilState s.holder = 5 ∧
        t.anv.leaseEnd = some (s.tb + 8000000) ∧ t.bit ANV_EVENT (if cause = 1 then ANV_EVENT.RELEASED else ANV_EVENT.EXPIRED) = true ∧
        t.mem = s.mem) ∧
      (s.anv.gap.isSome = true ∨ s.anvilState (!s.holder) ≠ 3 → (s.passToken cause).flt.quenched = true)) ∧
    (s.anv.gap = none → ∀ ok, exec (.anvilTakeoverComplete ok) s = .next s) ∧
    (∀ g : Nat × Nat, s.anv.gap = some g →
      (∃ t : State, exec (.anvilTakeoverComplete false) s = .next t ∧ t.flt.quenched = true) ∧
      (∃ u : State, exec (.anvilTakeoverComplete true) s = .next ((u.vectorTrigger 4 1).logEvent 1 blockAnv 0 0) ∧ u.anv.gap = none ∧
        u.bit ANV_STATUS ANV_STATUS.GAP = false ∧ u.anvilState s.holder = 2 ∧ u.holder = s.holder ∧
        u.reg ANV_TAKEOVERS = s.reg ANV_TAKEOVERS + 1 ∧ u.bit ANV_EVENT ANV_EVENT.TAKEOVER = true)) ∧
    (∀ (i : Fin 4) (phys : W64) (p : Bytes),
      (s.ifaceUp i.val = (s.pins.seated && (i.val != 2 || s.hep.l0))) ∧
      (p.length < 5 ∨ mctpUnit i.val + 4 < p.length ∨ s.ifaceUp i.val = false → exec (.mctpPacket i phys p) s = .next s) ∧
      (5 ≤ p.length → p.length ≤ mctpUnit i.val + 4 → s.ifaceUp i.val = true → mctpSom p = true → mctpType p ≠ 5 →
        (s.anvilActive = false → mctpType p ≤ 1 → mctpRequest p = true →
          exec (.mctpPacket i phys p) s = .next (s.emit (.mctp i.val (notReady p)))) ∧
        (s.anvilActive = false → (1 < mctpType p ∨ mctpRequest p = false) → exec (.mctpPacket i phys p) s = .next s) ∧
        (s.anvilActive = true → mctpType p ≠ 0 → exec (.mctpPacket i phys p) s = .next (s.ringPut i.val 0x1000 0 4 phys p))) ∧
      (32 ≤ (s.bankCount i.val 0 + 2 ^ 32 - s.bankCount i.val 4) % 2 ^ 32 → s.ringPut i.val 0x1000 0 4 phys p = s) ∧
      ((s.bankCount i.val 0 + 2 ^ 32 - s.bankCount i.val 4) % 2 ^ 32 < 32 →
        (s.ringPut i.val 0x1000 0 4 phys p).bankCount i.val 0 = (s.bankCount i.val 0 + 1) % 2 ^ 32) ∧
      (s.bankCount i.val 0xC = s.bankCount i.val 8 ∨ s.ifaceUp i.val = false → exec (.mctpPacketSent i) s = .next s) ∧
      (s.bankCount i.val 0xC ≠ s.bankCount i.val 8 → s.ifaceUp i.val = true → ∃ (t : State) (d : Bytes),
        exec (.mctpPacketSent i) s = .next t ∧ t.out = Output.mctp i.val d :: s.out ∧
        t.bankCount i.val 0xC = (s.bankCount i.val 0xC + 1) % 2 ^ 32 ∧ t.regs = s.regs)) ∧
    (∀ (i : Fin 4) (d : Bytes), (∀ op, op ≠ .event → s.ifaceUp i.val = false → exec (.pldmRequest i op) s = .next s) ∧
      (s.ifaceUp i.val = true → s.anvilActive = true → ∃ t : State, exec (.pldmRequest i (.request d)) s = .next t ∧
          t.out = Output.pldm (Config.pldmAnswer s.rand s.sensors d) :: s.out ∧ t.mem = s.mem) ∧
      (s.anvilActive = false → exec (.pldmRequest i .event) s = .next s) ∧
      (s.ifaceUp i.val = true → s.anvilActive = false → exec (.pldmRequest i (.request d)) s = .next (s.emit (.pldm [d.getD 0 0 &&& 0x1F, d.getD 1 0, d.getD 2 0, 4]))) ∧
      (s.anvilActive = true → ∃ t : State, exec (.pldmRequest i .event) s = .next t ∧ t.bit ANV_EVENT ANV_EVENT.MGMT = true ∧ t.mem = s.mem) ∧
      (s.ifaceUp i.val = true → s.anvilActive = true → s.bundleOk (s.bank s.spareBank) = false → exec (.pldmRequest i .apply) s = .next (s.emit (.pldm [1]))) ∧
      (s.ifaceUp i.val = true → s.anvilActive = true → s.bundleOk (s.bank s.spareBank) = true → ∃ t : State, exec (.pldmRequest i .apply) s = .next t ∧
        t.anv.bundlePending = true ∧ t.anv.bankInUse = s.anv.bankInUse ∧ t.out = .pldm [0] :: s.out))

/-! ### Start-up, module reset and readiness -/

/-- R13, R389, R407, R413, R431, R432, R433, R434, R436, R437, R438: power-on, module reset, training, the scan, replay,
overruns and the bridges.
The model's own choices behind it: log 62, 63, 64, 65, 67, 68. -/
def Obligations.StartsAndReadiness : Prop :=
  (∀ (s : State) (x : StartChecks),
    (s.phase ≠ .off ∨ s.pwr.bellows.latch = true ∨ s.pwr.bellows.removed = true → exec (.powerOn x) s = .next s) ∧
    (s.phase = .off → s.pwr.bellows.latch = false → s.pwr.bellows.removed = false → ∃ u t : State, exec (.powerOn x) s = .next t ∧
      u.phase = .starting 3 true ∧ u.mem = [] ∧ u.tb = s.firstCount ∧ u.jnl.bootCount = s.jnl.bootCount + 1 ∧ u.jnl.die0 = s.jnl.die0 ∧
      u.jnl.die1 = s.jnl.die1 ∧ u.cru.parts = s.cru.parts ∧ u.cru.batchCount = s.cru.batchCount ∧ u.disp.units = [] ∧ u.cip.keys = [] ∧
      t = u.startChecks x true (if s.pwr.bellows.latchWord.isSome then 4 else 3) ∧
      (s.pwr.bellows.latchWord = none → u.start.cause = 1) ∧
      (∀ w, s.pwr.bellows.latchWord = some w → u.start.cause = 2 ∧ u.bit FLT_STATUS ⟨4, 1⟩ = true ∧
        u.fld FLT_QUENCH ⟨63, 1⟩ = 1 ∧ u.fld FLT_QUENCH ⟨32, 6⟩ = w.1 % 64 ∧ u.fld FLT_QUENCH ⟨0, 32⟩ = w.2 % 2 ^ 32) ∧
      (x.identity = false → t.phase = .halted 4) ∧
      (x.identity = true → x.anvilA = false → x.anvilB = false → t.flt.quenched = true) ∧
      (x.identity = true → x.anvilA = true ∨ x.anvilB = true → x.comparators = false → t.phase = .halted 6) ∧
      (x.identity = true → x.anvilA = true ∨ x.anvilB = true → x.comparators = true → t.phase = .starting 7 true))) ∧
  (∀ (s : State), s.live = true →
    (∀ x, (s.bit ANV_STATUS ANV_STATUS.GAP = true → exec (.moduleReset 0 x) s = .next s) ∧
      (s.bit ANV_STATUS ANV_STATUS.GAP = false → exec (.moduleReset 0 x) s = .next (s.moduleReset 3 x)) ∧
      (due s s.flt.class3Due = false → exec (.moduleReset 1 x) s = .next s) ∧
      (due s s.flt.class3Due = true → exec (.moduleReset 1 x) s = .next (s.moduleReset 4 x)) ∧
      (exec (.moduleReset 2 x) s = exec (.busStableTimer x) s) ∧
      (∀ cause, let t := s.moduleReset cause x
        (∀ n p, s.phase = .starting n p → 2 ≤ s.start.failures → t.phase = .halted (n + 1)) ∧
        (s.phase = .ready → t.tb = s.tb ∧ t.jnl.bootCount = s.jnl.bootCount + 1 ∧ t.start.cause = cause ∧
          (x.identity = false → t.phase = .halted 4) ∧
          (x.identity = true → x.anvilA = true ∨ x.anvilB = true → x.comparators = true → t.flt.quenched = false →
            t.phase = .starting 7 false ∧ t.fld CRU_STATUS CRU_STATUS.STATE = 1)))) ∧
    (∀ (failed : List (Fin 24)) (lost : List (BitVec 42)),
      ((∀ p, s.phase ≠ .starting 7 p) → exec (.gddr7TrainingComplete failed lost) s = .next s) ∧
      (∀ p, s.phase = .starting 7 p → ∃ t : State, exec (.gddr7TrainingComplete failed lost) s = .next t ∧
        (t.phase = .halted 8 ∨ t.phase = .starting 8 p) ∧ (p = true → t.phase = .starting 8 p → t.mem = []) ∧
        (failed = [] → (∀ h, h < 24 → s.fld (MEM_CHAN h) MEM_CHAN.STATE < 4) → t.phase = .starting 8 p) ∧
        (failed = [] → (∀ h, h < 24 → s.fld (MEM_CHAN h) MEM_CHAN.STATE < 4) → p = true ∨ (s.mm.bad = [] ∧ s.mm.badCode = []) →
          (∀ h, h < 24 → t.fld (MEM_CHAN h) MEM_CHAN.STATE = 1)))) ∧
    ((∀ p, s.phase ≠ .starting 8 p) ∨ s.pwr.reported = true → exec .recoveryScan s = .next s) ∧
    (∀ p, s.phase = .starting 8 p → s.pwr.reported = false →
      (s.dieOk 0 = false → s.dieOk 1 = false → exec .recoveryScan s = .next (s.halt 9)) ∧
      (s.dieOk 0 = true ∨ s.dieOk 1 = true → ∃ u : State, u = s.scan ∧ exec .recoveryScan s =
        .next (if u.dieOk 0 = false ∧ u.dieOk 1 = false then u.halt 9 else u.starting 9 p))) ∧
    ((∀ p, s.phase ≠ .starting 9 p) ∨ s.pwr.reported = true → exec .replay s = .next s) ∧
    (∀ p, s.phase = .starting 9 p → s.pwr.reported = false → ∃ t : State, exec .replay s = .next t ∧ t.phase = .ready ∧
      t.flt.readyAt = s.tb ∧ t.start.failures = 0 ∧ t.tb = s.tb ∧ t.mm.planishAt = s.tb ∧ t.jnl.snapAt.isSome = true) ∧
    (∀ n p, s.phase = .starting n p → exec .startupStepOverrun s = .next (s.logEvent 3 blockFlt causeNone (n + 1))) ∧
    ((∀ n p, s.phase ≠ .starting n p) → exec .startupStepOverrun s = .next s) ∧
    (∀ (b : Fin 10) (h : Fin 2), let old := s.start.bridges.get 0 b.val
      (old / 2 ^ h.val % 2 = 1 → exec (.bridgeHalfFailure b h) s = .next s) ∧
      (old = 0 → ∃ u : State, exec (.bridgeHalfFailure b h) s = .next (u.logEvent 0 blockCoh causeNone 0) ∧
        u.start.bridges.get 0 b.val = 2 ^ h.val ∧ u.regs = s.regs ∧ u.mem = s.mem) ∧
      (old = 3 - 2 ^ h.val → (State.bridgeDies b.val).2 = 4 → ∃ u : State,
        exec (.bridgeHalfFailure b h) s = .next (u.dieLost (State.bridgeDies b.val).1) ∧ u.start.bridges.get 0 b.val = 3 ∧ u.regs = s.regs) ∧
      (old = 3 - 2 ^ h.val → (State.bridgeDies b.val).2 < 4 → ∃ u : State,
        exec (.bridgeHalfFailure b h) s = .next (u.logEvent 0 blockCoh causeNone 0) ∧ u.start.bridges.get 0 b.val = 3 ∧
        u.bit COH_STATUS COH_STATUS.GUARDED = true ∧ (∀ a, a ≠ COH_STATUS → u.reg a = s.reg a) ∧ u.mem = s.mem) ∧
      (exec (.bridgeFailure b) s = .next ((s.bridgeHalf b.val 0).bridgeHalf b.val 1))))

/-! ### Register writes and pins -/

/-- R4, R5, R20, R63, R333, R340, R402, R444, R452, R453, R457: what a register write does and which writes are
discarded; the presence pins and the test access port.
The model's own choices behind it: log 22, 41, 72. -/
def Obligations.RegisterWritesAndPins : Prop :=
  (∀ (old v mask : W64) (f : RegField), f.fld.lo + f.fld.len ≤ 64 →
    let n := getFld ((old &&& ~~~mask) ||| (v &&& mask)) f.fld
    let inF := fun (i : Nat) => decide (f.fld.lo ≤ i) && decide (i < f.fld.lo + f.fld.len)
    (f.acc = .rw → f.min ≤ n → n ≤ f.max → getFld (fieldStore old v mask f) f.fld = n) ∧
    (f.acc = .rw → (n < f.min ∨ f.max < n) → fieldStore old v mask f = old) ∧
    (f.acc = .wo → fieldStore old v mask f = old) ∧
    (∀ i, i < 64 →
      (inF i = false → (fieldStore old v mask f).getLsbD i = old.getLsbD i) ∧
      (f.acc = .w1c → inF i = true → (fieldStore old v mask f).getLsbD i = (old.getLsbD i && !(v.getLsbD i && mask.getLsbD i))) ∧
      (f.acc = .w1s → inF i = true → (fieldStore old v mask f).getLsbD i = (old.getLsbD i || (v.getLsbD i && mask.getLsbD i))))) ∧
  (∀ (s : State), s.live = true →
    (∀ f : Fin 1025, s.bar0Size f.val = if f.val = 0 then 2 ^ 26 else max 0x4000 s.hep.pageSize) ∧
    (∀ (f : Fin 1025) (w : BarWrite), w.read = true →
      (∀ who, who ≠ .host → exec (.registerWrite who f w) s = .next s) ∧
      (s.isReady = false → exec (.registerWrite .host f w) s = .next s) ∧
      (s.isReady = true → ∃ t : State, exec (.registerWrite .host f w) s = .next t ∧ t = { s with out := t.out } ∧
        (s.tdi f.val ≠ 2 → s.fnPresent f.val = false ∨ s.inDrain f.val = true ∨ s.bar0Size f.val < w.offset + w.size →
          t.out = (s.emitTlp f.val (.cpl f.val 1 [])).out) ∧
        (s.inDrain 0 = false → s.tdi 0 ≠ 2 → f.val = 0 → w.offset + w.size ≤ 2 ^ 26 →
          t.out = (s.complete 0 w.offset (s.regBytes w.offset w.size)).out) ∧
        (0 < f.val → s.fnPresent f.val = true → s.inDrain f.val = false → s.tdi f.val = 0 → w.tee = false →
          (0x1000 ≤ w.offset → w.offset + w.size ≤ 0x4000 →
            t.out = (s.complete f.val w.offset (s.regBytes (0x100000000 + 0x4000 * f.val + w.offset) w.size)).out) ∧
          (w.offset + w.size ≤ 0x1000 → t.out = (s.complete f.val w.offset (zeros w.size)).out)))) ∧
    (∀ (f : Fin 1025) (w : BarWrite), w.read = false → let size := s.bar0Size f.val
      (s.isReady = false ∨ s.fnPresent f.val = false ∨ size ≤ w.offset → exec (.registerWrite .host f w) s = .next s) ∧
      (s.isReady = true → s.fnPresent f.val = true → w.offset < size → f.val = 0 ∨ 0x1000 ≤ w.offset →
        (State.barWriteOk w = false → ∃ t : State, exec (.registerWrite .host f w) s = .next t ∧
          t.fld HEP_MMIO_ERR HEP_MMIO_ERR.COUNT = min (s.fld HEP_MMIO_ERR HEP_MMIO_ERR.COUNT + 1) (2 ^ HEP_MMIO_ERR.COUNT.len - 1) ∧
          t.bit HEP_EVENT HEP_EVENT.MMIO_DISCARD = true ∧ t.bit HEP_MMIO_ERR HEP_MMIO_ERR.VALID = true ∧
          (s.bit HEP_MMIO_ERR HEP_MMIO_ERR.VALID = false → t.fld HEP_MMIO_ERR HEP_MMIO_ERR.FUNC = f.val) ∧
          (∀ a, a ≠ HEP_MMIO_ERR → a ≠ HEP_EVENT → t.reg a = s.reg a) ∧ t.disp = s.disp ∧ t.mem = s.mem) ∧
        (State.barWriteOk w = true → s.pageOpen f.val w.tee = false ∨ (0 < f.val ∧ 0x4000 ≤ w.offset) →
          exec (.registerWrite .host f w) s = .next s) ∧
        (State.barWriteOk w = true → s.pageOpen f.val w.tee = true → f.val = 0 ∨ w.offset < 0x4000 → exec (.registerWrite .host f w) s =
          .next (s.keyWrite .host ((if f.val = 0 then 0 else 0x100000000 + 0x4000 * f.val) + w.offset) w.size w.value))) ∧
      (∀ who, who ≠ .host → State.barWriteOk w = false → exec (.registerWrite who f w) s = .next s) ∧
      (∀ who, who ≠ .host → State.barWriteOk w = true → exec (.registerWrite who f w) s =
        .next (s.fabricWrite who w.offset w.size w.value)) ∧
      (∀ (p : Fin 1024), State.mailKey w.offset = none → exec (.registerWrite (.sealed p) f w) s = .next s)) ∧
    (∀ (v : W64) (tee : Bool), s.pageOpen 0 tee = true →
      exec (.registerWrite .host 0 ⟨FLT_ACK, 8, true, v, tee, false⟩) s = .next (s.setReg FLT_ACK v) ∧
      exec (.registerWrite .host 0 ⟨FLT_SEQ, 8, true, v, tee, false⟩) s = .next (s.setReg FLT_SEQ (s.reg FLT_SEQ)) ∧
      (∃ t : State, exec (.registerWrite .host 0 ⟨MTR_EVENT, 4, true, v, tee, false⟩) s = .next t ∧ t.mem = s.mem ∧ t.disp = s.disp ∧
        (∀ a, a ≠ MTR_EVENT → t.reg a = s.reg a) ∧
        (∀ i, i < 4 → t.bit MTR_EVENT ⟨i, 1⟩ = (s.bit MTR_EVENT ⟨i, 1⟩ && !v.getLsbD i)))) ∧
    (∀ (who : Writer) (a n : Nat) (v : W64), 2 ^ 26 ≤ a → s.fabricWrite who a n v = s) ∧
    (∀ (e : Fin 320) (ea : W64) (n a : Nat), s.translate (.exec e) ea .load = some a → 2 ^ 47 ≤ a →
      s.loadBytes (.exec e) ea n = (some (if s.reachesReg (.exec e) (a - 2 ^ 47) then s.regBytes (a - 2 ^ 47) n else zeros n), s)) ∧
    (∀ (e : Fin 320) (ea : W64) (d : Bytes) (a : Nat), s.translate (.exec e) ea .store = some a → 2 ^ 47 ≤ a →
      s.reachesReg (.exec e) (a - 2 ^ 47) = false → State.mailKey (a - 2 ^ 47) = none → s.storeBytes (.exec e) ea d = (true, s))) ∧
  (∀ (s : State),
    (∀ (pin : Fin 2) (low : Bool), ∃ t : State, exec (.presencePinChange pin low) s = .next t ∧
      (if pin.val = 0 then t.pins.prsnt1 = low ∧ t.pins.prsnt2 = s.pins.prsnt2 else t.pins.prsnt2 = low ∧ t.pins.prsnt1 = s.pins.prsnt1) ∧
      t.pins.seated = s.pins.seated ∧ t = { s with pins := t.pins } ∧
      (t.bothLow = true → s.pins.seated = false → t.pins.seatAt = some (s.pins.seatAt.getD (s.tb + 10000000))) ∧
      (low = true → (if pin.val = 0 then t.pins.break1At else t.pins.break2At) = none) ∧
      (low = false → (if pin.val = 0 then t.pins.break1At else t.pins.break2At) =
        some ((if pin.val = 0 then s.pins.break1At else s.pins.break2At).getD (s.tb + 50000)))) ∧
    (due s s.pins.seatAt = false ∨ s.bothLow = false → exec .presenceSeated s = .next s) ∧
    (due s s.pins.seatAt = true → s.bothLow = true →
      exec .presenceSeated s = .next { s with pins := { s.pins with seated := true, seatAt := none } }) ∧
    (due s s.pins.break1At = false → due s s.pins.break2At = false → exec .presenceBreak s = .next s) ∧
    (due s s.pins.break1At = true ∨ due s s.pins.break2At = true → ∃ u : State,
      u = { s with pins := { s.pins with seated := false, seatAt := none, break1At := none, break2At := none } } ∧
      exec .presenceBreak s = .next (if s.pins.seated = true then u.j1Gone else u)) ∧
    (due s s.pins.singleAt = false ∨ s.pins.seated = true → exec .presencePinSingle s = .next s) ∧
    (due s s.pins.singleAt = true → s.pins.seated = false → ∃ u : State, u = { s with pins := { s.pins with singleAt := none } } ∧
      exec .presencePinSingle s = .next (if s.railsUp = true ∧ s.anvilActive = true then u.logEvent 0 blockAnv 0x3E 0x300 0 5 else u)) ∧
    (∀ (tck tms tdi trst : Bool), ∃ t : State, exec (.jtagTck tck tms tdi trst) s = .next t ∧
      (trst = false → t.pins.tap = .reset) ∧
      (trst = true → tck = true → s.pins.tck = false → t.pins.tap = s.pins.tap.next tms) ∧
      (trst = true → (tck = false ∨ s.pins.tck = true) → t.pins.tap = s.pins.tap) ∧
      (trst = true → tck = false → s.pins.tck = true → (t.pins.tdo.isSome = true ↔ s.pins.tap = .shiftDr ∨ s.pins.tap = .shiftIr)) ∧
      t.regs = s.regs ∧ t.mem = s.mem ∧ t.procs = s.procs ∧ t.ctl = s.ctl ∧ t.cip = s.cip ∧ t.cru = s.cru ∧ t.phase = s.phase))

/-! ### Every step -/

/-- The machine right after reset: rails down, nothing queued, nothing in memory, which stands in its canonical form, and
every register at its reset value (R5).
The model's own choices behind it: log 1. -/
def Obligations.ResetIsSound : Prop :=
  State.reset.sound ∧ State.reset.phase = .off ∧ State.reset.pending = [] ∧ State.reset.mem = [] ∧
    (∀ a, State.reset.reg a = regReset a) ∧ State.reset.live = false ∧ State.reset.disp.units = []

/-- No step stops the machine, and every step keeps memory in its canonical form, whatever the queue holds.
The model's own choices behind it: log 57. -/
def Obligations.EveryStepKeepsSound : Prop :=
  ∀ s : State, s.sound → ∃ t : State, step s = .next t ∧ t.sound
end

