-- ==== Sys2Proof/Laws/State.lean ====
section
/-!
SUPPORT. What each named update of the state leaves alone: one lemma per update and field, true by unfolding, so that
no proof opens a record update.
-/
namespace Sys2Proof.Machine
open Sys2Proof

@[simp] theorem State.setReg_pending (s : State) (a : Nat) (v : W64) : (s.setReg a v).pending = s.pending := rfl
@[simp] theorem State.setReg_mem (s : State) (a : Nat) (v : W64) : (s.setReg a v).mem = s.mem := rfl
@[simp] theorem State.setReg_ctl (s : State) (a : Nat) (v : W64) : (s.setReg a v).ctl = s.ctl := rfl
@[simp] theorem State.setReg_tb (s : State) (a : Nat) (v : W64) : (s.setReg a v).tb = s.tb := rfl
@[simp] theorem State.setReg_rand (s : State) (a : Nat) (v : W64) : (s.setReg a v).rand = s.rand := rfl
@[simp] theorem State.setReg_out (s : State) (a : Nat) (v : W64) : (s.setReg a v).out = s.out := rfl
@[simp] theorem State.setReg_phase (s : State) (a : Nat) (v : W64) : (s.setReg a v).phase = s.phase := rfl
@[simp] theorem State.setReg_image (s : State) (a : Nat) (v : W64) : (s.setReg a v).image = s.image := rfl
@[simp] theorem State.setReg_flt (s : State) (a : Nat) (v : W64) : (s.setReg a v).flt = s.flt := rfl
@[simp] theorem State.setReg_anv (s : State) (a : Nat) (v : W64) : (s.setReg a v).anv = s.anv := rfl
@[simp] theorem State.setReg_hep (s : State) (a : Nat) (v : W64) : (s.setReg a v).hep = s.hep := rfl
@[simp] theorem State.setReg_disp (s : State) (a : Nat) (v : W64) : (s.setReg a v).disp = s.disp := rfl
@[simp] theorem State.setReg_jnl (s : State) (a : Nat) (v : W64) : (s.setReg a v).jnl = s.jnl := rfl
@[simp] theorem State.setReg_chn (s : State) (a : Nat) (v : W64) : (s.setReg a v).chn = s.chn := rfl
@[simp] theorem State.setReg_srx (s : State) (a : Nat) (v : W64) : (s.setReg a v).srx = s.srx := rfl
@[simp] theorem State.setReg_mm (s : State) (a : Nat) (v : W64) : (s.setReg a v).mm = s.mm := rfl
@[simp] theorem State.setReg_coh (s : State) (a : Nat) (v : W64) : (s.setReg a v).coh = s.coh := rfl
@[simp] theorem State.setReg_procs (s : State) (a : Nat) (v : W64) : (s.setReg a v).procs = s.procs := rfl
@[simp] theorem State.setReg_prs (s : State) (a : Nat) (v : W64) : (s.setReg a v).prs = s.prs := rfl
@[simp] theorem State.setReg_cru (s : State) (a : Nat) (v : W64) : (s.setReg a v).cru = s.cru := rfl
@[simp] theorem State.setReg_swg (s : State) (a : Nat) (v : W64) : (s.setReg a v).swg = s.swg := rfl
@[simp] theorem State.setReg_cip (s : State) (a : Nat) (v : W64) : (s.setReg a v).cip = s.cip := rfl
@[simp] theorem State.setReg_clk (s : State) (a : Nat) (v : W64) : (s.setReg a v).clk = s.clk := rfl
@[simp] theorem State.setReg_pwr (s : State) (a : Nat) (v : W64) : (s.setReg a v).pwr = s.pwr := rfl
@[simp] theorem State.setReg_pins (s : State) (a : Nat) (v : W64) : (s.setReg a v).pins = s.pins := rfl
@[simp] theorem State.setReg_start (s : State) (a : Nat) (v : W64) : (s.setReg a v).start = s.start := rfl

@[simp] theorem State.setFld_pending (s : State) (a : Nat) (f : Fld) (n : Nat) : (s.setFld a f n).pending = s.pending := rfl
@[simp] theorem State.setFld_mem (s : State) (a : Nat) (f : Fld) (n : Nat) : (s.setFld a f n).mem = s.mem := rfl
@[simp] theorem State.setFld_ctl (s : State) (a : Nat) (f : Fld) (n : Nat) : (s.setFld a f n).ctl = s.ctl := rfl
@[simp] theorem State.setFld_tb (s : State) (a : Nat) (f : Fld) (n : Nat) : (s.setFld a f n).tb = s.tb := rfl
@[simp] theorem State.setFld_rand (s : State) (a : Nat) (f : Fld) (n : Nat) : (s.setFld a f n).rand = s.rand := rfl
@[simp] theorem State.setFld_out (s : State) (a : Nat) (f : Fld) (n : Nat) : (s.setFld a f n).out = s.out := rfl
@[simp] theorem State.setFld_phase (s : State) (a : Nat) (f : Fld) (n : Nat) : (s.setFld a f n).phase = s.phase := rfl
@[simp] theorem State.setFld_image (s : State) (a : Nat) (f : Fld) (n : Nat) : (s.setFld a f n).image = s.image := rfl
@[simp] theorem State.setFld_flt (s : State) (a : Nat) (f : Fld) (n : Nat) : (s.setFld a f n).flt = s.flt := rfl
@[simp] theorem State.setFld_anv (s : State) (a : Nat) (f : Fld) (n : Nat) : (s.setFld a f n).anv = s.anv := rfl
@[simp] theorem State.setFld_hep (s : State) (a : Nat) (f : Fld) (n : Nat) : (s.setFld a f n).hep = s.hep := rfl
@[simp] theorem State.setFld_disp (s : State) (a : Nat) (f : Fld) (n : Nat) : (s.setFld a f n).disp = s.disp := rfl
@[simp] theorem State.setFld_jnl (s : State) (a : Nat) (f : Fld) (n : Nat) : (s.setFld a f n).jnl = s.jnl := rfl
@[simp] theorem State.setFld_chn (s : State) (a : Nat) (f : Fld) (n : Nat) : (s.setFld a f n).chn = s.chn := rfl
@[simp] theorem State.setFld_srx (s : State) (a : Nat) (f : Fld) (n : Nat) : (s.setFld a f n).srx = s.srx := rfl
@[simp] theorem State.setFld_mm (s : State) (a : Nat) (f : Fld) (n : Nat) : (s.setFld a f n).mm = s.mm := rfl
@[simp] theorem State.setFld_coh (s : State) (a : Nat) (f : Fld) (n : Nat) : (s.setFld a f n).coh = s.coh := rfl
@[simp] theorem State.setFld_procs (s : State) (a : Nat) (f : Fld) (n : Nat) : (s.setFld a f n).procs = s.procs := rfl
@[simp] theorem State.setFld_prs (s : State) (a : Nat) (f : Fld) (n : Nat) : (s.setFld a f n).prs = s.prs := rfl
@[simp] theorem State.setFld_cru (s : State) (a : Nat) (f : Fld) (n : Nat) : (s.setFld a f n).cru = s.cru := rfl
@[simp] theorem State.setFld_swg (s : State) (a : Nat) (f : Fld) (n : Nat) : (s.setFld a f n).swg = s.swg := rfl
@[simp] theorem State.setFld_cip (s : State) (a : Nat) (f : Fld) (n : Nat) : (s.setFld a f n).cip = s.cip := rfl
@[simp] theorem State.setFld_clk (s : State) (a : Nat) (f : Fld) (n : Nat) : (s.setFld a f n).clk = s.clk := rfl
@[simp] theorem State.setFld_pwr (s : State) (a : Nat) (f : Fld) (n : Nat) : (s.setFld a f n).pwr = s.pwr := rfl
@[simp] theorem State.setFld_pins (s : State) (a : Nat) (f : Fld) (n : Nat) : (s.setFld a f n).pins = s.pins := rfl
@[simp] theorem State.setFld_start (s : State) (a : Nat) (f : Fld) (n : Nat) : (s.setFld a f n).start = s.start := rfl

@[simp] theorem State.setBit_pending (s : State) (a : Nat) (f : Fld) (b : Bool) : (s.setBit a f b).pending = s.pending := rfl
@[simp] theorem State.setBit_mem (s : State) (a : Nat) (f : Fld) (b : Bool) : (s.setBit a f b).mem = s.mem := rfl
@[simp] theorem State.setBit_ctl (s : State) (a : Nat) (f : Fld) (b : Bool) : (s.setBit a f b).ctl = s.ctl := rfl
@[simp] theorem State.setBit_tb (s : State) (a : Nat) (f : Fld) (b : Bool) : (s.setBit a f b).tb = s.tb := rfl
@[simp] theorem State.setBit_rand (s : State) (a : Nat) (f : Fld) (b : Bool) : (s.setBit a f b).rand = s.rand := rfl
@[simp] theorem State.setBit_out (s : State) (a : Nat) (f : Fld) (b : Bool) : (s.setBit a f b).out = s.out := rfl
@[simp] theorem State.setBit_phase (s : State) (a : Nat) (f : Fld) (b : Bool) : (s.setBit a f b).phase = s.phase := rfl
@[simp] theorem State.setBit_image (s : State) (a : Nat) (f : Fld) (b : Bool) : (s.setBit a f b).image = s.image := rfl
@[simp] theorem State.setBit_flt (s : State) (a : Nat) (f : Fld) (b : Bool) : (s.setBit a f b).flt = s.flt := rfl
@[simp] theorem State.setBit_anv (s : State) (a : Nat) (f : Fld) (b : Bool) : (s.setBit a f b).anv = s.anv := rfl
@[simp] theorem State.setBit_hep (s : State) (a : Nat) (f : Fld) (b : Bool) : (s.setBit a f b).hep = s.hep := rfl
@[simp] theorem State.setBit_disp (s : State) (a : Nat) (f : Fld) (b : Bool) : (s.setBit a f b).disp = s.disp := rfl
@[simp] theorem State.setBit_jnl (s : State) (a : Nat) (f : Fld) (b : Bool) : (s.setBit a f b).jnl = s.jnl := rfl
@[simp] theorem State.setBit_chn (s : State) (a : Nat) (f : Fld) (b : Bool) : (s.setBit a f b).chn = s.chn := rfl
@[simp] theorem State.setBit_srx (s : State) (a : Nat) (f : Fld) (b : Bool) : (s.setBit a f b).srx = s.srx := rfl
@[simp] theorem State.setBit_mm (s : State) (a : Nat) (f : Fld) (b : Bool) : (s.setBit a f b).mm = s.mm := rfl
@[simp] theorem State.setBit_coh (s : State) (a : Nat) (f : Fld) (b : Bool) : (s.setBit a f b).coh = s.coh := rfl
@[simp] theorem State.setBit_procs (s : State) (a : Nat) (f : Fld) (b : Bool) : (s.setBit a f b).procs = s.procs := rfl
@[simp] theorem State.setBit_prs (s : State) (a : Nat) (f : Fld) (b : Bool) : (s.setBit a f b).prs = s.prs := rfl
@[simp] theorem State.setBit_cru (s : State) (a : Nat) (f : Fld) (b : Bool) : (s.setBit a f b).cru = s.cru := rfl
@[simp] theorem State.setBit_swg (s : State) (a : Nat) (f : Fld) (b : Bool) : (s.setBit a f b).swg = s.swg := rfl
@[simp] theorem State.setBit_cip (s : State) (a : Nat) (f : Fld) (b : Bool) : (s.setBit a f b).cip = s.cip := rfl
@[simp] theorem State.setBit_clk (s : State) (a : Nat) (f : Fld) (b : Bool) : (s.setBit a f b).clk = s.clk := rfl
@[simp] theorem State.setBit_pwr (s : State) (a : Nat) (f : Fld) (b : Bool) : (s.setBit a f b).pwr = s.pwr := rfl
@[simp] theorem State.setBit_pins (s : State) (a : Nat) (f : Fld) (b : Bool) : (s.setBit a f b).pins = s.pins := rfl
@[simp] theorem State.setBit_start (s : State) (a : Nat) (f : Fld) (b : Bool) : (s.setBit a f b).start = s.start := rfl

@[simp] theorem State.emit_pending (s : State) (o : Output) : (s.emit o).pending = s.pending := rfl
@[simp] theorem State.emit_regs (s : State) (o : Output) : (s.emit o).regs = s.regs := rfl
@[simp] theorem State.emit_mem (s : State) (o : Output) : (s.emit o).mem = s.mem := rfl
@[simp] theorem State.emit_ctl (s : State) (o : Output) : (s.emit o).ctl = s.ctl := rfl
@[simp] theorem State.emit_tb (s : State) (o : Output) : (s.emit o).tb = s.tb := rfl
@[simp] theorem State.emit_rand (s : State) (o : Output) : (s.emit o).rand = s.rand := rfl
@[simp] theorem State.emit_phase (s : State) (o : Output) : (s.emit o).phase = s.phase := rfl
@[simp] theorem State.emit_image (s : State) (o : Output) : (s.emit o).image = s.image := rfl
@[simp] theorem State.emit_flt (s : State) (o : Output) : (s.emit o).flt = s.flt := rfl
@[simp] theorem State.emit_anv (s : State) (o : Output) : (s.emit o).anv = s.anv := rfl
@[simp] theorem State.emit_hep (s : State) (o : Output) : (s.emit o).hep = s.hep := rfl
@[simp] theorem State.emit_disp (s : State) (o : Output) : (s.emit o).disp = s.disp := rfl
@[simp] theorem State.emit_jnl (s : State) (o : Output) : (s.emit o).jnl = s.jnl := rfl
@[simp] theorem State.emit_chn (s : State) (o : Output) : (s.emit o).chn = s.chn := rfl
@[simp] theorem State.emit_srx (s : State) (o : Output) : (s.emit o).srx = s.srx := rfl
@[simp] theorem State.emit_mm (s : State) (o : Output) : (s.emit o).mm = s.mm := rfl
@[simp] theorem State.emit_coh (s : State) (o : Output) : (s.emit o).coh = s.coh := rfl
@[simp] theorem State.emit_procs (s : State) (o : Output) : (s.emit o).procs = s.procs := rfl
@[simp] theorem State.emit_prs (s : State) (o : Output) : (s.emit o).prs = s.prs := rfl
@[simp] theorem State.emit_cru (s : State) (o : Output) : (s.emit o).cru = s.cru := rfl
@[simp] theorem State.emit_swg (s : State) (o : Output) : (s.emit o).swg = s.swg := rfl
@[simp] theorem State.emit_cip (s : State) (o : Output) : (s.emit o).cip = s.cip := rfl
@[simp] theorem State.emit_clk (s : State) (o : Output) : (s.emit o).clk = s.clk := rfl
@[simp] theorem State.emit_pwr (s : State) (o : Output) : (s.emit o).pwr = s.pwr := rfl
@[simp] theorem State.emit_pins (s : State) (o : Output) : (s.emit o).pins = s.pins := rfl
@[simp] theorem State.emit_start (s : State) (o : Output) : (s.emit o).start = s.start := rfl

@[simp] theorem State.setFn_pending (s : State) (f : Nat) (x : FnState) : (s.setFn f x).pending = s.pending := rfl
@[simp] theorem State.setFn_regs (s : State) (f : Nat) (x : FnState) : (s.setFn f x).regs = s.regs := rfl
@[simp] theorem State.setFn_mem (s : State) (f : Nat) (x : FnState) : (s.setFn f x).mem = s.mem := rfl
@[simp] theorem State.setFn_ctl (s : State) (f : Nat) (x : FnState) : (s.setFn f x).ctl = s.ctl := rfl
@[simp] theorem State.setFn_tb (s : State) (f : Nat) (x : FnState) : (s.setFn f x).tb = s.tb := rfl
@[simp] theorem State.setFn_rand (s : State) (f : Nat) (x : FnState) : (s.setFn f x).rand = s.rand := rfl
@[simp] theorem State.setFn_out (s : State) (f : Nat) (x : FnState) : (s.setFn f x).out = s.out := rfl
@[simp] theorem State.setFn_phase (s : State) (f : Nat) (x : FnState) : (s.setFn f x).phase = s.phase := rfl
@[simp] theorem State.setFn_image (s : State) (f : Nat) (x : FnState) : (s.setFn f x).image = s.image := rfl
@[simp] theorem State.setFn_flt (s : State) (f : Nat) (x : FnState) : (s.setFn f x).flt = s.flt := rfl
@[simp] theorem State.setFn_anv (s : State) (f : Nat) (x : FnState) : (s.setFn f x).anv = s.anv := rfl
@[simp] theorem State.setFn_disp (s : State) (f : Nat) (x : FnState) : (s.setFn f x).disp = s.disp := rfl
@[simp] theorem State.setFn_jnl (s : State) (f : Nat) (x : FnState) : (s.setFn f x).jnl = s.jnl := rfl
@[simp] theorem State.setFn_chn (s : State) (f : Nat) (x : FnState) : (s.setFn f x).chn = s.chn := rfl
@[simp] theorem State.setFn_srx (s : State) (f : Nat) (x : FnState) : (s.setFn f x).srx = s.srx := rfl
@[simp] theorem State.setFn_mm (s : State) (f : Nat) (x : FnState) : (s.setFn f x).mm = s.mm := rfl
@[simp] theorem State.setFn_coh (s : State) (f : Nat) (x : FnState) : (s.setFn f x).coh = s.coh := rfl
@[simp] theorem State.setFn_procs (s : State) (f : Nat) (x : FnState) : (s.setFn f x).procs = s.procs := rfl
@[simp] theorem State.setFn_prs (s : State) (f : Nat) (x : FnState) : (s.setFn f x).prs = s.prs := rfl
@[simp] theorem State.setFn_cru (s : State) (f : Nat) (x : FnState) : (s.setFn f x).cru = s.cru := rfl
@[simp] theorem State.setFn_swg (s : State) (f : Nat) (x : FnState) : (s.setFn f x).swg = s.swg := rfl
@[simp] theorem State.setFn_cip (s : State) (f : Nat) (x : FnState) : (s.setFn f x).cip = s.cip := rfl
@[simp] theorem State.setFn_clk (s : State) (f : Nat) (x : FnState) : (s.setFn f x).clk = s.clk := rfl
@[simp] theorem State.setFn_pwr (s : State) (f : Nat) (x : FnState) : (s.setFn f x).pwr = s.pwr := rfl
@[simp] theorem State.setFn_pins (s : State) (f : Nat) (x : FnState) : (s.setFn f x).pins = s.pins := rfl
@[simp] theorem State.setFn_start (s : State) (f : Nat) (x : FnState) : (s.setFn f x).start = s.start := rfl

@[simp] theorem State.setRing_pending (s : State) (k : Nat) (x : Ring) : (s.setRing k x).pending = s.pending := rfl
@[simp] theorem State.setRing_regs (s : State) (k : Nat) (x : Ring) : (s.setRing k x).regs = s.regs := rfl
@[simp] theorem State.setRing_mem (s : State) (k : Nat) (x : Ring) : (s.setRing k x).mem = s.mem := rfl
@[simp] theorem State.setRing_ctl (s : State) (k : Nat) (x : Ring) : (s.setRing k x).ctl = s.ctl := rfl
@[simp] theorem State.setRing_tb (s : State) (k : Nat) (x : Ring) : (s.setRing k x).tb = s.tb := rfl
@[simp] theorem State.setRing_rand (s : State) (k : Nat) (x : Ring) : (s.setRing k x).rand = s.rand := rfl
@[simp] theorem State.setRing_out (s : State) (k : Nat) (x : Ring) : (s.setRing k x).out = s.out := rfl
@[simp] theorem State.setRing_phase (s : State) (k : Nat) (x : Ring) : (s.setRing k x).phase = s.phase := rfl
@[simp] theorem State.setRing_image (s : State) (k : Nat) (x : Ring) : (s.setRing k x).image = s.image := rfl
@[simp] theorem State.setRing_flt (s : State) (k : Nat) (x : Ring) : (s.setRing k x).flt = s.flt := rfl
@[simp] theorem State.setRing_anv (s : State) (k : Nat) (x : Ring) : (s.setRing k x).anv = s.anv := rfl
@[simp] theorem State.setRing_hep (s : State) (k : Nat) (x : Ring) : (s.setRing k x).hep = s.hep := rfl
@[simp] theorem State.setRing_jnl (s : State) (k : Nat) (x : Ring) : (s.setRing k x).jnl = s.jnl := rfl
@[simp] theorem State.setRing_chn (s : State) (k : Nat) (x : Ring) : (s.setRing k x).chn = s.chn := rfl
@[simp] theorem State.setRing_srx (s : State) (k : Nat) (x : Ring) : (s.setRing k x).srx = s.srx := rfl
@[simp] theorem State.setRing_mm (s : State) (k : Nat) (x : Ring) : (s.setRing k x).mm = s.mm := rfl
@[simp] theorem State.setRing_coh (s : State) (k : Nat) (x : Ring) : (s.setRing k x).coh = s.coh := rfl
@[simp] theorem State.setRing_procs (s : State) (k : Nat) (x : Ring) : (s.setRing k x).procs = s.procs := rfl
@[simp] theorem State.setRing_prs (s : State) (k : Nat) (x : Ring) : (s.setRing k x).prs = s.prs := rfl
@[simp] theorem State.setRing_cru (s : State) (k : Nat) (x : Ring) : (s.setRing k x).cru = s.cru := rfl
@[simp] theorem State.setRing_swg (s : State) (k : Nat) (x : Ring) : (s.setRing k x).swg = s.swg := rfl
@[simp] theorem State.setRing_cip (s : State) (k : Nat) (x : Ring) : (s.setRing k x).cip = s.cip := rfl
@[simp] theorem State.setRing_clk (s : State) (k : Nat) (x : Ring) : (s.setRing k x).clk = s.clk := rfl
@[simp] theorem State.setRing_pwr (s : State) (k : Nat) (x : Ring) : (s.setRing k x).pwr = s.pwr := rfl
@[simp] theorem State.setRing_pins (s : State) (k : Nat) (x : Ring) : (s.setRing k x).pins = s.pins := rfl
@[simp] theorem State.setRing_start (s : State) (k : Nat) (x : Ring) : (s.setRing k x).start = s.start := rfl

@[simp] theorem State.setCq_pending (s : State) (k : Nat) (x : CplRing) : (s.setCq k x).pending = s.pending := rfl
@[simp] theorem State.setCq_regs (s : State) (k : Nat) (x : CplRing) : (s.setCq k x).regs = s.regs := rfl
@[simp] theorem State.setCq_mem (s : State) (k : Nat) (x : CplRing) : (s.setCq k x).mem = s.mem := rfl
@[simp] theorem State.setCq_ctl (s : State) (k : Nat) (x : CplRing) : (s.setCq k x).ctl = s.ctl := rfl
@[simp] theorem State.setCq_tb (s : State) (k : Nat) (x : CplRing) : (s.setCq k x).tb = s.tb := rfl
@[simp] theorem State.setCq_rand (s : State) (k : Nat) (x : CplRing) : (s.setCq k x).rand = s.rand := rfl
@[simp] theorem State.setCq_out (s : State) (k : Nat) (x : CplRing) : (s.setCq k x).out = s.out := rfl
@[simp] theorem State.setCq_phase (s : State) (k : Nat) (x : CplRing) : (s.setCq k x).phase = s.phase := rfl
@[simp] theorem State.setCq_image (s : State) (k : Nat) (x : CplRing) : (s.setCq k x).image = s.image := rfl
@[simp] theorem State.setCq_flt (s : State) (k : Nat) (x : CplRing) : (s.setCq k x).flt = s.flt := rfl
@[simp] theorem State.setCq_anv (s : State) (k : Nat) (x : CplRing) : (s.setCq k x).anv = s.anv := rfl
@[simp] theorem State.setCq_hep (s : State) (k : Nat) (x : CplRing) : (s.setCq k x).hep = s.hep := rfl
@[simp] theorem State.setCq_jnl (s : State) (k : Nat) (x : CplRing) : (s.setCq k x).jnl = s.jnl := rfl
@[simp] theorem State.setCq_chn (s : State) (k : Nat) (x : CplRing) : (s.setCq k x).chn = s.chn := rfl
@[simp] theorem State.setCq_srx (s : State) (k : Nat) (x : CplRing) : (s.setCq k x).srx = s.srx := rfl
@[simp] theorem State.setCq_mm (s : State) (k : Nat) (x : CplRing) : (s.setCq k x).mm = s.mm := rfl
@[simp] theorem State.setCq_coh (s : State) (k : Nat) (x : CplRing) : (s.setCq k x).coh = s.coh := rfl
@[simp] theorem State.setCq_procs (s : State) (k : Nat) (x : CplRing) : (s.setCq k x).procs = s.procs := rfl
@[simp] theorem State.setCq_prs (s : State) (k : Nat) (x : CplRing) : (s.setCq k x).prs = s.prs := rfl
@[simp] theorem State.setCq_cru (s : State) (k : Nat) (x : CplRing) : (s.setCq k x).cru = s.cru := rfl
@[simp] theorem State.setCq_swg (s : State) (k : Nat) (x : CplRing) : (s.setCq k x).swg = s.swg := rfl
@[simp] theorem State.setCq_cip (s : State) (k : Nat) (x : CplRing) : (s.setCq k x).cip = s.cip := rfl
@[simp] theorem State.setCq_clk (s : State) (k : Nat) (x : CplRing) : (s.setCq k x).clk = s.clk := rfl
@[simp] theorem State.setCq_pwr (s : State) (k : Nat) (x : CplRing) : (s.setCq k x).pwr = s.pwr := rfl
@[simp] theorem State.setCq_pins (s : State) (k : Nat) (x : CplRing) : (s.setCq k x).pins = s.pins := rfl
@[simp] theorem State.setCq_start (s : State) (k : Nat) (x : CplRing) : (s.setCq k x).start = s.start := rfl

@[simp] theorem State.setUnit_pending (s : State) (k : Nat) (u : WorkUnit) : (s.setUnit k u).pending = s.pending := rfl
@[simp] theorem State.setUnit_regs (s : State) (k : Nat) (u : WorkUnit) : (s.setUnit k u).regs = s.regs := rfl
@[simp] theorem State.setUnit_mem (s : State) (k : Nat) (u : WorkUnit) : (s.setUnit k u).mem = s.mem := rfl
@[simp] theorem State.setUnit_ctl (s : State) (k : Nat) (u : WorkUnit) : (s.setUnit k u).ctl = s.ctl := rfl
@[simp] theorem State.setUnit_tb (s : State) (k : Nat) (u : WorkUnit) : (s.setUnit k u).tb = s.tb := rfl
@[simp] theorem State.setUnit_rand (s : State) (k : Nat) (u : WorkUnit) : (s.setUnit k u).rand = s.rand := rfl
@[simp] theorem State.setUnit_out (s : State) (k : Nat) (u : WorkUnit) : (s.setUnit k u).out = s.out := rfl
@[simp] theorem State.setUnit_phase (s : State) (k : Nat) (u : WorkUnit) : (s.setUnit k u).phase = s.phase := rfl
@[simp] theorem State.setUnit_image (s : State) (k : Nat) (u : WorkUnit) : (s.setUnit k u).image = s.image := rfl
@[simp] theorem State.setUnit_flt (s : State) (k : Nat) (u : WorkUnit) : (s.setUnit k u).flt = s.flt := rfl
@[simp] theorem State.setUnit_anv (s : State) (k : Nat) (u : WorkUnit) : (s.setUnit k u).anv = s.anv := rfl
@[simp] theorem State.setUnit_hep (s : State) (k : Nat) (u : WorkUnit) : (s.setUnit k u).hep = s.hep := rfl
@[simp] theorem State.setUnit_jnl (s : State) (k : Nat) (u : WorkUnit) : (s.setUnit k u).jnl = s.jnl := rfl
@[simp] theorem State.setUnit_chn (s : State) (k : Nat) (u : WorkUnit) : (s.setUnit k u).chn = s.chn := rfl
@[simp] theorem State.setUnit_srx (s : State) (k : Nat) (u : WorkUnit) : (s.setUnit k u).srx = s.srx := rfl
@[simp] theorem State.setUnit_mm (s : State) (k : Nat) (u : WorkUnit) : (s.setUnit k u).mm = s.mm := rfl
@[simp] theorem State.setUnit_coh (s : State) (k : Nat) (u : WorkUnit) : (s.setUnit k u).coh = s.coh := rfl
@[simp] theorem State.setUnit_procs (s : State) (k : Nat) (u : WorkUnit) : (s.setUnit k u).procs = s.procs := rfl
@[simp] theorem State.setUnit_prs (s : State) (k : Nat) (u : WorkUnit) : (s.setUnit k u).prs = s.prs := rfl
@[simp] theorem State.setUnit_cru (s : State) (k : Nat) (u : WorkUnit) : (s.setUnit k u).cru = s.cru := rfl
@[simp] theorem State.setUnit_swg (s : State) (k : Nat) (u : WorkUnit) : (s.setUnit k u).swg = s.swg := rfl
@[simp] theorem State.setUnit_cip (s : State) (k : Nat) (u : WorkUnit) : (s.setUnit k u).cip = s.cip := rfl
@[simp] theorem State.setUnit_clk (s : State) (k : Nat) (u : WorkUnit) : (s.setUnit k u).clk = s.clk := rfl
@[simp] theorem State.setUnit_pwr (s : State) (k : Nat) (u : WorkUnit) : (s.setUnit k u).pwr = s.pwr := rfl
@[simp] theorem State.setUnit_pins (s : State) (k : Nat) (u : WorkUnit) : (s.setUnit k u).pins = s.pins := rfl
@[simp] theorem State.setUnit_start (s : State) (k : Nat) (u : WorkUnit) : (s.setUnit k u).start = s.start := rfl

@[simp] theorem State.delUnit_pending (s : State) (k : Nat) : (s.delUnit k).pending = s.pending := rfl
@[simp] theorem State.delUnit_regs (s : State) (k : Nat) : (s.delUnit k).regs = s.regs := rfl
@[simp] theorem State.delUnit_mem (s : State) (k : Nat) : (s.delUnit k).mem = s.mem := rfl
@[simp] theorem State.delUnit_ctl (s : State) (k : Nat) : (s.delUnit k).ctl = s.ctl := rfl
@[simp] theorem State.delUnit_tb (s : State) (k : Nat) : (s.delUnit k).tb = s.tb := rfl
@[simp] theorem State.delUnit_rand (s : State) (k : Nat) : (s.delUnit k).rand = s.rand := rfl
@[simp] theorem State.delUnit_out (s : State) (k : Nat) : (s.delUnit k).out = s.out := rfl
@[simp] theorem State.delUnit_phase (s : State) (k : Nat) : (s.delUnit k).phase = s.phase := rfl
@[simp] theorem State.delUnit_image (s : State) (k : Nat) : (s.delUnit k).image = s.image := rfl
@[simp] theorem State.delUnit_flt (s : State) (k : Nat) : (s.delUnit k).flt = s.flt := rfl
@[simp] theorem State.delUnit_anv (s : State) (k : Nat) : (s.delUnit k).anv = s.anv := rfl
@[simp] theorem State.delUnit_hep (s : State) (k : Nat) : (s.delUnit k).hep = s.hep := rfl
@[simp] theorem State.delUnit_jnl (s : State) (k : Nat) : (s.delUnit k).jnl = s.jnl := rfl
@[simp] theorem State.delUnit_chn (s : State) (k : Nat) : (s.delUnit k).chn = s.chn := rfl
@[simp] theorem State.delUnit_srx (s : State) (k : Nat) : (s.delUnit k).srx = s.srx := rfl
@[simp] theorem State.delUnit_mm (s : State) (k : Nat) : (s.delUnit k).mm = s.mm := rfl
@[simp] theorem State.delUnit_coh (s : State) (k : Nat) : (s.delUnit k).coh = s.coh := rfl
@[simp] theorem State.delUnit_procs (s : State) (k : Nat) : (s.delUnit k).procs = s.procs := rfl
@[simp] theorem State.delUnit_prs (s : State) (k : Nat) : (s.delUnit k).prs = s.prs := rfl
@[simp] theorem State.delUnit_cru (s : State) (k : Nat) : (s.delUnit k).cru = s.cru := rfl
@[simp] theorem State.delUnit_swg (s : State) (k : Nat) : (s.delUnit k).swg = s.swg := rfl
@[simp] theorem State.delUnit_cip (s : State) (k : Nat) : (s.delUnit k).cip = s.cip := rfl
@[simp] theorem State.delUnit_clk (s : State) (k : Nat) : (s.delUnit k).clk = s.clk := rfl
@[simp] theorem State.delUnit_pwr (s : State) (k : Nat) : (s.delUnit k).pwr = s.pwr := rfl
@[simp] theorem State.delUnit_pins (s : State) (k : Nat) : (s.delUnit k).pins = s.pins := rfl
@[simp] theorem State.delUnit_start (s : State) (k : Nat) : (s.delUnit k).start = s.start := rfl

@[simp] theorem State.setRun_pending (s : State) (e : Nat) (r : ExecRun) : (s.setRun e r).pending = s.pending := rfl
@[simp] theorem State.setRun_regs (s : State) (e : Nat) (r : ExecRun) : (s.setRun e r).regs = s.regs := rfl
@[simp] theorem State.setRun_mem (s : State) (e : Nat) (r : ExecRun) : (s.setRun e r).mem = s.mem := rfl
@[simp] theorem State.setRun_ctl (s : State) (e : Nat) (r : ExecRun) : (s.setRun e r).ctl = s.ctl := rfl
@[simp] theorem State.setRun_tb (s : State) (e : Nat) (r : ExecRun) : (s.setRun e r).tb = s.tb := rfl
@[simp] theorem State.setRun_rand (s : State) (e : Nat) (r : ExecRun) : (s.setRun e r).rand = s.rand := rfl
@[simp] theorem State.setRun_out (s : State) (e : Nat) (r : ExecRun) : (s.setRun e r).out = s.out := rfl
@[simp] theorem State.setRun_phase (s : State) (e : Nat) (r : ExecRun) : (s.setRun e r).phase = s.phase := rfl
@[simp] theorem State.setRun_image (s : State) (e : Nat) (r : ExecRun) : (s.setRun e r).image = s.image := rfl
@[simp] theorem State.setRun_flt (s : State) (e : Nat) (r : ExecRun) : (s.setRun e r).flt = s.flt := rfl
@[simp] theorem State.setRun_anv (s : State) (e : Nat) (r : ExecRun) : (s.setRun e r).anv = s.anv := rfl
@[simp] theorem State.setRun_hep (s : State) (e : Nat) (r : ExecRun) : (s.setRun e r).hep = s.hep := rfl
@[simp] theorem State.setRun_jnl (s : State) (e : Nat) (r : ExecRun) : (s.setRun e r).jnl = s.jnl := rfl
@[simp] theorem State.setRun_chn (s : State) (e : Nat) (r : ExecRun) : (s.setRun e r).chn = s.chn := rfl
@[simp] theorem State.setRun_srx (s : State) (e : Nat) (r : ExecRun) : (s.setRun e r).srx = s.srx := rfl
@[simp] theorem State.setRun_mm (s : State) (e : Nat) (r : ExecRun) : (s.setRun e r).mm = s.mm := rfl
@[simp] theorem State.setRun_coh (s : State) (e : Nat) (r : ExecRun) : (s.setRun e r).coh = s.coh := rfl
@[simp] theorem State.setRun_procs (s : State) (e : Nat) (r : ExecRun) : (s.setRun e r).procs = s.procs := rfl
@[simp] theorem State.setRun_prs (s : State) (e : Nat) (r : ExecRun) : (s.setRun e r).prs = s.prs := rfl
@[simp] theorem State.setRun_cru (s : State) (e : Nat) (r : ExecRun) : (s.setRun e r).cru = s.cru := rfl
@[simp] theorem State.setRun_swg (s : State) (e : Nat) (r : ExecRun) : (s.setRun e r).swg = s.swg := rfl
@[simp] theorem State.setRun_cip (s : State) (e : Nat) (r : ExecRun) : (s.setRun e r).cip = s.cip := rfl
@[simp] theorem State.setRun_clk (s : State) (e : Nat) (r : ExecRun) : (s.setRun e r).clk = s.clk := rfl
@[simp] theorem State.setRun_pwr (s : State) (e : Nat) (r : ExecRun) : (s.setRun e r).pwr = s.pwr := rfl
@[simp] theorem State.setRun_pins (s : State) (e : Nat) (r : ExecRun) : (s.setRun e r).pins = s.pins := rfl
@[simp] theorem State.setRun_start (s : State) (e : Nat) (r : ExecRun) : (s.setRun e r).start = s.start := rfl

@[simp] theorem State.setAssoc_pending (s : State) (a : Nat) (x : Assoc) : (s.setAssoc a x).pending = s.pending := rfl
@[simp] theorem State.setAssoc_regs (s : State) (a : Nat) (x : Assoc) : (s.setAssoc a x).regs = s.regs := rfl
@[simp] theorem State.setAssoc_mem (s : State) (a : Nat) (x : Assoc) : (s.setAssoc a x).mem = s.mem := rfl
@[simp] theorem State.setAssoc_ctl (s : State) (a : Nat) (x : Assoc) : (s.setAssoc a x).ctl = s.ctl := rfl
@[simp] theorem State.setAssoc_tb (s : State) (a : Nat) (x : Assoc) : (s.setAssoc a x).tb = s.tb := rfl
@[simp] theorem State.setAssoc_rand (s : State) (a : Nat) (x : Assoc) : (s.setAssoc a x).rand = s.rand := rfl
@[simp] theorem State.setAssoc_out (s : State) (a : Nat) (x : Assoc) : (s.setAssoc a x).out = s.out := rfl
@[simp] theorem State.setAssoc_phase (s : State) (a : Nat) (x : Assoc) : (s.setAssoc a x).phase = s.phase := rfl
@[simp] theorem State.setAssoc_image (s : State) (a : Nat) (x : Assoc) : (s.setAssoc a x).image = s.image := rfl
@[simp] theorem State.setAssoc_flt (s : State) (a : Nat) (x : Assoc) : (s.setAssoc a x).flt = s.flt := rfl
@[simp] theorem State.setAssoc_anv (s : State) (a : Nat) (x : Assoc) : (s.setAssoc a x).anv = s.anv := rfl
@[simp] theorem State.setAssoc_hep (s : State) (a : Nat) (x : Assoc) : (s.setAssoc a x).hep = s.hep := rfl
@[simp] theorem State.setAssoc_disp (s : State) (a : Nat) (x : Assoc) : (s.setAssoc a x).disp = s.disp := rfl
@[simp] theorem State.setAssoc_jnl (s : State) (a : Nat) (x : Assoc) : (s.setAssoc a x).jnl = s.jnl := rfl
@[simp] theorem State.setAssoc_chn (s : State) (a : Nat) (x : Assoc) : (s.setAssoc a x).chn = s.chn := rfl
@[simp] theorem State.setAssoc_mm (s : State) (a : Nat) (x : Assoc) : (s.setAssoc a x).mm = s.mm := rfl
@[simp] theorem State.setAssoc_coh (s : State) (a : Nat) (x : Assoc) : (s.setAssoc a x).coh = s.coh := rfl
@[simp] theorem State.setAssoc_procs (s : State) (a : Nat) (x : Assoc) : (s.setAssoc a x).procs = s.procs := rfl
@[simp] theorem State.setAssoc_prs (s : State) (a : Nat) (x : Assoc) : (s.setAssoc a x).prs = s.prs := rfl
@[simp] theorem State.setAssoc_cru (s : State) (a : Nat) (x : Assoc) : (s.setAssoc a x).cru = s.cru := rfl
@[simp] theorem State.setAssoc_swg (s : State) (a : Nat) (x : Assoc) : (s.setAssoc a x).swg = s.swg := rfl
@[simp] theorem State.setAssoc_cip (s : State) (a : Nat) (x : Assoc) : (s.setAssoc a x).cip = s.cip := rfl
@[simp] theorem State.setAssoc_clk (s : State) (a : Nat) (x : Assoc) : (s.setAssoc a x).clk = s.clk := rfl
@[simp] theorem State.setAssoc_pwr (s : State) (a : Nat) (x : Assoc) : (s.setAssoc a x).pwr = s.pwr := rfl
@[simp] theorem State.setAssoc_pins (s : State) (a : Nat) (x : Assoc) : (s.setAssoc a x).pins = s.pins := rfl
@[simp] theorem State.setAssoc_start (s : State) (a : Nat) (x : Assoc) : (s.setAssoc a x).start = s.start := rfl

@[simp] theorem State.setEngine_pending (s : State) (e : Nat) (x : ChanEngine) : (s.setEngine e x).pending = s.pending := rfl
@[simp] theorem State.setEngine_regs (s : State) (e : Nat) (x : ChanEngine) : (s.setEngine e x).regs = s.regs := rfl
@[simp] theorem State.setEngine_mem (s : State) (e : Nat) (x : ChanEngine) : (s.setEngine e x).mem = s.mem := rfl
@[simp] theorem State.setEngine_ctl (s : State) (e : Nat) (x : ChanEngine) : (s.setEngine e x).ctl = s.ctl := rfl
@[simp] theorem State.setEngine_tb (s : State) (e : Nat) (x : ChanEngine) : (s.setEngine e x).tb = s.tb := rfl
@[simp] theorem State.setEngine_rand (s : State) (e : Nat) (x : ChanEngine) : (s.setEngine e x).rand = s.rand := rfl
@[simp] theorem State.setEngine_out (s : State) (e : Nat) (x : ChanEngine) : (s.setEngine e x).out = s.out := rfl
@[simp] theorem State.setEngine_phase (s : State) (e : Nat) (x : ChanEngine) : (s.setEngine e x).phase = s.phase := rfl
@[simp] theorem State.setEngine_image (s : State) (e : Nat) (x : ChanEngine) : (s.setEngine e x).image = s.image := rfl
@[simp] theorem State.setEngine_flt (s : State) (e : Nat) (x : ChanEngine) : (s.setEngine e x).flt = s.flt := rfl
@[simp] theorem State.setEngine_anv (s : State) (e : Nat) (x : ChanEngine) : (s.setEngine e x).anv = s.anv := rfl
@[simp] theorem State.setEngine_hep (s : State) (e : Nat) (x : ChanEngine) : (s.setEngine e x).hep = s.hep := rfl
@[simp] theorem State.setEngine_disp (s : State) (e : Nat) (x : ChanEngine) : (s.setEngine e x).disp = s.disp := rfl
@[simp] theorem State.setEngine_jnl (s : State) (e : Nat) (x : ChanEngine) : (s.setEngine e x).jnl = s.jnl := rfl
@[simp] theorem State.setEngine_srx (s : State) (e : Nat) (x : ChanEngine) : (s.setEngine e x).srx = s.srx := rfl
@[simp] theorem State.setEngine_mm (s : State) (e : Nat) (x : ChanEngine) : (s.setEngine e x).mm = s.mm := rfl
@[simp] theorem State.setEngine_coh (s : State) (e : Nat) (x : ChanEngine) : (s.setEngine e x).coh = s.coh := rfl
@[simp] theorem State.setEngine_procs (s : State) (e : Nat) (x : ChanEngine) : (s.setEngine e x).procs = s.procs := rfl
@[simp] theorem State.setEngine_prs (s : State) (e : Nat) (x : ChanEngine) : (s.setEngine e x).prs = s.prs := rfl
@[simp] theorem State.setEngine_cru (s : State) (e : Nat) (x : ChanEngine) : (s.setEngine e x).cru = s.cru := rfl
@[simp] theorem State.setEngine_swg (s : State) (e : Nat) (x : ChanEngine) : (s.setEngine e x).swg = s.swg := rfl
@[simp] theorem State.setEngine_cip (s : State) (e : Nat) (x : ChanEngine) : (s.setEngine e x).cip = s.cip := rfl
@[simp] theorem State.setEngine_clk (s : State) (e : Nat) (x : ChanEngine) : (s.setEngine e x).clk = s.clk := rfl
@[simp] theorem State.setEngine_pwr (s : State) (e : Nat) (x : ChanEngine) : (s.setEngine e x).pwr = s.pwr := rfl
@[simp] theorem State.setEngine_pins (s : State) (e : Nat) (x : ChanEngine) : (s.setEngine e x).pins = s.pins := rfl
@[simp] theorem State.setEngine_start (s : State) (e : Nat) (x : ChanEngine) : (s.setEngine e x).start = s.start := rfl

@[simp] theorem State.setProc_pending (s : State) (n : Nat) (x : ProcState) : (s.setProc n x).pending = s.pending := rfl
@[simp] theorem State.setProc_regs (s : State) (n : Nat) (x : ProcState) : (s.setProc n x).regs = s.regs := rfl
@[simp] theorem State.setProc_mem (s : State) (n : Nat) (x : ProcState) : (s.setProc n x).mem = s.mem := rfl
@[simp] theorem State.setProc_ctl (s : State) (n : Nat) (x : ProcState) : (s.setProc n x).ctl = s.ctl := rfl
@[simp] theorem State.setProc_tb (s : State) (n : Nat) (x : ProcState) : (s.setProc n x).tb = s.tb := rfl
@[simp] theorem State.setProc_rand (s : State) (n : Nat) (x : ProcState) : (s.setProc n x).rand = s.rand := rfl
@[simp] theorem State.setProc_out (s : State) (n : Nat) (x : ProcState) : (s.setProc n x).out = s.out := rfl
@[simp] theorem State.setProc_phase (s : State) (n : Nat) (x : ProcState) : (s.setProc n x).phase = s.phase := rfl
@[simp] theorem State.setProc_image (s : State) (n : Nat) (x : ProcState) : (s.setProc n x).image = s.image := rfl
@[simp] theorem State.setProc_flt (s : State) (n : Nat) (x : ProcState) : (s.setProc n x).flt = s.flt := rfl
@[simp] theorem State.setProc_anv (s : State) (n : Nat) (x : ProcState) : (s.setProc n x).anv = s.anv := rfl
@[simp] theorem State.setProc_hep (s : State) (n : Nat) (x : ProcState) : (s.setProc n x).hep = s.hep := rfl
@[simp] theorem State.setProc_disp (s : State) (n : Nat) (x : ProcState) : (s.setProc n x).disp = s.disp := rfl
@[simp] theorem State.setProc_jnl (s : State) (n : Nat) (x : ProcState) : (s.setProc n x).jnl = s.jnl := rfl
@[simp] theorem State.setProc_chn (s : State) (n : Nat) (x : ProcState) : (s.setProc n x).chn = s.chn := rfl
@[simp] theorem State.setProc_srx (s : State) (n : Nat) (x : ProcState) : (s.setProc n x).srx = s.srx := rfl
@[simp] theorem State.setProc_mm (s : State) (n : Nat) (x : ProcState) : (s.setProc n x).mm = s.mm := rfl
@[simp] theorem State.setProc_coh (s : State) (n : Nat) (x : ProcState) : (s.setProc n x).coh = s.coh := rfl
@[simp] theorem State.setProc_prs (s : State) (n : Nat) (x : ProcState) : (s.setProc n x).prs = s.prs := rfl
@[simp] theorem State.setProc_cru (s : State) (n : Nat) (x : ProcState) : (s.setProc n x).cru = s.cru := rfl
@[simp] theorem State.setProc_swg (s : State) (n : Nat) (x : ProcState) : (s.setProc n x).swg = s.swg := rfl
@[simp] theorem State.setProc_cip (s : State) (n : Nat) (x : ProcState) : (s.setProc n x).cip = s.cip := rfl
@[simp] theorem State.setProc_clk (s : State) (n : Nat) (x : ProcState) : (s.setProc n x).clk = s.clk := rfl
@[simp] theorem State.setProc_pwr (s : State) (n : Nat) (x : ProcState) : (s.setProc n x).pwr = s.pwr := rfl
@[simp] theorem State.setProc_pins (s : State) (n : Nat) (x : ProcState) : (s.setProc n x).pins = s.pins := rfl
@[simp] theorem State.setProc_start (s : State) (n : Nat) (x : ProcState) : (s.setProc n x).start = s.start := rfl

@[simp] theorem State.setPartner_pending (s : State) (k : Nat) (x : Partner) : (s.setPartner k x).pending = s.pending := rfl
@[simp] theorem State.setPartner_regs (s : State) (k : Nat) (x : Partner) : (s.setPartner k x).regs = s.regs := rfl
@[simp] theorem State.setPartner_mem (s : State) (k : Nat) (x : Partner) : (s.setPartner k x).mem = s.mem := rfl
@[simp] theorem State.setPartner_ctl (s : State) (k : Nat) (x : Partner) : (s.setPartner k x).ctl = s.ctl := rfl
@[simp] theorem State.setPartner_tb (s : State) (k : Nat) (x : Partner) : (s.setPartner k x).tb = s.tb := rfl
@[simp] theorem State.setPartner_rand (s : State) (k : Nat) (x : Partner) : (s.setPartner k x).rand = s.rand := rfl
@[simp] theorem State.setPartner_out (s : State) (k : Nat) (x : Partner) : (s.setPartner k x).out = s.out := rfl
@[simp] theorem State.setPartner_phase (s : State) (k : Nat) (x : Partner) : (s.setPartner k x).phase = s.phase := rfl
@[simp] theorem State.setPartner_image (s : State) (k : Nat) (x : Partner) : (s.setPartner k x).image = s.image := rfl
@[simp] theorem State.setPartner_flt (s : State) (k : Nat) (x : Partner) : (s.setPartner k x).flt = s.flt := rfl
@[simp] theorem State.setPartner_anv (s : State) (k : Nat) (x : Partner) : (s.setPartner k x).anv = s.anv := rfl
@[simp] theorem State.setPartner_hep (s : State) (k : Nat) (x : Partner) : (s.setPartner k x).hep = s.hep := rfl
@[simp] theorem State.setPartner_disp (s : State) (k : Nat) (x : Partner) : (s.setPartner k x).disp = s.disp := rfl
@[simp] theorem State.setPartner_chn (s : State) (k : Nat) (x : Partner) : (s.setPartner k x).chn = s.chn := rfl
@[simp] theorem State.setPartner_srx (s : State) (k : Nat) (x : Partner) : (s.setPartner k x).srx = s.srx := rfl
@[simp] theorem State.setPartner_mm (s : State) (k : Nat) (x : Partner) : (s.setPartner k x).mm = s.mm := rfl
@[simp] theorem State.setPartner_coh (s : State) (k : Nat) (x : Partner) : (s.setPartner k x).coh = s.coh := rfl
@[simp] theorem State.setPartner_procs (s : State) (k : Nat) (x : Partner) : (s.setPartner k x).procs = s.procs := rfl
@[simp] theorem State.setPartner_prs (s : State) (k : Nat) (x : Partner) : (s.setPartner k x).prs = s.prs := rfl
@[simp] theorem State.setPartner_cru (s : State) (k : Nat) (x : Partner) : (s.setPartner k x).cru = s.cru := rfl
@[simp] theorem State.setPartner_swg (s : State) (k : Nat) (x : Partner) : (s.setPartner k x).swg = s.swg := rfl
@[simp] theorem State.setPartner_cip (s : State) (k : Nat) (x : Partner) : (s.setPartner k x).cip = s.cip := rfl
@[simp] theorem State.setPartner_clk (s : State) (k : Nat) (x : Partner) : (s.setPartner k x).clk = s.clk := rfl
@[simp] theorem State.setPartner_pwr (s : State) (k : Nat) (x : Partner) : (s.setPartner k x).pwr = s.pwr := rfl
@[simp] theorem State.setPartner_pins (s : State) (k : Nat) (x : Partner) : (s.setPartner k x).pins = s.pins := rfl
@[simp] theorem State.setPartner_start (s : State) (k : Nat) (x : Partner) : (s.setPartner k x).start = s.start := rfl

@[simp] theorem State.ctlPut_pending (s : State) (a : Nat) (b : Byte) : (s.ctlPut a b).pending = s.pending := rfl
@[simp] theorem State.ctlPut_regs (s : State) (a : Nat) (b : Byte) : (s.ctlPut a b).regs = s.regs := rfl
@[simp] theorem State.ctlPut_mem (s : State) (a : Nat) (b : Byte) : (s.ctlPut a b).mem = s.mem := rfl
@[simp] theorem State.ctlPut_tb (s : State) (a : Nat) (b : Byte) : (s.ctlPut a b).tb = s.tb := rfl
@[simp] theorem State.ctlPut_rand (s : State) (a : Nat) (b : Byte) : (s.ctlPut a b).rand = s.rand := rfl
@[simp] theorem State.ctlPut_out (s : State) (a : Nat) (b : Byte) : (s.ctlPut a b).out = s.out := rfl
@[simp] theorem State.ctlPut_phase (s : State) (a : Nat) (b : Byte) : (s.ctlPut a b).phase = s.phase := rfl
@[simp] theorem State.ctlPut_image (s : State) (a : Nat) (b : Byte) : (s.ctlPut a b).image = s.image := rfl
@[simp] theorem State.ctlPut_flt (s : State) (a : Nat) (b : Byte) : (s.ctlPut a b).flt = s.flt := rfl
@[simp] theorem State.ctlPut_anv (s : State) (a : Nat) (b : Byte) : (s.ctlPut a b).anv = s.anv := rfl
@[simp] theorem State.ctlPut_hep (s : State) (a : Nat) (b : Byte) : (s.ctlPut a b).hep = s.hep := rfl
@[simp] theorem State.ctlPut_disp (s : State) (a : Nat) (b : Byte) : (s.ctlPut a b).disp = s.disp := rfl
@[simp] theorem State.ctlPut_jnl (s : State) (a : Nat) (b : Byte) : (s.ctlPut a b).jnl = s.jnl := rfl
@[simp] theorem State.ctlPut_chn (s : State) (a : Nat) (b : Byte) : (s.ctlPut a b).chn = s.chn := rfl
@[simp] theorem State.ctlPut_srx (s : State) (a : Nat) (b : Byte) : (s.ctlPut a b).srx = s.srx := rfl
@[simp] theorem State.ctlPut_mm (s : State) (a : Nat) (b : Byte) : (s.ctlPut a b).mm = s.mm := rfl
@[simp] theorem State.ctlPut_coh (s : State) (a : Nat) (b : Byte) : (s.ctlPut a b).coh = s.coh := rfl
@[simp] theorem State.ctlPut_procs (s : State) (a : Nat) (b : Byte) : (s.ctlPut a b).procs = s.procs := rfl
@[simp] theorem State.ctlPut_prs (s : State) (a : Nat) (b : Byte) : (s.ctlPut a b).prs = s.prs := rfl
@[simp] theorem State.ctlPut_cru (s : State) (a : Nat) (b : Byte) : (s.ctlPut a b).cru = s.cru := rfl
@[simp] theorem State.ctlPut_swg (s : State) (a : Nat) (b : Byte) : (s.ctlPut a b).swg = s.swg := rfl
@[simp] theorem State.ctlPut_cip (s : State) (a : Nat) (b : Byte) : (s.ctlPut a b).cip = s.cip := rfl
@[simp] theorem State.ctlPut_clk (s : State) (a : Nat) (b : Byte) : (s.ctlPut a b).clk = s.clk := rfl
@[simp] theorem State.ctlPut_pwr (s : State) (a : Nat) (b : Byte) : (s.ctlPut a b).pwr = s.pwr := rfl
@[simp] theorem State.ctlPut_pins (s : State) (a : Nat) (b : Byte) : (s.ctlPut a b).pins = s.pins := rfl
@[simp] theorem State.ctlPut_start (s : State) (a : Nat) (b : Byte) : (s.ctlPut a b).start = s.start := rfl

end Sys2Proof.Machine
end

