-- ==== Sys2Proof/Laws/Table.lean ====
section
/-!
SUPPORT. Laws of the sparse tables: reading after writing, and the canonical form that every write keeps.
-/
namespace Sys2Proof

variable {α : Type}

@[simp] theorem Tbl.get_nil (d : α) (j : Nat) : Tbl.get d [] j = d := rfl

theorem Tbl.get_del (d : α) (t : Tbl α) (k j : Nat) :
    Tbl.get d (Tbl.del t k) j = if j = k then d else Tbl.get d t j := by
  induction t with
  | nil => simp [Tbl.del, Tbl.get]
  | cons e t ih =>
    obtain ⟨k', v⟩ := e
    by_cases h : k' = k <;> by_cases h' : k' = j <;> simp_all [Tbl.del, Tbl.get]
    all_goals (try split) <;> simp_all

theorem Tbl.get_ins (d : α) (t : Tbl α) (k j : Nat) (v : α) :
    Tbl.get d (Tbl.ins t k v) j = if j = k then v else Tbl.get d t j := by
  induction t with
  | nil => simp [Tbl.ins, Tbl.get, eq_comm]
  | cons e t ih =>
    obtain ⟨k', v'⟩ := e
    unfold Tbl.ins
    split
    · subst_vars; simp only [Tbl.get]; split_ifs <;> first | rfl | omega
    · split
      · simp [Tbl.get, eq_comm]
      · simp only [Tbl.get, ih]; split <;> simp_all

theorem Tbl.get_set [DecidableEq α] (d : α) (t : Tbl α) (k j : Nat) (v : α) :
    Tbl.get d (Tbl.set d t k v) j = if j = k then v else Tbl.get d t j := by
  unfold Tbl.set
  split
  · subst_vars; rw [Tbl.get_del]
  · rw [Tbl.get_ins]

@[simp] theorem Tbl.get_set_self [DecidableEq α] (d : α) (t : Tbl α) (k : Nat) (v : α) :
    Tbl.get d (Tbl.set d t k v) k = v := by simp [Tbl.get_set]

theorem Tbl.get_set_ne [DecidableEq α] (d : α) (t : Tbl α) {k j : Nat} (v : α) (h : j ≠ k) :
    Tbl.get d (Tbl.set d t k v) j = Tbl.get d t j := by simp [Tbl.get_set, h]

/-- Every key of the table lies above `n`. -/
def Tbl.above (n : Nat) (t : Tbl α) : Prop := ∀ e ∈ t, n < e.1

/-- The canonical form, read from the head: the head's value is listed rightly, every later key is larger, and the
rest is canonical. -/
theorem Tbl.wf_cons [DecidableEq α] (d v : α) (k : Nat) (t : Tbl α) :
    Tbl.wf d ((k, v) :: t) = true ↔ v ≠ d ∧ Tbl.above k t ∧ Tbl.wf d t = true := by
  induction t generalizing k v with
  | nil => simp [Tbl.wf, Tbl.above]
  | cons e t ih =>
    obtain ⟨k', v'⟩ := e
    simp only [Tbl.wf, Bool.and_eq_true, decide_eq_true_eq, Tbl.above, List.mem_cons, forall_eq_or_imp]
    constructor
    · rintro ⟨⟨h1, h2⟩, h3⟩
      obtain ⟨_, ha, _⟩ := (ih v' k').1 h3
      exact ⟨h1, ⟨h2, fun e he => lt_trans h2 (ha e he)⟩, h3⟩
    · rintro ⟨h1, ⟨h2, _⟩, h3⟩
      exact ⟨⟨h1, h2⟩, h3⟩

theorem Tbl.mem_del {t : Tbl α} {k : Nat} {e : Nat × α} (h : e ∈ Tbl.del t k) : e ∈ t := by
  induction t with
  | nil => simp [Tbl.del] at h
  | cons x t ih =>
    obtain ⟨k', v⟩ := x
    unfold Tbl.del at h
    split at h
    · exact List.mem_cons_of_mem _ (ih h)
    · rcases List.mem_cons.1 h with rfl | h
      · exact List.mem_cons_self
      · exact List.mem_cons_of_mem _ (ih h)

theorem Tbl.wf_del [DecidableEq α] (d : α) {t : Tbl α} (h : Tbl.wf d t = true) (k : Nat) :
    Tbl.wf d (Tbl.del t k) = true := by
  induction t with
  | nil => rfl
  | cons e t ih =>
    obtain ⟨k', v⟩ := e
    obtain ⟨h1, h2, h3⟩ := (Tbl.wf_cons _ _ _ _).1 h
    unfold Tbl.del
    split
    · exact ih h3
    · exact (Tbl.wf_cons _ _ _ _).2 ⟨h1, fun e he => h2 e (Tbl.mem_del he), ih h3⟩

theorem Tbl.mem_ins {t : Tbl α} {k : Nat} {v : α} {e : Nat × α} (h : e ∈ Tbl.ins t k v) : e = (k, v) ∨ e ∈ t := by
  induction t with
  | nil => simpa [Tbl.ins] using h
  | cons x t ih =>
    obtain ⟨k', v'⟩ := x
    unfold Tbl.ins at h
    split at h
    · rcases List.mem_cons.1 h with h | h
      · exact .inl h
      · exact .inr (List.mem_cons_of_mem _ h)
    · split at h
      · rcases List.mem_cons.1 h with h | h
        · exact .inl h
        · exact .inr h
      · rcases List.mem_cons.1 h with h | h
        · exact .inr (h ▸ List.mem_cons_self)
        · rcases ih h with h | h
          · exact .inl h
          · exact .inr (List.mem_cons_of_mem _ h)

theorem Tbl.wf_ins [DecidableEq α] (d : α) {t : Tbl α} (h : Tbl.wf d t = true) (k : Nat) {v : α} (hv : v ≠ d) :
    Tbl.wf d (Tbl.ins t k v) = true := by
  induction t with
  | nil => simp [Tbl.ins, Tbl.wf, hv]
  | cons e t ih =>
    obtain ⟨k', v'⟩ := e
    obtain ⟨h1, h2, h3⟩ := (Tbl.wf_cons _ _ _ _).1 h
    unfold Tbl.ins
    split
    · subst_vars; exact (Tbl.wf_cons _ _ _ _).2 ⟨hv, h2, h3⟩
    · split
      · rename_i hk
        refine (Tbl.wf_cons _ _ _ _).2 ⟨hv, ?_, h⟩
        intro e he
        rcases List.mem_cons.1 he with rfl | he
        · exact hk
        · exact lt_trans hk (h2 e he)
      · refine (Tbl.wf_cons _ _ _ _).2 ⟨h1, ?_, ih h3⟩
        intro e he
        rcases Tbl.mem_ins he with rfl | he
        · simp only; omega
        · exact h2 e he

/-- Every write keeps the canonical form. -/
theorem Tbl.wf_set [DecidableEq α] (d : α) {t : Tbl α} (h : Tbl.wf d t = true) (k : Nat) (v : α) :
    Tbl.wf d (Tbl.set d t k v) = true := by
  unfold Tbl.set
  split
  · exact Tbl.wf_del d h k
  · rename_i hv; exact Tbl.wf_ins d h k hv

/-- Dropping entries keeps the canonical form. -/
theorem Tbl.wf_filter [DecidableEq α] (d : α) {t : Tbl α} (h : Tbl.wf d t = true) (p : Nat × α → Bool) :
    Tbl.wf d (t.filter p) = true := by
  induction t with
  | nil => rfl
  | cons e t ih =>
    obtain ⟨k, v⟩ := e
    obtain ⟨h1, h2, h3⟩ := (Tbl.wf_cons _ _ _ _).1 h
    rw [List.filter_cons]
    split
    · exact (Tbl.wf_cons _ _ _ _).2 ⟨h1, fun e he => h2 e (List.mem_filter.1 he).1, ih h3⟩
    · exact ih h3

end Sys2Proof
end

