-- ==== Sys2Proof/Laws/Fields.lean ====
section
/-!
SUPPORT. Laws of register fields and of registers: what a field reads as after a write to it, to another field of the
same register, and to another register.
-/
namespace Sys2Proof.Machine
open Sys2Proof

/-- The number `putFld` leaves, split at the field. -/
theorem putFld_split (w : W64) (f : Fld) (n : Nat) (h : f.lo + f.len ≤ 64) :
    (putFld w f n).toNat =
      2 ^ f.lo * (2 ^ f.len * (w.toNat / 2 ^ f.lo / 2 ^ f.len) + n % 2 ^ f.len) + w.toNat % 2 ^ f.lo := by
  have hA : 0 < 2 ^ f.lo := Nat.two_pow_pos _
  have hB : 0 < 2 ^ f.len := Nat.two_pow_pos _
  have hw : w.toNat < 2 ^ 64 := w.isLt
  have hn : n % 2 ^ f.len < 2 ^ f.len := Nat.mod_lt _ hB
  have hpow : (2 : Nat) ^ 64 = 2 ^ f.lo * (2 ^ f.len * 2 ^ (64 - f.lo - f.len)) := by
    rw [← pow_add, ← pow_add]; congr 1; omega
  unfold putFld getFld
  rw [Nat.shiftRight_eq_div_pow]
  generalize 2 ^ f.lo = A at *
  generalize 2 ^ f.len = B at *
  generalize 2 ^ (64 - f.lo - f.len) = C at *
  generalize w.toNat = W at *
  generalize n % B = N at *
  have h1 : W = A * (W / A) + W % A := (Nat.div_add_mod W A).symm
  have h2 : W / A = B * (W / A / B) + W / A % B := (Nat.div_add_mod (W / A) B).symm
  have h3 : W % A < A := Nat.mod_lt _ hA
  have h4 : W / A / B < C := by
    rw [Nat.div_div_eq_div_mul]
    apply Nat.div_lt_of_lt_mul
    calc W < 2 ^ 64 := hw
      _ = A * B * C := by rw [hpow]; ring
  generalize W / A / B = H at *
  generalize W / A % B = M at *
  generalize W % A = L at *
  have h5 : W - M * A + N * A = A * (B * H + N) + L := by
    have : W = A * (B * H) + A * M + L := by rw [h1, h2]; ring
    have hm : M * A = A * M := Nat.mul_comm _ _
    have hn' : N * A = A * N := Nat.mul_comm _ _
    have hd : A * (B * H + N) = A * (B * H) + A * N := Nat.mul_add _ _ _
    omega
  rw [h5, BitVec.toNat_ofNat, Nat.mod_eq_of_lt]
  have h6 : B * H + N + 1 ≤ B * C := by
    have : B * (H + 1) ≤ B * C := Nat.mul_le_mul_left _ h4
    have hx : B * (H + 1) = B * H + B := by ring
    omega
  calc A * (B * H + N) + L < A * (B * H + N) + A := by omega
    _ = A * (B * H + N + 1) := by ring
    _ ≤ A * (B * C) := Nat.mul_le_mul_left _ h6
    _ = 2 ^ 64 := hpow.symm

/-- A field reads back what was put into it, cut to its width. -/
theorem getFld_putFld (w : W64) (f : Fld) (n : Nat) (h : f.lo + f.len ≤ 64) :
    getFld (putFld w f n) f = n % 2 ^ f.len := by
  have hA : 0 < 2 ^ f.lo := Nat.two_pow_pos _
  have hB : 0 < 2 ^ f.len := Nat.two_pow_pos _
  have h3 : w.toNat % 2 ^ f.lo < 2 ^ f.lo := Nat.mod_lt _ hA
  rw [getFld, putFld_split w f n h, Nat.shiftRight_eq_div_pow, Nat.mul_add_div hA, Nat.div_eq_of_lt h3, Nat.add_zero,
    Nat.mul_add_mod, Nat.mod_mod]

/-- A field that lies apart is unchanged. -/
theorem getFld_putFld_ne (w : W64) (f g : Fld) (n : Nat) (h : f.lo + f.len ≤ 64)
    (hd : g.lo + g.len ≤ f.lo ∨ f.lo + f.len ≤ g.lo) : getFld (putFld w f n) g = getFld w g := by
  have hA : 0 < 2 ^ f.lo := Nat.two_pow_pos _
  have hB : 0 < 2 ^ f.len := Nat.two_pow_pos _
  have h3 : w.toNat % 2 ^ f.lo < 2 ^ f.lo := Nat.mod_lt _ hA
  have hn : n % 2 ^ f.len < 2 ^ f.len := Nat.mod_lt _ hB
  simp only [getFld, Nat.shiftRight_eq_div_pow]
  rcases hd with hd | hd
  · have low : ∀ x : Nat, x / 2 ^ g.lo % 2 ^ g.len = x % 2 ^ f.lo / 2 ^ g.lo % 2 ^ g.len := by
      intro x
      obtain ⟨c, hc⟩ : ∃ c, f.lo = g.lo + g.len + c := ⟨f.lo - g.lo - g.len, by omega⟩
      rw [hc, pow_add, pow_add, Nat.mul_assoc, Nat.mod_mul_right_div_self, Nat.mod_mul_right_mod]
    rw [low, low w.toNat, putFld_split w f n h, Nat.mul_add_mod, Nat.mod_mod]
  · have high : ∀ x : Nat, x / 2 ^ g.lo = x / 2 ^ f.lo / 2 ^ f.len / 2 ^ (g.lo - f.lo - f.len) := by
      intro x
      rw [Nat.div_div_eq_div_mul, Nat.div_div_eq_div_mul, ← pow_add, ← pow_add]
      congr 2; omega
    rw [high, high w.toNat, putFld_split w f n h, Nat.mul_add_div hA, Nat.div_eq_of_lt h3, Nat.add_zero,
      Nat.mul_add_div hB, Nat.div_eq_of_lt hn, Nat.add_zero]

theorem getFld_lt (w : W64) (f : Fld) : getFld w f < 2 ^ f.len := Nat.mod_lt _ (Nat.two_pow_pos _)

namespace State

@[simp] theorem reg_setReg_self (s : State) (a : Nat) (v : W64) : (s.setReg a v).reg a = v := by
  simp [reg, setReg]

theorem reg_setReg_ne (s : State) {a b : Nat} (v : W64) (h : b ≠ a) : (s.setReg a v).reg b = s.reg b := by
  unfold reg setReg
  show Tbl.get _ (Tbl.set (regReset a) s.regs a v) b = _
  unfold Tbl.set
  split
  · rw [Tbl.get_del]; simp [h]
  · rw [Tbl.get_ins]; simp [h]

/-- A field written reads back, cut to its width. -/
theorem fld_setFld_self (s : State) (a : Nat) (f : Fld) (n : Nat) (h : f.lo + f.len ≤ 64) :
    (s.setFld a f n).fld a f = n % 2 ^ f.len := by
  simp [fld, setFld, getFld_putFld _ _ _ h]

/-- A field of the same register that lies apart is unchanged. -/
theorem fld_setFld_apart (s : State) (a : Nat) (f g : Fld) (n : Nat) (h : f.lo + f.len ≤ 64)
    (hd : g.lo + g.len ≤ f.lo ∨ f.lo + f.len ≤ g.lo) : (s.setFld a f n).fld a g = s.fld a g := by
  simp [fld, setFld, getFld_putFld_ne _ _ _ _ h hd]

/-- A field of another register is unchanged. -/
theorem fld_setFld_ne (s : State) {a b : Nat} (f g : Fld) (n : Nat) (h : b ≠ a) :
    (s.setFld a f n).fld b g = s.fld b g := by
  simp [fld, setFld, reg_setReg_ne _ _ h]

theorem reg_setFld_ne (s : State) {a b : Nat} (f : Fld) (n : Nat) (h : b ≠ a) : (s.setFld a f n).reg b = s.reg b := by
  simp [setFld, reg_setReg_ne _ _ h]

theorem fld_setReg_ne (s : State) {a b : Nat} (v : W64) (g : Fld) (h : b ≠ a) : (s.setReg a v).fld b g = s.fld b g := by
  simp [fld, reg_setReg_ne _ _ h]

theorem setBit_eq (s : State) (a : Nat) (f : Fld) (b : Bool) : s.setBit a f b = s.setFld a f b.toNat := rfl

/-- A one-bit field written reads back. -/
theorem bit_setBit_self (s : State) (a lo : Nat) (b : Bool) (h : lo + 1 ≤ 64) :
    (s.setBit a ⟨lo, 1⟩ b).bit a ⟨lo, 1⟩ = b := by
  simp only [bit, setBit]
  rw [fld_setFld_self _ _ _ _ h]
  cases b <;> rfl

end State

/-! ### Processors -/

theorem State.proc_setProc_self (s : State) (n : Nat) (x : ProcState) : (s.setProc n x).proc n = x := by
  simp [State.proc, State.setProc]

theorem State.proc_setProc_ne (s : State) {n m : Nat} (x : ProcState) (h : m ≠ n) :
    (s.setProc n x).proc m = s.proc m := by
  simp [State.proc, State.setProc, Tbl.get_set_ne _ _ _ h]

@[simp] theorem ProcState.getG_zero (x : ProcState) : x.getG 0 = 0 := rfl

/-- R136: `g0` discards what is written to it; every other general register reads back. -/
theorem ProcState.getG_setG (x : ProcState) (r q : RegNo) (v : W64) :
    (x.setG r v).getG q = if q = r ∧ r ≠ 0 then v else x.getG q := by
  unfold ProcState.setG ProcState.getG
  by_cases hr : r.val = 0
  · have : r = 0 := Fin.ext hr
    simp [this]
  · have hr' : r ≠ 0 := fun h => hr (by simp [h])
    by_cases hq : q = r
    · subst hq; simp [hr, hr']
    · have : q.val ≠ r.val := fun h => hq (Fin.ext h)
      simp [hr, hq, Tbl.get_set, this]

end Sys2Proof.Machine
end

