-- ==== Sys2Proof/Laws/Memory.lean ====
section
/-!
SUPPORT. Laws of module memory: reading after writing, and the canonical form that every operation over memory keeps.
-/
namespace Sys2Proof.Machine
open Sys2Proof

@[simp] theorem Memory.wf_nil : Memory.wf [] = true := rfl

theorem Memory.wf_putByte {m : Memory} (h : m.wf = true) (a : Nat) (b : Byte) : (m.putByte a b).wf = true :=
  Tbl.wf_set _ h a b

theorem Memory.wf_write {m : Memory} (h : m.wf = true) (a : Nat) (d : Bytes) : (m.write a d).wf = true := by
  induction d generalizing m a with
  | nil => exact h
  | cons b t ih => exact ih (Memory.wf_putByte h a b) (a + 1)

theorem Memory.byte_putByte (m : Memory) (a c : Nat) (b : Byte) :
    (m.putByte a b).byte c = if c = a then b else m.byte c := Tbl.get_set _ _ _ _ _

/-- A byte outside what was written reads as before. -/
theorem Memory.byte_write_out (m : Memory) (a c : Nat) (d : Bytes) (h : c < a ∨ a + d.length ≤ c) :
    (m.write a d).byte c = m.byte c := by
  induction d generalizing m a with
  | nil => rfl
  | cons b t ih =>
    simp only [List.length_cons] at h
    show ((m.putByte a b).write (a + 1) t).byte c = _
    rw [ih (m.putByte a b) (a + 1) (by omega), Memory.byte_putByte, if_neg (by omega)]

/-- A byte inside what was written reads as written. -/
theorem Memory.byte_write_in (m : Memory) (a i : Nat) (d : Bytes) (h : i < d.length) :
    (m.write a d).byte (a + i) = d[i] := by
  induction d generalizing m a i with
  | nil => simp at h
  | cons b t ih =>
    show ((m.putByte a b).write (a + 1) t).byte (a + i) = _
    cases i with
    | zero => rw [Memory.byte_write_out _ _ _ _ (by omega), Memory.byte_putByte]; simp
    | succ i =>
      have : a + (i + 1) = a + 1 + i := by omega
      rw [this, ih (m.putByte a b) (a + 1) i (by simpa using h)]
      rfl

/-- Reading back what was written. -/
theorem Memory.read_write (m : Memory) (a : Nat) (d : Bytes) : (m.write a d).read a d.length = d := by
  apply List.ext_getElem
  · simp [Memory.read]
  · intro i h1 h2
    simp only [Memory.read, List.getElem_map, List.getElem_range]
    exact Memory.byte_write_in m a i d h2

namespace State

@[simp] theorem setLineKey_mem (s : State) (l k : Nat) : (s.setLineKey l k).mem = s.mem := by
  unfold setLineKey; split <;> rfl
@[simp] theorem setRangeKey_mem (s : State) (a b k : Nat) : (s.setRangeKey a b k).mem = s.mem := rfl
@[simp] theorem setPoison_mem (s : State) (l : Nat) (b : Bool) : (s.setPoison l b).mem = s.mem := rfl
@[simp] theorem logRefusal_mem (s : State) (q r a : Nat) : (s.logRefusal q r a).mem = s.mem := by
  have h : ∀ v, ((s.setBit MEM_EVENT MEM_EVENT.REFUSED).setReg MEM_REFUSE_LOG v).mem = s.mem := fun _ => rfl
  unfold logRefusal
  by_cases hb : (s.setBit MEM_EVENT MEM_EVENT.REFUSED).bit MEM_REFUSE_LOG MEM_REFUSE_LOG.VALID = true
  · simp only [hb, if_true, setBit_mem]
  · simp only [hb]; exact h _

theorem wf_rekeyLine {s : State} (h : s.mem.wf = true) (k l : Nat) : (s.rekeyLine k l).mem.wf = true := by
  unfold rekeyLine; split
  · exact h
  · simp only [setLineKey_mem]; exact Memory.wf_write h _ _

theorem wf_foldl {α : Type} (f : State → α → State) (hf : ∀ s x, s.mem.wf = true → (f s x).mem.wf = true)
    (l : List α) {s : State} (h : s.mem.wf = true) : (l.foldl f s).mem.wf = true := by
  induction l generalizing s with
  | nil => exact h
  | cons x t ih => exact ih (hf s x h)

theorem wf_keyedWrite {s : State} (h : s.mem.wf = true) (k a : Nat) (d : Bytes) : (s.keyedWrite k a d).mem.wf = true := by
  unfold keyedWrite
  refine Memory.wf_write (wf_foldl _ ?_ _ h) _ _
  intro s l h
  split
  · simpa using h
  · exact wf_rekeyLine h _ _

theorem wf_zeroRange {s : State} (h : s.mem.wf = true) (a b k : Nat) : (s.zeroRange a b k).mem.wf = true := by
  simp only [zeroRange, setRangeKey_mem]
  exact Tbl.wf_filter _ h _

theorem wf_checkedWrite {s : State} (h : s.mem.wf = true) (w : World) (a : Nat) (d : Bytes) :
    (s.checkedWrite w a d).mem.wf = true := by
  unfold checkedWrite
  exact wf_foldl _ (fun s l h => wf_keyedWrite h _ _ _) _ h

end State
end Sys2Proof.Machine
end

