-- ==== Sys2Proof/Laws/Proc.lean ====
section
/-!
SUPPORT. Laws of the processors: what a fetch touches, an instruction that runs runs its body, and what the shared endings
of instructions leave.
-/
namespace Sys2Proof.Machine
open Sys2Proof

/-! ### What stays among the caches -/

/-- `t` differs from `s` in the caches and in the messages sent, and in nothing else: not in the stores that wait. -/
def CohOnly (s t : State) : Prop := t = { s with coh := { t.coh with stores := s.coh.stores }, out := t.out }

theorem CohOnly.rfl {s : State} : CohOnly s s := Eq.refl _

theorem CohOnly.stores {s t : State} (h : CohOnly s t) : t.coh.stores = s.coh.stores := by rw [h]

theorem CohOnly.trans {s t u : State} (h : CohOnly s t) (h' : CohOnly t u) : CohOnly s u := by
  unfold CohOnly
  conv_lhs => rw [h', h]

theorem CohOnly.of_coh {s : State} {c : CohState} (h : c.stores = s.coh.stores) : CohOnly s { s with coh := c } := by
  unfold CohOnly; rw [← h]

/-- A fold of steps that stay among the caches does. -/
theorem CohOnly.foldl {α : Type} {f : State → α → State} (hf : ∀ s x, CohOnly s (f s x)) (l : List α) (s : State) :
    CohOnly s (l.foldl f s) := by
  induction l generalizing s with
  | nil => exact .rfl
  | cons x t ih => exact (hf s x).trans (ih _)

namespace State

theorem setCline_cohOnly (s : State) (c l : Nat) (x : CacheLine) : CohOnly s (s.setCline c l x) := .of_coh (Eq.refl _)
theorem sendCoh_cohOnly (s : State) (m : Msg) (a b l f : Nat) : CohOnly s (s.sendCoh m a b l f) := Eq.refl _
theorem stampLine_cohOnly (s : State) (c l : Nat) : CohOnly s (s.stampLine c l) := .of_coh (Eq.refl _)
theorem waitFor_cohOnly (s : State) (c l : Nat) (a : MemAccess) : CohOnly s (s.waitFor c l a) := by
  simp only [waitFor]; split
  · exact .rfl
  · exact setCline_cohOnly ..
theorem sendWant_cohOnly (s : State) (c l : Nat) : CohOnly s (s.sendWant c l) := by
  unfold sendWant; split <;> first | exact sendCoh_cohOnly .. | exact .rfl
theorem askFor_cohOnly (s : State) (c l : Nat) (st : LineState) (k : ReqKind) (t : Nat) : CohOnly s (s.askFor c l st k t) :=
  (setCline_cohOnly ..).trans (sendWant_cohOnly ..)
theorem dropL1_cohOnly (s : State) (c l : Nat) : CohOnly s (s.dropL1 c l) := by
  unfold dropL1; split
  · exact .rfl
  · exact .of_coh (Eq.refl _)

theorem fillL1_cohOnly (s : State) (i l : Nat) : CohOnly s (s.fillL1 i l) := by
  unfold fillL1 useClock
  simp only
  repeat' split
  all_goals first | exact .rfl | exact .of_coh (Eq.refl _)

theorem hitLine_cohOnly (s : State) (c l : Nat) (a : MemAccess) : CohOnly s (s.hitLine c l a) := by
  unfold hitLine fillL1s
  repeat' split
  · exact .rfl
  · exact stampLine_cohOnly ..
  · exact (CohOnly.foldl (fun s k => fillL1_cohOnly ..) _ _).trans (stampLine_cohOnly ..)

theorem replaceLine_cohOnly (s : State) (c l : Nat) : CohOnly s (s.replaceLine c l) := by
  unfold replaceLine
  simp only
  repeat' split
  · exact setCline_cohOnly ..
  all_goals
    refine (dropL1_cohOnly s c l).trans ?_
    first
      | exact (setCline_cohOnly ..).trans (sendCoh_cohOnly ..)
      | exact setCline_cohOnly ..
      | exact .rfl

theorem takeWay_cohOnly (s : State) (c l : Nat) (ok : Nat → Bool) (v : CacheLine → Bool) :
    CohOnly s (s.takeWay c l ok v).2 := by
  unfold takeWay
  simp only
  repeat' split
  all_goals first | exact .rfl | exact replaceLine_cohOnly ..

theorem placeLine_cohOnly (s : State) (c l : Nat) : CohOnly s (s.placeLine c l) := by
  unfold placeLine
  split
  · exact .rfl
  · have h := takeWay_cohOnly s c l (fun _ => true) (fun _ => true)
    split <;> rename_i heq <;> rw [heq] at h
    · exact h.trans (setCline_cohOnly ..)
    · exact h

/-- Everything a load or a fetch of a line may change. -/
theorem cacheAccess_cohOnly (s : State) (c l : Nat) (a : MemAccess) (h : a.kind ≠ .store) :
    CohOnly s (s.cacheAccess c l a) := by
  have hs : (a.kind == .store) = false := by cases hk : a.kind <;> simp_all
  simp only [cacheAccess, hs]
  by_cases hw : ((s.cline c l).readable && (s.cline c l).tag != a.tag) = true
  · rw [if_pos hw]
    split
    · exact waitFor_cohOnly ..
    · exact ((waitFor_cohOnly ..).trans (setCline_cohOnly ..)).trans (sendCoh_cohOnly ..)
  · rw [if_neg hw]
    cases (s.cline c l).st <;> simp only
    case I =>
      have hp : CohOnly s (if (s.cline c l).want.isSome then s else s.placeLine c l) := by
        split <;> first | exact .rfl | exact placeLine_cohOnly ..
      generalize (if (s.cline c l).want.isSome then s else s.placeLine c l) = s1 at hp ⊢
      refine (hp.trans (waitFor_cohOnly _ c l a)).trans ?_
      split <;> first | exact .rfl | exact askFor_cohOnly ..
    all_goals first | exact waitFor_cohOnly .. | exact hitLine_cohOnly ..

/-- Everything a fetch may change: the caches and the messages. -/
theorem fetched_cohOnly (s : State) (p : Proc) : CohOnly s (s.fetched p) := by
  unfold fetched
  repeat' split
  all_goals first | exact .rfl | exact cacheAccess_cohOnly _ _ _ _ (by simp)

end State

section
variable (s : State) (p : Proc)

@[simp] theorem State.fetched_procs : (s.fetched p).procs = s.procs := by rw [s.fetched_cohOnly p]
@[simp] theorem State.fetched_regs : (s.fetched p).regs = s.regs := by rw [s.fetched_cohOnly p]
@[simp] theorem State.fetched_mem : (s.fetched p).mem = s.mem := by rw [s.fetched_cohOnly p]
@[simp] theorem State.fetched_tb : (s.fetched p).tb = s.tb := by rw [s.fetched_cohOnly p]
@[simp] theorem State.fetched_disp : (s.fetched p).disp = s.disp := by rw [s.fetched_cohOnly p]
@[simp] theorem State.fetched_cru : (s.fetched p).cru = s.cru := by rw [s.fetched_cohOnly p]
@[simp] theorem State.fetched_stores : (s.fetched p).coh.stores = s.coh.stores := (s.fetched_cohOnly p).stores
@[simp] theorem State.fetched_storesDone (q : Proc) : (s.fetched p).storesDone q = s.storesDone q := by
  simp [State.storesDone, State.buffered]
@[simp] theorem State.fetched_proc (n : Nat) : (s.fetched p).proc n = s.proc n := by simp [State.proc]
@[simp] theorem State.fetched_reg (a : Nat) : (s.fetched p).reg a = s.reg a := by simp [State.reg]
@[simp] theorem State.fetched_level (q : Proc) : (s.fetched p).level q = s.level q := by simp [State.level]
@[simp] theorem State.fetched_gReg (q : Proc) (r : RegNo) : (s.fetched p).gReg q r = s.gReg q r := by simp [State.gReg]
@[simp] theorem State.fetched_fReg (q : Proc) (r : RegNo) : (s.fetched p).fReg q r = s.fReg q r := by simp [State.fReg]

end

/-! ### Instructions -/

/-- An instruction on a processor that runs is its body, after the fetch. -/
theorem instr_runs {p : Proc} {s : State} (h : Runs s p) (body : State → State) :
    State.instr p s body = .next (body (s.fetched p)) := by
  simp [State.instr, h.1, h.2]

/-- An instruction on a processor that executes none changes nothing. -/
theorem instr_idle {p : Proc} {s : State} (h : s.procRuns p = false) (body : State → State) :
    State.instr p s body = .next s := by
  simp [State.instr, h]

theorem State.proc_onProc_self (s : State) (p : Proc) (f : ProcState → ProcState) :
    (s.onProc p f).proc (procNo p) = f (s.proc (procNo p)) := State.proc_setProc_self ..

theorem State.proc_onProc_ne (s : State) (p : Proc) (f : ProcState → ProcState) {n : Nat} (h : n ≠ procNo p) :
    (s.onProc p f).proc n = s.proc n := State.proc_setProc_ne _ _ h

/-- Everything `writeG` does after the fetch. -/
theorem writeG_onlyG (s : State) (p : Proc) (d : RegNo) (v : W64) : OnlyG s ((s.fetched p).writeG p d v) p d v where
  result := by
    simp only [State.writeG, State.gReg, State.proc_onProc_self, ProcState.next, ProcState.setPc]
    by_cases h : d.val = 0 <;> simp [ProcState.getG, ProcState.setG, h, Tbl.get_set]
  others r h := by
    simp only [State.writeG, State.gReg, State.proc_onProc_self, ProcState.next, ProcState.setPc, State.fetched_proc]
    have h' : r.val ≠ d.val := fun e => h (Fin.ext e)
    by_cases hd : d.val = 0 <;> simp [ProcState.getG, ProcState.setG, hd, Tbl.get_set, h']
  floats r := by
    simp only [State.writeG, State.fReg, State.proc_onProc_self, ProcState.next, ProcState.setPc, ProcState.getF,
      ProcState.setG, State.fetched_proc]
    split <;> rfl
  special n := by
    simp only [State.writeG, State.proc_onProc_self, ProcState.next, ProcState.setPc, ProcState.getSp, ProcState.setG,
      State.fetched_proc]
    split <;> rfl
  link := by
    simp only [State.writeG, State.proc_onProc_self, ProcState.next, ProcState.setPc, ProcState.setG, State.fetched_proc]
    split <;> rfl
  pc := by
    simp only [State.writeG, State.proc_onProc_self, ProcState.next, ProcState.setPc, ProcState.setG, State.fetched_proc]
    split <;> rfl
  procs n h := by rw [State.writeG, State.proc_onProc_ne _ p _ h, State.fetched_proc]
  module := by
    have h (t : State) (ps) (h : CohOnly s t) : { t with procs := ps } = { s with procs := ps, coh := t.coh, out := t.out } := by
      conv_lhs => rw [h]
      rw [← h.stores]
    exact h _ _ (s.fetched_cohOnly p)

end Sys2Proof.Machine
end

