-- ==== Sys2Proof/Tests/Slice0.lean ====
section
/-!
SUPPORT. The model's own tests, and for each obligation with hypotheses a state and operands that meet them.
-/
namespace Sys2Proof.Tests
open Sys2Proof Sys2Proof.Machine

set_option Elab.async false

/-! ### Ill-formed commands that the check refuses, one for each check -/

theorem test_ill_register_write_size : wellFormed (.registerWrite .host 0 ⟨0, 0, true, 0, false, false⟩) = false ∧
    wellFormed (.registerWrite .host 0 ⟨0, 513, true, 0, false, false⟩) = false ∧
    wellFormed (.registerWrite .host 0 ⟨0, 4097, true, 0, false, true⟩) = false := by decide
theorem test_ill_register_write_offset : wellFormed (.registerWrite .host 0 ⟨2 ^ 26, 4, true, 0, false, false⟩) = false ∧
    wellFormed (.registerWrite .host 1 ⟨2 ^ 43, 4, true, 0, false, false⟩) = false := by decide
theorem test_ill_wake_write : wellFormed (.wakePageWrite 1 false ⟨0x1000, 4, true, 0, false, false⟩) = false ∧
    wellFormed (.wakePageWrite 0 false ⟨0, 4, true, 0, false, false⟩) = false ∧
    wellFormed (.wakePageWrite 1024 true ⟨2 ^ 23 - 2 ^ 22, 4, true, 0, false, false⟩) = false := by decide
theorem test_ill_completion : wellFormed (.completionTlp 0 .success (List.replicate 4097 0)) = false := by decide +kernel
theorem test_ill_peer_window : wellFormed (.peerWindowTlp true 0 2 [1]) = false ∧ wellFormed (.peerWindowTlp false 0 2 [1]) = false ∧
    wellFormed (.peerWindowTlp false 0 0 []) = false ∧ wellFormed (.peerWindowTlp false 0 4097 []) = false := by decide
theorem test_ill_ats : wellFormed (.atsInvalidateRequest 0 0 1 4096) = false ∧ wellFormed (.atsInvalidateRequest 0 0 0 4097) = false ∧
    wellFormed (.atsInvalidateRequest 0 0 0 0) = false := by decide
theorem test_ill_mirror_record : wellFormed (.mirrorRecord 0 0 [] none) = false ∧ wellFormed (.mirrorRecord 0 0 [[1]] none) = false := by decide
theorem test_ill_training : wellFormed (.gddr7TrainingComplete [3, 3] []) = false ∧ wellFormed (.gddr7TrainingComplete [] [3, 3]) = false := by decide
theorem test_ill_io_write : wellFormed (.iowr .opened 0 0 []) = false ∧ wellFormed (.iowr .opened 0 63 [1, 2]) = false := by decide
theorem test_ill_fill : wellFormed (.descriptorFillComplete 0 (2 ^ 42) 0) = false := by decide
theorem test_ill_mailbox : wellFormed (.mailboxGo 0 .host []) = false := by decide
theorem test_ill_mctp : wellFormed (.mctpPacket 0 0 []) = false ∧ wellFormed (.mctpPacket 0 0 (List.replicate 501 0)) = false := by decide +kernel
theorem test_ill_illegal : wellFormed (.illegalInstruction (.exec 0) 0) = false := by decide +kernel
theorem test_well_formed : wellFormed (.registerWrite .host 0 ⟨2 ^ 26 - 8, 8, true, 0, false, false⟩) = true ∧
    wellFormed (.illegalInstruction (.exec 0) 0xFFFFFFFF) = true ∧ wellFormed (.nop 0) = true := by decide +kernel

/-! ### Words written out from the encodings of R141 to R151, and the instruction each stands for -/

theorem test_words_int : decodeWord (.exec 0) 0b00000000001100010100011100000001#32 = some (.sub (.exec 0) 3 5 7) ∧
    decodeWord (.exec 0) 0b00000000001100010100000000010010#32 = some (.clz (.exec 0) 3 5) ∧
    decodeWord (.exec 0) 0b00000000001100010100000100010010#32 = none ∧
    decodeWord (.exec 0) 0b00000000000000000000000000110010#32 = some (.ret (.exec 0)) ∧
    decodeWord (.exec 0) 0b00000000001100010100011100110101#32 = none := by decide +kernel
theorem test_words_immediate : decodeWord .crucible 0b00100011111111111111111111111110#32 = some (.addi .crucible 63 63 0x3FFE) ∧
    decodeWord .crucible 0b01000000000110000000000000000001#32 = some (.himm .crucible 1 0x80001) ∧
    decodeWord .crucible 0b10101000001000001111111111111111#32 = some (.blt .crucible 2 3 0x3FFF) ∧
    decodeWord .crucible 0b10111110000000000000000000000001#32 = some (.jal .crucible 0x2000001) := by decide +kernel
theorem test_words_memory : decodeWord (.engine 63) 0b01111000000100001010000000001000#32 = some (.ld (.engine 63) 1 2 true 8) ∧
    decodeWord (.engine 63) 0b10010000000100001001111111111111#32 = some (.sd (.engine 63) 1 2 false 0x1FFF) ∧
    decodeWord (.engine 63) 0b00010100000100001000001100001000#32 = some (.casw (.engine 63) 1 2 3) ∧
    decodeWord (.sequencer) 0b11000100000100110000000000001000#32 = some (.sts .sequencer 1 3 8) := by decide +kernel
theorem test_words_float : decodeWord (.exec 319) 0b00000100000100001000001100000001#32 = some (.fadd (.exec 319) .d .rz 1 2 3) ∧
    decodeWord (.exec 319) 0b00001000000100001000001100011111#32 = some (.fdiv (.exec 319) .s .dyn 1 2 3) ∧
    decodeWord (.exec 319) 0b00000100000100001000001100000101#32 = none ∧
    decodeWord (.exec 319) 0b00010000000100001000001111111110#32 = some (.ffna (.exec 319) .s 1 2 3 63) := by decide +kernel
theorem test_words_system : decodeWord (.exec 0) 0b11111100000100000100011100001001#32 = some (.mfs (.exec 0) 1 0x047) ∧
    decodeWord (.exec 0) 0b11111100000000000000000000000011#32 = some (.eret (.exec 0)) ∧
    decodeWord (.exec 0) 0b11111100000100001000001100011000#32 = some (.enq (.exec 0) 1 2 3) ∧
    decodeWord (.exec 0) 0b11111100000100000000001000010000#32 = some (.uinfo (.exec 0) 1 2) ∧
    decodeWord (.exec 0) 0b11111100000100000000000000000011#32 = none := by decide +kernel

/-! ### States that witnesses run on -/

/-- The module in service, nothing else changed from reset. -/
def up : State := { State.reset with phase := .ready }

/-- The module in service with executor 0's cluster and pair up, memory powered with the open key loaded, and the
executor's registers as given. -/
def running (x : ProcState) : State :=
  let s := (up.setFld (PAIR_STATUS 0) PAIR_STATUS.STATE 1).setFld (PWR_DOM 0) PWR_DOM.STATE 1
  let s := [48, 49, 50, 51, 61, 62, 63].foldl (fun (s : State) d => s.setFld (PWR_DOM d) PWR_DOM.STATE 1) s
  ({ s with mm := { s.mm with loaded := s.mm.loaded.set [] 0 [1] } } : State).setProc 0 x

/-- The executor at hypervisor level. -/
def hyper : State := running { sp := [(0, 2)], pc := 0xFFFF800000000000#64 }
/-- The executor at supervisor or problem level, under one segment that maps address 0 to memory 0, with `psr` bits besides. -/
def below (pl rest : Nat) : State :=
  running { sp := [(0, BitVec.ofNat 64 (pl + rest))], pc := 0x1000#64, segs := [(BitVec.ofNat 64 0x1F, BitVec.ofNat 64 1)] }
/-- A channel engine in service. -/
def engineUp : State := ((running {}).setFld (CHN_ENG 63) CHN_ENG.STATE 1)

/-- Function `f` as given. -/
def withFn (f : Nat) (x : FnState) : State := up.setFn f x
/-- The host endpoint frozen. -/
def frozenUp : State := up.setBit HEP_FREEZE HEP_FREEZE.FROZEN

theorem runs_hyper : Runs hyper (.exec 0) ∧ hyper.level (.exec 0) = 2 := by
  refine ⟨⟨?_, ?_⟩, ?_⟩ <;> decide +kernel
theorem runs_supervisor : Runs (below 1 0) (.exec 0) ∧ (below 1 0).level (.exec 0) = 1 := by
  refine ⟨⟨?_, ?_⟩, ?_⟩ <;> decide +kernel
theorem runs_problem : Runs (below 0 0) (.exec 0) ∧ (below 0 0).level (.exec 0) = 0 := by
  refine ⟨⟨?_, ?_⟩, ?_⟩ <;> decide +kernel
theorem runs_engine : Runs engineUp (.engine 63) ∧ engineUp.level (.engine 63) = 1 := by
  refine ⟨⟨?_, ?_⟩, ?_⟩ <;> decide +kernel
theorem runs_controllers : Runs up .anvilA ∧ Runs up .anvilB ∧ Runs up .crucible ∧ Runs up .sequencer := by
  refine ⟨⟨?_, ?_⟩, ⟨?_, ?_⟩, ⟨?_, ?_⟩, ⟨?_, ?_⟩⟩ <;> decide +kernel

/-! ### Witnesses: states that meet the hypotheses of the statements, clause by clause -/

theorem idle_step_ticks_met : State.reset.pending = [] ∧ State.reset.phase = .off ∧ up.pending = [] ∧ up.phase ≠ .off := by
  decide +kernel

/-- A block outstanding in the dies, written in both or in neither. -/
def blockOut (done : Bool) : State := { up with jnl := { up.jnl with out := [⟨0x1000000, [1], .carry, done, done, none⟩] } }

theorem durable_means_met : (blockOut true).settleWrites.1 = [.carry] ∧ (blockOut false).settleWrites.1 = [] ∧
    (∀ d ∈ [true, false], ∀ x ∈ (blockOut d).jnl.out, (x.done0 = true ∧ x.done1 = true) ∨ seqLinear (blockOut d).jnl.head ≤ seqLinear x.seq + 32) := by
  decide +kernel

/-- The journal in operation at an instant. -/
def jnlUp (st : Nat) : State := ({ up with tb := 2000000, jnl := { up.jnl with snapAt := some 2000000 } } : State).setFld JNL_STATUS JNL_STATUS.STATE st

/-- A logical row whose last write failed. -/
def badRow (row spares : Nat) : State := up.setDie 1 { (up.die 1) with badRows := [row], sparesUsed := spares }

theorem journal_upkeep_met :
    ((blockOut false).live = true ∧ (blockOut false).jnl.out.find? (fun y => y.seq == 0x1000000) = some ⟨0x1000000, [1], .carry, false, false, none⟩ ∧
      (blockOut false).dieOk 0 = true) ∧
    ((jnlUp 3).live = true ∧ (jnlUp 3).fld JNL_STATUS JNL_STATUS.STATE = 3 ∧ due (jnlUp 3) (jnlUp 3).jnl.snapAt = true ∧
      ∀ e ∈ (jnlUp 3).disp.rings, e.2.purgeFor = none) ∧
    (due up up.jnl.snapAt = false) ∧
    (∃ row, (badRow row 21503).dieOk 1 = true ∧ (badRow row 21503).rowQualifies 1 row = true ∧ ((badRow row 21503).die 1).sparesUsed < 21504) ∧
    up.rowQualifies 1 0 = false ∧ (up.fld JNL_STATUS JNL_STATUS.STATE ≠ 2 ∧ up.fld JNL_STATUS JNL_STATUS.STATE ≠ 3) := by
  refine ⟨?_, ?_, ?_, ⟨16384, ?_⟩, ?_⟩ <;> decide +kernel

theorem scan_settles_met : (up.dieOk 0 = true) ∧
    (∀ d, d < 2 → Tbl.wf [] (up.die d).log = true ∧ ∀ e ∈ (up.die d).log, e.1 < logBlocks) ∧
    ∃ r, up.settlePositions 0x1000000 = r := by
  refine ⟨by decide +kernel, by decide +kernel, _, rfl⟩

/-- A partner configured and heard, with what the argument sets besides. -/
def withPartner (p : Partner) : State :=
  let s : State := { up with tb := 2000000, pins := { up.pins with seated := true } }
  (s.setFld (PWR_DOM 60) PWR_DOM.STATE 1).setPartner 3 p
/-- A partner whose ring 1 of this module is mirrored to it. -/
def mirroring (p : Partner) (fenced : Bool) : State := (withPartner p).setRing (ringOf 0 1) { ({} : Ring) with exists_ := true, mirror := some 3, fenced := fenced }

theorem mirror_and_takeover_met :
    ((withPartner {}).live = true ∧ (withPartner {}).seamUp = true ∧ ((withPartner {}).partner 3).mirrorSeen ≤ 0 ∧
      ((withPartner {}).partner 3).beatAt.get 0 7 ≤ (withPartner {}).tb ∧ ((withPartner {}).partner 3).clash = false ∧ ((withPartner {}).partner 3).adopted = false) ∧
    ((withPartner { adopted := true }).partner 3).adopted = true ∧ 0 < ((withPartner { mirrorSeen := 1 }).partner 3).mirrorSeen ∧
    (let s := withPartner { beatAt := [(7, 2000001)] }
     s.tb < (s.partner 3).beatAt.get 0 7) ∧ ((withPartner { clash := true }).partner 3).clash = true ∧
    (let s : State := { up with jnl := { up.jnl with unacked := [⟨3, 0, .carry, [], none⟩] } }
     s.live = true ∧ s.jnl.unacked.find? (fun y => y.partner == 3 && y.number == 0) = some ⟨3, 0, .carry, [], none⟩) ∧
    (withPartner {}).mirroredTo 3 = [] ∧
    1 ≠ up.fld JNL_MIRROR JNL_MIRROR.MODULE ∧ 0 = up.fld JNL_MIRROR JNL_MIRROR.MODULE ∧
    (withPartner { lastEcho := 1000001 }).tb < 1000001 + 1000000 ∧
    (let s := mirroring { lastEcho := 1000000 } false
     s.live = true ∧ (s.partner 3).clash = false ∧ (s.partner 3).lastEcho + 1000000 ≤ s.tb ∧ s.bit JNL_MIRROR ⟨8 + 3, 1⟩ = false ∧
       s.mirroredTo 3 = [ringOf 0 1]) ∧
    ((withPartner { lastHeard := 1 }).tb < 1 + 2000000) ∧
    (let s : State := withPartner { present := true }
     let s : State := { s with jnl := { s.jnl with foreign := [⟨3, 0, [], none, true⟩] } }
     s.live = true ∧ (s.partner 3).clash = false ∧ (s.partner 3).adopted = false ∧ (s.partner 3).present = true ∧
       (s.partner 3).lastHeard + 2000000 ≤ s.tb ∧ ∃ r ∈ s.jnl.foreign, r.partner = 3) ∧
    (∀ rk ∈ (mirroring {} false).mirroredTo 3, ((mirroring {} false).ring rk).fenced = false) ∧
    (∀ rk ∈ (mirroring {} true).mirroredTo 3, ((mirroring {} true).ring rk).fenced = true) := by
  decide +kernel

/-- An outstanding read of function `f`. -/
def reading (f : Nat) (k : ReadKind) (quarantined discard : Bool) : State :=
  { up with hep := { up.hep with reads := [{ tag := 5, fn := f, kind := k, quarantined := quarantined, discard := discard, addr := 4096, len := 64 }] } }

theorem endpoint_resets_met :
    (up.live = true ∧ (∀ e ∈ up.disp.rings, e.2.drainFor = none) ∧ (∀ e ∈ up.hep.fns, e.2.setRings = none)) ∧
    (let s : State := { up with hep := { up.hep with perst := false }, pins := { up.pins with seated := true } }
     s.hep.perst = false ∧ s.stepThree = true ∧ s.pins.seated = true) ∧
    ((withFn 1024 { present := true }).isReady = true ∧ (withFn 1024 { present := true }).fnPresent 1024 = true ∧
      (withFn 1024 { present := true }).inDrain 1024 = false) ∧
    (up.isReady = true ∧ up.hep.pfFlr = none ∧ (up.fn 0).flrEnd = none ∧ up.fnState 0 = 0) ∧
    (((withFn 1 { present := true, flrEnd := some 0 }).fn 1).flrEnd.isSome = true ∧
      (withFn 1 { present := true, flrEnd := some 0 }).readsDone (· == 1) = true ∧ due (withFn 1 { flrEnd := some 0 }) (some 0) = true) ∧
    (reading 1 (.doorbell true) false false).readsDone (· == 1) = false ∧
    (let s : State := { up with hep := { up.hep with pfFlr := some 0 } }
     s.live = true ∧ due s s.hep.pfFlr = true) ∧
    (linkOk 5 16 false = true ∧ linkOk 6 1 true = true ∧ linkOk 6 1 false = false ∧ linkOk 2 16 false = false ∧ linkOk 3 2 false = false) ∧
    ((up.setFnState 0 3).fnState 0 = 3 ∧ ((up.setFnState 0 3).fn 0).d3 = false ∧
      (let s := (withFn 0 { d3 := true }).setFnState 0 4
       s.isReady = true ∧ s.inDrain 0 = false ∧ s.fnState 0 = 4 ∧ (s.fn 0).d3 = true ∧ (s.fn 0).d3Back = 0)) ∧
    (let s : State := { up with hep := { up.hep with perst := false, l0 := true } }
     s.isReady = true ∧ s.hep.perst = false ∧ s.hep.l0 = true ∧ s.hep.pfFlr = none ∧ (s.fn 0).flrEnd = none ∧ s.fnPresent 0 = true) ∧
    up.hep.vfEnable = false ∧ ({ up with hep := { up.hep with vfEnable := true } } : State).isReady = true ∧
    up.hep.perst = true ∧ up.fnPresent 1024 = false ∧ State.reset.isReady = false := by
  decide +kernel

theorem freeze_and_completions_met :
    ((reading 0 (.doorbell false) true false).live = true ∧
      ∀ q d, ((reading 0 (.doorbell false) q d).hep.reads.find? (fun x => x.tag == 5)).isSome = true) ∧
    (let s := reading 0 (.descriptors 16 0 1) false false
     s.bit HEP_FREEZE HEP_FREEZE.FROZEN = false ∧ s.inDrain 0 = false ∧ s.hep.reads.find? (fun x => x.tag == 6) = none) ∧
    (let s := (reading 3 (.doorbell false) false true).setFn 3 { flrEnd := some 1 }
     s.live = true ∧ s.inDrain 3 = true) ∧
    (let s := reading 0 (.doorbell false) false false
     let s : State := { s with tb := 7, hep := { s.hep with reads := s.hep.reads.map (fun (q : ReadReq) => { q with due := some 8 }) } }
     s.live = true ∧ (s.hep.reads.find? (fun x => x.tag == 5)).bind (·.due) = some 8 ∧ s.tb < 8) ∧
    (withFn 3 { flrEnd := some 1 }).inDrain 3 = true ∧ (withFn 3 {}).inDrain 3 = false ∧
    FreezeCause.ideCheck ≠ FreezeCause.recoveryEntries ∧
    (frozenUp.live = true ∧ frozenUp.bit HEP_FREEZE HEP_FREEZE.FROZEN = true ∧ frozenUp.hep.l0 = false) ∧
    (let s : State := ({ frozenUp with hep := { frozenUp.hep with l0 := true } } : State).setBit HEP_LINK_STATUS HEP_LINK_STATUS.DL_UP
     s.live = true ∧ s.bit HEP_FREEZE HEP_FREEZE.FROZEN = true ∧ s.hep.l0 = true ∧ s.bit HEP_LINK_STATUS HEP_LINK_STATUS.DL_UP = true ∧
       ∀ e ∈ s.hep.fns, s.fld HEP_FREEZE HEP_FREEZE.CAUSE ∉ e.2.aer) ∧
    ((up.hep.invals.length < 32 ∧ ∀ i ∈ up.hep.invals, ¬ (i.itag = 31 ∧ i.fn = 1024)) ∧
      32 ≤ ((List.range 32).map (fun n => (⟨n, 0, 0, 4096, []⟩ : AtsInval))).length) ∧
    (∀ w ∈ [[5], []], let s : State := { reading 1 (.doorbell false) false false with
        hep := { (reading 1 (.doorbell false) false false).hep with invals := [⟨31, 1, 4096, 4096, w⟩] } }
      s.live = true ∧ s.hep.invals.find? (fun i => i.itag == 31 && i.fn == 1) = some ⟨31, 1, 4096, 4096, w⟩ ∧
      ((∃ x ∈ w, ∃ q ∈ s.hep.reads, q.tag = x) ↔ w = [5])) := by
  decide +kernel

/-- A function present and assigned, with Crucible in service. -/
def assigned (tdi : Nat) : State := ((withFn 1024 { present := true }).setFld CRU_STATUS CRU_STATUS.STATE 1).setTdi 1024 tdi
/-- Peer window 63 open over 2^12 bytes at 0. -/
def window (en rd : Nat) : State :=
  (((up.setFld (WIN_ACTIVE_CTL 63) WIN_ACTIVE_CTL.EN en).setFld (WIN_ACTIVE_CTL 63) WIN_ACTIVE_CTL.SIZE 12).setFld
    (WIN_ACTIVE_CTL 63) WIN_ACTIVE_CTL.READ_OK rd).setFld (WIN_ACTIVE_CTL 63) WIN_ACTIVE_CTL.WRITE_OK rd

theorem tdis_and_peer_windows_met :
    (∀ n ∈ [0, 1, 2, 3], (assigned n).live = true ∧ (assigned n).dsmUp = true ∧ (assigned n).fnPresent 1024 = true ∧ (assigned n).tdi 1024 = n ∧
      (assigned n).inDrain 1024 = false) ∧
    (up.isReady = true ∧ up.hep.pfFlr = none ∧ 2 ^ 38 < (2 ^ 38 - 1) + 2) ∧
    (getFld ((window 0 0).reg (WIN_ACTIVE_CTL 63)) WIN_ACTIVE_CTL.EN = 0 ∧ (2 ^ 38 - 64) + 64 ≤ 2 ^ 38) ∧
    (getFld ((window 1 0).reg (WIN_ACTIVE_CTL 63)) WIN_ACTIVE_CTL.EN = 1 ∧ 2 ^ getFld ((window 1 0).reg (WIN_ACTIVE_CTL 63)) WIN_ACTIVE_CTL.SIZE < 4033 + 64) ∧
    (getFld ((window 1 0).reg (WIN_ACTIVE_CTL 63)) WIN_ACTIVE_CTL.READ_OK = 0 ∧ getFld ((window 1 1).reg (WIN_ACTIVE_CTL 63)) WIN_ACTIVE_CTL.READ_OK = 1 ∧
      4032 + 64 ≤ 2 ^ getFld ((window 1 1).reg (WIN_ACTIVE_CTL 63)) WIN_ACTIVE_CTL.SIZE) ∧
    (let s : State := { up with hep := { up.hep with pfFlr := some 1 } }
     s.live = true ∧ s.isReady = true ∧ s.hep.pfFlr.isSome = true) ∧
    ((up.setBit WIN_COMMIT WIN_COMMIT.BUSY).bit WIN_COMMIT WIN_COMMIT.BUSY = true ∧ up.bit WIN_COMMIT WIN_COMMIT.BUSY = false) := by
  decide +kernel

/-- Function `f` operational and reachable, with its ring `r` enabled at 2^6 entries or not. -/
def ringUp (f r en : Nat) (x : Ring) : State :=
  (((((withFn f { present := true, bme := true, pollAt := some 0 }).setFnState f 1).setFld (RING_SQ_CFG f r) RING_SQ_CFG.EN en).setFld
    (RING_SQ_CFG f r) RING_SQ_CFG.SIZE 6)).setRing (ringOf f r) x
/-- A completion ring with an entry that waits for its message. -/
def coalescing (us_ n : Nat) : State :=
  (({ up with tb := 1000 } : State).setFld (RING_CQ_CFG 0 0) RING_CQ_CFG.COAL_US us_).setCq (ringOf 0 0) { unsignalled := n, coalAt := some 0 }

theorem ring_setup_and_polling_met :
    (up.live = true ∧ up.isReady = true ∧ State.barWriteOk ⟨0xFFC, 8, true, 0, false, false⟩ = false ∧
      State.barWriteOk ⟨0, 4, true, 0, false, false⟩ = true ∧ State.barWriteOk ⟨0, 8, true, 0x1000000000, false, false⟩ = true) ∧
    frozenUp.bit HEP_FREEZE HEP_FREEZE.FROZEN = true ∧
    (let s := ringUp 1024 16 1 {}
     s.live = true ∧ s.pageOpen 1024 false = true ∧ s.pageOpen 1024 (s.tdi 1024 == 2) = true ∧ s.fnActive 1024 = true ∧ s.sqEnabled 1024 16 = true ∧
       getFld (0x1000000000#64) ⟨32, 8⟩ = 16 ∧ getFld (0x3000000000#64) ⟨32, 8⟩ = 0x20 + 16 ∧ (s.ring (ringOf 1024 16)).draining = false) ∧
    (∀ t ∈ [64, 65], let s := ringUp 0 0 1 {}
      ((t + 2 ^ 32 - (s.ring (ringOf 0 0)).accepted) % 2 ^ 32 ≤ s.sqSize 0 0 ↔ t = 64)) ∧
    (due up (up.fn 0).pollAt = false ∧ due (ringUp 0 0 1 {}) ((ringUp 0 0 1 {}).fn 0).pollAt = true ∧
      (∃ q ∈ (ringUp 0 0 1 {}).enabledSqs 0, ((ringUp 0 0 1 {}).ring (ringOf 0 q)).sleeping = false) ∧
      (∀ q ∈ (ringUp 0 0 1 { sleeping := true }).enabledSqs 0, ((ringUp 0 0 1 { sleeping := true }).ring (ringOf 0 q)).sleeping = true)) ∧
    up.fnActive 0 = false ∧
    (∀ u ∈ [0, 1], ∀ n ∈ [0, 1], let s := coalescing u n
      s.live = true ∧ s.fld (RING_CQ_CFG 0 0) RING_CQ_CFG.COAL_US = u ∧ (s.cq (ringOf 0 0)).unsignalled = n ∧
        (s.cq (ringOf 0 0)).coalAt = some 0 ∧ 0 + 1000 * u ≤ s.tb) ∧
    (let s := ringUp 0 0 0 {}
     s.pageOpen 0 (s.tdi 0 == 2) = true ∧ s.sqEnabled 0 0 = false ∧ s.partFunc 0 = 0 ∧ s.drained 0 0 = false) ∧
    (getFld ((0x80000010#32).setWidth 64) RING_CQ_CFG.EN = 1 ∧ getFld ((0x10#32).setWidth 64) RING_CQ_CFG.EN = 0 ∧
      State.vectorOk 1024 15 = true ∧ State.vectorOk 1024 16 = false) ∧
    (let s := ringUp 1024 16 1 { draining := true }
     s.live = true ∧ s.drained 1024 16 = true ∧ (s.fn 1024).setRings = none ∧ (s.ring (ringOf 1024 16)).drainFor = none) ∧
    (let s := (ringUp 1024 16 1 { draining := true, drainFor := some (unitKey 0 5) }).setUnit (unitKey 0 5) { fn := 0, ring := 0, asn := 5, tag := 0, args := [], budget := 0, part := 0 }
     s.drained 1024 16 = true ∧ (s.unit? (unitKey 0 5)).map (·.complIssued) = some false) := by
  decide +kernel

/-- One completed unit that ring 0 posts next, its completion ring free. -/
def toPost : State :=
  let s := (ringUp 0 0 1 { postQ := [.unit 0] }).setBit (RING_CQ_CFG 0 0) RING_CQ_CFG.EN
  s.setUnit (unitKey (ringOf 0 0) 0) { fn := 0, ring := 0, asn := 0, tag := 9, args := [], budget := 0, part := 0, phase := .completed }

theorem completion_post_met :
    let s := toPost
    s.live = true ∧ s.fnActive 0 = true ∧ s.postersOf 0 0 = [0] ∧ (s.ring (ringOf 0 0)).postOld = [] ∧
      ((s.cq (ringOf 0 0)).posted + 2 ^ 32 - (s.cq (ringOf 0 0)).head) % 2 ^ 32 < s.cqSize 0 0 ∧
      s.reach 0 (s.slotAt 0 0) 32 = true ∧ s.reach 0 (s.cqRecordAt 0 0) 8 = true ∧
      (s.unit? (unitKey (ringOf 0 0) 0)).map (·.phase) = some .completed ∧
      (s.disp.rings.all fun x => x.2.fetched.all fun d => d.issued.isSome || d.dupOf.isSome) = true ∧
      (withFn 5 {}).fnPresent 5 = false ∧ s.inDrain 0 = false ∧ (withFn 0 { flrEnd := some 1 }).inDrain 0 = true ∧
      (withFn 0 { ats := true }).reach 0 64 256 = false ∧ (withFn 0 {}).reach 0 64 256 = true := by decide +kernel

theorem resync_summary_met :
    (let s := ringUp 1024 0 1 {}
     s.live = true ∧ s.pageOpen 1024 (s.tdi 1024 == 2) = true ∧ s.bit HEP_FREEZE HEP_FREEZE.FROZEN = false ∧ s.fnState 1024 ≠ 0 ∧
       s.fnState 1024 ≠ 2 ∧ s.fnPresent 1024 = true ∧ 256 + 64 * (s.summaryRings 1024).length = 64 * 6 ∧
       (s.fn 1024).bme = true ∧ (s.fn 1024).d3 = false) ∧
    ((ringUp 0 0 1 {}).setBit HEP_FREEZE HEP_FREEZE.FROZEN).pageOpen 0 false = true ∧
    ((withFn 5 { present := true }).setFnState 5 2).pageOpen 0 false = true ∧ ((withFn 5 { present := true }).setFnState 5 2).fnState 5 ≠ 0 ∧
    up.fnState 1024 = 0 := by decide +kernel

/-- An admin unit of function `f`, queued, with these command bytes; ring 1 of function 0 as given. -/
def admin (f : Nat) (a : Bytes) (en : Nat) (x : Ring) : State :=
  ((ringUp 0 1 en x).setUnit (unitKey (ringOf f 16) 7) { fn := f, ring := 16, asn := 7, tag := 0, args := a, budget := 0, part := 0 })
def cmd (op ring fn a b : Nat) : Bytes := leBytes 1 op ++ leBytes 1 ring ++ leBytes 2 fn ++ leBytes 4 a ++ leBytes 8 b ++ zeros 16

/-- One admin command by PF: it is next, and no check ends it. Operands: opcode, ring, function, A, B, ring 1's EN and state. -/
def adminMet (e : Nat × Nat × Nat × Nat × Nat × Nat × Ring) : Bool :=
  let a := cmd e.1 e.2.1 e.2.2.1 e.2.2.2.1 e.2.2.2.2.1
  let s := (admin 0 a e.2.2.2.2.2.1 e.2.2.2.2.2.2).setFn 1024 { present := true }
  s.isReady && (s.adminNext 0).map (fun x => (x.1, admOp x.2.args)) == some (unitKey 16 7, e.1) && s.adminErr 0 a == 0

theorem admin_commands_met : ∀ e ∈ ([(0, 0, 0, 0, 0, 1, {}), (1, 0, 0, 8, 64, 1, {}), (1, 0, 0, 0, 63, 1, {}), (2, 1, 0, 0, 0, 1, {}),
    (2, 1, 0, 0, 0, 0, {}), (2, 1, 0, 0, 0, 1, { draining := true }), (3, 1, 0, 0, 0, 0, { exists_ := true, broken := true }),
    (4, 1, 0, 0x8300, 0, 0, {}), (4, 1, 0, 0, 0, 0, {}), (5, 1, 0, 3, 0, 0, {}), (6, 1, 0, 0, 0, 0, {}), (0x20, 0, 1024, 16, 0, 1, {}),
    (0x20, 0, 1024, 17, 0, 1, {}), (0x20, 0, 1024, 0, 0, 1, {}), (0x21, 0, 1024, 0, 1, 1, {}), (0x22, 0, 1024, 8192, 0, 1, {}),
    (0x22, 0, 1024, 8193, 0, 1, {}), (0x23, 0, 1024, 255, 0, 1, {}), (0x23, 0, 1024, 256, 0, 1, {}), (0x24, 0, 1024, 15, 0, 1, {}),
    (0x24, 0, 1024, 16, 0, 1, {})] : List (Nat × Nat × Nat × Nat × Nat × Nat × Ring)), adminMet e = true := by
  decide +kernel

theorem admin_refusals_met :
    admKnown (admOp (cmd 7 0 0 0 0)) = false ∧ ((admin 0 (cmd 7 0 0 0 0) 1 {}).adminNext 0).isSome = true ∧
    ((admin 1024 (cmd 0x20 15 1024 0 0) 1 {}).adminNext 1024).isSome = true ∧ admPfOnly (admOp (cmd 0x20 15 1024 0 0)) = true ∧
    (let s := (((admin 0 (cmd 2 15 1024 0 0) 1 {}).setFn 1024 { present := true }).setTdi 1024 1)
     (s.adminNext 0).isSome = true ∧ s.fnPresent 1024 = true ∧ s.tdi 1024 ≠ 0) ∧
    (let s := (admin 0 (cmd 4 1 0 0x8300 0) 0 {}).setPartner 3 { present := true, standby := [0] }
     (s.adminNext 0).isSome = true ∧ (s.partner 3).present = true ∧ (s.partner 3).clash = false ∧ 0 ∈ (s.partner 3).standby) ∧
    (let s := (admin 0 (cmd 5 1 0 3 0) 0 {}).setRing (adoptKey 3 0 0) { exists_ := true, adopted := some (3, 0, 0) }
     (s.adminNext 0).isSome = true ∧ (s.ring (adoptKey 3 0 0)).adopted = some (3, 0, 0) ∧ s.dedupFree ≠ 0) ∧
    (let s := (admin 0 (cmd 0x20 0 1024 0 0) 1 {}).setFn 1024 { present := true, setRings := some (1, 1) }
     (s.adminNext 0).isSome = true ∧ (s.fn 1024).setRings.isSome = true) := by decide +kernel

/-- A unit of function 1024's ring 15 in the given phase, of partition 1023. -/
def aUnit (ph : UnitPhase) (xs : List Exchange) : WorkUnit :=
  { fn := 1024, ring := 15, asn := 9, tag := 0, args := zeros 32, budget := 2, part := 1023, phase := ph, exchanges := xs }
def aKey : Nat := unitKey (ringOf 1024 15) 9
/-- That unit, the partition in a state, and pair 159 bound to it with its first executor idle. -/
def unitUp (ph : UnitPhase) (xs : List Exchange) (part bind : Nat) : State :=
  ((((((up.setUnit aKey (aUnit ph xs)).setFld (CRU_PART 1023) CRU_PART.STATE part).setFld (UOW_PAIR_BIND 159) UOW_PAIR_BIND.STATE bind).setFld
    (UOW_PAIR_BIND 159) UOW_PAIR_BIND.PARTITION 1023).setBit (UOW_PAIR_BIND 159) UOW_PAIR_BIND.EN).setFld (PAIR_STATUS 318) PAIR_STATUS.STATE 1).setFld
    (PWR_DOM 39) PWR_DOM.STATE 1

theorem units_of_work_met :
    (let s := unitUp .queued [] 4 2
     s.unit? aKey = some (aUnit .queued []) ∧ s.live = true ∧ s.isReady = true ∧ (s.ringsInTurn 1023).head? = some (ringOf 1024 15) ∧
       s.ringRunning (ringOf 1024 15) < 2 ^ s.fld (UOW_PART_CFG 1023) UOW_PART_CFG.RING_CONC ∧
       s.firstQueued (ringOf 1024 15) = some (aKey, aUnit .queued []) ∧ s.startable (ringOf 1024 15) (aUnit .queued []) = true ∧
       s.ringServed (ringOf 1024 15) = true ∧ (s.setRing (ringOf 1024 15) { broken := true }).ringServed (ringOf 1024 15) = false ∧ s.execIdleFor 1023 318 = true ∧ s.execIdleFor 1023 319 = false) ∧
    (∀ n ∈ [0, 3, 7], (unitUp .queued [] n 2).fld (CRU_PART 1023) CRU_PART.STATE = n) ∧
    (unitUp .restarting [] 4 2).unit? aKey = some (aUnit .restarting []) ∧
    (∀ b ∈ [0, 5], (unitUp .queued [] 4 b).fld (UOW_PAIR_BIND 159) UOW_PAIR_BIND.STATE = b ∧ ((unitUp .queued [] 4 b).slotBusy 159 || (unitUp .queued [] 4 b).slotAssay 159) = false) ∧
    (let s := (unitUp .executing [] 4 3).setRun 318 (.unit aKey)
     s.slotBusy 159 = true ∧ s.slotPart 159 ≠ some 0 ∧ s.fld (UOW_PAIR_BIND 159) UOW_PAIR_BIND.STATE ≠ 5 ∧
       s.fld (UOW_PAIR_BIND 159) UOW_PAIR_BIND.PARTITION ≠ 0) ∧
    (∀ kd ∈ [1, 2, 3, 4, 5], ∀ st ∈ [0, 1],
      let s : State := ({ up with cru := { up.cru with confirms := [(kd, 0, 1023)] } } : State).setFld CRU_STATUS CRU_STATUS.STATE st
      s.cru.confirms.find? (fun c => c.1 == kd && c.2.1 == 0) = some (kd, 0, 1023) ∧ s.fld CRU_STATUS CRU_STATUS.STATE = st) ∧
    (∀ st ∈ [3, 5], ((unitUp .queued [] st 1).confirms 1 159 1023 = true ↔ st = 3)) ∧
    (let s := unitUp .preparing [] 4 3
     s.unitProgs aKey = [] ∧ (aUnit .preparing []).aborts = [] ∧ (aUnit .preparing []).refused = none ∧ s.unit? aKey = some (aUnit .preparing [])) ∧
    (∀ x ∈ (aUnit .preparing [⟨3, 2, .held⟩]).exchanges, x.phase = .held) ∧
    ({ aUnit .executing [] with restarts := 2 } : WorkUnit).budget ≤ 2 ∧ (unitUp .queued [] 5 2).fld (CRU_PART 1023) CRU_PART.STATE = 5 := by
  decide +kernel

/-- Comparison view `n` in state `st`, with its retries used. -/
def view (n st used : Nat) (last : Option Nat) (tr : List Nat) : State :=
  ({ up with tb := 10000, prs := { up.prs with pairs := up.prs.pairs.set {} n { used := used, last := last, transients := tr } } } : State).setViewState n st
def slotOf (n split : Nat) : State := (view n 1 0 none []).setFld (PAIR_STATUS (2 * (n / 2))) PAIR_STATUS.MODE split

theorem compared_pairs_met :
    ((view 318 1 2 (some 0) []).live = true ∧ (view 318 1 2 (some 0) []).viewState 318 = 1 ∧ (0 : Nat) + 10000 ≤ (view 318 1 2 (some 0) []).tb) ∧
    (∀ used ∈ [0, 1, 2], ((view 318 2 used (some 1) []).pairSt 318).used = used ∧ ((view 318 2 used (some 1) []).pairSt 318).last = some 1 ∧
      ¬ 1 + 10000 ≤ (view 318 2 used (some 1) []).tb) ∧
    ((view 0 1 2 (some 1) (List.replicate 8 0)).pairSt 0).transients.length = 8 ∧
    (∀ x ∈ [(0, false, false), (400000, true, false), (400001, true, true)], let s : State := { view 318 3 2 (some 1) [] with tb := x.1 }
      let t := s.setPairSt 318 { s.pairSt 318 with assayAt := some 0 }
      t.viewState 318 = 3 ∧ (t.pairSt 318).assayAt = some 0 ∧ decide ((0 : Nat) + 400000 ≤ t.tb) = x.2.1 ∧ decide ((0 : Nat) + 400000 < t.tb) = x.2.2) ∧
    ((slotOf 319 1).isSplit 159 = true ∧ (slotOf 319 0).isSplit 159 = false) ∧
    (let s := (view 318 3 2 (some 1) []).setFld (SPARE_STATUS 39) SPARE_STATUS.ROUTE_OK 255
     s.viewState 318 = 3 ∧ s.isSplit 159 = false ∧ s.fld (SPARE_STATUS 39) SPARE_STATUS.STATE = 0 ∧
       s.fld (SPARE_STATUS 39) SPARE_STATUS.ROUTE_OK >>> (2 * (318 / 2 % 4)) % 2 = 1 ∧ s.fld (PAIR_STATUS 318) PAIR_STATUS.CORE_A ≠ 8) ∧
    (∀ b ∈ [true, false], ({ up with prs := { up.prs with lost := up.prs.lost.set false 39 b } } : State).prs.lost.get false 39 = b) ∧
    (up.isSplit 0 = false ∧ up.fld (UOW_PAIR_BIND 0) UOW_PAIR_BIND.STATE = 0 ∧ up.bit (PAIR_INJECT 0) PAIR_INJECT.BUSY = false ∧
      (up.setBit (PAIR_INJECT 0) PAIR_INJECT.BUSY).bit (PAIR_INJECT 0) PAIR_INJECT.BUSY = true) := by
  decide +kernel

/-- The hypervisor-level executor with registers `g1` and `g2`, and special registers besides `psr`. -/
def withG (a b : W64) (sp : Tbl W64) : State := running { g := [(1, a), (2, b)], sp := (0, 2) :: sp, pc := 0xFFFF800000000000#64 }

theorem integer_and_branch_hypotheses_met :
    (∀ e ∈ [(7, 0), (0, 1), (2 ^ 63, 2 ^ 64 - 1), (2 ^ 31, 2 ^ 32 - 1), (3, 2)],
      let s := withG (BitVec.ofNat 64 e.1) (BitVec.ofNat 64 e.2) []
      s.procRuns (.exec 0) = true ∧ s.fetchCheck (.exec 0) = .ok) ∧
    ((BitVec.ofNat 64 (2 ^ 63)).toInt = -(2 ^ 63) ∧ (BitVec.ofNat 64 (2 ^ 64 - 1)).toInt = -1 ∧
      ((BitVec.ofNat 64 (2 ^ 31)).setWidth 32).toInt = -(2 ^ 31) ∧ ((BitVec.ofNat 64 (2 ^ 32 - 1)).setWidth 32).toInt = -1 ∧
      (BitVec.ofNat 64 (2 ^ 32)).setWidth 32 = 0#32) ∧
    (∀ en ∈ [0, 1], let s := withG 7 0 [(9, BitVec.ofNat 64 (0x300 * en))]
      s.procRuns (.exec 0) = true ∧ getFld ((s.proc 0).getSp spIfc) ⟨8, 1⟩ = en ∧ getFld ((s.proc 0).getSp spIfc) ⟨9, 1⟩ = en) := by
  decide +kernel

/-- Modes 1 and 2 of register 1 over a region at 64 of 32 bytes, or of 2^2 elements. -/
def bounded (mode : Nat) (g : W64) : ProcState :=
  { g := [(1, g)], sp := [(spAms 0, 64#64), (spAmc 0, BitVec.ofNat 64 (mode * 2 ^ 48 + 1 * 2 ^ 40 + 2 * 2 ^ 32 + 32))] }

theorem address_modes_met :
    (boundMode (bounded 0 64) 1 = none ∧ boundMode (bounded 1 64) 1 = some (1, 64, 32, 2) ∧ boundMode (bounded 2 64) 1 = some (2, 64, 32, 2) ∧
      64 + 32 ≤ 2 ^ 64) ∧
    effective (bounded 1 95) .main 1 true 1#13 1 .load = .ok 95 64 ∧ effective (bounded 1 96) .main 1 true 1#13 1 .load = .fault 9 96 ∧
    effective (bounded 2 64) .main 1 true 0#13 8 .load = .ok 64 80 ∧ effective (bounded 2 68) .main 1 true 0#13 8 .load = .fault 9 68 ∧
    effective (bounded 0 1) .main 1 false 0#13 2 .store = .fault 6 1 := by decide +kernel

theorem loads_and_stores_met :
    (let s := hyper
     effective (s.proc 0) .main 0 false 8#13 8 .load = .ok 8 8 ∧ effective (s.proc 0) .main 0 false 7#13 8 .load = .fault 5 7 ∧
       (s.loadBytes (.exec 0) 8 8).1.isSome = true ∧ (s.loadBytes (.exec 0) (BitVec.ofNat 64 (2 ^ 46)) 8).1 = none ∧
       effective (s.proc 0) .main 0 false 7#13 8 .store = .fault 6 7 ∧ effective (s.proc 0) .main 0 false 8#13 8 .store = .ok 8 8 ∧
       (s.storeBytes (.exec 0) 8 (zeros 8)).1 = true ∧ (s.storeBytes (.exec 0) (BitVec.ofNat 64 (2 ^ 46)) (zeros 8)).1 = false) ∧
    (profile (.exec 0) = .main ∧ profile (.engine 63) ≠ .main) ∧
    (hyper.translate (.exec 0) 56 .store = some 56 ∧ hyper.memOn = true ∧ 56 / 64 = (56 + 8 - 1) / 64 ∧
      (hyper.regionCheck (hyper.procWorld (.exec 0)) (64 * lineOf 56) true).2 = some 0) ∧
    (let s := hyper.setCline 4 0 { st := .M, way := some 0 }
     s.canWrite 0 0 (s.procWorld (.exec 0)) = true ∧ s.buffered 0 = [] ∧ hyper.canWrite 0 0 (hyper.procWorld (.exec 0)) = false ∧
       s.groupState (lineGroup 0) = 0 ∧ s.missingMembers (lineGroup 0) (lineRow 0) = [] ∧ s.mm.window = none ∧ s.mm.bad = [] ∧
       s.mm.badCode = []) := by decide +kernel

theorem atomics_met :
    (let s := withG 16 0 []
     (s.proc 0).getG 1 = 16 ∧ s.translate (.exec 0) 16 .store = some 16 ∧ s.translate (.exec 0) 16 .load = some 16 ∧
       (s.memRead (s.procWorld (.exec 0)) 1 16 8).1.isSome = true ∧ (s.storeBytes (.exec 0) 16 (zeros 8)).1 = true) ∧
    (let s := (withG 16 0 []).setCline 4 0 { st := .M, way := some 0 }
     s.atomicReady (.exec 0) 16 = true ∧ (s.procRead (.exec 0) 16 8).1 = some (zeros 8, false) ∧
       (s.storeBytes (.exec 0) 16 (zeros 8)).1 = true ∧ (withG 16 0 []).atomicReady (.exec 0) 16 = false) ∧
    (withG 12 0 []).translate (.exec 0) 0xFFFF800000000000#64 .store = some (2 ^ 47) ∧ (12 : Nat) % 8 ≠ 0 ∧
    (withG 12 0 []).translate (.exec 0) (BitVec.ofNat 64 (2 ^ 47)) .store = none := by decide +kernel

theorem barriers_and_idle_met :
    hyper.storesDone (.exec 0) = true ∧ (hyper.storeBytes (.exec 0) 8 (zeros 8)).2.storesDone (.exec 0) = false ∧
      hyper.level (.exec 0) ≠ 0 := by decide +kernel

theorem controller_bank_access_met :
    (profile .anvilA = .controller ∧ profile (.exec 0) ≠ .controller) ∧
    (ctlLoad up .crucible 0x2FFFF8 8).isSome = true ∧ (ctlLoad up .sequencer 0x40000 8).isNone = true ∧
    (ctlStore up .crucible 0 (zeros 8)).isSome = true ∧ (ctlStore up .sequencer 0x40000 (zeros 8)).isNone = true ∧
    (7 : Nat) % 2 ^ 1 ≠ 0 := by decide +kernel

theorem exception_hypotheses_met :
    (∀ pl ∈ [0, 1, 2], getFld (((if pl = 2 then hyper else below pl 0).proc 0).psr) PSR.EXL = 0 ∧
      (if pl = 2 then hyper else below pl 0).level (.exec 0) = pl) ∧
    (let s := below 1 8
     s.procRuns (.exec 0) = true ∧ s.fetchCheck (.exec 0) = .ok ∧ s.level (.exec 0) ≠ 2 ∧ getFld (s.proc 0).psr PSR.SEALED = 0 ∧
       getFld (s.proc 0).psr PSR.EXL = 1) ∧
    (let s := running { sp := [(0, 10)], pc := 0xFFFF800000000000#64 }
     s.procRuns (.exec 0) = true ∧ s.fetchCheck (.exec 0) = .ok ∧ s.level (.exec 0) = 2 ∧ getFld (s.proc 0).psr PSR.EXL = 1) ∧
    decodeWord (.exec 0) 0xFFFFFFFF#32 = none ∧
    (∀ saved ∈ [1, 2], let s := running { sp := [(0, 1), (2, BitVec.ofNat 64 saved)], pc := 0x1000#64, segs := [(0x1F#64, 1#64)] }
      s.procRuns (.exec 0) = true ∧ s.fetchCheck (.exec 0) = .ok ∧ (s.proc 0).suspended = none ∧
        getFld ((s.proc 0).getSp (spEpc + 1)) PSR.PL = saved) := by decide +kernel

theorem special_registers_met :
    (spExists (.exec 0) 0x047 = true ∧ spLevel 0x047 = 2 ∧ spExists (.exec 0) 0x048 = false ∧ spExists .crucible 0x040 = false ∧
      spExists .crucible 0x020 = true ∧ spExists (.exec 0) 0x030 = true ∧ spExists (.exec 0) 0x031 = true ∧ spLevel 0x031 = 0) ∧
    (∀ k ∈ [0x000, 0x001, 0x004, 0x005, 0x006, 0x007, 0x040, 0x043, 0x044, 0x045, 0x046, 0x047], spExists (.exec 0) k = true ∧
      spLevel k ≤ hyper.level (.exec 0)) ∧
    (below 0 0).level (.exec 0) < spLevel 0x000 := by decide +kernel

/-- Executor 0 within a unit's run, at a level. -/
def inUnit (pl : Nat) : State := ((below pl 32).setUnit 9 { fn := 0, ring := 0, asn := 9, tag := 3, args := [], budget := 1, part := 2 }).setRun 0 (.unit 9)

theorem unit_instructions_met :
    (Runs (inUnit 1) (.exec 0) ∧ (runUnit (inUnit 1) (.exec 0)).isSome = true ∧ runUnit (below 1 0) (.exec 0) = none ∧
      (inUnit 0).level (.exec 0) = 0) := by
  refine ⟨⟨?_, ?_⟩, ?_⟩ <;> decide +kernel

theorem world_exit_and_enqueue_met :
    (∀ b ∈ [0, 16], let s := (below 1 b)
      s.level (.exec 0) = 1 ∧ s.procRuns (.exec 0) = true ∧ getFld (s.proc 0).psr PSR.SEALED = b / 16) ∧
    Runs (below 1 0) (.exec 0) ∧
    (∀ n ∈ [127, 255], (BitVec.ofNat 64 (256 * n + 3)).toNat / 256 = n) ∧
    ((hyper.loadBytes (.exec 0) 64 64).1.isSome = true ∧ (hyper.loadBytes (.exec 0) (BitVec.ofNat 64 (2 ^ 46)) 64).1 = none) := by
  refine ⟨?_, ⟨?_, ?_⟩, ?_, ?_⟩ <;> decide +kernel

/-- Executor 0 below hypervisor level with a timer due, or an external interrupt. -/
def irq (rest : Nat) (sp : Tbl W64) (ext hext : Bool) : State :=
  ({ running { sp := (0, BitVec.ofNat 64 (1 + rest)) :: sp, ext := ext, hext := hext } with tb := 5 } : State)

theorem interrupts_met :
    (let s := irq 4 [(spTcmp, 5), (spHtcmp, 5)] true true
     s.inService (.exec 0) = true ∧ s.level (.exec 0) ≠ 2 ∧ getFld (s.proc 0).psr PSR.IE = 1 ∧ (s.proc 0).getSp spTcmp ≠ 0 ∧
       ((s.proc 0).getSp spTcmp).toNat ≤ s.tb ∧ getFld (s.proc 0).psr PSR.SEALED = 0 ∧ getFld (s.proc 0).psr PSR.UNIT = 0 ∧
       ((s.proc 0).getSp spHtcmp).toNat ≤ s.tb ∧ (s.proc 0).ext = true ∧ (s.proc 0).hext = true) ∧
    getFld ((irq 32 [] false true).proc 0).psr PSR.UNIT = 1 ∧
    (irq 4 [(spTcmp, 6)] false false).irqPending (.exec 0) 0x18 = false := by decide +kernel

theorem floating_met :
    (let s := withG 0 0 [(8, 0x1F000#64)]
     getFld ((s.proc 0).getSp spFpc) ⟨12, 5⟩ = 31 ∧ (Sys2Proof.Float.div .d .rne (Sys2Proof.Float.unpack .d 0) (Sys2Proof.Float.unpack .d 0)).flags &&& 31 ≠ 0) ∧
    (Sys2Proof.Float.add .d .rne (Sys2Proof.Float.unpack .d 0) (Sys2Proof.Float.unpack .d 0)).flags &&& 0 = 0 := by decide +kernel

/-- The L2 of cluster 39 holding line 5 as given. -/
def cached (x : CacheLine) : State := ({ up with tb := 100 } : State).setCline 43 5 x

theorem cache_line_states_met :
    (∀ st ∈ [LineState.I, .M, .O, .E, .S, .IS, .IX, .UX, .WB], ∀ b ∈ [true, false],
      (cached { st := st, dirty := b, cleaning := b, retryAt := some 100, want := some .rds, chk := some (1, false), waits := [] }).live = true ∧
        ((cached { st := st, dirty := b, cleaning := b, retryAt := some 100, want := some .rds, chk := some (1, false) }).cline 43 5).st = st ∧
        ((cached { st := st, dirty := b, cleaning := b, retryAt := some 100, want := some .rds, chk := some (1, false) }).cline 43 5).dirty = b ∧
        due (cached {}) (some 100) = true ∧ due (cached {}) (some 101) = false) ∧
    (∀ w ∈ [none, some 0], ((cached { st := .I, want := some .rdx, way := w, twin := w, retryAt := some 100 }).readyDirty 43 5).1 =
      true) ∧ (cached {}).viewOut 319 = true ∧ (running {}).viewOut 0 = false ∧ (∀ p ∈ (cached {}).procs, ((cached {}).proc p.1).exitDue = none) ∧
    ((cached {}).cline 43 5).chk = none ∧ ((cached {}).cline 43 5).haveGrant = false ∧ (4 : Nat) ≤ (43 : Fin 44).val := by
  decide +kernel

/-- Home agent of line 5, serving, its entry as given; agent 1 dead or not. -/
def homed (e : HomeEntry) (dead : List Nat) : State :=
  (({ running {} with tb := 100, coh := { up.coh with dead := dead } } : State).setHome (lineHome 5) 5 e).setFld
    COH_STATUS COH_STATUS.MODE 1

theorem home_directories_met :
    (∀ d ∈ [DirState.I, .S [], .S [0, 3], .X 2, .O 2 [], .O 0 [3]],
      let s := homed { dir := d } []
      s.live = true ∧ (s.home (lineHome 5) 5).dir = d ∧ (s.home (lineHome 5) 5).busy = none ∧ (s.home (lineHome 5) 5).waits = [] ∧
        (s.home (lineHome 5) 5).reserved = none ∧ (s.home (lineHome 5) 5).held = [] ∧ s.isDead 0 = false ∧ s.dirHasRoom (lineHome 5) 5 = true ∧
        s.fld COH_STATUS COH_STATUS.MODE = 1) ∧
    (∀ k ∈ [ReqKind.rds, .rdx, .upg, .iord],
      let s := homed { dir := .X 0, busy := some { kind := k, requester := 2, fwd := some 0, invs := [3], timeout := some 100 } } []
      s.live = true ∧ (s.home (lineHome 5) 5).busy = some { kind := k, requester := 2, fwd := some 0, invs := [3], timeout := some 100 } ∧
        due s (some 100) = true ∧ due s (some 101) = false) ∧
    (((homed { waits := [3] } []).home (lineHome 5) 5).waits.head? = some 3 ∧ ioReaches (homed {} []) 5 = true ∧
      ioReaches (homed {} []) 3963617280 = false) ∧
    ((homed {} []).regionCheck .opened (64 * 5) true = (0, some 0) ∧ ((homed {} []).regionCheck (.sealed 1) (64 * 5) true).2 = none ∧
      ((homed {} []).regionCheck (.sealed 1) (64 * 5) false).2 = none) ∧
    ((homed {} [1]).coh.dead.contains 1 = true ∧ (homed {} [1]).isDead 14 = true ∧ (homed {} []).coh.dead.contains 43 = false) := by
  decide +kernel

theorem coherence_clauses_met :
    (∀ d ∈ [DirState.I, .S [3], .X 2, .O 2 [3]], let s := homed { dir := d } []
      s.ioHead 5 = none ∧ s.isDead ioAgent = false ∧ s.isDead 2 = false ∧ (s.regionCheck (tagWorld (s.cline 0 5).tag) (64 * 5) true).2.isSome = true ∧
        (s.regionCheck (tagWorld (s.cline 0 5).tag) (64 * 5) false).2.isSome = true ∧ s.groupState (lineGroup 5) = 0 ∧
        s.missingMembers (lineGroup 5) (lineRow 5) = [] ∧ s.memberFails (lineGroup 5) (lineRow 5) (lineMember 5) = false ∧ s.mm.window = none ∧
        (s.home (lineHome 5) 5).dir = d) ∧
    (let s := (homed { busy := some { kind := .rds, requester := 2 } } []).setCline 0 5 { tag := 7, chk := some (3, true) }
     (s.home (lineHome 5) 5).busy.isSome = true ∧ (s.regionCheck (tagWorld (s.cline 0 5).tag) (64 * 5) false).2.isSome = false ∧
       (s.regionCheck (.sealed 1) (64 * 5) (((s.cline 0 5).chk.map (·.2)).getD false)).2 = none) ∧
    (let h := homed {} [0]
     let s : State := { h with coh := { h.coh with io := [{ line := 5, write := false, world := .opened }], stores := [⟨319, 5, 320, 9, [1], 0⟩] } }
     s.ioHead 5 ≠ none ∧ s.isDead 0 = true ∧ (s.coh.stores.find? fun b => b.proc == 319 && b.line == 5).isSome = true) ∧
    (let s := cached { st := .IX, haveData := true, haveGrant := true, waits := [⟨319, .load, 3⟩] }
     (s.cline 43 5).haveGrant = true ∧ (s.cline 43 5).haveData = true ∧ ∀ y ∈ (s.cline 43 5).waits, ¬ (y.tag = 3 ∧ y.kind = .store)) := by
  decide +kernel

theorem address_map_met : (3963617279 : Nat) < 3963617280 ∧ (23 : Nat) < 24 ∧ lineGroup 3963617279 < 3 := by decide +kernel

/-- Region 63 over its first 2 MiB, of a kind, owned by partition 5. -/
def region (kind : Nat) : State :=
  ((up.setBit (HA_REGION_BASE 63) HA_REGION_BASE.VALID).setFld (HA_REGION_CTL 63) HA_REGION_CTL.KIND kind).setFld (HA_REGION_CTL 63) HA_REGION_CTL.OWNER 5

theorem region_check_table_met :
    (up.regionOf 0 = none ∧ up.partSealed 5 = false ∧ (up.setPartState 5 3).partSealed 5 = true) ∧
    (∀ k ∈ [0, 1, 2], (region k).regionOf (2 ^ 21 - 1) = some 63 ∧ (region k).regionOf (2 ^ 21) = none ∧
      (region k).fld (HA_REGION_CTL 63) HA_REGION_CTL.KIND = k ∧ (region k).fld (HA_REGION_CTL 63) HA_REGION_CTL.OWNER = 5) ∧
    ((up.memRead .opened 1 0 8).1 = none ∧ (up.memWrite .opened 1 0 (zeros 8)).1 = false ∧ (hyper.memWrite .opened 1 0 (zeros 8)).1 = true) ∧
    (hyper.memOn = true ∧ (hyper.rangeCheck .opened 0 8 true).2.isSome = true ∧ (hyper.rangeCheck .opened 0 8 false).2.isSome = true ∧
      hyper.mm.badCode = [] ∧ hyper.mm.window = none) := by
  decide +kernel

/-- A calibration window on channel 23, or the catch-up after it. -/
def calibrating (catchUp : Bool) : State := { up with mm := { up.mm with window := some { chan := 23, start := 0, catchUp := catchUp, marked := [] } } }
def groupIn (st : Nat) : State := up.setFld (MEM_GROUP 2) MEM_GROUP.STATE st

theorem memory_channels_met :
    (up.live = true ∧ (∀ n ∈ [1, 4], (up.setFld (MEM_CHAN 23) MEM_CHAN.STATE n).fld (MEM_CHAN 23) MEM_CHAN.STATE = n)) ∧
    (∀ n ∈ [0, 1, 2], (groupIn n).live = true ∧ (groupIn n).groupState 2 = n) ∧
    (∀ i, i < 8 → up.fld (MEM_CHAN (memberHome 2 i)) MEM_CHAN.STATE ≠ 4) ∧
    (∀ c ∈ [true, false], (calibrating c).live = true ∧ (calibrating c).mm.window = some { chan := 23, start := 0, catchUp := c, marked := [] } ∧ chanGroup 23 = 2 ∧
      chanGroup 22 = 2) ∧
    ((up.planishGroup.isSome = true) ∧
      ({ up with mm := { up.mm with planish := ((up.mm.planish.set 0 0 groupRows).set 0 1 groupRows).set 0 2 groupRows } } : State).planishGroup = none) ∧
    (up.planishDue ≤ up.tb ∧ ({ up with mm := { up.mm with planishAt := 1 } } : State).tb < ({ up with mm := { up.mm with planishAt := 1 } } : State).planishDue) ∧
    (∀ i, i < 8 → up.memberFails 2 0 i = false) ∧ up.parityOut 2 0 = false ∧ (up.setBad 2 0 3 true).memberFails 2 0 3 = true ∧
    ((List.range 7).foldl (fun (s : State) p => s.setPoison (rowLine 2 0 p) true) up |>.parityOut 2 0) = false ∧
    (∀ p, p < 7 → (((List.range 7).foldl (fun (s : State) p => s.setPoison (rowLine 2 0 p) true) up).storedLine (rowLine 2 0 p)).length = 64) ∧
    ((up.missingMembers 2 0 = []) ∧ up.planishCount + 1 ≠ 3 * groupRows) ∧
    (let s := (up.setBit MEM_TEMPER_CFG MEM_TEMPER_CFG.EN).setFld (MEM_CHAN 23) MEM_CHAN.STATE 1
     s.bit MEM_TEMPER_CFG MEM_TEMPER_CFG.EN = true ∧ s.mm.window = none ∧ s.mm.calAt ≤ s.tb ∧ s.calEligible 23 = true ∧ up.calEligible 0 = false) ∧
    ((up.setBit MEM_TEMPER_CFG MEM_TEMPER_CFG.EN false).bit MEM_TEMPER_CFG MEM_TEMPER_CFG.EN = false) := by
  decide +kernel

theorem swage_blocks_met : (zeros 4096).length = 4096 ∧ (5 : Nat) ≤ 5 := by decide +kernel

/-- A request block of a compression queue: op, source length. -/
def swgBlock (op len : Nat) : Bytes := leBytes 16 (if op = 3 then op + 2 ^ 16 else op) ++ leBytes 4 len ++ zeros 44
/-- Queue 127 with this request at its head, `granted` of its blocks handed out, engine 7 in service or not. -/
def swgUp (op len granted eng : Nat) : State :=
  ({ up with swg := { up.swg with queues := [(127, [{ block := swgBlock op len, granted := granted }])] } } : State).setFld (SWG_ENG 7) SWG_ENG.STATE eng

theorem compression_queues_met :
    (∀ op ∈ [1, 2, 4, 0x10, 0x11], ∀ eng ∈ [0, 1], let len := if op ≤ 4 then 4096 else 0
      let s := swgUp op len 1 eng
      s.live = true ∧ (s.swgQueue 127).map (fun r => (swgFields r.block).op) = [op] ∧ swgValid (swgBlock op len) = true ∧
        swgBlocks (swgBlock op len) ≤ 1 ∧ 7 / 4 = 127 / 64 ∧ s.swgHalfServes 127 = (eng == 1) ∧ s.swgInService 7 = (eng == 1)) ∧
    (swgValid (swgBlock 1 1) = false ∧ (1 : Nat) ≤ swgBlocks (swgBlock 1 4097)) ∧
    ((swgUp 1 8192 1 1).swgHungry 127 = true ∧ up.swgQueue 127 = [] ∧ (up.swgCtx 127).isSome = false) ∧
    ((withFn 3 { weight := 0 }).swgWeight 3 = 0 ∧ (withFn 3 {}).swgWeight 3 ≠ 0) := by
  decide +kernel

/-- A request block of a cipher queue: op, slot, length. -/
def cipBlock (op slot len auxLen : Nat) : Bytes := leBytes 2 op ++ leBytes 2 slot ++ leBytes 4 len ++ zeros 24 ++ leBytes 4 auxLen ++ zeros 28
/-- Queue 127 served by engine 7, its head as given; slot 8191 holds a key of the kind the op needs, of function 0. -/
def cipUp (op len auxLen : Nat) (started withdrawn : Bool) (eng okind : Nat) : State :=
  ((((({ up with cip := { up.cip with queues := [(127, [{ block := cipBlock op (if op = 5 then 0 else 8191) len auxLen, started := started, withdrawn := withdrawn }])] } } : State).setFld
    (CIP_ENG 7) CIP_ENG.STATE eng).setFld (CIP_Q_STATUS 127) CIP_Q_STATUS.ENGINE 7).setFld (CIP_Q_CFG 127) CIP_Q_CFG.KIND 2).setFld
    (CIP_SLOT 8191) CIP_SLOT.KIND (cipKind op)).setFld (CIP_SLOT 8191) CIP_SLOT.OWNER_KIND okind

theorem cipher_queues_met :
    ((zeros 32).length = 32 ∧ (zeros 12).length = 12) ∧
    (∀ op ∈ [1, 2, 3, 4, 5, 6, 7], ∀ ok ∈ [0, 2], let ax := if op = 3 ∨ op = 4 then 512 else 0
      let s := cipUp op 512 ax false false 1 ok
      s.live = true ∧ (s.cipQueue 127).map (fun r => (cipFields r.block).op) = [op] ∧ cipValid (cipBlock op (if op = 5 then 0 else 8191) 512 ax) = true ∧
        s.cipEngineOf 127 = 7 ∧ s.cipInService 7 = true ∧ s.cipRoom 7 (decide (5 ≤ op)) = true ∧ s.cipTurn 127 = true ∧ (op ≠ 5 → s.cipSlotOk 127 8191 op = (ok == 2))) ∧
    (∀ w ∈ [true, false], ((cipUp 1 0 0 true w 1 2).cipQueue 127).map (fun r => (r.started, r.withdrawn)) = [(true, w)]) ∧
    ((cipUp 1 0 0 true false 1 2).cipRoom 7 false = false ∧ (cipUp 1 0 0 false false 0 2).cipInService 7 = false ∧
      cipValid (cipBlock 3 8191 0 512) = false ∧ up.cipQueue 127 = []) ∧
    (({ cipUp 1 0 0 false false 1 2 with cip := { (cipUp 1 0 0 false false 1 2).cip with queues := (cipUp 1 0 0 false false 1 2).cip.queues ++ [(128, (cipUp 1 0 0 false false 1 2).cipQueue 127)], turn := [(7, some 127)] } } : State).setFld
        (CIP_Q_STATUS 128) CIP_Q_STATUS.ENGINE 7).cipTurn 127 = false ∧
    (∀ n ∈ [1, 2], (up.setFld CRU_STATUS CRU_STATUS.STATE n).fld CRU_STATUS CRU_STATUS.STATE = n) ∧
    up.loadErr 8191 1 1 1023 0 (zeros 64) = 0 ∧ up.loadErr 8191 4 1 0 0 (zeros 64) = 1 ∧ up.loadErr 8191 2 1 1023 0 (zeros 64) = 2 := by
  decide +kernel

/-- Engine 63 in service and serving queue 255, with one program as given. -/
def progUp (p : ChanProg) (kind : Nat) (cache : Bytes) : State :=
  ((({ up with tb := 1000, chn := { up.chn with progs := [p], engines := [(63, { cache := [(0, { valid := true, data := cache })] })] } } : State).setFld
    (CHN_ENG 63) CHN_ENG.STATE 1).setFld (CHN_Q_STATUS 255) CHN_Q_STATUS.ENGINE 63).setFld (CHN_Q_CFG 255) CHN_Q_CFG.KIND kind

/-- A program about to run the entry with this command, auxiliary operand, length and device. -/
def entry (cmd aux len dev : Nat) : Bytes := leBytes 2 cmd ++ leBytes 2 dev ++ leBytes 4 len ++ zeros 16 ++ leBytes 4 aux ++ zeros 36

theorem channel_programs_met :
    (up.live = true ∧ up.chanQueue 255 = [] ∧ up.chn.steps = []) ∧
    (∀ op ∈ [1, 2, 3, 4], let p : ChanProg := { id := 3, queue := 255, engine := 0, op := op }
      let s := progUp p 2 []
      s.live = true ∧ (s.chanQueue 255).find? (fun p => !p.started) = some p ∧ s.mayBegin p = true ∧ (s.chanQueue 255).head? = some p ∧
        s.canBegin 255 = true ∧ s.chanTurn 255 = true ∧ (s.setEngine 63 { s.engine 63 with turn := some 255 }).chanTurn 255 = true ∧
        s.progOf 3 = some p ∧ s.chanInService (s.chanEngineOf 255) = true) ∧
    (let p : ChanProg := { id := 3, queue := 255, engine := 0, op := 1, unit := some 9 }
     (progUp p 1 []).mayBegin p = true ∧ (progUp p 1 []).fld (CHN_Q_CFG 255) CHN_Q_CFG.KIND = 1 ∧ (progUp p 2 []).fld (CHN_Q_CFG 255) CHN_Q_CFG.KIND ≠ 1) ∧
    (∀ e ∈ [(1, 0, 512, 1023), (2, 0, 512, 0), (3, 0, 512, 0), (4, 63, 0, 0), (5, 0, 0, 0), (6, 65535, 256, 0), (7, 0, 256, 0), (8, 0, 0, 0),
        (9, 1, 16777216, 0), (10, 127, 0, 0), (11, 127, 0, 0)],
      let p : ChanProg := { id := 3, queue := 255, engine := 63, op := 1, started := true }
      let s := progUp p 2 (entry e.1 e.2.1 e.2.2.1 e.2.2.2)
      s.progOf 3 = some p ∧ s.chanInService 63 = true ∧ ((s.fetchEntry p).1.map (fun b => leAt b 0 1)) = some e.1 ∧ s.mayStart 3 e.1 = true ∧
        (s.fetchEntry p).2.progOf 3 = some p ∧ cceOk (cceOf ((s.fetchEntry p).1.getD [])) = true ∧ p.free[e.2.1]? = none ∧
        s.deviceFor 255 e.2.2.2 = false ∧ s.chainOwner 255 (swgRegs e.2.1) = false ∧ s.chainOwner 255 (cipRegs e.2.1) = false) ∧
    (let p : ChanProg := { id := 3, queue := 255, engine := 63, op := 1, started := true, pc := 64 }
     ((progUp p 2 []).fetchEntry p).1 = none) ∧
    cceOk (cceOf (entry 9 3 0 0)) = false ∧
    (let p : ChanProg := { id := 3, queue := 255, engine := 0, op := 1 }
     let s := progUp p 2 []
     let s := ({ s with chn := { s.chn with progs := { p with id := 2, queue := 254 } :: s.chn.progs } } : State).setFld (CHN_Q_STATUS 254) CHN_Q_STATUS.ENGINE 63
     (s.setEngine 63 { turn := some 255 }).chanTurn 255 = false ∧ (s.setEngine 63 { turn := some 254 }).chanTurn 255 = true) ∧
    ((State.cacheEntry ((progUp { id := 3, queue := 255, engine := 0, op := 1 } 2 []).engine 63) 0).valid = true ∧
      (State.cacheEntry (up.engine 63) 0).valid = false) ∧
    (∀ w ∈ [ProgWait.word 8 1000 1000, .word 8 1001 1001, .time 1000, .time 1001, .none, .chain 1 0 0],
      (progUp { id := 3, queue := 255, engine := 63, op := 1, wait := w } 2 []).progOf 3 = some { id := 3, queue := 255, engine := 63, op := 1, wait := w }) ∧
    (up.chainEnded 1 0 0 = true ∧ (swgUp 1 4096 0 1).chainEnded 1 127 0 = false) ∧
    ((0x80000001#32).getLsbD 31 = true ∧ (0x80000001#32).toNat % 2 ^ 20 ≠ 0) ∧
    (∀ d ∈ [true, false], (State.cacheEntry ({ cache := [(47, { disabled := d })] } : ChanEngine) 47).disabled = d) ∧
    ((100 : Nat) :: [99, 98]).length = 3 := by
  decide +kernel

/-- Association 0 at port 0, up, with one key in both directions; the port's address is 0. -/
def assocOn (seq : Nat) : State :=
  let s := (((up.setBit (SRX_ASSOC_CFG 0) SRX_ASSOC_CFG.EN).setFld (SRX_ASSOC_CFG 0) SRX_ASSOC_CFG.STATE 2).setFld SRX_STATUS SRX_STATUS.PORT_UP 1).setAssoc 0
    { ({} : Assoc) with secret := some (zeros 32), txKey := zeros 32, rxKey := zeros 32, rxNext := seq, kaAt := some 0, estAt := some 0 }
  { s with regs := (SRX_PORT 0, 0) :: s.regs }

/-- A frame of type 9 with sequence 1 on it, as it stands on the wire. -/
def aFrame : Bytes :=
  ([0, 0, 0, 0, 0, 0, 0, 0, 0, 0, 0, 0, 136, 181, 1, 9, 4, 0, 0, 0, 0, 0, 0, 0, 0, 0, 0, 0, 0, 0, 1, 0, 0, 0, 0, 0, 0, 0, 0, 0, 0, 0, 0, 0, 0, 0,
    171, 196, 129, 171, 79, 1, 162, 189, 85, 99, 86, 227, 229, 15, 95, 173, 115, 215, 202, 187, 101, 37, 60, 246] : List Nat).map (BitVec.ofNat 8)

theorem surex_frames_met :
    (let s := assocOn 1
     s.live = true ∧ s.portUp 0 = true ∧ up.portUp 15 = false ∧ s.readFrame 0 [] = .ignore ∧
       (match s.readFrame 0 aFrame with
        | .frame f => f.type == 9 && f.assoc == 0 && f.seq == 1 && (s.openFrame f).isSome && ((assocOn 1).setAssoc 0 {}).openFrame f == none
        | _ => false) = true) := by
  decide +kernel

theorem surex_timers_met :
    (let s := assocOn 1
     due s (s.assoc 0).estAt = true ∧ due s (s.assoc 0).kaAt = true ∧ s.assocState 0 = 2 ∧ (s.assoc 0).keepalives < s.fld SRX_CFG SRX_CFG.TRIES ∧
       due up (up.assoc 4095).estAt = false ∧ up.assocState 4095 ≠ 2 ∧ (up.assoc 4095).unacked = [] ∧ s.bit (SRX_ASSOC_CFG 0) SRX_ASSOC_CFG.EN = true ∧
       up.bit (SRX_ASSOC_CFG 4095) SRX_ASSOC_CFG.EN = false) ∧
    (let s := (assocOn 1).setAssoc 0 { ({} : Assoc) with keepalives := 255, unacked := [⟨1, [], 0, 0, 0⟩] }
     s.fld SRX_CFG SRX_CFG.TRIES ≤ (s.assoc 0).keepalives ∧ s.tb < 0 + s.retx ∧ 0 < s.fld SRX_CFG SRX_CFG.TRIES ∧
       ({ s with tb := s.retx } : State).retx ≤ s.retx) ∧
    (up.pins.seated = false ∧
      (let s := ({ up with pins := { up.pins with seated := true } } : State).setFld (SRX_PORT_STATUS 15) SRX_PORT_STATUS.MODE 1
       s.pins.seated = true ∧ s.fld (SRX_PORT_STATUS 15) SRX_PORT_STATUS.MODE ≠ 0 ∧
         (s.setFld CHN_STATUS CHN_STATUS.QUARTER_ON 15).fld CHN_STATUS CHN_STATUS.QUARTER_ON >>> (15 / 4) % 2 = 1)) ∧
    (let t : XStep := { xid := 7, kind := .commit, owner := .unit 0, dev := 1023, path := none, reissueAt := some 0 }
     let s : State := { up with chn := { up.chn with steps := [t] } }
     s.chn.steps.find? (fun t => t.xid == (7#64 : W64).toNat && t.dev == 1023 && due s t.reissueAt) = some t ∧
       s.stepWithheld t = false ∧ (s.setRing 0 { s.ring 0 with fenced := true }).stepWithheld t = true) := by
  decide +kernel

/-- Crucible in service; mailbox `m` holds a request of an op with A and an argument length, whose argument is zeros in
memory; partition 1023 in a state with this registration block. -/
def mailUp (m op a argLen st : Nat) (block : Bytes) : State :=
  let s := ({ up with mm := { up.mm with loaded := up.mm.loaded.set [] 0 [1] }, cru := { up.cru with
    mail := [(m, some { req := leBytes 2 op ++ leBytes 2 1023 ++ leBytes 4 argLen ++ zeros 8 ++ leBytes 8 a ++ zeros 40 })], parts := [(1023, { block := block })] } } : State)
  let s := [48, 49, 50, 51, 61, 62, 63].foldl (fun (s : State) d => s.setFld (PWR_DOM d) PWR_DOM.STATE 1) s
  (s.setFld CRU_STATUS CRU_STATUS.STATE 1).setFld (CRU_PART 1023) CRU_PART.STATE st

/-- A registration block of partition 1023: one segment of one granule, readable, and an empty image. -/
def aBlock : Bytes := leBytes 4 1023 ++ leBytes 4 4096 ++ zeros 56 ++ leBytes 8 0x1F ++ leBytes 8 1 ++ zeros 240

theorem mailbox_requests_met :
    (∀ op ∈ [1, 2, 3, 4, 5, 6, 7, 8, 9, 10, 11, 12],
      let s := mailUp 1 op 0 0 0 []
      s.live = true ∧ s.fld CRU_STATUS CRU_STATUS.STATE = 1 ∧ ((s.mail 1).map (fun q => (rqOp q.req, q.begun, rqValid q.req, rqPart q.req))) =
        some (op, false, true, 1023)) ∧
    (∀ st ∈ [0, 1, 2, 3, 4, 5, 6, 7], (mailUp 1 2 0 320 st []).fld (CRU_PART 1023) CRU_PART.STATE = st) ∧
    (aBlock.length = 320 ∧ regBlockOk 1023 aBlock = true ∧ regBlockOk 1022 aBlock = false ∧ (mailUp 1 3 0 0 1 aBlock).runsFit aBlock = true ∧
      State.imageMapped aBlock = true) ∧
    (((mailUp 1 2 0 320 0 []).mailRead 1 0 320 []).1 = some (zeros 320) ∧ (up.mailRead 1 0 320 []).1 = none) ∧
    (up.bit (CRU_MB_CTL 1039) CRU_MB_CTL.BUSY = false ∧ (up.setBit (CRU_MB_CTL 1039) CRU_MB_CTL.BUSY).bit (CRU_MB_CTL 1039) CRU_MB_CTL.BUSY = true ∧
      State.mailOwner 1039 (.sealed 1023) = true ∧ State.mailOwner 15 .hypervisor = false) ∧
    (up.fld (CIP_SLOT 0) CIP_SLOT.KIND = 0 ∧ ((up.setFld (CIP_SLOT 0) CIP_SLOT.KIND 1).setFld (CIP_SLOT 0) CIP_SLOT.OWNER_KIND 2).fld (CIP_SLOT 0) CIP_SLOT.OWNER_KIND = 2) ∧
    ((up.setPartner 7 { present := true }).partner 7).present = true ∧ ((up.setPartner 7 { session := true }).partner 7).session = true ∧ up.cru.batches[63]? = none ∧
    (([⟨[], [], [(5, [1])]⟩] : List MeterBatch)[0]?.map (fun b => b.entries.get [] 5)) = some [1] ∧
    leAt (leBytes 1 2 ++ zeros 71) 0 1 = 2 ∧ blobSlot (leBytes 1 2 ++ zeros 71) = 0 := by
  decide +kernel

theorem sealing_restart_and_meters_met :
    (let s := mailUp 1 3 0 0 2 aBlock
     s.fld (CRU_PART 1023) CRU_PART.STATE = 2 ∧ s.fld CRU_STATUS CRU_STATUS.STATE = 1 ∧ s.isReady = true) ∧
    (let s := ((((mailUp 1 3 0 0 3 aBlock).setBit (UOW_PAIR_BIND 0) UOW_PAIR_BIND.EN).setFld (UOW_PAIR_BIND 0) UOW_PAIR_BIND.PARTITION 1023).setFld
        (UOW_PAIR_BIND 0) UOW_PAIR_BIND.STATE 2).setFld (PAIR_STATUS 0) PAIR_STATUS.STATE 1 |>.setFld (PWR_DOM 0) PWR_DOM.STATE 1
     s.fld (CRU_PART 1023) CRU_PART.STATE = 3 ∧ (s.partRec 1023).serviceOn = none ∧ (s.partRec 1023).serviceAt ≤ s.tb ∧ s.execIdleFor 1023 0 = true) ∧
    (∀ st ∈ [0, 3, 4, 7], (mailUp 1 3 0 0 st aBlock).fld (CRU_PART 1023) CRU_PART.STATE = st ∧ ((mailUp 1 3 0 0 st aBlock).partRec 1023).origin = 0 ∧
      ((mailUp 1 3 0 0 st aBlock).partRec 1023).block ≠ []) ∧
    (({ up with pins := { up.pins with seated := true } } : State).setFld (PWR_DOM 60) PWR_DOM.STATE 1).seamUp = true ∧ up.seamUp = false ∧
    (identityHalted { up with phase := .halted 4, cru := { up.cru with identityBad := true } } = true ∧ (mailUp 1 0x0A 0 320 0 aBlock).waitingStandbys = []) ∧
    (65536 < State.spdmSize (.request (zeros 65537)) ∧ State.spdmSize (.openSession) ≤ 65536) ∧
    (∀ n ∈ [0, 1, 2, 3], (up.setFld CRU_STATUS CRU_STATUS.STATE n).fld CRU_STATUS CRU_STATUS.STATE = n) ∧
    (due up up.cru.wdogAt = false ∧ due { up with cru := { up.cru with wdogAt := some 0 } } (some 0) = true) ∧
    (up.cru.identityBad = false ∧ up.hep.spdmSessions.length < 4 ∧ ([1, 2, 3, 4] : List Nat).length = 4) ∧
    (up.cru.banks = [] ∧ ({ up with cru := { up.cru with banks := [⟨0, 0, 60, [], [], false, false, true⟩] } } : State).cru.banks.length < 2 ∧ up.pwr.reported = false ∧ up.cru.boundaryAt ≤ up.tb ∧ up.tb < ({ up with cru := { up.cru with boundaryAt := 1 } } : State).cru.boundaryAt) ∧
    (let s := ((((withFn 0 { bme := true }).setFnState 0 1).setBit MTR_DEST_CTL MTR_DEST_CTL.EN).setFld MTR_DEST_CTL MTR_DEST_CTL.SIZE 3)
     s.bit MTR_DEST_CTL MTR_DEST_CTL.EN = true ∧ s.fnActive 0 = true ∧
       s.hep.pfOut = [] ∧ (s.fn 0).ats = false ∧
       decide ((s.fld MTR_DEST_IDX MTR_DEST_IDX.TAIL + 2 ^ 32 - s.fld MTR_DEST_IDX MTR_DEST_IDX.HEAD) % 2 ^ 32 = 8) = false ∧
       decide (((s.setFld MTR_DEST_IDX MTR_DEST_IDX.TAIL 8).fld MTR_DEST_IDX MTR_DEST_IDX.TAIL + 2 ^ 32 - s.fld MTR_DEST_IDX MTR_DEST_IDX.HEAD) % 2 ^ 32 = 8) = true) := by
  decide +kernel

/-- A clock monitor and a mux switch of domain 295 as given, at 160 ns. -/
def clocked (x : ClockMon) (m : Option MuxSwitch) : State :=
  ({ up with tb := 160, clk := { up.clk with local_ := x, mux := up.clk.mux.set none 295 m, holdEnd := [(295, some 160)], timeAt := some 160 } } : State)
def fedBy (f : Feed) : State := { up with pwr := { up.pwr with bellows := { up.pwr.bellows with feed1 := f } } }
def domIn (d st on : Nat) : State := (up.setFld (PWR_DOM d) PWR_DOM.STATE st).setFld (PWR_DOM d) PWR_DOM.ON on

theorem clocks_and_power_met :
    (let s := clocked { running := true, qualAt := some 160 } (some ⟨2, 0, true⟩)
     s.live = true ∧ (s.mon 1).running = true ∧ due s (s.mon 1).qualAt = true ∧ s.switching 295 = some ⟨2, 0, true⟩ ∧ 0 + 160 ≤ s.tb ∧
       due s (s.clk.holdEnd.get none 295) = true ∧ due s (s.clk.holdEnd.get none 294) = false ∧ due s s.clk.timeAt = true ∧ s.tb < 1 + 160) ∧
    (let s := clocked {} none
     (s.mon 1).running = false ∧ (s.mon 1).qualAt = none ∧ s.switching 295 = none ∧ s.bestSource = 2 ∧ s.sourceOk 1 = false) ∧
    ((clocked { qualified := true } none).bestSource = 1 ∧ (clocked { qualified := true } none).bestSource < 2 ∧
      up.bit CLK_STATUS CLK_STATUS.MASTER = true ∧ (up.setBit CLK_STATUS CLK_STATUS.MASTER false).bit CLK_STATUS CLK_STATUS.MASTER = false ∧
      up.start.waitTime = none ∧ up.tb + 1000 < 1001 ∧ up.tb + 100 < 1000) ∧
    ((∀ b ∈ [true, false], ((fedBy { present := b }).feed 1).present = b ∧ ((fedBy { present := b }).feed 1).qualified = false) ∧
      (∀ b ∈ [true, false], (up.setBit PWR_STATUS PWR_STATUS.LINK_UP b).bit PWR_STATUS PWR_STATUS.LINK_UP = b) ∧
      ((fedBy { qualified := true, present := true, lost := true }).feed 1).lost = true ∧ (up.feed 0).present = false ∧ (up.feed 1).present = false) ∧
    (up.pwr.reported = false ∧ up.pwr.bellows.stage48 = false ∧ due { up with tb := 5 } (some 5) = true ∧
      up.pwr.stableAt = none ∧ up.pwr.frameAt + 50000 ≤ ({ up with tb := 50000 } : State).tb) ∧
    (up.domAssay 39 = false ∧ (up.setViewState 312 3).domAssay 39 = true ∧ up.pwr.ramp.get none 39 = none ∧
      ({ up with pwr := { up.pwr with ramp := [(39, some 7)] } } : State).pwr.ramp.get none 39 = some 7 ∧ (7 : Nat) / 8 ≤ up.tb) ∧
    (∀ st ∈ [0, 1, 2, 3, 4, 5], (domIn 63 st 1).domState 63 = st ∧ (domIn 63 st 1).bit (PWR_DOM 63) PWR_DOM.ON = true) ∧
    ((domIn 39 1 1).domRefusal 39 = 0 ∧ ((domIn 39 1 1).domReq 39 false).domAssay 39 = false ∧ ((domIn 39 1 1).domReq 39 false).domHeld 39 = false ∧
      ((domIn 39 1 1).domReq 39 false).drains < 16 ∧ ({ (domIn 39 1 1) with pwr := { up.pwr with reported := true } } : State).domRefusal 39 ≠ 0 ∧
      (domIn 39 3 0).domIdle 39 = true ∧ isCipHalf 63 = false) ∧
    (((((domIn 39 1 1).setBit (UOW_PAIR_BIND 156) UOW_PAIR_BIND.EN).setFld (UOW_PAIR_BIND 156) UOW_PAIR_BIND.STATE 2).setPartState 0 3).domHeld 39 = true) ∧
    (let s := ({ (domIn 0 2 0) with tb := 5, pwr := { up.pwr with doms := [(0, { leaseEnd := some 5 })] } } : State)
     s.domState 0 = 2 ∧ due s (s.dom 0).leaseEnd = true ∧ s.bit CRU_DRAIN_LOG CRU_DRAIN_LOG.VALID = false ∧ s.fld CRU_STATUS CRU_STATUS.STATE ≤ 1) := by
  decide +kernel

theorem old_clock_met : (clocked {} none).clockStopped ((clocked {} none).passedClock 295) = true ∧
    (clocked { running := true } none).clockStopped ((clocked { running := true } none).passedClock 295) = false := by
  decide +kernel

theorem rails_and_seam_met :
    ((domIn 39 3 0).setCline 43 5 { st := .M, way := some 0 }).domIdle 39 = false ∧
    (let off := up.setReg PWR_DOMAINS 0
     let on := off.setBit PWR_DOMAINS ⟨39, 1⟩
     on.bit PWR_DOMAINS ⟨39, 1⟩ = true ∧ off.dieRail 3 = 720 ∧ on.dieRail 3 = State.pointMv (on.fld (PWR_VPOINT 39) PWR_VPOINT.ACTIVE) ∧
       (on.setFld (PWR_VPOINT 39) PWR_VPOINT.ACTIVE 7).dieRail 3 = 720) ∧
    (({ up with pins := { up.pins with seated := true } } : State).setFld (PWR_DOM 60) PWR_DOM.STATE 1).seamUp = true ∧ up.seamUp = false := by
  decide +kernel

/-- The Anvil pair: A and B in states, B holding the token or not, a takeover in progress or none. -/
def anvils (a b tok : Nat) (gap : Option (Nat × Nat)) : State :=
  ((({ up with anv := { up.anv with gap := gap, leaseEnd := some 0 } } : State).setFld ANV_STATUS ANV_STATUS.A_STATE a).setFld ANV_STATUS ANV_STATUS.B_STATE b).setFld
    ANV_STATUS ANV_STATUS.ACTIVE tok

theorem faults_and_management_met :
    (up.railsUp = true ∧ (4 : Nat) < 5 ∧ getFld (up.reg FLT_FIRST_EVENT) FLT_EVENT.VALID = 0 ∧
      getFld ((up.setFld FLT_FIRST_EVENT FLT_EVENT.VALID 1).reg FLT_FIRST_EVENT) FLT_EVENT.VALID = 1) ∧
    (up.escalates = false ∧ up.flt.class3Due = none ∧
      ({ up with flt := { up.flt with resets := [⟨0, true⟩, ⟨0, true⟩] } } : State).escalates = true) ∧
    ((up.setPartState 1023 4).fld (CRU_PART (0xFFFF % 1024)) CRU_PART.STATE = 4 ∧ up.pwr.bellows.latch = false) ∧
    (up.anv.hotSince.get none 4 = none ∧ ({ up with anv := { up.anv with hotSince := [(4, some 0)] } } : State).anv.hotSince.get none 4 = some 0) ∧
    (up.setFld FLT_CFG FLT_CFG.INT_EN 64).fld FLT_CFG FLT_CFG.INT_EN >>> 6 % 2 = 1 ∧
    (let s := (((anvils 2 3 0 none).setFld (FLT_REC 7) FLT_REC.STATE 1).setFld (FLT_REC 7) FLT_REC.PROC 3)
     s.fld (FLT_REC 7) FLT_REC.STATE = 1 ∧ s.anvilActive = true ∧ s.stepDone 3 1 0 = true ∧ up.fld (FLT_REC 7) FLT_REC.STATE ≠ 1) ∧
    (∀ n ∈ [0, 2, 3, 5], (anvils n 3 0 none).anvilState false = n ∧ (anvils n 3 0 none).holder = false ∧ (anvils n 3 1 none).holder = true) ∧
    ((anvils 2 3 0 none).anvilState (!(anvils 2 3 0 none).holder) = 3 ∧ due (anvils 2 3 0 none) (anvils 2 3 0 none).anv.leaseEnd = true ∧
      (anvils 3 2 1 (some (0, 1))).anv.gap = some (0, 1) ∧ (anvils 2 4 0 none).anvilState true ≠ 3) ∧
    ((∀ t ∈ [0, 1], let p : Bytes := [1, 8, 9, 0xC8, BitVec.ofNat 8 t, 0x80, 2]
      5 ≤ p.length ∧ p.length ≤ mctpUnit 0 + 4 ∧ mctpSom p = true ∧ mctpType p = t ∧ mctpRequest p = true) ∧
      (anvils 2 3 0 none).anvilActive = true ∧ (anvils 0 3 0 none).anvilActive = false) ∧
    ((up.bankCount 3 0 + 2 ^ 32 - up.bankCount 3 4) % 2 ^ 32 < 32 ∧
      32 ≤ ((up.setBankCount 3 0 32).bankCount 3 0 + 2 ^ 32 - (up.setBankCount 3 0 32).bankCount 3 4) % 2 ^ 32 ∧
      (up.setBankCount 3 0xC 1).bankCount 3 0xC ≠ (up.setBankCount 3 0xC 1).bankCount 3 8 ∧ up.bundleOk (up.bank up.spareBank) = false) ∧
    (∀ i, i < 4 → ({ up with pins := { up.pins with seated := true }, hep := { up.hep with l0 := true } } : State).ifaceUp i = true ∧
      up.ifaceUp i = false) := by
  decide +kernel

/-- A start in progress at its step `n`. -/
def starting (n : Nat) (power : Bool) : State := { State.reset with phase := .starting n power }

theorem starts_and_readiness_met :
    (State.reset.phase = .off ∧ State.reset.pwr.bellows.latch = false ∧ State.reset.pwr.bellows.removed = false ∧ State.reset.pwr.bellows.latchWord = none) ∧
    (∀ n ∈ [7, 8, 9], ∀ b ∈ [true, false], (starting n b).live = true ∧ (starting n b).phase = .starting n b ∧ (starting n b).pwr.reported = false ∧
      (starting n b).dieOk 0 = true) ∧
    ((starting 7 false).mm.bad = [] ∧ (starting 7 false).mm.badCode = []) ∧
    (up.bit ANV_STATUS ANV_STATUS.GAP = false ∧ (up.setBit ANV_STATUS ANV_STATUS.GAP).bit ANV_STATUS ANV_STATUS.GAP = true ∧
      due up up.flt.class3Due = false ∧ due up (some 0) = true ∧ up.phase = .ready ∧ up.flt.quenched = false) ∧
    (∀ h, h < 24 → (starting 7 true).fld (MEM_CHAN h) MEM_CHAN.STATE < 4) ∧
    ({ (starting 3 true) with start := { up.start with failures := 2 } } : State).start.failures = 2 ∧
    (∀ v ∈ [0, 1, 2, 3], ({ up with start := { up.start with bridges := up.start.bridges.set 0 3 v } } : State).start.bridges.get 0 3 = v) ∧
    (State.bridgeDies 3).2 = 4 ∧ (State.bridgeDies 8).2 = 4 ∧ (State.bridgeDies 7).2 < 4 := by
  decide +kernel

theorem register_writes_and_pins_met :
    (up.live = true ∧ up.isReady = true ∧ up.fnPresent 0 = true ∧ up.fnPresent 1024 = false ∧ up.pageOpen 0 false = true ∧ up.pageOpen 0 true = true) ∧
    (State.barWriteOk ⟨2 ^ 26 - 8, 8, true, 0, false, false⟩ = true ∧ State.barWriteOk ⟨2 ^ 26 - 8, 8, false, 0, false, false⟩ = false ∧
      State.barWriteOk ⟨4, 8, true, 0, false, false⟩ = false ∧ (2 ^ 26 - 8 : Nat) < 2 ^ 26) ∧
    ((withFn 1024 { present := true }).pageOpen 1024 false = true ∧ (withFn 1024 { present := true }).pageOpen 1024 true = false ∧
      State.mailKey 0 = none) ∧
    (up.inDrain 0 = false ∧ up.tdi 0 = 0 ∧ ({ up with hep := { up.hep with pfFlr := some 5 } } : State).inDrain 1024 = true ∧
      (0x1000 : Nat) + 4 ≤ 0x4000 ∧ (withFn 1024 { present := true }).fnPresent 1024 = true ∧
      ({ up with hep := { up.hep with pageSize := 65536 } } : State).bar0Size 1024 = 65536) ∧
    (up.bothLow = false ∧ ({ up with pins := { up.pins with prsnt1 := true, prsnt2 := true } } : State).bothLow = true ∧ due up up.pins.seatAt = false ∧
      due up (some 0) = true ∧ up.pins.seated = false ∧ up.pins.tck = false) := by
  decide +kernel

theorem reset_memory_met : State.reset.mem.wf = true ∧ hyper.mem.wf = true := by decide +kernel

/-! ### A few results worked out by hand from the manual -/

/-- What `exec` leaves of a value, where it answers a next state. -/
def after {α : Type} (o : Host.Outcome State Fault Refusal) (f : State → α) : Option α :=
  match o with
  | .next t => some (f t)
  | _ => none

/-- R163: the sum wraps, and g0 takes nothing (R136). -/
theorem test_add_wraps : after (exec (.add (.exec 0) 3 1 2) (withG 0xFFFFFFFFFFFFFFFF 2 [])) (fun t => t.gReg (.exec 0) 3) = some 1 ∧
    after (exec (.add (.exec 0) 0 1 2) (withG 5 2 [])) (fun t => t.gReg (.exec 0) 0) = some 0 := by decide +kernel
/-- R164: minus seven by two. -/
theorem test_div_toward_zero : after (exec (.div (.exec 0) 3 1 2) (withG (-7) 2 [])) (fun t => t.gReg (.exec 0) 3) = some (-3) ∧
    after (exec (.rem (.exec 0) 3 1 2) (withG (-7) 2 [])) (fun t => t.gReg (.exec 0) 3) = some (-1) := by decide +kernel
/-- R162: a store and a load of a double word, little-endian bytes; the L2 holds the line in M (R202). -/
theorem test_store_load : after (exec (.sd (.exec 0) 2 1 false 0) ((withG 64 0x0102030405060708 []).setCline 4 1 { st := .M, way := some 0 })) (fun t => (t.memRead .opened 1 64 8).1) =
    some (some ([8, 7, 6, 5, 4, 3, 2, 1], false)) := by decide +kernel
/-- R155, R156: a system call at supervisor level under `evbase` 0. -/
theorem test_syscall : after (exec (.syscall (.exec 0)) (below 1 4)) (fun t => ((t.proc 0).getSp spEpc, (t.proc 0).pc, getFld (t.proc 0).psr PSR.EXL,
    getFld (t.proc 0).psr PSR.IE)) = some (0x1000, 0x40 * 0x0D, 1, 0) := by decide +kernel
/-- R410: a Class 1 event takes the next entry of the history, its number 1. -/
theorem test_fault_event : after (exec (.faultEvent (.event 1 8 2 3 4)) up) (fun t => (t.reg FLT_SEQ, t.bit FLT_STATUS ⟨1, 1⟩, t.reg (FLT_COUNT 1))) =
    some (1, true, 1) := by decide +kernel
/-- R66, R437: a hot reset brings the link down; PERST# deasserted arms the 20 ms of training. -/
theorem test_resets : after (exec .hotReset up) (fun t => (t.hep.l0, t.bit HEP_EVENT HEP_EVENT.LINK_DOWN)) = some (false, true) ∧
    after (exec .perstDeassert up) (fun t => t.hep.trainBy) = some (some 20000000) := by decide +kernel
/-- R208, R209: a first RdS of a line that no cache holds is answered with DataE, and its requester owns the line. -/
theorem test_first_read : after (exec (.rds 0 5 [] false) (homed {} [])) (fun t => (t.home (lineHome 5) 5).dir) = some (.X 0) := by decide +kernel
/-- R5: writing ones clears. -/
theorem test_write_ones_clears : after (exec (.registerWrite .host 0 ⟨MTR_EVENT, 4, true, 1, false, false⟩) (up.setReg MTR_EVENT 3)) (fun t => t.reg MTR_EVENT) =
    some 2 := by decide +kernel
/-- R2: the timebase advances 10 ns where nothing waits. -/
theorem test_tick : after (step up) (fun t => t.tb) = some 10 ∧ after (step { up with pending := [.hotReset] }) (fun t => (t.tb, t.pending)) = some (0, []) := by
  decide +kernel

end Sys2Proof.Tests
end

section
/-!
SUPPORT. What the endpoint's requests leave alone, and what the journal, the rings and the resets of the endpoint leave of a
start: the timebase, where the module stands, the start in hand and the boots counted.
-/
namespace Sys2Proof.Machine
open Sys2Proof

/-! ### Requests of the endpoint -/

/-- `t` differs from `s` in the endpoint's own queues and in what was driven out, and in nothing else. -/
def HepOnly (s t : State) : Prop := t = { s with hep := t.hep, out := t.out }

theorem HepOnly.rfl {s : State} : HepOnly s s := Eq.refl _

theorem HepOnly.trans {s t u : State} (h : HepOnly s t) (h' : HepOnly t u) : HepOnly s u := by
  unfold HepOnly
  conv_lhs => rw [h', h]

/-- A fold of steps that stay in the endpoint does. -/
theorem HepOnly.foldl {α : Type} {f : State → α → State} (hf : ∀ s x, HepOnly s (f s x)) (l : List α) (s : State) :
    HepOnly s (l.foldl f s) := by
  induction l generalizing s with
  | nil => exact .rfl
  | cons x t ih => exact (hf s x).trans (ih _)

theorem HepOnly.jnl {s t : State} (h : HepOnly s t) : t.jnl = s.jnl := by rw [h]
theorem HepOnly.disp {s t : State} (h : HepOnly s t) : t.disp = s.disp := by rw [h]
theorem HepOnly.reg {s t : State} (h : HepOnly s t) (a : Nat) : t.reg a = s.reg a := by rw [h]; rfl

namespace State

theorem emit_hepOnly (s : State) (o : Output) : HepOnly s (s.emit o) := Eq.refl _
theorem emitOver_hepOnly (s : State) (f a : Nat) (o : Output) : HepOnly s (s.emitOver f a o) := Eq.refl _
theorem request_hepOnly (s : State) (f a n : Nat) (o : Output) : HepOnly s (s.request f a n o) := Eq.refl _
theorem askPages_hepOnly (s : State) (f a n : Nat) : HepOnly s (s.askPages f a n) := Eq.refl _

theorem sendRead_hepOnly (s : State) (q : ReadReq) : HepOnly s (s.sendRead q) := by
  unfold sendRead; dsimp only; split <;> exact Eq.refl _

theorem pumpReads_hepOnly (s : State) : HepOnly s s.pumpReads := by
  unfold pumpReads
  dsimp only
  refine (HepOnly.foldl (fun s q => ?_) _ s).trans (HepOnly.foldl (fun s q => ?_) _ _)
  · split
    · exact .rfl
    · exact askPages_hepOnly ..
  · split
    · exact HepOnly.trans (t := { s with hep := { s.hep with waiting := s.hep.waiting.erase q } }) (Eq.refl _)
        (sendRead_hepOnly ..)
    · exact .rfl

theorem issueRead_hepOnly (s : State) (q : ReadReq) : HepOnly s (s.issueRead q) :=
  HepOnly.trans (t := { s with hep := { s.hep with waiting := s.hep.waiting ++ [q] } }) (Eq.refl _) (pumpReads_hepOnly _)

theorem putSq_hepOnly (s : State) (f r : Nat) : HepOnly s (s.putSq f r) := by
  unfold putSq
  dsimp only
  split
  · exact request_hepOnly ..
  · exact (HepOnly.trans (t := { s with hep := { s.hep with owed := (s.hep.owed ++ [(f, r)]).eraseDups } }) (Eq.refl _)
      (askPages_hepOnly ..)).trans (pumpReads_hepOnly _)

theorem writeSq_hepOnly (s : State) (f r : Nat) : HepOnly s (s.writeSq f r) := by
  unfold writeSq; split
  · exact putSq_hepOnly ..
  · exact .rfl

end State

/-! ### What a start's outcome is told by -/

/-- The timebase, where the module stands, the start in hand and the boots counted. -/
def State.core (s : State) : Nat × Phase × StartState × Nat := (s.tb, s.phase, s.start, s.jnl.bootCount)

theorem HepOnly.core {s t : State} (h : HepOnly s t) : t.core = s.core := by rw [h]; rfl

@[simp] theorem core_ite (c : Prop) [Decidable c] (a b : State) : (if c then a else b).core = if c then a.core else b.core :=
  apply_ite _ _ _ _

theorem core_eq_iff {s t : State} :
    t.core = s.core ↔ t.tb = s.tb ∧ t.phase = s.phase ∧ t.start = s.start ∧ t.jnl.bootCount = s.jnl.bootCount := by
  simp [State.core]

/-- A fold of steps that leave it alone does. -/
theorem core_foldl {α : Type} {f : State → α → State} (hf : ∀ s x, (f s x).core = s.core) (l : List α) (s : State) :
    (l.foldl f s).core = s.core := by
  induction l generalizing s with
  | nil => rfl
  | cons x t ih => exact (ih _).trans (hf s x)

@[simp] theorem core_mk (pending regs mem ctl tb rand out phase image flt anv hep disp jnl chn srx mm coh procs prs cru swg cip
      clk pwr pins start) :
    State.core ⟨pending, regs, mem, ctl, tb, rand, out, phase, image, flt, anv, hep, disp, jnl, chn, srx, mm, coh, procs, prs,
      cru, swg, cip, clk, pwr, pins, start⟩ = (tb, phase, start, jnl.bootCount) := (rfl)
@[simp] theorem core_fold (s : State) : (s.tb, s.phase, s.start, s.jnl.bootCount) = s.core := (rfl)

namespace State

@[simp] theorem setReg_core (s : State) (a : Nat) (v : W64) : (s.setReg a v).core = s.core := (rfl)
@[simp] theorem setFld_core (s : State) (a : Nat) (f : Fld) (n : Nat) : (s.setFld a f n).core = s.core := (rfl)
@[simp] theorem setBit_core (s : State) (a : Nat) (f : Fld) (b : Bool) : (s.setBit a f b).core = s.core := (rfl)
@[simp] theorem bump_core (s : State) (a : Nat) (f : Fld) (n : Nat) : (s.bump a f n).core = s.core := (rfl)
@[simp] theorem emit_core (s : State) (o : Output) : (s.emit o).core = s.core := (rfl)
@[simp] theorem setRing_core (s : State) (k : Nat) (x : Ring) : (s.setRing k x).core = s.core := (rfl)
@[simp] theorem setCq_core (s : State) (k : Nat) (x : CplRing) : (s.setCq k x).core = s.core := (rfl)
@[simp] theorem setUnit_core (s : State) (k : Nat) (u : WorkUnit) : (s.setUnit k u).core = s.core := (rfl)
@[simp] theorem setFn_core (s : State) (f : Nat) (x : FnState) : (s.setFn f x).core = s.core := (rfl)
@[simp] theorem setAssoc_core (s : State) (a : Nat) (x : Assoc) : (s.setAssoc a x).core = s.core := (rfl)
@[simp] theorem setPartner_jnl (s : State) (k : Nat) (x : Partner) :
    (s.setPartner k x).jnl = { s.jnl with partners := s.jnl.partners.set {} k x } := (rfl)
@[simp] theorem setMeter_core (s : State) (k : Nat) (m : Meter) : (s.setMeter k m).core = s.core := (rfl)
@[simp] theorem setDie_core (s : State) (d : Nat) (x : Die) : (s.setDie d x).core = s.core := by unfold setDie; split <;> rfl
@[simp] theorem resetWhere_core (s : State) (p : Nat → Bool) : (s.resetWhere p).core = s.core := (rfl)
@[simp] theorem sendSeam_core (s : State) (o : Output) : (s.sendSeam o).core = s.core := by simp [sendSeam]

/-! ### The dies and the log -/

@[simp] theorem wearRegs_core (s : State) (d : Nat) : (s.wearRegs d).core = s.core := by
  unfold wearRegs; dsimp only; split <;> simp
@[simp] theorem storeBlock_core (s : State) (d i : Nat) (b : Bytes) : (s.storeBlock d i b).core = s.core := by simp [storeBlock]
@[simp] theorem flushWrites_core (s : State) : s.flushWrites.core = s.core := by
  simp [flushWrites, core_foldl]
@[simp] theorem headRegs_core (s : State) : s.headRegs.core = s.core := by simp [headRegs]
@[simp] theorem issueBlock_core (s : State) (b : Bytes) (w : WriteFor) (m : Option Nat) :
    (s.issueBlock b w m).core = s.core := by simp [issueBlock]
@[simp] theorem spendBlocks_core (s : State) (n : Nat) : (s.spendBlocks n).core = s.core := (rfl)
@[simp] theorem sendMirror_core (s : State) (k : Nat) (b : List Bytes) (w : WriteFor) (p : Option Nat) :
    (s.sendMirror k b w p).core = s.core := by simp [sendMirror]

@[simp] theorem issueRecord_core (s : State) (r : RecordWait) : (s.issueRecord r).core = s.core := by
  unfold issueRecord; dsimp only; split <;> simp [core_foldl]

@[simp] theorem pumpLog_core (n : Nat) (s : State) : (pumpLog n s).core = s.core := by
  induction n generalizing s with
  | zero => rfl
  | succ n ih =>
    unfold pumpLog
    split
    · rfl
    · dsimp only; split
      · simp [ih]
      · rfl

@[simp] theorem carryRecord_core (s : State) (r : LiveRec) : (s.carryRecord r).core = s.core := by
  unfold carryRecord; split
  · rfl
  · simp [core_foldl]
@[simp] theorem carryForward_core (s : State) : s.carryForward.core = s.core := by simp [carryForward, core_foldl]
@[simp] theorem writeRecord_core (s : State) (b : List Bytes) (w : WriteFor) (m : Option Nat) :
    (s.writeRecord b w m).core = s.core := by
  unfold writeRecord; dsimp only; split <;> simp

@[simp] theorem settleWrites_core (s : State) : s.settleWrites.2.core = s.core := (rfl)

@[simp] theorem wearMeta_core (s : State) (d n i : Nat) : (s.wearMeta d n i).core = s.core := by simp [wearMeta]
@[simp] theorem wearExchange_core (s : State) (i : Nat) : (s.wearExchange i).core = s.core := by
  unfold wearExchange; dsimp only; split
  · rfl
  · exact core_foldl (fun s d => setDie_core ..) _ _
@[simp] theorem writeGeneration_core (s : State) (c : Bool) : (s.writeGeneration c).core = s.core := by
  simp only [writeGeneration]
  split <;> simp

/-! ### Steps of exchanges, and the course of a unit -/

@[simp] theorem pumpAssoc_core (n : Nat) (s : State) (a : Nat) : (pumpAssoc n s a).core = s.core := by
  induction n generalizing s with
  | zero => rfl
  | succ n ih =>
    unfold pumpAssoc
    dsimp only
    split
    · rfl
    · split
      · simp [ih]
      · rfl

@[simp] theorem sendSeq_core (s : State) (a t g x : Nat) (b : Bytes) : (s.sendSeq a t g x b).core = s.core := by simp [sendSeq]
@[simp] theorem sendStep_core (s : State) (t : XStep) : (s.sendStep t).core = s.core := by
  unfold sendStep; split
  · rfl
  · exact core_foldl (fun s f => sendSeq_core ..) _ _
@[simp] theorem addStep_core (s : State) (t : XStep) : (s.addStep t).core = s.core := by simp [addStep]
@[simp] theorem bindPath_core (s : State) (x k : Nat) : (s.bindPath x k).core = s.core := (rfl)
@[simp] theorem issueUnitStep_core (s : State) (k x d : Nat) (o : StepKind) (l : List (Nat × Nat)) :
    (s.issueUnitStep k x d o l).core = s.core := by
  unfold issueUnitStep; dsimp only; repeat' split
  all_goals simp

@[simp] theorem endUnit_core (s : State) (k st r : Nat) : (s.endUnit k st r).core = s.core := by
  unfold endUnit; split
  · rfl
  · dsimp only; repeat' split
    all_goals simp

@[simp] theorem sendRunAborts_core (s : State) (k n : Nat) : (s.sendRunAborts k n).core = s.core := by
  unfold sendRunAborts; split
  · rfl
  · exact (core_foldl (fun s f => issueUnitStep_core ..) _ _).trans (setUnit_core ..)

@[simp] theorem sendCommit_core (s : State) (k : Nat) : (s.sendCommit k).core = s.core := by
  unfold sendCommit; split
  · rfl
  · split
    · exact (core_foldl (fun s f => issueUnitStep_core ..) _ _).trans (setUnit_core ..)
    · rfl

@[simp] theorem sendCommits_core (s : State) (k : Nat) : (s.sendCommits k).core = s.core :=
  core_foldl (fun _ _ => sendCommit_core ..) _ _

@[simp] theorem commitDurable_core (s : State) (k : Nat) : (s.commitDurable k).core = s.core := by
  unfold commitDurable; split
  · rfl
  · simp

@[simp] theorem complDurable_core (s : State) (l : List Nat) : (s.complDurable l).core = s.core :=
  core_foldl (fun s k => by split <;> simp) _ _

@[simp] theorem meterUnit_core (s : State) (u : WorkUnit) (b : Bool) : (s.meterUnit u b).core = s.core := by simp [meterUnit]

@[simp] theorem restartDurable_core (s : State) (k : Nat) : (s.restartDurable k).core = s.core := by
  unfold restartDurable; split
  · rfl
  · simp

@[simp] theorem replayUnit_core (s : State) (k c : Nat) : (s.replayUnit k c).core = s.core := by
  unfold replayUnit
  split
  · rfl
  · dsimp only; repeat' split
    all_goals simp

@[simp] theorem replayUnits_core (s : State) (c : Nat) : (s.replayUnits c).core = s.core :=
  core_foldl (fun _ _ => replayUnit_core ..) _ _

/-! ### Rings -/

@[simp] theorem writeSq_core (s : State) (f r : Nat) : (s.writeSq f r).core = s.core := (writeSq_hepOnly ..).core
@[simp] theorem issueRead_core (s : State) (q : ReadReq) : (s.issueRead q).core = s.core := (issueRead_hepOnly ..).core
@[simp] theorem discardReads_core (s : State) (f r : Nat) : (s.discardReads f r).core = s.core := (rfl)
@[simp] theorem holdFormat_core (s : State) (f r n : Nat) : (s.holdFormat f r n).core = s.core := by simp [holdFormat]
@[simp] theorem fetch_core (s : State) (f r : Nat) : (s.fetch f r).core = s.core := by
  unfold fetch; dsimp only; split <;> simp
@[simp] theorem accept_core (s : State) (f r a b : Nat) (d : Bytes) : (s.accept f r a b d).core = s.core := by
  unfold accept; dsimp only; split <;> simp

@[simp] theorem issueFetched_core (f r n : Nat) (s : State) : (issueFetched f r n s).core = s.core := by
  induction n generalizing s with
  | zero => rfl
  | succ n ih =>
    unfold issueFetched; dsimp only; repeat' split
    all_goals simp [ih]

@[simp] theorem consume_core (f r n : Nat) (s : State) : (consume f r n s).core = s.core := by
  induction n generalizing s with
  | zero => rfl
  | succ n ih =>
    unfold consume; dsimp only; repeat' split
    all_goals simp [ih]

@[simp] theorem driveRing_core (s : State) (f r : Nat) : (s.driveRing f r).core = s.core := by
  unfold driveRing; dsimp only; split <;> simp

@[simp] theorem recordDurable_core (s : State) (w : WriteFor) : (s.recordDurable w).core = s.core := by
  cases w <;> simp [recordDurable]

/-- What the dies have completed is settled without a step of the clock. -/
@[simp] theorem settle_core (s : State) : s.settle.core = s.core := by
  simp [settle, core_foldl]

@[simp] theorem cleanStop_core (s : State) : s.cleanStop.core = s.core := by
  simp only [cleanStop]
  split
  · simp [core_foldl]
  · simp

@[simp] theorem resetStop_core (s : State) : s.resetStop.core = s.core := by
  unfold resetStop; split <;> simp

/-! ### Resets of the endpoint -/

@[simp] theorem fnMoved_core (s : State) (f : Nat) : (s.fnMoved f).core = s.core := (rfl)
@[simp] theorem setTdi_core (s : State) (f n : Nat) : (s.setTdi f n).core = s.core := by simp [setTdi]
@[simp] theorem setFnState_core (s : State) (f n : Nat) : (s.setFnState f n).core = s.core := by simp [setFnState]
@[simp] theorem afterReset_core (s : State) (f : Nat) : (s.afterReset f).core = s.core := setFnState_core ..
@[simp] theorem squash_core (s : State) (f r : Nat) : (s.squash f r).core = s.core := by simp [squash]
@[simp] theorem resetRing_core (s : State) (f r : Nat) : (s.resetRing f r).core = s.core := by
  unfold resetRing; dsimp only; split <;> simp
@[simp] theorem resetRings_core (s : State) (f : Nat) : (s.resetRings f).core = s.core := by
  unfold resetRings; dsimp only; split <;> simp [core_foldl]
@[simp] theorem dropWaiting_core (s : State) (p : Nat → Bool) : (s.dropWaiting p).core = s.core := (rfl)
@[simp] theorem resyncEnd_core (s : State) (f e : Nat) : (s.resyncEnd f e).core = s.core := by simp [resyncEnd]
@[simp] theorem resetFn_core (s : State) (f : Nat) (b : Bool) : (s.resetFn f b).core = s.core := by
  simp [resetFn, core_foldl]
@[simp] theorem vfDefaults_core (s : State) (f : Nat) : (s.vfDefaults f).core = s.core := (rfl)
@[simp] theorem clearVfEnable_core (s : State) (b : Bool) : (s.clearVfEnable b).core = s.core := by
  simp [clearVfEnable, core_foldl]
@[simp] theorem resetSriov_core (s : State) : s.resetSriov.core = s.core := (rfl)
@[simp] theorem linkDown_core (s : State) : s.linkDown.core = s.core := by simp [linkDown]
@[simp] theorem insecureAll_core (s : State) : s.insecureAll.core = s.core := by simp [insecureAll]
@[simp] theorem resetWin_core (s : State) : s.resetWin.core = s.core := by simp [resetWin]
@[simp] theorem endpointReset_core (s : State) (b : Bool) : (s.endpointReset b).core = s.core := by
  simp [endpointReset, core_foldl]

/-! ### Module reset -/

@[simp] theorem meterMem_core (s : State) : s.meterMem.core = s.core := by
  simp only [meterMem]
  split <;> simp [core_foldl]
@[simp] theorem meterRunStop_core (s : State) (e : Nat) : (s.meterRunStop e).core = s.core := by
  unfold meterRunStop; split
  · rfl
  · dsimp only; repeat' split
    all_goals simp
@[simp] theorem setPairSt_core (s : State) (v : Nat) (x : PairState) : (s.setPairSt v x).core = s.core := (rfl)
@[simp] theorem setViewState_core (s : State) (v n : Nat) : (s.setViewState v n).core = s.core := (rfl)
@[simp] theorem resetView_core (s : State) (v : Nat) : (s.resetView v).core = s.core := by
  unfold resetView; dsimp only; split <;> simp
@[simp] theorem keepRegs_core (s : State) (k : Nat → W64) : (s.keepRegs k).core = s.core := (rfl)
@[simp] theorem imageRegs_core (s : State) : s.imageRegs.core = s.core := by
  simp only [imageRegs]
  exact (core_foldl (fun s p => setFld_core ..) _ _).trans (by simp)
@[simp] theorem setGroup_core (s : State) (g n : Nat) : (s.setGroup g n).core = s.core := by simp [setGroup]

/-- A module reset keeps the timebase and counts the boot. -/
theorem resetBlocks_core (s : State) : ∃ x, s.resetBlocks.core = (s.tb, s.phase, x, s.jnl.bootCount + 1) := by
  unfold resetBlocks
  extract_lets s1 s2 s3 s4 s5 s6 s7 s8
  have h1 : s1.core = s.core := (core_foldl (fun s e => meterRunStop_core ..) _ _).trans (meterMem_core s)
  have h3 : s3.core = s.core := by
    simp only [s3, endpointReset_core, keepRegs_core]
    exact (core_foldl (fun s v => resetView_core ..) _ _).trans h1
  have h5 : s5.core = s.core := (core_foldl (fun s g => setGroup_core ..) _ _).trans ((imageRegs_core s3).trans h3)
  have h8 : s8.core = s.core := by
    simp only [s8, setFld_core]
    refine (core_foldl (fun s n => ?_) _ _).trans ((core_foldl (fun s n => ?_) _ _).trans h5)
    · split <;> simp
    · split <;> simp
  clear_value s8
  obtain ⟨htb, hphase, -, hboots⟩ := core_eq_iff.1 h8
  simp only [core_mk, htb, hphase, hboots]
  exact ⟨_, rfl⟩

end State
end Sys2Proof.Machine
end

section
/-!
SUPPORT. What an event of Class 0, 1 or 3 leaves alone while it does not escalate (R406, R408).
-/
namespace Sys2Proof.Machine
open Sys2Proof

/-! ### Events that neither stop a partition nor end in Quench -/

/-- Registers that the report of an event may write: those of the fault collector but `FLT_QUENCH`, those of the Anvil pair,
and the pending bits of the PF's messages. -/
def EventReg (a : Nat) : Prop :=
  a ≠ FLT_QUENCH ∧ (a = msixPba 0 ∨ a = ANV_OUT ∨ (0xE00000 ≤ a ∧ a < 0x1000000))

/-- A register of the fault collector or the Anvil pair, `FLT_QUENCH` apart. -/
theorem EventReg.block {a : Nat} (h : 0xE00000 ≤ a ∧ a < 0x1000000 ∧ a ≠ 0xE00038) : EventReg a :=
  ⟨h.2.2, .inr (.inr ⟨h.1, h.2.1⟩)⟩

/-- `t` is `s` after reports of events none of which is of Class 2 or 4. -/
structure EventOnly (s t : State) : Prop where
  rest : t = { s with regs := t.regs, out := t.out, flt := t.flt, anv := t.anv, hep := t.hep, procs := t.procs }
  quenched : t.flt.quenched = s.flt.quenched
  readyAt : t.flt.readyAt = s.flt.readyAt
  reg : ∀ a, ¬ EventReg a → t.reg a = s.reg a
  class4 : t.bit FLT_STATUS ⟨4, 1⟩ = s.bit FLT_STATUS ⟨4, 1⟩

namespace EventOnly

theorem rfl {s : State} : EventOnly s s := ⟨Eq.refl _, Eq.refl _, Eq.refl _, fun _ _ => Eq.refl _, Eq.refl _⟩

theorem trans {s t u : State} (h : EventOnly s t) (h' : EventOnly t u) : EventOnly s u where
  rest := by
    conv_lhs => rw [h'.rest, h.rest]
  quenched := h'.quenched.trans h.quenched
  readyAt := h'.readyAt.trans h.readyAt
  reg a ha := (h'.reg a ha).trans (h.reg a ha)
  class4 := h'.class4.trans h.class4

theorem ite {c : Prop} [Decidable c] {s t u : State} (h : EventOnly s t) (h' : EventOnly s u) :
    EventOnly s (if c then t else u) := by
  split
  · exact h
  · exact h'

theorem of_hepOnly {s t : State} (h : HepOnly s t) : EventOnly s t where
  rest := by rw [h]
  quenched := by rw [h]
  readyAt := by rw [h]
  reg a _ := h.reg a
  class4 := by simp only [State.bit, State.fld, h.reg]

/-- A report writes a register of its own. -/
theorem setReg (s : State) {a : Nat} (v : W64) (ha : EventReg a) (h4 : a ≠ FLT_STATUS) : EventOnly s (s.setReg a v) where
  rest := Eq.refl _
  quenched := Eq.refl _
  readyAt := Eq.refl _
  reg b hb := State.reg_setReg_ne s v (fun e => hb (e ▸ ha))
  class4 := by simp only [State.bit, State.fld_setReg_ne s v ⟨4, 1⟩ h4.symm]

theorem setFld (s : State) {a : Nat} (f : Fld) (n : Nat) (ha : EventReg a) (h4 : a ≠ FLT_STATUS) :
    EventOnly s (s.setFld a f n) := setReg s _ ha h4

/-- A report writes a field of `FLT_STATUS` apart from the bit of Class 4. -/
theorem status (s : State) (f : Fld) (n : Nat) (hf : f.lo + f.len ≤ 4 ∨ 5 ≤ f.lo ∧ f.lo + f.len ≤ 64) :
    EventOnly s (s.setFld FLT_STATUS f n) where
  rest := Eq.refl _
  quenched := Eq.refl _
  readyAt := Eq.refl _
  reg b hb := State.reg_setFld_ne s f n (fun e => hb (e ▸ .block (by decide)))
  class4 := by
    simp only [State.bit]
    rw [State.fld_setFld_apart s FLT_STATUS f ⟨4, 1⟩ n (by omega) (by simp only; omega)]

theorem tb {s t : State} (h : EventOnly s t) : t.tb = s.tb := by rw [h.rest]
theorem phase {s t : State} (h : EventOnly s t) : t.phase = s.phase := by rw [h.rest]
theorem mem {s t : State} (h : EventOnly s t) : t.mem = s.mem := by rw [h.rest]
theorem disp {s t : State} (h : EventOnly s t) : t.disp = s.disp := by rw [h.rest]
theorem jnl {s t : State} (h : EventOnly s t) : t.jnl = s.jnl := by rw [h.rest]
theorem chn {s t : State} (h : EventOnly s t) : t.chn = s.chn := by rw [h.rest]
theorem mm {s t : State} (h : EventOnly s t) : t.mm = s.mm := by rw [h.rest]
theorem coh {s t : State} (h : EventOnly s t) : t.coh = s.coh := by rw [h.rest]
theorem cru {s t : State} (h : EventOnly s t) : t.cru = s.cru := by rw [h.rest]
theorem cip {s t : State} (h : EventOnly s t) : t.cip = s.cip := by rw [h.rest]
theorem start {s t : State} (h : EventOnly s t) : t.start = s.start := by rw [h.rest]
theorem core {s t : State} (h : EventOnly s t) : t.core = s.core := by rw [h.rest]; rfl
theorem fld {s t : State} (h : EventOnly s t) {a : Nat} (ha : ¬ EventReg a) (f : Fld) : t.fld a f = s.fld a f := by
  simp only [State.fld, h.reg a ha]

/-- Bookkeeping of the fault collector. -/
theorem of_flt (s : State) (x : FaultState) (hq : x.quenched = s.flt.quenched) (hr : x.readyAt = s.flt.readyAt) :
    EventOnly s { s with flt := x } := ⟨Eq.refl _, hq, hr, fun _ _ => Eq.refl _, Eq.refl _⟩

/-- Bookkeeping of the Anvil pair. -/
theorem of_anv (s : State) (x : AnvilState) : EventOnly s { s with anv := x } :=
  ⟨Eq.refl _, Eq.refl _, Eq.refl _, fun _ _ => Eq.refl _, Eq.refl _⟩

/-- Reports one after another. -/
theorem foldl {α : Type} {f : State → α → State} (hf : ∀ s x, EventOnly s (f s x)) (l : List α) (s : State) :
    EventOnly s (l.foldl f s) := by
  induction l generalizing s with
  | nil => exact .rfl
  | cons x t ih => exact (hf s x).trans (ih _)

end EventOnly

namespace State

/-- R410: what an event below Class 4 writes as it is recorded. -/
theorem recordEvent_eventOnly (s : State) {cls : Nat} (block cause inst detail : Nat) (h : cls ≤ 3) :
    EventOnly s (s.recordEvent cls block cause inst detail) := by
  have hhead : s.fld FLT_STATUS FLT_STATUS.HEAD < 32 := getFld_lt _ _
  unfold recordEvent
  extract_lets seq head ev time lost s1 s2 s3 s4 _ s5 s6 s7 s8 s9
  have h1 : EventOnly s s1 := .setFld s _ _ (.block (by decide)) (by decide)
  have h2 : EventOnly s1 s2 := .setReg _ _ (.block (by unfold FLT_HIST_TIME; omega)) (by unfold FLT_HIST_TIME FLT_STATUS; omega)
  have h3 : EventOnly s2 s3 := .setReg _ _ (.block (by unfold FLT_HIST_EVENT; omega)) (by unfold FLT_HIST_EVENT FLT_STATUS; omega)
  have h4 : EventOnly s3 s4 := .setReg _ _ (.block (by unfold FLT_HIST_DETAIL; omega)) (by unfold FLT_HIST_DETAIL FLT_STATUS; omega)
  have h5 : EventOnly s4 s5 := .of_flt s4 _ rfl rfl
  have h6 : EventOnly s5 s6 := .ite (.status _ _ _ (by decide)) .rfl
  have h7 : EventOnly s6 s7 := .status _ _ _ (by decide)
  have h8 : EventOnly s7 s8 := .ite (((EventOnly.setReg _ _ (.block (by decide)) (by decide)).trans
    (.setReg _ _ (.block (by decide)) (by decide))).trans (.setReg _ _ (.block (by decide)) (by decide))) .rfl
  have h9 : EventOnly s8 s9 := .setFld _ _ _ (.block (by unfold FLT_COUNT; omega)) (by unfold FLT_COUNT FLT_STATUS; omega)
  have h10 : EventOnly s9 (s9.setBit FLT_STATUS ⟨cls, 1⟩) := .status _ _ _ (by simp only; omega)
  exact ((((((((h1.trans h2).trans h3).trans h4).trans h5).trans h6).trans h7).trans h8).trans h9).trans h10

theorem showOut_eventOnly (s : State) : EventOnly s s.showOut := by
  have hout : EventReg ANV_OUT := ⟨by decide, .inr (.inl rfl)⟩
  unfold showOut
  exact .ite .rfl (((EventOnly.setFld _ _ _ hout (by decide)).trans (.setFld _ _ _ hout (by decide))).trans
    (.setFld _ _ _ hout (by decide)))

/-- A message of the PF changes the endpoint, or a pending bit. -/
theorem sendVector_eventOnly (s : State) (v : Nat) : EventOnly s (s.sendVector 0 v) := by
  unfold sendVector
  refine .ite .rfl (.ite (.of_hepOnly (Eq.refl _)) (.ite (.setFld _ _ _ ⟨by decide, .inl rfl⟩ (by decide)) ?_))
  exact .of_hepOnly (emitOver_hepOnly ..)

theorem tellAnvil_eventOnly (s : State) (l : List Nat) : EventOnly s (s.tellAnvil l) := by
  have hout : EventReg ANV_OUT := ⟨by decide, .inr (.inl rfl)⟩
  unfold tellAnvil pldmEvent vectorTrigger
  refine .ite ?_ .rfl
  exact (((EventOnly.setFld _ _ _ (.block (by decide)) (by decide)).trans (.ite (sendVector_eventOnly ..) .rfl)).trans
    (.setFld _ _ _ hout (by decide))).trans (.setFld _ _ _ hout (by decide))

theorem takeNotes_eventOnly (s : State) : EventOnly s s.takeNotes :=
  (EventOnly.of_anv s _).trans (tellAnvil_eventOnly ..)

theorem notifyAnvil_eventOnly (s : State) (q c : Nat) : EventOnly s (s.notifyAnvil q c) :=
  .ite (tellAnvil_eventOnly ..) (.of_anv s _)

theorem raiseHyp_eventOnly (s : State) : EventOnly s s.raiseHyp :=
  ⟨Eq.refl _, Eq.refl _, Eq.refl _, fun _ _ => Eq.refl _, Eq.refl _⟩

/-- R420: a recovery takes one of the eight entries, or waits. -/
theorem openRec_eventOnly (s : State) (p n k q : Nat) : EventOnly s (s.openRec p n k q) := by
  unfold openRec
  refine .ite .rfl ?_
  split
  · next m hm =>
    have hm8 : m < 8 := List.mem_range.1 (List.mem_of_find?_eq_some hm)
    exact (EventOnly.setReg s _ (.block (by unfold FLT_REC; omega)) (by unfold FLT_REC FLT_STATUS; omega)).trans
      (.of_flt _ _ rfl rfl)
  · exact .of_flt _ _ rfl rfl

theorem nextRecovery_eventOnly (s : State) : EventOnly s s.nextRecovery :=
  EventOnly.trans (t := { s with flt := { s.flt with recWait := [] } }) (.of_flt s _ rfl rfl)
    (EventOnly.foldl (fun s (w : RecWait) => openRec_eventOnly s (w.proc / 256) (w.proc % 256) w.key w.seq) s.flt.recWait _)

/-- R408: no Class 3 event escalates before ready. -/
theorem escalates_eq_false {s : State} (h : s.phase ≠ .ready) : s.escalates = false := by
  unfold escalates
  split
  · simp [h]
  · rfl

/-- R406, R408: everything an event of Class 0 or 1 may change, or one of Class 3 that does not escalate. -/
theorem logEvent_eventOnly (s : State) {cls : Nat} (block cause inst detail source : Nat)
    (h : cls ≤ 1 ∨ cls = 3 ∧ s.escalates = false) : EventOnly s (s.logEvent cls block cause inst detail source) := by
  have hup : (cls == 3 && s.escalates) = false := by
    rcases h with h | ⟨-, h⟩
    · rw [beq_eq_false_iff_ne.2 (by omega : cls ≠ 3), Bool.false_and]
    · rw [h, Bool.and_false]
  unfold logEvent
  rw [hup]
  extract_lets up cls' s1 seq s2 s3 s4 s5
  have hcls : cls' = cls := rfl
  have h3' : cls' ≤ 3 := by omega
  have h1 : EventOnly s s1 := (recordEvent_eventOnly s block cause inst detail h3').trans (showOut_eventOnly _)
  have h2 : EventOnly s1 s2 := .ite (sendVector_eventOnly ..) .rfl
  have h3 : EventOnly s2 s3 := .ite (raiseHyp_eventOnly _) .rfl
  have h4 : EventOnly s3 s4 := notifyAnvil_eventOnly ..
  have h5 : EventOnly s4 s5 := by
    unfold s5
    split
    · exact openRec_eventOnly ..
    · exact .rfl
  have hall : EventOnly s s5 := (((h1.trans h2).trans h3).trans h4).trans h5
  rw [hcls, if_neg (by omega : ¬ cls = 4), if_neg (by omega : ¬ cls = 2)]
  refine .ite ?_ hall
  split
  · exact hall.trans (.of_flt _ _ rfl rfl)
  · exact hall

end State
end Sys2Proof.Machine
end

section
/-!
SUPPORT. Partners of the seam (R48 to R52): what writing a record leaves of the mirror records held, what a partner's
`JNL_MIRROR` bits keep, and the rings that a fence and the return of contact change.
-/
namespace Sys2Proof.Machine
open Sys2Proof

/-- What a record written to the log leaves alone: the records held of partners, and what was heard of each. -/
def State.seamView (s : State) : Nat × List ForeignRec × (Nat → Bool × Nat × Nat) :=
  (s.tb, s.jnl.foreign, fun k => ((s.partner k).present, (s.partner k).lastHeard, (s.partner k).mirrorSeen))

theorem seamView_foldl {α : Type} {f : State → α → State} (hf : ∀ s x, (f s x).seamView = s.seamView) (l : List α) (s : State) :
    (l.foldl f s).seamView = s.seamView := by
  induction l generalizing s with
  | nil => rfl
  | cons x t ih => exact (ih _).trans (hf s x)

namespace State

@[simp] theorem partner_setPartner_self (s : State) (k : Nat) (x : Partner) : (s.setPartner k x).partner k = x := by
  simp [partner, setPartner]

/-! ### Writing a record -/

@[simp] theorem setFld_seamView (s : State) (a : Nat) (f : Fld) (n : Nat) : (s.setFld a f n).seamView = s.seamView := (rfl)
@[simp] theorem issueBlock_seamView (s : State) (b : Bytes) (w : WriteFor) (m : Option Nat) : (s.issueBlock b w m).seamView = s.seamView :=
  (rfl)
@[simp] theorem headRegs_seamView (s : State) : s.headRegs.seamView = s.seamView := by simp [headRegs]
@[simp] theorem sendSeam_seamView (s : State) (o : Output) : (s.sendSeam o).seamView = s.seamView := by unfold sendSeam; split <;> rfl

/-- The next record number is all that sending a record to a partner changes of it. -/
@[simp] theorem setPartner_mirrorSeq_seamView (s : State) (k n : Nat) :
    (s.setPartner k { s.partner k with mirrorSeq := n }).seamView = s.seamView := by
  simp only [seamView, Prod.mk.injEq]
  refine ⟨rfl, rfl, funext fun j => ?_⟩
  by_cases hj : j = k
  · rw [hj, partner_setPartner_self]
  · have : (s.setPartner k { s.partner k with mirrorSeq := n }).partner j = s.partner j := Tbl.get_set_ne _ _ _ hj
    rw [this]

@[simp] theorem sendMirror_seamView (s : State) (k : Nat) (b : List Bytes) (w : WriteFor) (p : Option Nat) :
    (s.sendMirror k b w p).seamView = s.seamView :=
  (sendSeam_seamView ..).trans (setPartner_mirrorSeq_seamView s k _)

theorem issueRecord_seamView (s : State) (r : RecordWait) : (s.issueRecord r).seamView = s.seamView := by
  unfold issueRecord
  extract_lets first blocks mirror needsAck s1 posted s2
  have h1 : s1.seamView = s.seamView := seamView_foldl (fun _ _ => issueBlock_seamView ..) _ _
  have h2 : s2.seamView = s1.seamView := by
    unfold s2
    clear_value mirror
    split
    · exact sendMirror_seamView ..
    · rfl
  exact h2.trans h1

theorem pumpLog_seamView (n : Nat) (s : State) : (pumpLog n s).seamView = s.seamView := by
  induction n generalizing s with
  | zero => rfl
  | succ n ih =>
    unfold pumpLog
    split
    · rfl
    · dsimp only
      split
      · exact (ih _).trans (issueRecord_seamView ..)
      · rfl

theorem carryRecord_seamView (s : State) (r : LiveRec) : (s.carryRecord r).seamView = s.seamView := by
  unfold carryRecord
  split
  · rfl
  · exact seamView_foldl (fun _ _ => issueBlock_seamView ..) _ s

theorem carryForward_seamView (s : State) : s.carryForward.seamView = s.seamView :=
  seamView_foldl (fun _ _ => carryRecord_seamView ..) _ _

/-- R34, R48: a record handed to the journal changes neither what is held of partners nor what was heard of them. -/
theorem writeRecord_seamView (s : State) (b : List Bytes) (w : WriteFor) (m : Option Nat) :
    (s.writeRecord b w m).seamView = s.seamView := by
  unfold writeRecord
  dsimp only
  split
  · exact (headRegs_seamView _).trans ((carryForward_seamView _).trans (pumpLog_seamView ..))
  · rfl

/-! ### Mirror records and acknowledgements -/

/-- R48: the body kept of a partner's record has bit 2 of its second byte set. -/
theorem leAt_markForeign (b : Bytes) : leAt (markForeign b) 1 1 / 4 % 2 = 1 ∨ (markForeign b).length ≤ 1 := by
  have hbit : ∀ x : Byte, (x ||| 4).toNat / 4 % 2 = 1 := by decide
  cases b with
  | nil => exact .inr (by decide)
  | cons x t =>
    have hb : leAt (markForeign (x :: t)) 1 1 = ((x :: t).getD 1 0 ||| 4).toNat := by simp [markForeign, slice, leAt, ofLe]
    exact .inl (hb ▸ hbit _)

/-- The bodies kept of a partner's mirror record (R48). -/
def foreignBodies (blocks : List Bytes) : List Bytes :=
  blocks.flatMap (fun b =>
    if leAt b 0 1 = 2 then
      [markForeign (b.take 28)] ++ (if leAt b 32 1 = 2 then [markForeign (slice b 32 28)] else [])
    else [markForeign (b.take 56)])

theorem foreignBodies_marked {blocks : List Bytes} {b : Bytes} (h : b ∈ foreignBodies blocks) :
    leAt b 1 1 / 4 % 2 = 1 ∨ b.length ≤ 1 := by
  obtain ⟨c, -, hb⟩ := List.mem_flatMap.1 h
  suffices ∃ d, b = markForeign d by obtain ⟨d, rfl⟩ := this; exact leAt_markForeign d
  split at hb
  · split at hb
    · simp only [List.cons_append, List.nil_append, List.mem_cons, List.not_mem_nil, or_false] at hb
      exact hb.elim (fun h => ⟨_, h⟩) (fun h => ⟨_, h⟩)
    · exact ⟨_, by simpa using hb⟩
  · exact ⟨_, by simpa using hb⟩

/-- What waited for partner `k` and was named waits for it no longer. -/
theorem unmirror_out {s : State} {k : Nat} {p : WriteFor → Bool} {y : BlockWrite} (hy : y ∈ (s.unmirror k p).jnl.out)
    (hp : p y.what = true) : y.mirror ≠ some k := by
  obtain ⟨z, -, rfl⟩ := List.mem_map.1 hy
  split at hp
  · next h => rw [if_pos h]; simp
  · next h => rw [if_neg h]; exact fun hz => h ⟨hz, hp⟩

theorem unmirror_partner (s : State) (k j : Nat) (p : WriteFor → Bool) : (s.unmirror k p).partner j = s.partner j := (rfl)

/-- Two bits of one register. -/
theorem bit_setBit_apart (s : State) {a i j : Nat} (b : Bool) (hi : i < 64) (h : j ≠ i) :
    (s.setBit a ⟨i, 1⟩ b).bit a ⟨j, 1⟩ = s.bit a ⟨j, 1⟩ := by
  simp only [bit, setBit]
  rw [fld_setFld_apart _ _ _ _ _ (by simp only; omega) (by simp only; omega)]

end State

section
variable {s : State} {k : Fin 8} (hl : s.live = true) (hs : s.seamUp = true)
include hl hs

theorem onSeam_open (f : State → State) : onSeam s f = .next (f s) := by simp [onSeam, hl, hs]

/-- R48: a mirror record not seen before is held, flagged foreign. -/
theorem exec_mirrorRecord_new (n : Nat) (blocks : List Bytes) (hc : (s.partner k.val).clash = false)
    (ha : (s.partner k.val).adopted = false) (hn : (s.partner k.val).mirrorSeen ≤ n) :
    ∃ (t : State) (bodies : List Bytes), exec (.mirrorRecord k n blocks none) s = .next t ∧
      t.jnl.foreign = s.jnl.foreign ++ [ForeignRec.mk k.val n bodies none false] ∧
      (t.partner k.val).lastHeard = s.tb ∧ (t.partner k.val).present = true ∧ (t.partner k.val).mirrorSeen = n + 1 ∧
      (∀ b ∈ bodies, leAt b 1 1 / 4 % 2 = 1 ∨ b.length ≤ 1) := by
  have hexec : exec (.mirrorRecord k n blocks none) s = execMirrorRecord k n blocks none s := rfl
  rw [hexec, execMirrorRecord, onSeam_open hl hs]
  dsimp only
  rw [if_neg (by simp [hc, ha]), if_neg (by omega)]
  refine ⟨_, State.foreignBodies blocks, rfl, ?_⟩
  generalize hw : State.writeRecord _ _ _ _ = t
  have ht := hw ▸ State.writeRecord_seamView ..
  simp only [State.seamView, Prod.mk.injEq] at ht
  obtain ⟨-, hforeign, hpartner⟩ := ht
  have hk := congrFun hpartner k.val
  simp only [State.partner, State.setPartner, Tbl.get_set_self, Prod.mk.injEq] at hk
  exact ⟨hforeign, hk.2.1, hk.1, hk.2.2, fun b hb => State.foreignBodies_marked hb⟩

/-- R48: a mirror record seen before is not held again; one that is durable is acknowledged again. -/
theorem exec_mirrorRecord_again (n : Nat) (blocks : List Bytes) (posted : Option Nat) (hc : (s.partner k.val).clash = false)
    (ha : (s.partner k.val).adopted = false) (hn : n < (s.partner k.val).mirrorSeen) :
    ∃ t : State, exec (.mirrorRecord k n blocks posted) s = .next t ∧ t.jnl.foreign = s.jnl.foreign ∧ t.jnl.out = s.jnl.out ∧
      ((s.jnl.foreign.any fun r => r.partner == k.val && r.number == n && !r.durable) = false →
        t.out = .mirrorAck k.val n :: s.out) := by
  have hexec : exec (.mirrorRecord k n blocks posted) s = execMirrorRecord k n blocks posted s := rfl
  rw [hexec, execMirrorRecord, onSeam_open hl hs]
  dsimp only
  rw [if_neg (by simp [hc, ha]), if_pos hn, State.setPartner_jnl]
  dsimp only
  refine ⟨_, rfl, ?_, ?_, fun h => ?_⟩
  · split <;> rfl
  · split <;> rfl
  · rw [if_neg (by simp [h])]; rfl

/-- R52: no mirror record is taken of a partner whose rings were taken over. -/
theorem exec_mirrorRecord_adopted (n : Nat) (blocks : List Bytes) (posted : Option Nat)
    (ha : (s.partner k.val).adopted = true) : exec (.mirrorRecord k n blocks posted) s = .next s := by
  have hexec : exec (.mirrorRecord k n blocks posted) s = execMirrorRecord k n blocks posted s := rfl
  rw [hexec, execMirrorRecord, onSeam_open hl hs]
  dsimp only
  rw [if_pos (.inr ha)]

/-- R48: the record acknowledged waits for the partner no longer. -/
theorem exec_mirrorAck (n : Nat) (x : MirrorOut)
    (hx : s.jnl.unacked.find? (fun y => y.partner == k.val && y.number == n) = some x) :
    ∃ u : State, exec (.mirrorAck k n) s = .next u.settle ∧ x ∉ u.jnl.unacked ∧
      (∀ y ∈ u.jnl.out, y.what = x.what → y.mirror ≠ some k.val) ∧ (u.partner k.val).lastHeard = s.tb := by
  have hk : x.partner = k.val := by
    have := List.find?_some hx
    simp only [Bool.and_eq_true, beq_iff_eq] at this
    exact this.1
  have hexec : exec (.mirrorAck k n) s = execMirrorAck k n s := rfl
  rw [hexec, execMirrorAck, onSeam_open hl hs]
  simp only [State.setPartner_jnl, hx]
  refine ⟨_, rfl, ?_, fun y hy hw => State.unmirror_out hy (by simp [hw]), ?_⟩
  · simp [State.unmirror, hk]
  · simp [State.unmirror_partner]

/-! ### Heartbeats -/

/-- R49: a heartbeat goes out on a port with the next number and the last received. -/
theorem exec_heartbeatTimer_due (port : Fin 8) (hc : (s.partner k.val).clash = false)
    (hd : (s.partner k.val).beatAt.get 0 port.val ≤ s.tb) :
    ∃ t : State, exec (.heartbeatTimer k port) s = .next t ∧
      t.out = .heartbeat k.val port.val (s.fld JNL_MIRROR JNL_MIRROR.MODULE) ((s.partner k.val).sent + 1)
        (s.partner k.val).received :: s.out ∧
      t.partner k.val = { s.partner k.val with
        sent := (s.partner k.val).sent + 1
        beatAt := (s.partner k.val).beatAt.set 0 port.val (s.tb + 100000) } := by
  have hexec : exec (.heartbeatTimer k port) s = execHeartbeatTimer k port s := rfl
  rw [hexec, execHeartbeatTimer, onSeam_open hl hs]
  dsimp only
  rw [if_neg (by simp [hc, hd])]
  exact ⟨_, rfl, rfl, State.partner_setPartner_self ..⟩

theorem exec_heartbeatTimer_early (port : Fin 8)
    (hd : (s.partner k.val).clash = true ∨ s.tb < (s.partner k.val).beatAt.get 0 port.val) :
    exec (.heartbeatTimer k port) s = .next s := by
  have hexec : exec (.heartbeatTimer k port) s = execHeartbeatTimer k port s := rfl
  rw [hexec, execHeartbeatTimer, onSeam_open hl hs]
  dsimp only
  rw [if_pos hd]

/-- R49: a heartbeat makes the partner's heartbeats current. -/
theorem exec_heartbeat (port index : Fin 8) (n echo : Nat) (hi : index.val ≠ s.fld JNL_MIRROR JNL_MIRROR.MODULE) :
    ∃ t : State, exec (.heartbeat k port index n echo) s = .next t ∧ t.bit JNL_MIRROR ⟨k.val, 1⟩ = true ∧
      t.bit JNL_MIRROR ⟨8 + k.val, 1⟩ = s.bit JNL_MIRROR ⟨8 + k.val, 1⟩ ∧
      t.partner k.val = { s.partner k.val with
        present := true, clash := false, lastHeard := s.tb, received := max (s.partner k.val).received n,
        lastEcho := if 0 < echo ∧ echo ≤ (s.partner k.val).sent then s.tb else (s.partner k.val).lastEcho } := by
  have hexec : exec (.heartbeat k port index n echo) s = execHeartbeat k port index n echo s := rfl
  rw [hexec, execHeartbeat, onSeam_open hl hs]
  dsimp only
  rw [if_neg hi]
  refine ⟨_, rfl, State.bit_setBit_self _ _ _ _ (by omega), ?_, ?_⟩
  · exact State.bit_setBit_apart _ _ (by omega) (by omega)
  · exact State.partner_setPartner_self ..

/-- R15: a heartbeat with this module's own index: the partner counts as absent, and nothing waits for it. -/
theorem exec_heartbeat_clash (port index : Fin 8) (n echo : Nat) (hi : index.val = s.fld JNL_MIRROR JNL_MIRROR.MODULE)
    (hc : (s.partner k.val).clash = false) :
    ∃ u : State, exec (.heartbeat k port index n echo) s = .next u.settle ∧ u.bit JNL_MIRROR ⟨k.val, 1⟩ = false ∧
      (u.partner k.val).clash = true ∧ (u.partner k.val).lastHeard = (s.partner k.val).lastHeard ∧
      (∀ y ∈ u.jnl.out, y.mirror ≠ some k.val) ∧ ∀ y ∈ u.jnl.unacked, y.partner ≠ k.val := by
  have hexec : exec (.heartbeat k port index n echo) s = execHeartbeat k port index n echo s := rfl
  rw [hexec, execHeartbeat, onSeam_open hl hs]
  dsimp only
  rw [if_pos hi, if_neg (by simp [hc])]
  generalize hv : (s.setPartner k.val { s.partner k.val with clash := true }).setBit JNL_MIRROR ⟨k.val, 1⟩ false = v
  have hbit : v.bit JNL_MIRROR ⟨k.val, 1⟩ = false := hv ▸ State.bit_setBit_self _ _ _ _ (by omega)
  have hpart : v.partner k.val = { s.partner k.val with clash := true } := hv ▸ State.partner_setPartner_self ..
  have hev := State.logEvent_eventOnly v blockJnl causeNone 0 0 0 (.inl (le_refl 1))
  generalize v.logEvent 1 blockJnl causeNone 0 0 0 = e at hev
  have hpe : (e.unmirror k.val fun _ => true).partner k.val = v.partner k.val := by
    rw [State.unmirror_partner, State.partner, hev.jnl]; rfl
  refine ⟨_, rfl, ?_, ?_, ?_, fun y hy => State.unmirror_out hy rfl, ?_⟩
  · rw [← hbit]
    simp only [State.bit]
    exact congrArg (· == 1) (hev.fld (a := JNL_MIRROR) (by unfold EventReg; decide) _)
  · rw [hpe, hpart]
  · rw [hpe, hpart]
  · simp [State.unmirror]

theorem exec_heartbeat_clashed (port index : Fin 8) (n echo : Nat) (hi : index.val = s.fld JNL_MIRROR JNL_MIRROR.MODULE)
    (hc : (s.partner k.val).clash = true) : exec (.heartbeat k port index n echo) s = .next s := by
  have hexec : exec (.heartbeat k port index n echo) s = execHeartbeat k port index n echo s := rfl
  rw [hexec, execHeartbeat, onSeam_open hl hs]
  dsimp only
  rw [if_pos hi, if_pos hc]

end
end Sys2Proof.Machine
end

section
/-!
SUPPORT. What a fence and the return of contact do to the rings mirrored to a partner (R49, R51).
-/
namespace Sys2Proof.Machine
open Sys2Proof

/-- A fold whose step at `x` makes `P` hold of `x`, and never undoes it, makes it hold of every element and keeps it of
all others. -/
theorem foldl_establishes {σ α : Type} {f : σ → α → σ} {P : σ → α → Prop} (est : ∀ s x, P (f s x) x)
    (keep : ∀ s x y, P s y → P (f s x) y) (l : List α) (s : σ) :
    (∀ y, P s y → P (l.foldl f s) y) ∧ ∀ y ∈ l, P (l.foldl f s) y := by
  induction l generalizing s with
  | nil => simp
  | cons x t ih =>
    obtain ⟨hkeep, hest⟩ := ih (f s x)
    refine ⟨fun y hy => hkeep y (keep s x y hy), fun y hy => ?_⟩
    rcases List.mem_cons.1 hy with rfl | hy
    · exact hkeep _ (est s _)
    · exact hest y hy

/-- `t` is `s` with other ring states, and with the messages, the endpoint and the registers of the rings that follow
them. -/
structure RingsOnly (s t : State) : Prop where
  jnl : t.jnl = s.jnl
  units : t.disp.units = s.disp.units
  mirror : t.reg JNL_MIRROR = s.reg JNL_MIRROR

theorem RingsOnly.rfl {s : State} : RingsOnly s s := ⟨Eq.refl _, Eq.refl _, Eq.refl _⟩

theorem RingsOnly.trans {s t u : State} (h : RingsOnly s t) (h' : RingsOnly t u) : RingsOnly s u :=
  ⟨h'.jnl.trans h.jnl, h'.units.trans h.units, h'.mirror.trans h.mirror⟩

theorem RingsOnly.foldl {α : Type} {f : State → α → State} (hf : ∀ s x, RingsOnly s (f s x)) (l : List α) (s : State) :
    RingsOnly s (l.foldl f s) := by
  induction l generalizing s with
  | nil => exact .rfl
  | cons x t ih => exact (hf s x).trans (ih _)

theorem RingsOnly.bit {s t : State} (h : RingsOnly s t) (f : Fld) : t.bit JNL_MIRROR f = s.bit JNL_MIRROR f := by
  simp only [State.bit, State.fld, h.mirror]

namespace State

theorem ring_setRing_self (s : State) (k : Nat) (x : Ring) : (s.setRing k x).ring k = x := by simp [ring, setRing]

theorem ring_setRing_ne (s : State) {j k : Nat} (x : Ring) (h : j ≠ k) : (s.setRing k x).ring j = s.ring j :=
  Tbl.get_set_ne _ _ _ h

theorem setRing_ringsOnly (s : State) (k : Nat) (x : Ring) : RingsOnly s (s.setRing k x) := ⟨rfl, rfl, rfl⟩

/-- The status of a ring stands outside `JNL_MIRROR`. -/
theorem sqStatus_ne_mirror {f : Nat} (r : Nat) : JNL_MIRROR ≠ RING_SQ_STATUS f (r % 17) := by
  unfold JNL_MIRROR RING_SQ_STATUS ringPage; split <;> omega

theorem showRing_ringsOnly (s : State) (rk : Nat) : RingsOnly s (s.showRing rk) := by
  unfold showRing
  extract_lets f r x st
  split
  · have h := writeSq_hepOnly (s.setFld (RING_SQ_STATUS f r) RING_SQ_STATUS.STATE st) f r
    exact ⟨h.jnl, by rw [h.disp]; rfl, (h.reg _).trans (reg_setFld_ne s _ _ (sqStatus_ne_mirror _))⟩
  · exact .rfl

theorem showRing_disp (s : State) (rk : Nat) : (s.showRing rk).disp = s.disp := by
  unfold showRing
  dsimp only
  split
  · exact (writeSq_hepOnly ..).disp
  · rfl

theorem showRing_ring (s : State) (rk j : Nat) : (s.showRing rk).ring j = s.ring j := by
  simp only [ring, showRing_disp]

/-- A step of a unit that finds no path waits; nothing but the exchanges change. -/
theorem stepNoPath_unit (s : State) (t : XStep) {k : Nat} (h : t.owner = .unit k) :
    s.stepNoPath t = { s with chn := (s.stepNoPath t).chn } := by
  unfold stepNoPath; rw [h]

/-- R49: commit messages withheld change the associations and the exchanges only. -/
theorem holdCommits_only (s : State) (rk : Nat) :
    s.holdCommits rk = { s with chn := (s.holdCommits rk).chn, srx := (s.holdCommits rk).srx } := by
  unfold holdCommits
  dsimp only
  generalize hmine : s.chn.steps.filter _ = mine
  have hunit : ∀ t ∈ mine, ∃ k, t.owner = .unit k := by
    intro t ht
    rw [← hmine, List.mem_filter] at ht
    cases ho : t.owner with
    | unit k => exact ⟨k, rfl⟩
    | program p => simp [ho] at ht
  clear hmine
  induction mine generalizing s with
  | nil => rfl
  | cons t l ih =>
    obtain ⟨k, hk⟩ := hunit t List.mem_cons_self
    rw [List.foldl_cons, ih _ (fun x hx => hunit x (List.mem_cons_of_mem _ hx)), stepNoPath_unit _ t hk]
    rfl

theorem holdCommits_ringsOnly (s : State) (rk : Nat) : RingsOnly s (s.holdCommits rk) := by
  rw [holdCommits_only]; exact ⟨rfl, rfl, rfl⟩

/-! ### Fencing -/

/-- One ring fenced. -/
def fenceRing (s : State) (rk : Nat) : State :=
  ((s.setRing rk { s.ring rk with fenced := true }).holdCommits rk).showRing rk

theorem fenceRing_ring (s : State) (rk j : Nat) :
    (s.fenceRing rk).ring j = (s.setRing rk { s.ring rk with fenced := true }).ring j := by
  rw [fenceRing, showRing_ring, holdCommits_only]; rfl

theorem fenceRing_ringsOnly (s : State) (rk : Nat) : RingsOnly s (s.fenceRing rk) :=
  ((setRing_ringsOnly s rk _).trans (holdCommits_ringsOnly _ rk)).trans (showRing_ringsOnly ..)

/-- R49: a fence fences every ring mirrored to the partner, reports it, and leaves the units and the journal as they
were. -/
theorem fence_spec (s : State) {k : Nat} (hk : k < 8) :
    (s.fence k).bit JNL_MIRROR ⟨8 + k, 1⟩ = true ∧ (s.fence k).bit JNL_MIRROR ⟨k, 1⟩ = false ∧
      (s.fence k).bit JNL_EVENT JNL_EVENT.MIRROR_LOST = true ∧ (∀ rk ∈ s.mirroredTo k, ((s.fence k).ring rk).fenced = true) ∧
      (s.fence k).disp.units = s.disp.units ∧ (s.fence k).jnl = s.jnl := by
  generalize hl : (s.mirroredTo k).filter (fun rk => !(s.ring rk).fenced) = l
  have hfold := RingsOnly.foldl fenceRing_ringsOnly l s
  obtain ⟨hkept, hfenced⟩ := foldl_establishes (f := fenceRing) (P := fun s rk => (s.ring rk).fenced = true)
    (fun s x => by rw [fenceRing_ring, ring_setRing_self])
    (fun s x y hy => by
      rw [fenceRing_ring]
      by_cases hxy : y = x
      · rw [hxy, ring_setRing_self]
      · rw [ring_setRing_ne _ _ hxy, hy]) l s
  have hfence : s.fence k = (((l.foldl fenceRing s).setBit JNL_MIRROR ⟨8 + k, 1⟩).setBit JNL_MIRROR ⟨k, 1⟩ false).setBit
      JNL_EVENT JNL_EVENT.MIRROR_LOST := by rw [← hl]; rfl
  generalize l.foldl fenceRing s = t at hfold hkept hfenced hfence
  have hev : ∀ (u : State) (f : Fld), (u.setBit JNL_EVENT JNL_EVENT.MIRROR_LOST).bit JNL_MIRROR f = u.bit JNL_MIRROR f :=
    fun u f => congrArg (· == 1) (fld_setFld_ne u _ _ _ (by decide))
  rw [hfence]
  refine ⟨?_, ?_, bit_setBit_self _ _ _ _ (by decide), fun rk hrk => ?_, hfold.units, hfold.jnl⟩
  · rw [hev, bit_setBit_apart _ _ (by omega) (by omega), bit_setBit_self _ _ _ _ (by omega)]
  · rw [hev, bit_setBit_self _ _ _ _ (by omega)]
  · by_cases hf : (s.ring rk).fenced = true
    · exact hkept rk hf
    · exact hfenced rk (by rw [← hl, List.mem_filter]; exact ⟨hrk, by simpa using hf⟩)

/-! ### The return of contact -/

/-- One ring adopted away. -/
def adoptAway (s : State) (rk : Nat) : State :=
  (s.setRing rk { s.ring rk with fenced := false, adoptedAway := true }).showRing rk

theorem adoptAway_ring (s : State) (rk j : Nat) :
    (s.adoptAway rk).ring j = (s.setRing rk { s.ring rk with fenced := false, adoptedAway := true }).ring j := showRing_ring ..

theorem adoptAway_ringsOnly (s : State) (rk : Nat) : RingsOnly s (s.adoptAway rk) :=
  (setRing_ringsOnly s rk _).trans (showRing_ringsOnly ..)

/-- R51: a partner that adopted the rings: those that were fenced are adopted away, and no record waits for it. -/
theorem contact_adopted (s : State) {k : Nat} (hk : k < 8) :
    (s.contact k true).bit JNL_MIRROR ⟨8 + k, 1⟩ = false ∧
      (s.contact k true).bit JNL_MIRROR ⟨k, 1⟩ = s.bit JNL_MIRROR ⟨k, 1⟩ ∧
      (∀ rk ∈ s.mirroredTo k, (s.ring rk).fenced = true →
        ((s.contact k true).ring rk).adoptedAway = true ∧ ((s.contact k true).ring rk).fenced = false) ∧
      ∀ y ∈ (s.contact k true).jnl.unacked, y.partner ≠ k := by
  generalize hl : (s.mirroredTo k).filter (fun rk => (s.ring rk).fenced) = l
  generalize hu : ({ s.setBit JNL_MIRROR ⟨8 + k, 1⟩ false with
    jnl := { s.jnl with unacked := s.jnl.unacked.filter (fun x => x.partner != k) } } : State) = u
  have hcontact : s.contact k true = l.foldl adoptAway u := by rw [← hl, ← hu]; rfl
  have hfold := RingsOnly.foldl adoptAway_ringsOnly l u
  obtain ⟨-, hadopted⟩ := foldl_establishes (f := adoptAway)
    (P := fun s rk => (s.ring rk).adoptedAway = true ∧ (s.ring rk).fenced = false)
    (fun s x => by rw [adoptAway_ring, ring_setRing_self]; exact ⟨rfl, rfl⟩)
    (fun s x y hy => by
      rw [adoptAway_ring]
      by_cases hxy : y = x
      · rw [hxy, ring_setRing_self]; exact ⟨rfl, rfl⟩
      · rw [ring_setRing_ne _ _ hxy]; exact hy) l u
  rw [hcontact]
  refine ⟨?_, ?_, fun rk hrk hf => hadopted rk (by rw [← hl, List.mem_filter]; exact ⟨hrk, hf⟩), ?_⟩
  · rw [hfold.bit, ← hu]; exact bit_setBit_self s _ _ _ (by omega)
  · rw [hfold.bit, ← hu]; exact bit_setBit_apart s _ (by omega) (by omega)
  · rw [hfold.jnl, ← hu]
    intro y hy
    simpa using (List.mem_filter.1 hy).2

theorem sendSeam_hepOnly (s : State) (o : Output) : HepOnly s (s.sendSeam o) := by
  unfold sendSeam; split
  · exact emit_hepOnly ..
  · exact .rfl

/-- R51: a partner that adopted nothing, with no ring fenced: the records it did not acknowledge go out again. -/
theorem contact_unfenced (s : State) {k : Nat} (h : ∀ rk ∈ s.mirroredTo k, (s.ring rk).fenced = false) :
    HepOnly (s.setBit JNL_MIRROR ⟨8 + k, 1⟩ false) (s.contact k false) := by
  have hnone : (s.mirroredTo k).filter (fun rk => (s.ring rk).fenced) = [] := by
    rw [List.filter_eq_nil_iff]; intro rk hrk; simp [h rk hrk]
  simp only [contact, hnone, List.foldl_nil, Bool.false_eq_true, if_false]
  exact .foldl (fun _ _ => sendSeam_hepOnly ..) _ _

end State
end Sys2Proof.Machine
end

section
/-!
R48 to R52: fence and takeover timeouts, the return of contact, and the settlement of O6.
-/
namespace Sys2Proof.Machine
open Sys2Proof

section
variable {s : State} {k : Fin 8} (hl : s.live = true)
include hl

theorem onLive_open (f : State → State) : onLive s f = .next (f s) := by simp [onLive, hl]

/-- R49: nothing is fenced within 1 ms of an echo, or of a partner that counts as absent. -/
theorem exec_fenceTimeout_early (h : (s.partner k.val).clash = true ∨ s.tb < (s.partner k.val).lastEcho + 1000000) :
    exec (.fenceTimeout k) s = .next s := by
  have hexec : exec (.fenceTimeout k) s = execFenceTimeout k s := rfl
  rw [hexec, execFenceTimeout, onLive_open hl]
  exact congrArg Host.Outcome.next (if_pos h)

section
variable (hc : (s.partner k.val).clash = false) (he : (s.partner k.val).lastEcho + 1000000 ≤ s.tb)
  (hf : s.bit JNL_MIRROR ⟨8 + k.val, 1⟩ = false)
include hc he hf

/-- R49: after 1 ms without an echo. -/
theorem exec_fenceTimeout_due : exec (.fenceTimeout k) s =
    .next (if s.mirroredTo k.val = [] then s.setBit JNL_MIRROR ⟨k.val, 1⟩ false else s.fence k.val) := by
  have hexec : exec (.fenceTimeout k) s = execFenceTimeout k s := rfl
  rw [hexec, execFenceTimeout, onLive_open hl]
  dsimp only
  rw [if_neg (by simp only [hc, Bool.false_eq_true, false_or, not_lt]; exact he), if_neg (by simp [hf])]

theorem exec_fenceTimeout_rings (hm : s.mirroredTo k.val ≠ []) :
    ∃ t : State, exec (.fenceTimeout k) s = .next t ∧ t.bit JNL_MIRROR ⟨8 + k.val, 1⟩ = true ∧
      t.bit JNL_MIRROR ⟨k.val, 1⟩ = false ∧ t.bit JNL_EVENT JNL_EVENT.MIRROR_LOST = true ∧
      (∀ rk ∈ s.mirroredTo k.val, (t.ring rk).fenced = true) ∧ t.disp.units = s.disp.units ∧ t.jnl = s.jnl :=
  ⟨_, exec_fenceTimeout_due hl hc he hf, by rw [if_neg hm]; exact State.fence_spec s k.isLt⟩

theorem exec_fenceTimeout_none (hm : s.mirroredTo k.val = []) :
    exec (.fenceTimeout k) s = .next (s.setBit JNL_MIRROR ⟨k.val, 1⟩ false) := by
  rw [exec_fenceTimeout_due hl hc he hf, if_pos hm]

end

/-- R50: nothing is taken over within 2 ms of anything heard, or of a partner that counts as absent. -/
theorem exec_takeoverTimeout_early (h : (s.partner k.val).clash = true ∨ s.tb < (s.partner k.val).lastHeard + 2000000) :
    exec (.takeoverTimeout k) s = .next s := by
  have hexec : exec (.takeoverTimeout k) s = execTakeoverTimeout k s := rfl
  rw [hexec, execTakeoverTimeout, onLive_open hl]
  exact congrArg Host.Outcome.next (if_pos (h.elim .inl fun h => .inr (.inr (.inr (.inl h)))))

/-- R50: the takeover of a partner that records are held of. -/
theorem exec_takeoverTimeout_due (hc : (s.partner k.val).clash = false) (ha : (s.partner k.val).adopted = false)
    (hp : (s.partner k.val).present = true) (hh : (s.partner k.val).lastHeard + 2000000 ≤ s.tb)
    (hr : ∃ r ∈ s.jnl.foreign, r.partner = k.val) :
    exec (.takeoverTimeout k) s = .next ((s.standbyTakeover k.val).takeover k.val) := by
  have hexec : exec (.takeoverTimeout k) s = execTakeoverTimeout k s := rfl
  have hany : (s.jnl.foreign.any fun r => r.partner == k.val) = true := by
    obtain ⟨r, hr, hk⟩ := hr
    exact List.any_eq_true.2 ⟨r, hr, by simp [hk]⟩
  have hms : ¬ s.tb < (s.partner k.val).lastHeard + ms 2 := not_lt.2 hh
  rw [hexec, execTakeoverTimeout, onLive_open hl]
  dsimp only
  rw [if_neg (by simp [hc, ha, hp, hany, hms])]

section
variable (hs : s.seamUp = true) (hc : (s.partner k.val).clash = false) (ha : (s.partner k.val).adopted = false)
include hs hc ha

/-- R51: contact with a partner whose rings were not taken over. -/
theorem exec_contactReturn (b : Bool) : exec (.contactReturn k b) s =
    .next (((s.setPartner k.val { s.partner k.val with present := true, lastHeard := s.tb, lastEcho := s.tb }).setBit
      JNL_MIRROR ⟨k.val, 1⟩).contact k.val b) := by
  have hexec : exec (.contactReturn k b) s = execContactReturn k b s := rfl
  rw [hexec, execContactReturn, onSeam_open hl hs]
  simp [hc, ha]

theorem exec_contactReturn_adopted : ∃ t : State, exec (.contactReturn k true) s = .next t ∧
    t.bit JNL_MIRROR ⟨k.val, 1⟩ = true ∧ t.bit JNL_MIRROR ⟨8 + k.val, 1⟩ = false ∧
    (∀ rk ∈ s.mirroredTo k.val, (s.ring rk).fenced = true → (t.ring rk).adoptedAway = true ∧ (t.ring rk).fenced = false) ∧
    ∀ y ∈ t.jnl.unacked, y.partner ≠ k.val := by
  obtain ⟨hfenced, hup, hrings, hacks⟩ := State.contact_adopted
    ((s.setPartner k.val { s.partner k.val with present := true, lastHeard := s.tb, lastEcho := s.tb }).setBit
      JNL_MIRROR ⟨k.val, 1⟩) k.isLt
  exact ⟨_, exec_contactReturn hl hs hc ha true, hup.trans (State.bit_setBit_self _ _ _ _ (by omega)), hfenced, hrings, hacks⟩

theorem exec_contactReturn_unfenced (hr : ∀ rk ∈ s.mirroredTo k.val, (s.ring rk).fenced = false) :
    ∃ t : State, exec (.contactReturn k false) s = .next t ∧ t.bit JNL_MIRROR ⟨k.val, 1⟩ = true ∧
      t.bit JNL_MIRROR ⟨8 + k.val, 1⟩ = false ∧ t.disp = s.disp ∧ t.jnl.unacked = s.jnl.unacked := by
  have h := State.contact_unfenced (k := k.val)
    (s := (s.setPartner k.val { s.partner k.val with present := true, lastHeard := s.tb, lastEcho := s.tb }).setBit
      JNL_MIRROR ⟨k.val, 1⟩) hr
  refine ⟨_, exec_contactReturn hl hs hc ha false, ?_, ?_, h.disp, by rw [h.jnl]; rfl⟩
  · simp only [State.bit, State.fld, h.reg]
    exact (State.bit_setBit_apart _ _ (by omega) (by omega)).trans (State.bit_setBit_self _ _ _ _ (by omega))
  · simp only [State.bit, State.fld, h.reg]
    exact State.bit_setBit_self _ _ _ _ (by omega)

end
end

/-- Settles O6: each clause is the rule above of its command, for a module that is live and whose seam ports run. -/
theorem mirrorAndTakeover : Obligations.MirrorAndTakeover := by
  unfold Obligations.MirrorAndTakeover
  intro s k port index hl hs
  dsimp only
  refine ⟨?_, ?_, ?_, ?_, ?_, ?_, ?_, ?_, ?_, ?_, ?_, ?_, ?_, ?_, ?_, ?_⟩
  · exact fun n blocks hc ha hn => exec_mirrorRecord_new hl hs n blocks hc ha hn
  · exact fun n blocks posted hc ha hn => exec_mirrorRecord_again hl hs n blocks posted hc ha hn
  · exact fun n blocks posted ha => exec_mirrorRecord_adopted hl hs n blocks posted ha
  · exact fun n x hx => exec_mirrorAck hl hs n x hx
  · exact fun hc hd => exec_heartbeatTimer_due hl hs port hc hd
  · exact fun hd => exec_heartbeatTimer_early hl hs port (.inr hd)
  · exact fun n echo hi => exec_heartbeat hl hs port index n echo hi
  · exact fun n echo hi hc => exec_heartbeat_clash hl hs port index n echo hi hc
  · exact fun n echo hi hc => ⟨exec_heartbeat_clashed hl hs port index n echo hi hc,
      exec_heartbeatTimer_early hl hs port (.inl hc), exec_fenceTimeout_early hl (.inl hc),
      exec_takeoverTimeout_early hl (.inl hc)⟩
  · exact fun he => exec_fenceTimeout_early hl (.inr he)
  · exact fun hc he hf hm => exec_fenceTimeout_rings hl hc he hf hm
  · exact fun hc he hf hm => exec_fenceTimeout_none hl hc he hf hm
  · exact fun hh => exec_takeoverTimeout_early hl (.inr hh)
  · exact fun hc ha hp hh hr => exec_takeoverTimeout_due hl hc ha hp hh hr
  · exact fun hc ha => exec_contactReturn_adopted hl hs hc ha
  · exact fun hc ha hr => exec_contactReturn_unfenced hl hs hc ha hr

end Sys2Proof.Machine
end

section
/-!
SUPPORT. What the checks of a start leave alone (R431 steps 4 to 7): the start itself, and that no unit, program, exchange or
transaction stands; and Crucible's state.
-/
namespace Sys2Proof.Machine
open Sys2Proof

/-- The start, and what would have to be ended with a lost domain: runs, units, programs with their exchanges, and open
transactions. -/
def State.still (s : State) :
    (Nat × Phase × StartState × Nat) × Tbl ExecRun × Tbl WorkUnit × ChannelState × Tbl HomeEntry :=
  (s.core, s.disp.runs, s.disp.units, s.chn, s.coh.homes)

/-- The same with Quench and Crucible's state. -/
def State.vital (s : State) := (s.still, s.flt.quenched, s.fld CRU_STATUS CRU_STATUS.STATE)

theorem still_core {s t : State} (h : t.still = s.still) : t.core = s.core := by
  simp only [State.still, Prod.mk.injEq] at h
  exact h.1

theorem vital_eq_iff {s t : State} : t.vital = s.vital ↔ t.still = s.still ∧ t.flt.quenched = s.flt.quenched ∧
    t.fld CRU_STATUS CRU_STATUS.STATE = s.fld CRU_STATUS CRU_STATUS.STATE := by
  simp only [State.vital, Prod.mk.injEq]

/-- Nothing of the module's work stands. -/
def State.Idle (s : State) : Prop :=
  s.disp.runs = [] ∧ s.disp.units = [] ∧ s.chn.progs = [] ∧ s.chn.steps = [] ∧ s.coh.homes = []

theorem State.Idle.of_still {s t : State} (h : t.still = s.still) (hs : s.Idle) : t.Idle := by
  simp only [State.still, Prod.mk.injEq] at h
  obtain ⟨-, hruns, hunits, hchn, hhomes⟩ := h
  simpa only [State.Idle, hruns, hunits, hchn, hhomes] using hs

/-- From an idle module, `t` keeps what is vital to a start. -/
structure Steady (s t : State) : Prop where
  vital : s.Idle → t.vital = s.vital

namespace Steady

theorem of_eq {s t : State} (h : t.vital = s.vital) : Steady s t := ⟨fun _ => h⟩

theorem rfl {s : State} : Steady s s := ⟨fun _ => Eq.refl _⟩

theorem idle {s t : State} (h : Steady s t) (hs : s.Idle) : t.Idle := .of_still (congrArg Prod.fst (h.vital hs)) hs

theorem trans {s t u : State} (h : Steady s t) (h' : Steady t u) : Steady s u :=
  ⟨fun hs => (h'.vital (h.idle hs)).trans (h.vital hs)⟩

theorem ite {c : Prop} [Decidable c] {s t u : State} (h : Steady s t) (h' : Steady s u) : Steady s (if c then t else u) := by
  split
  · exact h
  · exact h'

theorem foldl_mem {α : Type} {f : State → α → State} (l : List α) (hf : ∀ s, ∀ x ∈ l, Steady s (f s x)) (s : State) :
    Steady s (l.foldl f s) := by
  induction l generalizing s with
  | nil => exact .rfl
  | cons x t ih =>
    exact (hf s x List.mem_cons_self).trans (ih (fun s y hy => hf s y (List.mem_cons_of_mem _ hy)) _)

theorem foldl {α : Type} {f : State → α → State} (hf : ∀ s x, Steady s (f s x)) (l : List α) (s : State) :
    Steady s (l.foldl f s) := foldl_mem l (fun s x _ => hf s x) s

/-- A register other than `CRU_STATUS` is written. -/
theorem setReg (s : State) {a : Nat} (v : W64) (h : CRU_STATUS ≠ a) : Steady s (s.setReg a v) :=
  of_eq (by simp only [State.vital, State.fld_setReg_ne s v _ h]; exact Eq.refl _)

theorem setFld (s : State) {a : Nat} (f : Fld) (n : Nat) (h : CRU_STATUS ≠ a) : Steady s (s.setFld a f n) := setReg s _ h

theorem setBit (s : State) {a : Nat} (f : Fld) (b : Bool) (h : CRU_STATUS ≠ a) : Steady s (s.setBit a f b) := setFld s f _ h

/-- A field of `CRU_STATUS` apart from the state is written. -/
theorem cruStatus (s : State) (f : Fld) (n : Nat) (h : f.lo + f.len ≤ 64)
    (hd : CRU_STATUS.STATE.lo + CRU_STATUS.STATE.len ≤ f.lo ∨ f.lo + f.len ≤ CRU_STATUS.STATE.lo) :
    Steady s (s.setFld CRU_STATUS f n) :=
  of_eq (by simp only [State.vital, State.fld_setFld_apart s CRU_STATUS f _ n h hd]; exact Eq.refl _)

theorem of_mm (s : State) (x : MemState) : Steady s { s with mm := x } := of_eq (Eq.refl _)
theorem of_cru (s : State) (x : CruState) : Steady s { s with cru := x } := of_eq (Eq.refl _)
theorem of_anv (s : State) (x : AnvilState) : Steady s { s with anv := x } := of_eq (Eq.refl _)
theorem of_prs (s : State) (x : PairsState) : Steady s { s with prs := x } := of_eq (Eq.refl _)
theorem of_pwr (s : State) (x : PowerState) : Steady s { s with pwr := x } := of_eq (Eq.refl _)
theorem of_procs (s : State) (x : Tbl ProcState) : Steady s { s with procs := x } := of_eq (Eq.refl _)
theorem of_srx (s : State) (x : SurexState) : Steady s { s with srx := x } := of_eq (Eq.refl _)
theorem of_rand (s : State) (n : Nat) : Steady s { s with rand := n } := of_eq (Eq.refl _)
theorem of_coh (s : State) (x : CohState) (h : x.homes = s.coh.homes) : Steady s { s with coh := x } :=
  of_eq (by simp only [State.vital, State.still, h]; exact Eq.refl _)
theorem of_disp (s : State) (x : DispatchState) (hr : x.runs = s.disp.runs) (hu : x.units = s.disp.units) :
    Steady s { s with disp := x } :=
  of_eq (by simp only [State.vital, State.still, hr, hu]; exact Eq.refl _)
theorem emit (s : State) (o : Output) : Steady s (s.emit o) := of_eq (Eq.refl _)

/-- Reports of events keep what is vital to a start. -/
theorem of_eventOnly {s t : State} (h : EventOnly s t) : Steady s t := of_eq (by
  have hcru : ¬ EventReg CRU_STATUS := by unfold EventReg; decide
  simp only [State.vital, State.still, h.core, h.disp, h.chn, h.coh, h.quenched, h.fld hcru])

end Steady
end Sys2Proof.Machine
end

section
/-!
SUPPORT. The parts of a start's checks keep what is vital to it: Crucible's records, the domains and ports, and the Assay of
the clusters (R194, R338, R345, R404, R431).
-/
namespace Sys2Proof.Machine
open Sys2Proof

namespace State

/-! ### Crucible's records -/

theorem loadKey_steady (s : State) (k : Nat) (m : Bytes) : Steady s (s.loadKey k m) := .of_mm s _
theorem setRangeKey_steady (s : State) (a b k : Nat) : Steady s (s.setRangeKey a b k) := .of_mm s _
theorem retireKey_steady (s : State) (k : Nat) : Steady s (s.retireKey k) := .of_mm s _
theorem retireTag_steady (s : State) (t : Nat) : Steady s (s.retireTag t) := .ite .rfl (.of_cru s _)
theorem setPartRec_steady (s : State) (p : Nat) (x : PartRec) : Steady s (s.setPartRec p x) := .of_cru s _
theorem setMeter_steady (s : State) (k : Nat) (m : Meter) : Steady s (s.setMeter k m) := .of_cru s _

theorem cruPart_ne (p : Nat) : CRU_STATUS ≠ CRU_PART p := by unfold CRU_STATUS CRU_PART; omega

theorem setPartState_steady (s : State) (p st : Nat) : Steady s (s.setPartState p st) :=
  (Steady.setFld s _ _ (cruPart_ne p)).trans (.of_cru _ _)

theorem meterMem_steady (s : State) : Steady s s.meterMem := by
  unfold meterMem
  extract_lets ticks x s1 s2
  have h1 : Steady s s1 := .of_cru s _
  have h2 : Steady s1 s2 := .foldl (fun s _ => setMeter_steady s _ _) _ _
  exact .ite h1 ((h1.trans h2).trans (.foldl (fun s _ => setMeter_steady s _ _) _ _))

theorem programRegion_steady (s : State) (n : Nat) (r : Nat × Nat) (k o : Nat) : Steady s (s.programRegion n r k o) :=
  (Steady.setReg s _ (by unfold CRU_STATUS HA_REGION_BASE; omega)).trans
    (.setReg _ _ (by unfold CRU_STATUS HA_REGION_CTL; omega))

/-- A register other than `CRU_STATUS` goes back to its reset value. -/
theorem resetReg_steady (s : State) {a : Nat} (h : CRU_STATUS ≠ a) : Steady s (s.resetReg a) := .of_eq (by
  have hreg : (s.resetReg a).reg CRU_STATUS = s.reg CRU_STATUS := by simp [reg, resetReg, Tbl.get_del, h]
  simp only [vital, fld, hreg]; rfl)

theorem freeRegion_steady (s : State) (n : Nat) : Steady s (s.freeRegion n) :=
  (resetReg_steady s (by unfold CRU_STATUS HA_REGION_BASE; omega)).trans
    (resetReg_steady _ (by unfold CRU_STATUS HA_REGION_CTL; omega))

theorem showRegions_steady (s : State) : Steady s s.showRegions := .cruStatus s _ _ (by decide) (by decide)

theorem reloadPart_steady (s : State) (p : Nat) : Steady s (s.reloadPart p) := by
  unfold reloadPart
  extract_lets x s1
  have h1 : Steady s s1 := .foldl (fun s _ => programRegion_steady s ..) _ _
  exact .ite h1 (h1.trans (loadKey_steady ..))

theorem abandonSeal_steady (s : State) (p : Nat) : Steady s (s.abandonSeal p) := by
  unfold abandonSeal
  extract_lets x s1 s2 s3 s4 s5 s6
  have h1 : Steady s s1 := meterMem_steady s
  have h2 : Steady s1 s2 := (Steady.foldl (fun s _ => setRangeKey_steady s ..) _ _).trans (retireKey_steady ..)
  have h3 : Steady s2 s3 := .foldl (fun s _ => freeRegion_steady s _) _ _
  have h4 : Steady s3 s4 := retireTag_steady ..
  have h5 : Steady s4 s5 := setPartRec_steady ..
  have h6 : Steady s5 s6 := (Steady.setFld _ _ _ (cruPart_ne p)).trans (.setFld _ _ _ (cruPart_ne p))
  exact ((((((h1.trans h2).trans h3).trans h4).trans h5).trans h6).trans (setPartState_steady ..)).trans (showRegions_steady _)

theorem startRecord_steady (s : State) (p reason : Nat) : Steady s (s.startRecord p reason) := by
  have hserved : Steady s (((s.setPartRec p { s.partRec p with reason := reason, serviceOn := none, serviceAt := 0 }).setPartState
      p 3).reloadPart p) := ((setPartRec_steady ..).trans (setPartState_steady ..)).trans (reloadPart_steady ..)
  unfold startRecord
  split
  · exact abandonSeal_steady ..
  · exact hserved
  · exact hserved
  · exact reloadPart_steady ..

/-- R345: the records of a start. -/
theorem startRecords_steady (s : State) (reason : Nat) : Steady s (s.startRecords reason) :=
  .foldl (fun s _ => startRecord_steady s ..) _ _

/-- R431 step 4: from the point where Crucible serves. -/
theorem crucibleUp_steady (s : State) (reason : Nat) :
    Steady (s.setFld CRU_STATUS CRU_STATUS.STATE 1) (s.crucibleUp reason) := by
  unfold crucibleUp
  extract_lets s1 s2 s3 x s4
  have h1 : Steady (s.setFld CRU_STATUS CRU_STATUS.STATE 1) s1 := .cruStatus _ _ _ (by decide) (by decide)
  have h2 : Steady s1 s2 := .foldl (fun s _ => loadKey_steady s ..) _ _
  have h3 : Steady s2 s3 := programRegion_steady ..
  have h4 : Steady s3 s4 := .of_cru _ _
  exact ((((h1.trans h2).trans h3).trans h4).trans (startRecords_steady ..)).trans (showRegions_steady _)

/-! ### Domains and ports -/

theorem cipServe_steady (s : State) : Steady s s.cipServe :=
  .foldl_mem _ (fun s n hn => .setFld s _ _ (by
    have := List.mem_range.1 hn
    unfold CRU_STATUS CIP_Q_STATUS; omega)) s

theorem chanServe_steady (s : State) : Steady s s.chanServe :=
  .foldl_mem _ (fun s n hn => .setFld s _ _ (by
    have := List.mem_range.1 hn
    unfold CRU_STATUS CHN_Q_STATUS; omega)) s

theorem showPath_steady (s : State) {dp : Nat × Nat} (hd : dp.1 < 1024) (hk : dp.2 < 8) : Steady s (s.showPath dp) := by
  have hcfg : CRU_STATUS ≠ CHN_DEV_CFG dp.1 := by unfold CRU_STATUS CHN_DEV_CFG; omega
  unfold showPath
  extract_lets s1 cfg up now
  have h1 : Steady s s1 := .setFld s _ _ (by unfold CRU_STATUS CHN_DEV_PATH; omega)
  exact .ite (h1.trans (.setFld _ _ _ hcfg)) (.ite (h1.trans (.setFld _ _ _ hcfg)) h1)

/-- The paths listed are paths of the 1,024 devices. -/
theorem mem_pathsWith {s : State} {p : Nat → Nat → Bool} {dp : Nat × Nat} (h : dp ∈ s.pathsWith p) : dp.1 < 1024 ∧ dp.2 < 8 := by
  obtain ⟨a, -, ha⟩ := List.mem_filterMap.1 h
  dsimp only at ha
  split at ha
  · split at ha
    · simp only [Option.some.injEq] at ha
      subst ha
      dsimp only
      omega
    · simp at ha
  · simp at ha

theorem showPort_steady (s : State) (p : Nat) : Steady s (s.showPort p) :=
  .foldl_mem _ (fun s _ hdp => showPath_steady s (mem_pathsWith hdp).1 (mem_pathsWith hdp).2) s

theorem showPaths_steady (s : State) (a : Nat) : Steady s (s.showPaths a) :=
  .foldl_mem _ (fun s _ hdp => showPath_steady s (mem_pathsWith hdp).1 (mem_pathsWith hdp).2) s

theorem domPowered_steady (s : State) {d : Nat} (b : Bool) (hd : d < 64) : Steady s (s.domPowered d b) := by
  have hl2 : CRU_STATUS ≠ COH_L2 d := by unfold CRU_STATUS COH_L2; omega
  have hh : CRU_STATUS ≠ COH_HEARTH ((d - 40) / 2) := by unfold CRU_STATUS COH_HEARTH; omega
  unfold domPowered
  extract_lets s1 h s2
  have h1 : Steady s s1 := .setBit s _ _ (by decide)
  refine .ite (.ite h1 (h1.trans (.setFld _ _ _ hl2))) (.ite ?_ (.ite ?_ (.ite ?_ (.ite ?_ h1))))
  · exact (h1.trans (.setBit _ _ _ hh)).trans (.setBit _ _ _ hh)
  · exact (h1.trans (.setBit _ _ _ (by decide))).trans (.foldl (fun s _ => showPort_steady s _) _ _)
  · exact h1.trans (.setBit _ _ _ (by decide))
  · exact h1.trans (.setBit _ _ _ (by decide))

/-- The registers of an engine's domain stand outside Crucible's. -/
theorem domEngines_ne {d : Nat} (hd : d < 64) : ∀ e ∈ domEngines d, CRU_STATUS ≠ e.1.1 ∧ CRU_STATUS ≠ e.2.1 := by
  intro e he
  have hcip : ∀ i < 4, CRU_STATUS ≠ CIP_ENG (4 * (d - 56) + i) := by unfold CRU_STATUS CIP_ENG; omega
  have hswg : ∀ i < 4, CRU_STATUS ≠ SWG_ENG (4 * (d - 58) + i) := by unfold CRU_STATUS SWG_ENG; omega
  have hchn : ∀ i < 16, CRU_STATUS ≠ CHN_ENG (16 * (d - 52) + i) := by unfold CRU_STATUS CHN_ENG; omega
  unfold domEngines at he
  split at he
  · obtain ⟨i, hi, rfl⟩ := List.mem_map.1 he
    exact ⟨hcip i (List.mem_range.1 hi), (by decide : CRU_STATUS ≠ CIP_STATUS)⟩
  · split at he
    · obtain ⟨i, hi, rfl⟩ := List.mem_map.1 he
      exact ⟨hswg i (List.mem_range.1 hi), (by decide : CRU_STATUS ≠ SWG_STATUS)⟩
    · split at he
      · obtain ⟨i, hi, rfl⟩ := List.mem_map.1 he
        exact ⟨hchn i (List.mem_range.1 hi), (by decide : CRU_STATUS ≠ CHN_ENG_OK)⟩
      · simp at he

/-- R404, R433: the domains of a start. -/
theorem domainsUp_steady (s : State) : Steady s s.domainsUp := by
  unfold domainsUp
  extract_lets s1 s2 s3 s4
  have h1 : Steady s s1 := .setReg s _ (by decide)
  have h2 : Steady s1 s2 := .foldl_mem _ (fun s c hc => .setFld s _ _ (by
    have := List.mem_range.1 hc
    unfold CRU_STATUS COH_L2; omega)) _
  have h3 : Steady s2 s3 := .foldl_mem _ (fun s h hh => .setFld s _ _ (by
    have := List.mem_range.1 hh
    unfold CRU_STATUS COH_HEARTH; omega)) _
  have h4 : Steady s3 s4 := .foldl_mem _ (fun s i hi => by
    have hi' := List.mem_range.1 hi
    refine (domPowered_steady s true (d := 52 + i) (by omega)).trans (.foldl_mem _ (fun s e he => ?_) _)
    obtain ⟨h1, h2⟩ := domEngines_ne (by omega) e he
    exact (Steady.ite (.setFld s _ _ h1) .rfl).trans (.setBit _ _ _ h2)) _
  exact ((((h1.trans h2).trans h3).trans h4).trans (cipServe_steady _)).trans (chanServe_steady _)

/-! ### Devices and associations -/

theorem askCrucible_steady (s : State) (k i p : Nat) : Steady s (s.askCrucible k i p) := (Steady.of_cru s _).trans (.emit _ _)

theorem resetDevices_steady (s : State) : Steady s s.resetDevices := by
  have hcfg : ∀ d < 1024, CRU_STATUS ≠ CHN_DEV_CFG d := fun d hd => by unfold CRU_STATUS CHN_DEV_CFG; omega
  unfold resetDevices
  extract_lets ds s1
  have h1 : Steady s s1 := .foldl_mem _ (fun s d hd => .ite (.setFld s _ _ (hcfg d (List.mem_range.1 hd))) .rfl) s
  exact h1.trans (.foldl_mem _ (fun s d hd => (Steady.setFld s _ _ (hcfg d (List.mem_range.1 (List.mem_filter.1 hd).1))).trans
    (askCrucible_steady ..)) _)

theorem setAssoc_steady (s : State) (a : Nat) (x : Assoc) : Steady s (s.setAssoc a x) := .of_srx s _

theorem sendProbe_steady (s : State) (a k e w : Nat) (b : Bytes) : Steady s (s.sendProbe a k e w b) :=
  (Steady.of_rand s _).trans (.emit _ _)

theorem assocCfg_ne {a : Nat} (ha : a < 4096) : CRU_STATUS ≠ SRX_ASSOC_CFG a := by unfold CRU_STATUS SRX_ASSOC_CFG; omega

theorem mem_portAssocs {s : State} {p a : Nat} (h : a ∈ s.portAssocs p) : a < 4096 := by
  obtain ⟨k, -, hk⟩ := List.mem_filterMap.1 h
  dsimp only at hk
  split at hk
  · split at hk
    · simp only [Option.some.injEq] at hk
      omega
    · simp at hk
  · simp at hk

theorem startEstablish_steady (s : State) {a : Nat} (ha : a < 4096) : Steady s (s.startEstablish a) := by
  have hstate : ∀ (u : State) (n : Nat), Steady u ((u.setFld (SRX_ASSOC_CFG a) SRX_ASSOC_CFG.STATE n).showPaths a) :=
    fun u _ => (Steady.setFld u _ _ (assocCfg_ne ha)).trans (showPaths_steady ..)
  have hfresh : ∀ x : Assoc, Steady s (({ s with rand := s.rand + 1 } : State).setAssoc a x) :=
    fun _ => (Steady.of_rand s _).trans (setAssoc_steady ..)
  unfold startEstablish
  dsimp only [randomBytes]
  refine .ite .rfl (.ite (hstate s 3) (.ite ?_ (.ite (hfresh _) ((hfresh _).trans (hstate _ 1)))))
  exact Steady.trans (.ite (hfresh _) ((hfresh _).trans (hstate _ 1))) (sendProbe_steady ..)

end State
end Sys2Proof.Machine
end

section
/-!
SUPPORT. The Assay of a start (R194) keeps what is vital to it: nothing runs, so nothing is ended with a view or a cluster.
-/
namespace Sys2Proof.Machine
open Sys2Proof

namespace State

/-! ### Registers of the pairs and the clusters -/

theorem pairStatus_ne (v : Nat) : CRU_STATUS ≠ PAIR_STATUS v := by unfold CRU_STATUS PAIR_STATUS; omega
theorem pairEvent_ne (v : Nat) : CRU_STATUS ≠ PAIR_EVENT v := by unfold CRU_STATUS PAIR_EVENT; omega
theorem pairCounts_ne (v : Nat) : CRU_STATUS ≠ PAIR_COUNTS v := by unfold CRU_STATUS PAIR_COUNTS; omega
theorem pairLast_ne (v : Nat) : CRU_STATUS ≠ PAIR_LAST v := by unfold CRU_STATUS PAIR_LAST; omega
theorem pairInject_ne (v : Nat) : CRU_STATUS ≠ PAIR_INJECT v := by unfold CRU_STATUS PAIR_INJECT; omega
theorem spareStatus_ne (c : Nat) : CRU_STATUS ≠ SPARE_STATUS c := by unfold CRU_STATUS SPARE_STATUS; omega
theorem spareJoined_ne (c : Nat) : CRU_STATUS ≠ SPARE_JOINED c := by unfold CRU_STATUS SPARE_JOINED; omega
theorem pairBind_ne {n : Nat} (h : n < 160) : CRU_STATUS ≠ UOW_PAIR_BIND n := by unfold CRU_STATUS UOW_PAIR_BIND; omega

/-! ### One view -/

theorem setPairSt_steady (s : State) (v : Nat) (x : PairState) : Steady s (s.setPairSt v x) := .of_prs s _
theorem coreDown_steady (s : State) (k : Nat) : Steady s (s.coreDown k) := .of_prs s _
theorem freshEvent_steady (s : State) (v : Nat) : Steady s (s.freshEvent v) := setPairSt_steady ..
theorem setViewState_steady (s : State) (v n : Nat) : Steady s (s.setViewState v n) := .setFld s _ _ (pairStatus_ne v)
theorem pairLast_steady (s : State) (v o c a b : Nat) : Steady s (s.pairLast v o c a b) := .setReg s _ (pairLast_ne v)
theorem meterRunStart_steady (s : State) (e : Nat) : Steady s (s.meterRunStart e) := .of_cru s _
theorem setProc_steady (s : State) (n : Nat) (x : ProcState) : Steady s (s.setProc n x) := .of_procs s _
theorem dropLoads_steady (s : State) (e : Nat) : Steady s (s.dropLoads e) := .of_coh s _ rfl
theorem emptyL1s_steady (s : State) (e : Nat) (l : List Bool) : Steady s (s.emptyL1s e l) := .of_coh s _ rfl

theorem pairEvent_steady (s : State) (v bit : Nat) {cls : Nat} (h : cls ≤ 1) : Steady s (s.pairEvent v cls bit) :=
  (Steady.setBit s _ _ (pairEvent_ne v)).trans (.of_eventOnly (logEvent_eventOnly _ _ _ _ _ _ (.inl h)))

/-- With nothing running, no run is lost. -/
theorem loseRun_steady (s : State) (e : Nat) : Steady s (s.loseRun e) := by
  refine ⟨fun ⟨hruns, _⟩ => ?_⟩
  have : s.run e = .idle := by rw [run, hruns]; rfl
  simp only [loseRun, this]

theorem freePair_steady (s : State) {n : Nat} (hn : n < 160) : Steady s (s.freePair n) := by
  unfold freePair
  extract_lets st x s1
  refine .ite .rfl ?_
  split
  · split
    · extract_lets w part
      have h1 : Steady s s1 := .of_disp s _ rfl rfl
      exact .ite ((h1.trans (.setReg _ _ (pairBind_ne hn))).trans (askCrucible_steady ..)) (h1.trans (.setReg _ _ (pairBind_ne hn)))
    · exact .setFld s _ _ (pairBind_ne hn)
  · exact .ite (((Steady.setFld s _ _ (pairBind_ne hn)).trans (.setFld _ _ _ (pairBind_ne hn))).trans
      (.setFld _ _ _ (pairBind_ne hn))) .rfl

theorem viewGone_steady (s : State) {v : Nat} (st : Nat) (hv : v < 320) : Steady s (s.viewGone v st) := by
  unfold viewGone
  extract_lets s1 s2 x s3
  have h1 : Steady s s1 := (setViewState_steady s v st).trans (loseRun_steady ..)
  have h2 : Steady s1 s2 := (setProc_steady ..).trans (dropLoads_steady ..)
  have h3 : Steady s2 s3 := .of_disp _ _ rfl rfl
  exact .ite (((h1.trans h2).trans h3).trans (.setReg _ _ (pairBind_ne (by omega))))
    (.ite ((h1.trans h2).trans (freePair_steady _ (by omega))) (h1.trans h2))

theorem spareBack_steady (s : State) (v : Nat) : Steady s (spareBack s v) := .ite (.setFld s _ _ (spareStatus_ne _)) .rfl

theorem resumeView_steady (s : State) {v : Nat} (hv : v < 320) : Steady s (s.resumeView v) := by
  unfold resumeView
  extract_lets s1 x s2
  have h2 : Steady s s2 := (setViewState_steady s v 1).trans (setPairSt_steady ..)
  split
  · exact .ite (h2.trans (freePair_steady _ (by omega))) h2
  · exact h2.trans (meterRunStart_steady ..)

/-! ### One cluster -/

theorem slotViews_lt {s : State} {n v : Nat} (hn : n < 160) (h : v ∈ s.slotViews n) : v < 320 := by
  unfold slotViews at h
  split at h
  · rcases List.mem_cons.1 h with rfl | h
    · omega
    · rw [List.mem_singleton.1 h]; omega
  · rw [List.mem_singleton.1 h]; omega

/-- The views of a cluster. -/
theorem clusterViews_lt {s : State} {c v : Nat} (hc : c < 40)
    (h : v ∈ ((List.range 4).map (fun k => s.slotViews (4 * c + k))).flatten) : v < 320 := by
  obtain ⟨l, hl, hv⟩ := List.mem_flatten.1 h
  obtain ⟨k, hk, rfl⟩ := List.mem_map.1 hl
  have := List.mem_range.1 hk
  exact slotViews_lt (by omega) hv

theorem domainGone_steady (s : State) {c : Nat} (hc : c < 40) : Steady s (s.domainGone c) := by
  have hdom : CRU_STATUS ≠ PWR_DOM c := by unfold CRU_STATUS PWR_DOM; omega
  exact (((Steady.setFld s _ _ hdom).trans (.setFld _ _ _ hdom)).trans (.setBit _ _ _ (by decide))).trans (.of_pwr _ _)

/-- With no transaction open, none waits for a cluster that is lost. -/
theorem closeDead_steady (s : State) (a : Nat) : Steady s (s.closeDead a) := by
  refine ⟨fun ⟨_, _, _, _, hhomes⟩ => ?_⟩
  simp only [closeDead, hhomes, List.map_nil, List.foldl_nil]

theorem declareDead_steady (s : State) {a : Nat} (ha : a < 44) : Steady s (s.declareDead a) := by
  have hl2 : CRU_STATUS ≠ COH_L2 (a - 4) := by unfold CRU_STATUS COH_L2; omega
  unfold declareDead
  extract_lets x s1 s2 s3 y s4
  have h1 : Steady s s1 := .of_coh s _ rfl
  have h2 : Steady s1 s2 := .ite (.setBit _ _ _ (by decide)) ((Steady.setBit _ _ _ (by decide)).trans (.setFld _ _ _ hl2))
  have h3 : Steady s2 s3 := .setBit _ _ _ (by decide)
  have h4 : Steady s3 s4 := .of_coh _ _ rfl
  exact .ite .rfl ((((h1.trans h2).trans h3).trans h4).trans (closeDead_steady ..))

theorem clusterGone_steady (s : State) {c : Nat} (hc : c < 40) : Steady s (s.clusterGone c) := by
  unfold clusterGone
  extract_lets x s1 views s2 s3 s4
  have h1 : Steady s s1 := .of_prs s _
  have h2 : Steady s1 s2 := .foldl_mem _ (fun s v hv => by
    have hv' := clusterViews_lt hc hv
    refine Steady.trans (.trans (.ite .rfl ?_) (.setBit _ _ _ (pairInject_ne v))) (.setBit _ _ _ (pairEvent_ne v))
    extract_lets s1 s2
    have h1 : Steady s s1 := .foldl (fun s k => coreDown_steady s k) _ _
    have h2 : Steady s1 s2 := .ite (freshEvent_steady ..) .rfl
    exact ((h1.trans h2).trans (viewGone_steady _ 5 hv')).trans (pairLast_steady ..)) _
  have h3 : Steady s2 s3 := .setFld _ _ _ (spareStatus_ne c)
  have h4 : Steady s3 s4 := (domainGone_steady _ hc).trans (declareDead_steady _ (by omega))
  exact (((h1.trans h2).trans h3).trans h4).trans (.setBit _ _ _ (by decide))

theorem logCluster_steady (s : State) (c : Nat) : Steady s (s.logCluster c) :=
  .foldl (fun s _ => .of_eventOnly (logEvent_eventOnly s _ _ _ _ _ (.inl (le_refl 1)))) _ _

theorem clusterLost_steady (s : State) {c : Nat} (hc : c < 40) : Steady s (s.clusterLost c) :=
  .ite .rfl ((clusterGone_steady s hc).trans (logCluster_steady ..))

theorem checkCluster_steady (s : State) {c : Nat} (hc : c < 40) : Steady s (s.checkCluster c) :=
  .ite (clusterLost_steady s hc) .rfl

/-! ### Verdicts -/

theorem retireView_steady (s : State) {v : Nat} (st c a b : Nat) (hv : v < 320) : Steady s (s.retireView v st c a b) :=
  ((((Steady.foldl (fun s k => coreDown_steady s k) _ s).trans (pairLast_steady ..)).trans (viewGone_steady _ st hv)).trans
    (pairEvent_steady _ v 4 (le_refl 1))).trans (checkCluster_steady _ (by omega))

theorem assayPassed_steady (s : State) {v : Nat} (b : Nat) (hv : v < 320) : Steady s (assayPassed s v b) := by
  unfold assayPassed
  extract_lets x recent s1 s2 s3 s4
  have h1 : Steady s s1 := setPairSt_steady ..
  have h2 : Steady s1 s2 := .setFld _ _ _ (pairCounts_ne v)
  have h3 : Steady s2 s3 := .setFld _ _ _ (pairCounts_ne v)
  have h4 : Steady s3 s4 := pairLast_steady ..
  exact (((((h1.trans h2).trans h3).trans h4).trans (spareBack_steady ..)).trans (resumeView_steady _ hv)).trans
    (pairEvent_steady _ v 2 (Nat.zero_le 1))

theorem substitute_steady (s : State) {v : Nat} (side core a b : Nat) (hv : v < 320) :
    Steady s (substitute s v side core a b) := by
  unfold substitute
  extract_lets c split s1 s2 s3 s4 s5 s6 s7
  have h1 : Steady s s1 := coreDown_steady ..
  have h2 : Steady s1 s2 := .setFld _ _ _ (pairStatus_ne v)
  have h3 : Steady s2 s3 := .setBit _ _ _ (pairStatus_ne v)
  have h4 : Steady s3 s4 := .setFld _ _ _ (spareStatus_ne c)
  have h5 : Steady s4 s5 := .setFld _ _ _ (spareStatus_ne c)
  have h6 : Steady s5 s6 := .setReg _ _ (spareJoined_ne c)
  have h7 : Steady s6 s7 := pairLast_steady ..
  exact (((((((((h1.trans h2).trans h3).trans h4).trans h5).trans h6).trans h7).trans (emptyL1s_steady ..)).trans
    (resumeView_steady _ hv)).trans (pairEvent_steady _ v 3 (le_refl 1)))

theorem condemn_steady (s : State) {v : Nat} (side core a b : Nat) (r p : Bool) (hv : v < 320) :
    Steady s (condemn s v side core a b r p) := by
  unfold condemn
  extract_lets c st route s1
  have h1 : Steady s s1 := .ite (.setFld s _ _ (spareStatus_ne c)) (spareBack_steady ..)
  exact .ite (substitute_steady s side core a b hv) (h1.trans (retireView_steady _ _ _ _ _ hv))

theorem verdict_steady (s : State) {v : Nat} (a b : Nat) (r p : Bool) (hv : v < 320) : Steady s (verdict s v a b r p) := by
  unfold verdict
  extract_lets coreA coreB s1
  have h1 : Steady s s1 := .ite (.setFld s _ _ (spareStatus_ne _)) (spareBack_steady ..)
  exact .ite (.ite (assayPassed_steady s _ hv) (condemn_steady s _ _ _ _ _ _ hv)) (.ite (assayPassed_steady s _ hv)
    (.ite (condemn_steady s _ _ _ _ _ _ hv) (.ite (condemn_steady s _ _ _ _ _ _ hv)
      (h1.trans (retireView_steady _ _ _ _ _ hv)))))

/-! ### The Assay of a cluster -/

theorem checkSpare_steady (s : State) (c : Nat) (x : StartChecks) : Steady s (s.checkSpare c x) :=
  .ite (.setFld s _ _ (spareStatus_ne c)) ((Steady.setFld s _ _ (spareStatus_ne c)).trans (.setFld _ _ _ (spareStatus_ne c)))

theorem checkLanes_steady (s : State) {n : Nat} (x : StartChecks) (hn : n < 160) : Steady s (s.checkLanes n x) := by
  unfold checkLanes
  extract_lets v s1 s2
  have h1 : Steady s s1 := .foldl (fun s k => coreDown_steady s k) _ _
  have h2 : Steady s1 s2 := .setFld _ _ _ (pairStatus_ne v)
  exact .ite .rfl (((((h1.trans h2).trans (freshEvent_steady ..)).trans (pairLast_steady ..)).trans
    (viewGone_steady _ 0 (by omega))).trans (pairEvent_steady _ v 4 (le_refl 1)))

theorem checkView_steady (s : State) {v : Nat} (x : StartChecks) (hv : v < 320) : Steady s (s.checkView v x) :=
  .ite .rfl (.ite ((setPairSt_steady ..).trans (verdict_steady _ _ _ _ _ hv)) (.ite .rfl
    (((freshEvent_steady s v).trans (.setBit _ _ _ (pairEvent_ne v))).trans (verdict_steady _ _ _ _ _ hv))))

/-- R194: the Assay of one cluster at a start. -/
theorem assayCluster_steady (s : State) {c : Nat} (x : StartChecks) (hc : c < 40) : Steady s (s.assayCluster c x) := by
  unfold assayCluster
  extract_lets s1 s2 vs s3
  have h1 : Steady s s1 := checkSpare_steady ..
  have h2 : Steady s1 s2 := .foldl_mem _ (fun s k hk => checkLanes_steady s x (by
    have := List.mem_range.1 hk
    omega)) _
  have h3 : Steady s2 s3 := .foldl_mem _ (fun s v hv => checkView_steady s x (clusterViews_lt hc hv)) _
  exact .ite ((h1.trans h2).trans h3) (((h1.trans h2).trans h3).trans (checkCluster_steady _ hc))

end State
end Sys2Proof.Machine
end

section
/-!
SUPPORT. Quench and a halt of a module with nothing standing (R412, R438), and the outcome of a start's checks (R431).
-/
namespace Sys2Proof.Machine
open Sys2Proof

theorem Steady.of_flt (s : State) (x : FaultState) (hq : x.quenched = s.flt.quenched) : Steady s { s with flt := x } :=
  .of_eq (by simp only [State.vital, hq]; exact Eq.refl _)

theorem Steady.of_jnl (s : State) (x : JournalState) (hb : x.bootCount = s.jnl.bootCount) : Steady s { s with jnl := x } :=
  .of_eq (by simp only [State.vital, State.still, core_mk, hb]; exact Eq.refl _)

theorem Steady.still {s t : State} (h : Steady s t) (hs : s.Idle) : t.still = s.still := congrArg Prod.fst (h.vital hs)

theorem EventOnly.still {s t : State} (h : EventOnly s t) : t.still = s.still := by
  simp only [State.still, h.core, h.disp, h.chn, h.coh]

namespace State

/-! ### Quench -/

theorem recordEvent_steady (s : State) (cls block cause inst detail : Nat) :
    Steady s (s.recordEvent cls block cause inst detail) := by
  have hhead : s.fld FLT_STATUS FLT_STATUS.HEAD < 32 := getFld_lt _ _
  unfold recordEvent
  extract_lets seq head ev time lost s1 s2 s3 s4 x s5 s6 s7 s8 s9
  have h1 : Steady s s1 := .setFld s _ _ (by decide)
  have h2 : Steady s1 s2 := .setReg _ _ (by unfold CRU_STATUS FLT_HIST_TIME; omega)
  have h3 : Steady s2 s3 := .setReg _ _ (by unfold CRU_STATUS FLT_HIST_EVENT; omega)
  have h4 : Steady s3 s4 := .setReg _ _ (by unfold CRU_STATUS FLT_HIST_DETAIL; omega)
  have h5 : Steady s4 s5 := .of_flt s4 _ rfl
  have h6 : Steady s5 s6 := .ite (.setBit _ _ _ (by decide)) .rfl
  have h7 : Steady s6 s7 := .setFld _ _ _ (by decide)
  have h8 : Steady s7 s8 := .ite (((Steady.setReg _ _ (by decide)).trans (.setReg _ _ (by decide))).trans
    (.setReg _ _ (by decide))) .rfl
  have h9 : Steady s8 s9 := .setFld _ _ _ (by unfold CRU_STATUS FLT_COUNT; omega)
  have h10 : Steady s9 (s9.setBit FLT_STATUS ⟨cls, 1⟩) := .setBit _ _ _ (by decide)
  exact ((((((((h1.trans h2).trans h3).trans h4).trans h5).trans h6).trans h7).trans h8).trans h9).trans h10

theorem setDie_steady (s : State) (d : Nat) (x : Die) : Steady s (s.setDie d x) :=
  .ite (.of_jnl s _ rfl) (.of_jnl s _ rfl)

theorem wearRegs_steady (s : State) {d : Nat} (hd : d < 2) : Steady s (s.wearRegs d) := by
  have hw : CRU_STATUS ≠ JNL_DIE_WRITES d := by unfold CRU_STATUS JNL_DIE_WRITES; omega
  have hl : CRU_STATUS ≠ JNL_DIE_LIFE d := by unfold CRU_STATUS JNL_DIE_LIFE; omega
  unfold wearRegs
  extract_lets t old life s1 s2 s3
  have h1 : Steady s s1 := .setFld _ _ _ hw
  have h2 : Steady s1 s2 := .setFld _ _ _ hw
  have h3 : Steady s2 s3 := .setFld _ _ _ hl
  exact .ite (((h1.trans h2).trans h3).trans (.setBit _ _ _ (by decide))) ((h1.trans h2).trans h3)

theorem storeBlock_steady (s : State) {d : Nat} (i : Nat) (b : Bytes) (hd : d < 2) : Steady s (s.storeBlock d i b) :=
  (setDie_steady ..).trans (wearRegs_steady _ hd)

theorem flushWrites_steady (s : State) : Steady s s.flushWrites := by
  refine (Steady.foldl (fun s x => ?_) s.jnl.out s).trans (.of_jnl _ _ rfl)
  have h0 : Steady s (if x.done0 then s else s.storeBlock 0 (seqIndex x.seq) x.bytes) :=
    .ite .rfl (storeBlock_steady s _ _ Nat.two_pos)
  exact .ite h0 (h0.trans (storeBlock_steady _ _ _ Nat.one_lt_two))

theorem resetWhere_still (s : State) (p : Nat → Bool) : (s.resetWhere p).still = s.still := (rfl)

/-- R412: Quench of a module with nothing standing leaves the start as it was. -/
theorem quench_spec {s : State} (source : Nat) (hs : s.Idle) :
    (s.quench source).still = s.still ∧ (s.quench source).flt.quenched = true := by
  unfold quench
  split
  · next hq => exact ⟨rfl, hq⟩
  · extract_lets s1 s2 s3 s4
    have h1 : Steady s s1 := .emit ..
    have h2 : Steady s1 s2 := by
      unfold s2 latch
      extract_lets b
      exact .ite .rfl (.of_pwr _ _)
    have h3 : Steady s2 s3 := (flushWrites_steady _).trans (.setFld _ _ _ (by decide))
    have h4 : s4.still = s.still := (resetWhere_still s3 _).trans (((h1.trans h2).trans h3).still hs)
    clear_value s4
    exact ⟨h4, rfl⟩

/-- An event of Class 4 ends in Quench (R406), and leaves the start as it was. -/
theorem logEvent_quench {s : State} (block cause inst detail source : Nat) (hs : s.Idle) :
    (s.logEvent 4 block cause inst detail source).still = s.still ∧
      (s.logEvent 4 block cause inst detail source).flt.quenched = true := by
  have h1 : Steady s (s.recordEvent 4 block cause inst detail).showOut :=
    (recordEvent_steady ..).trans (.of_eventOnly (showOut_eventOnly _))
  have hlog : s.logEvent 4 block cause inst detail source = ((s.recordEvent 4 block cause inst detail).showOut).quench source := by
    unfold logEvent; simp
  obtain ⟨hstill, hq⟩ := quench_spec source (h1.idle hs)
  rw [hlog]
  exact ⟨hstill.trans (h1.still hs), hq⟩

end State
end Sys2Proof.Machine
end

section
/-!
SUPPORT. A halt (R438), the outcome of a start's checks (R431 steps 4 to 7) and of a module reset (R432, R437).
-/
namespace Sys2Proof.Machine
open Sys2Proof

theorem Steady.of_hep (s : State) (x : EndpointState) : Steady s { s with hep := x } := .of_eq (Eq.refl _)

namespace State

/-! ### Ports that go down -/

theorem assocDown_steady (s : State) {a : Nat} (off : Bool) (ha : a < 4096) : Steady s (s.assocDown a off) := by
  have hretx : CRU_STATUS ≠ SRX_ASSOC_RETX a := by unfold CRU_STATUS SRX_ASSOC_RETX; omega
  unfold assocDown
  extract_lets x was s1 s2 s3 s4 bound
  have h1 : Steady s s1 := setAssoc_steady ..
  have h2 : Steady s1 s2 := .setFld _ _ _ (assocCfg_ne ha)
  have h3 : Steady s2 s3 := showPaths_steady ..
  have h4 : Steady s3 s4 := .ite ((Steady.setFld _ _ _ hretx).trans (.setBit _ _ _ (by decide))) .rfl
  refine (((h1.trans h2).trans h3).trans h4).trans ⟨fun ⟨_, _, _, hsteps, _⟩ => ?_⟩
  have hbound : bound = [] := by simp only [bound, hsteps, List.filter_nil]
  rw [hbound, List.foldl_nil]

/-- With nothing standing, nothing ends with an association. -/
theorem afterDown_steady (s : State) : Steady s s.afterDown := by
  refine ⟨fun ⟨_, hunits, hprogs, _, _⟩ => ?_⟩
  simp only [afterDown, chanSettleAll, hprogs, hunits, List.map_nil, List.foldl_nil]

theorem portDown_steady (s : State) {p : Nat} (off : Bool) (hp : p < 16) : Steady s (s.portDown p off) := by
  have hport : CRU_STATUS ≠ SRX_PORT_STATUS p := by unfold CRU_STATUS SRX_PORT_STATUS; omega
  unfold portDown
  extract_lets had s1 s2
  have h1 : Steady s s1 := (Steady.setBit _ _ _ (by decide)).trans (.setBit _ _ _ hport)
  have h2 : Steady s1 s2 := .ite (.setBit _ _ _ (by decide)) .rfl
  have h3 : Steady s2 ((s2.portAssocs p).foldl (fun s a => s.assocDown a off) s2) :=
    .foldl_mem _ (fun s _ ha => assocDown_steady s off (mem_portAssocs ha)) _
  exact (((h1.trans h2).trans h3).trans (showPort_steady ..)).trans (afterDown_steady _)

theorem linkDown_steady (s : State) : Steady s s.linkDown :=
  ((Steady.of_hep s _).trans (.of_hep _ _)).trans (.setReg _ _ (by decide))

/-! ### A halt -/

theorem afcEvent_eventOnly (s : State) {cls : Nat} (code : Nat) (h : cls ≤ 1) : EventOnly s (s.afcEvent cls code) :=
  logEvent_eventOnly s _ _ _ _ _ (.inl h)

/-- R438: a halt ends the start at its step. -/
theorem halt_phase (s : State) (n : Nat) : (s.halt n).phase = .halted n := (afcEvent_eventOnly _ _ (le_refl 1)).phase

/-- What a start is told by, were it to stand at `ph`. -/
def stillAt (s : State) (ph : Phase) :
    (Nat × Phase × StartState × Nat) × Tbl ExecRun × Tbl WorkUnit × ChannelState × Tbl HomeEntry :=
  ((s.tb, ph, s.start, s.jnl.bootCount), s.disp.runs, s.disp.units, s.chn, s.coh.homes)

theorem stillAt_congr {s t : State} (h : t.still = s.still) (ph : Phase) : t.stillAt ph = s.stillAt ph := by
  simp only [still, core, Prod.mk.injEq] at h
  obtain ⟨⟨htb, -, hstart, hboots⟩, hruns, hunits, hchn, hhomes⟩ := h
  simp only [stillAt, htb, hstart, hboots, hruns, hunits, hchn, hhomes]

theorem Idle.of_stillAt {s t : State} {ph : Phase} (h : t.still = s.stillAt ph) (hs : s.Idle) : t.Idle := by
  simp only [still, stillAt, Prod.mk.injEq] at h
  obtain ⟨-, hruns, hunits, hchn, hhomes⟩ := h
  simpa only [Idle, hruns, hunits, hchn, hhomes] using hs

/-- R438: a halt keeps the timebase, the boots counted and the start in hand of a module with nothing standing. -/
theorem halt_still {s : State} (n : Nat) (hs : s.Idle) :
    (s.halt n).still = s.stillAt (.halted n) := by
  unfold halt
  extract_lets s1 s2 disp s3 hep
  have h1 : Steady s s1 := .foldl_mem _ (fun s p hp => portDown_steady s true (List.mem_range.1 hp)) _
  have h1' : s1.still = s.still := h1.still hs
  have h2 : s2.still = s.still := (h1.trans (linkDown_steady _)).still hs
  rw [(afcEvent_eventOnly _ _ (le_refl 1)).still]
  clear_value s2 s1
  simp only [still, core, Prod.mk.injEq] at h1' h2
  obtain ⟨-, hruns, hunits, -⟩ := h1'
  obtain ⟨⟨htb, -, hstart, hboots⟩, -, -, hchn, hhomes⟩ := h2
  simp only [still, stillAt, s3, disp, core_mk, htb, hstart, hboots, hruns, hunits, hchn, hhomes]

/-! ### The checks of a start -/

/-- R419: an Anvil that passes takes the lease. -/
theorem anvilsUp_steady (s : State) {a b : Bool} (h : a = true ∨ b = true) : Steady s (s.anvilsUp a b) := by
  unfold anvilsUp
  extract_lets set s1 anv s2 failed
  have h2 : Steady s s2 := ((Steady.setBit s _ _ (by decide)).trans (.setBit _ _ _ (by decide))).trans (.of_anv _ _)
  have hset : ∀ x y, Steady s2 (set s2 x y) := fun _ _ => (Steady.setFld _ _ _ (by decide)).trans (.setFld _ _ _ (by decide))
  have hfailed : ∀ u, Steady u (failed u) := fun u => (Steady.setBit u _ _ (by decide)).trans
    (.of_eventOnly (logEvent_eventOnly _ _ _ _ _ _ (.inl (le_refl 1))))
  have hnotes : ∀ u, Steady u u.takeNotes := fun u => .of_eventOnly (takeNotes_eventOnly u)
  clear_value set failed s2
  split
  · exact (h2.trans (hset _ _)).trans (hnotes _)
  · split
    · exact ((h2.trans (hset _ _)).trans (hnotes _)).trans (hfailed _)
    · split
      · exact ((h2.trans (hset _ _)).trans (hnotes _)).trans (hfailed _)
      · simp_all

/-- R431 step 5: with no Anvil, Quench. -/
theorem anvilsUp_none {s : State} (hs : s.Idle) :
    (s.anvilsUp false false).still = s.still ∧ (s.anvilsUp false false).flt.quenched = true := by
  unfold anvilsUp
  extract_lets set s1 anv s2 failed
  have h2 : Steady s s2 := ((Steady.setBit s _ _ (by decide)).trans (.setBit _ _ _ (by decide))).trans (.of_anv _ _)
  have h3 : Steady s2 ((set s2 4 4).setBit ANV_EVENT ANV_EVENT.FAILED) :=
    ((Steady.setFld _ _ _ (by decide)).trans (.setFld _ _ _ (by decide))).trans (.setBit _ _ _ (by decide))
  have h := (h2.trans h3)
  obtain ⟨hstill, hq⟩ := logEvent_quench blockAnv 4 0 0 1 (h.idle hs)
  exact ⟨hstill.trans (h.still hs), hq⟩

/-- Whatever the Anvils do, the start stays as it was. -/
theorem anvilsUp_still {s : State} (a b : Bool) (hs : s.Idle) : (s.anvilsUp a b).still = s.still := by
  by_cases h : a = true ∨ b = true
  · exact (anvilsUp_steady s h).still hs
  · have : a = false ∧ b = false := by simpa using h
    rw [this.1, this.2]
    exact (anvilsUp_none hs).1

theorem setCru_still (s : State) (f : Fld) (n : Nat) : (s.setFld CRU_STATUS f n).still = s.still := (rfl)

section
variable {u : State} (hu : u.Idle)
include hu

/-- R338, R438: a wrong identity ends halted at step 4. -/
theorem identityFails_still (hp : u.phase ≠ .ready) : u.identityFails.still = u.stillAt (.halted 4) := by
  unfold identityFails
  extract_lets s1 cru s2
  have h1 : Steady u s1 := (Steady.cruStatus _ _ _ (by decide) (by decide)).trans (.setBit _ _ _ (by decide))
  have h2 : Steady u s2 := h1.trans (.of_cru _ _)
  have hphase : s2.phase ≠ .ready := by
    obtain ⟨-, hphase, -⟩ := core_eq_iff.1 (still_core (h2.still hu))
    rwa [hphase]
  have h3 : Steady u (s2.logEvent 3 blockCru 4 0) :=
    h2.trans (.of_eventOnly (logEvent_eventOnly _ _ _ _ _ _ (.inr ⟨rfl, escalates_eq_false hphase⟩)))
  rw [halt_still 4 (h3.idle hu), stillAt_congr (h3.still hu)]

omit hu in
/-- R431: where the identity is right, the checks go on; `v` is what Crucible, the Anvils and the domains reach. -/
theorem startChecks_identity {x : StartChecks} (p : Bool) (reason : Nat) (hi : x.identity = true) {v : State}
    (hv : v = ((u.crucibleUp reason).anvilsUp x.anvilA x.anvilB).domainsUp) : u.startChecks x p reason =
      if v.flt.quenched then v else if !x.comparators then v.halt 6
      else ((List.range 40).foldl (fun s c => s.assayCluster c x) v).starting 7 p := by
  rw [hv]
  simp only [startChecks, hi, Bool.not_true, Bool.false_eq_true, if_false]

/-- Crucible serves. -/
theorem crucibleUp_idle (reason : Nat) : (u.crucibleUp reason).still = u.still :=
  ((crucibleUp_steady u reason).still (.of_still (setCru_still ..) hu)).trans (setCru_still ..)

/-- The state that the checks of Crucible, the Anvils and the domains reach. -/
theorem domainsUp_still (reason : Nat) (a b : Bool) :
    (((u.crucibleUp reason).anvilsUp a b).domainsUp).still = u.still := by
  have h1 := crucibleUp_idle hu reason
  have hi1 : (u.crucibleUp reason).Idle := .of_still h1 hu
  have h2 := anvilsUp_still a b hi1
  exact ((domainsUp_steady _).still (.of_still h2 hi1)).trans (h2.trans h1)

/-- The same with an Anvil that passes: Crucible serves, and Quench is as it was. -/
theorem domainsUp_vital (reason : Nat) {a b : Bool} (h : a = true ∨ b = true) :
    (((u.crucibleUp reason).anvilsUp a b).domainsUp).vital = (u.setFld CRU_STATUS CRU_STATUS.STATE 1).vital :=
  (((crucibleUp_steady u reason).trans (anvilsUp_steady _ h)).trans (domainsUp_steady _)).vital (.of_still (setCru_still ..) hu)

/-- R431: with no Anvil the checks end in Quench. -/
theorem domainsUp_quenched (reason : Nat) : (((u.crucibleUp reason).anvilsUp false false).domainsUp).flt.quenched = true := by
  have hi1 : (u.crucibleUp reason).Idle := .of_still (crucibleUp_idle hu reason) hu
  obtain ⟨hstill, hq⟩ := anvilsUp_none hi1
  exact (vital_eq_iff.1 ((domainsUp_steady _).vital (.of_still hstill hi1))).2.1.trans hq

omit hu in
theorem assay_steady (x : StartChecks) : Steady u ((List.range 40).foldl (fun s c => s.assayCluster c x) u) :=
  .foldl_mem _ (fun s _ hc => assayCluster_steady s x (List.mem_range.1 hc)) u

omit hu in
theorem starting_eventOnly (n : Nat) (p : Bool) : EventOnly { u with phase := .starting n p } (u.starting n p) :=
  showOut_eventOnly _

omit hu in
theorem starting_still (n : Nat) (p : Bool) : (u.starting n p).still = u.stillAt (.starting n p) :=
  (starting_eventOnly n p).still.trans (Eq.refl _)

omit hu in
theorem starting_phase (n : Nat) (p : Bool) : (u.starting n p).phase = .starting n p := (starting_eventOnly n p).phase

/-! ### What the checks of a start find -/

/-- Whatever the checks find, they change nothing of a start but where it stands. -/
theorem startChecks_still (x : StartChecks) (p : Bool) (reason : Nat) (hp : u.phase ≠ .ready) :
    ∃ ph, (u.startChecks x p reason).still = u.stillAt ph := by
  cases hi : x.identity with
  | false =>
    have h1 := identityFails_still hu hp
    have hcheck : u.startChecks x p reason = u.identityFails.anvilsUp x.anvilA x.anvilB := by simp [startChecks, hi]
    exact ⟨_, by rw [hcheck, anvilsUp_still x.anvilA x.anvilB (.of_stillAt h1 hu), h1]⟩
  | true =>
    obtain ⟨v, hv⟩ : ∃ v, v = ((u.crucibleUp reason).anvilsUp x.anvilA x.anvilB).domainsUp := ⟨_, rfl⟩
    have hstill : v.still = u.still := hv ▸ domainsUp_still hu reason x.anvilA x.anvilB
    have hidle : v.Idle := .of_still hstill hu
    rw [startChecks_identity p reason hi hv]
    split
    · exact ⟨u.phase, hstill⟩
    · split
      · exact ⟨_, by rw [halt_still 6 hidle, stillAt_congr hstill]⟩
      · exact ⟨_, by rw [starting_still, stillAt_congr ((assay_steady x).still hidle), stillAt_congr hstill]⟩

/-- R438: a wrong identity ends halted at step 4. -/
theorem startChecks_noIdentity {x : StartChecks} (p : Bool) (reason : Nat) (hp : u.phase ≠ .ready) (hi : x.identity = false) :
    (u.startChecks x p reason).phase = .halted 4 := by
  have h1 := identityFails_still hu hp
  have hcheck : u.startChecks x p reason = u.identityFails.anvilsUp x.anvilA x.anvilB := by simp [startChecks, hi]
  have h2 := (anvilsUp_still x.anvilA x.anvilB (.of_stillAt h1 hu)).trans h1
  rw [hcheck]
  simp only [still, stillAt, core, Prod.mk.injEq] at h2
  obtain ⟨⟨-, hphase, -⟩, -⟩ := h2
  exact hphase

/-- R431 step 5: with no Anvil, Quench. -/
theorem startChecks_noAnvil {x : StartChecks} (p : Bool) (reason : Nat) (hi : x.identity = true) (ha : x.anvilA = false)
    (hb : x.anvilB = false) : (u.startChecks x p reason).flt.quenched = true := by
  obtain ⟨v, hv⟩ : ∃ v, v = ((u.crucibleUp reason).anvilsUp x.anvilA x.anvilB).domainsUp := ⟨_, rfl⟩
  have hq : v.flt.quenched = true := by rw [hv, ha, hb]; exact domainsUp_quenched hu reason
  rw [startChecks_identity p reason hi hv, if_pos hq]
  exact hq

section
variable {x : StartChecks} (p : Bool) (reason : Nat) (hi : x.identity = true) (hab : x.anvilA = true ∨ x.anvilB = true)
include hi hab

/-- R438: comparators that do not match end the start halted at step 6. -/
theorem startChecks_noComparators (hq : u.flt.quenched = false) (hc : x.comparators = false) :
    (u.startChecks x p reason).phase = .halted 6 := by
  obtain ⟨v, hv⟩ : ∃ v, v = ((u.crucibleUp reason).anvilsUp x.anvilA x.anvilB).domainsUp := ⟨_, rfl⟩
  have hvital : v.vital = (u.setFld CRU_STATUS CRU_STATUS.STATE 1).vital := hv ▸ domainsUp_vital hu reason hab
  have hvq : v.flt.quenched = false := (vital_eq_iff.1 hvital).2.1.trans hq
  rw [startChecks_identity p reason hi hv, if_neg (by rw [hvq]; decide), if_pos (by rw [hc]; rfl)]
  exact halt_phase v 6

/-- R431: checks that pass, and that no Quench stops, end at step 7 with Crucible in service. -/
theorem startChecks_pass (hq : u.flt.quenched = false ∨ (u.startChecks x p reason).flt.quenched = false)
    (hc : x.comparators = true) : (u.startChecks x p reason).phase = .starting 7 p ∧
      (u.startChecks x p reason).fld CRU_STATUS CRU_STATUS.STATE = 1 := by
  obtain ⟨v, hv⟩ : ∃ v, v = ((u.crucibleUp reason).anvilsUp x.anvilA x.anvilB).domainsUp := ⟨_, rfl⟩
  have hvital : v.vital = (u.setFld CRU_STATUS CRU_STATUS.STATE 1).vital := hv ▸ domainsUp_vital hu reason hab
  obtain ⟨hstill, hsame, hcruv⟩ := vital_eq_iff.1 hvital
  have hidle : v.Idle := .of_still (hstill.trans (setCru_still ..)) hu
  rw [startChecks_identity p reason hi hv] at hq ⊢
  have hvq : v.flt.quenched = false := by
    rcases hq with hq | hq
    · exact hsame.trans hq
    · cases h : v.flt.quenched with
      | false => rfl
      | true => rw [if_pos h, h] at hq; exact absurd hq (by decide)
  rw [if_neg (by rw [hvq]; decide), if_neg (by rw [hc]; decide)]
  refine ⟨starting_phase 7 p, ?_⟩
  have hcru : ¬ EventReg CRU_STATUS := by unfold EventReg; decide
  obtain ⟨-, -, hassay⟩ := vital_eq_iff.1 ((assay_steady x).vital hidle)
  calc _ = ((List.range 40).foldl (fun s c => s.assayCluster c x) v).fld CRU_STATUS CRU_STATUS.STATE :=
        (starting_eventOnly 7 p).fld hcru _
    _ = v.fld CRU_STATUS CRU_STATUS.STATE := hassay
    _ = (u.setFld CRU_STATUS CRU_STATUS.STATE 1).fld CRU_STATUS CRU_STATUS.STATE := hcruv
    _ = 1 := fld_setFld_self u _ _ _ (by decide)

end

end

end State
end Sys2Proof.Machine
end

section
/-!
SUPPORT. Module reset (R432, R437, R438).
-/
namespace Sys2Proof.Machine
open Sys2Proof

namespace State

theorem still_eq_stillAt_iff {s t : State} {ph : Phase} : t.still = s.stillAt ph ↔
    (t.tb = s.tb ∧ t.phase = ph ∧ t.start = s.start ∧ t.jnl.bootCount = s.jnl.bootCount) ∧
      t.disp.runs = s.disp.runs ∧ t.disp.units = s.disp.units ∧ t.chn = s.chn ∧ t.coh.homes = s.coh.homes := by
  simp only [still, stillAt, core, Prod.mk.injEq]

/-- R432: nothing of the module's work stands after a reset. -/
theorem resetBlocks_idle (s : State) : s.resetBlocks.Idle := by
  unfold resetBlocks
  extract_lets s1 s2 s3 s4 s5 s6 s7 s8
  clear_value s8
  exact ⟨rfl, rfl, rfl, rfl, rfl⟩

theorem resetBlocks_tb (s : State) : s.resetBlocks.tb = s.tb := by
  obtain ⟨x, hx⟩ := resetBlocks_core s
  simp only [core, Prod.mk.injEq] at hx
  exact hx.1

theorem resetBlocks_bootCount (s : State) : s.resetBlocks.jnl.bootCount = s.jnl.bootCount + 1 := by
  obtain ⟨x, hx⟩ := resetBlocks_core s
  simp only [core, Prod.mk.injEq] at hx
  obtain ⟨-, -, -, hboots⟩ := hx
  exact hboots

/-- R432: where a module reset starts from, once every block is reset. -/
def resetStart (s : State) (cause fails : Nat) : State :=
  let u := s.nextRecovery
  { u.starting 3 false with start := { u.start with cause := cause, failures := fails } }

theorem resetStart_spec {s : State} (cause fails : Nat) (hs : s.Idle) : (s.resetStart cause fails).Idle ∧
    (s.resetStart cause fails).tb = s.tb ∧ (s.resetStart cause fails).phase = .starting 3 false ∧
    (s.resetStart cause fails).start.cause = cause ∧ (s.resetStart cause fails).jnl.bootCount = s.jnl.bootCount := by
  unfold resetStart
  extract_lets u v start
  have hu : EventOnly s u := nextRecovery_eventOnly s
  have hv : v.still = u.stillAt (.starting 3 false) := starting_still ..
  clear_value v u
  have hvi : v.Idle := .of_stillAt hv (.of_still hu.still hs)
  obtain ⟨⟨htb, hphase, -, hboots⟩, -⟩ := still_eq_stillAt_iff.1 hv
  exact ⟨hvi, htb.trans hu.tb, hphase, rfl, hboots.trans (by rw [hu.jnl])⟩

/-- R432: the state that the checks of a module reset start from. -/
def resetState (s : State) (cause fails : Nat) : State := s.resetStop.resetBlocks.resetStart cause fails

/-- A module reset keeps the timebase, counts the boot, and starts with its cause, with nothing standing (R437). -/
theorem resetState_spec (s : State) (cause fails : Nat) : (s.resetState cause fails).Idle ∧
    (s.resetState cause fails).tb = s.tb ∧ (s.resetState cause fails).phase = .starting 3 false ∧
    (s.resetState cause fails).start.cause = cause ∧ (s.resetState cause fails).jnl.bootCount = s.jnl.bootCount + 1 := by
  obtain ⟨htb, -, -, hboots⟩ := core_eq_iff.1 (resetStop_core s)
  obtain ⟨hidle, htb', hphase, hcause, hboots'⟩ := resetStart_spec cause fails (resetBlocks_idle s.resetStop)
  rw [resetBlocks_tb, htb] at htb'
  rw [resetBlocks_bootCount, hboots] at hboots'
  exact ⟨hidle, htb', hphase, hcause, hboots'⟩

/-- The associations that a module reset establishes again, after its checks. -/
def establishAgain (s : State) : State :=
  ((List.range 16).flatMap s.resetDevices.portAssocs).foldl (fun s a => s.startEstablish a) s.resetDevices

theorem establishAgain_steady (s : State) : Steady s s.establishAgain :=
  (resetDevices_steady s).trans (.foldl_mem _ (fun s a ha => by
    obtain ⟨p, -, hp⟩ := List.mem_flatMap.1 ha
    exact startEstablish_steady s (mem_portAssocs hp)) _)

/-- R432: what a module reset does with what its checks ended in. -/
def afterChecks (s : State) : State :=
  match s.phase with
  | .starting _ _ => s.establishAgain
  | _ => s

section
variable {s : State} (cause : Nat) (x : StartChecks)

/-- R438: the third start in a row that fails before ready ends halted. -/
theorem moduleReset_third {n : Nat} {p : Bool} (hs : s.phase = .starting n p) (hf : 2 ≤ s.start.failures) :
    (s.moduleReset cause x).phase = .halted (n + 1) := by
  have h3 : 3 ≤ s.start.failures + (some n).isSome.toNat := Nat.add_le_add_right hf 1
  unfold moduleReset
  simp only [hs]
  rw [if_pos ⟨rfl, h3⟩]
  exact halt_phase ..

/-- R432: a module reset from ready. -/
theorem moduleReset_ready (hs : s.phase = .ready) :
    s.moduleReset cause x = ((s.resetState cause s.start.failures).startChecks x false 2).afterChecks := by
  unfold moduleReset
  simp only [hs]
  rw [if_neg (by simp)]
  rfl

/-- R432, R437, R438: what a module reset from ready ends in. -/
theorem moduleReset_ready_spec (hs : s.phase = .ready) :
    (s.moduleReset cause x).tb = s.tb ∧ (s.moduleReset cause x).jnl.bootCount = s.jnl.bootCount + 1 ∧
      (s.moduleReset cause x).start.cause = cause ∧
      (x.identity = false → (s.moduleReset cause x).phase = .halted 4) ∧
      (x.identity = true → x.anvilA = true ∨ x.anvilB = true → x.comparators = true →
        (s.moduleReset cause x).flt.quenched = false → (s.moduleReset cause x).phase = .starting 7 false ∧
          (s.moduleReset cause x).fld CRU_STATUS CRU_STATUS.STATE = 1) := by
  obtain ⟨hidle, htb, hphase, hcause, hboots⟩ := resetState_spec s cause s.start.failures
  rw [moduleReset_ready cause x hs]
  generalize s.resetState cause s.start.failures = u at hidle htb hphase hcause hboots
  have hp : u.phase ≠ .ready := by rw [hphase]; simp
  obtain ⟨ph, hstill⟩ := startChecks_still hidle x false 2 hp
  have hnoId := fun hi : x.identity = false => startChecks_noIdentity hidle false 2 hp hi
  have hpass := fun (hi : x.identity = true) hab hq hc => startChecks_pass (x := x) hidle false 2 hi hab (.inr hq) hc
  generalize u.startChecks x false 2 = t at hstill hnoId hpass
  have ht : t.Idle := .of_stillAt hstill hidle
  obtain ⟨⟨htb', -, hstart', hboots'⟩, -⟩ := still_eq_stillAt_iff.1 hstill
  have hkeep : t.tb = s.tb ∧ t.jnl.bootCount = s.jnl.bootCount + 1 ∧ t.start.cause = cause :=
    ⟨htb'.trans htb, hboots'.trans hboots, by rw [hstart']; exact hcause⟩
  unfold afterChecks
  split
  · next n p hn =>
    obtain ⟨hsame, hq, hcru⟩ := vital_eq_iff.1 ((establishAgain_steady t).vital ht)
    obtain ⟨htb2, hphase2, hstart2, hboots2⟩ := core_eq_iff.1 (still_core hsame)
    refine ⟨htb2.trans hkeep.1, hboots2.trans hkeep.2.1, by rw [hstart2]; exact hkeep.2.2, fun hi => ?_, fun hi hab hc h => ?_⟩
    · exact hphase2.trans (hnoId hi)
    · obtain ⟨h7, h1⟩ := hpass hi hab (hq.symm.trans h) hc
      exact ⟨hphase2.trans h7, hcru.trans h1⟩
  · exact ⟨hkeep.1, hkeep.2.1, hkeep.2.2, hnoId, fun hi hab hc h => hpass hi hab h hc⟩

end
end State
end Sys2Proof.Machine
end

section
/-!
SUPPORT. Power-on (R413, R431, R433, R437).
-/
namespace Sys2Proof.Machine
open Sys2Proof

/-- `t` is `s` with other images, registers, clocks, Anvil state and start. -/
def BootOnly (s t : State) : Prop :=
  t = { s with image := t.image, regs := t.regs, clk := t.clk, anv := t.anv, start := t.start }

theorem BootOnly.rfl {s : State} : BootOnly s s := Eq.refl _

theorem BootOnly.trans {s t u : State} (h : BootOnly s t) (h' : BootOnly t u) : BootOnly s u := by
  unfold BootOnly
  conv_lhs => rw [h', h]

theorem BootOnly.ite {c : Prop} [Decidable c] {s t u : State} (h : BootOnly s t) (h' : BootOnly s u) :
    BootOnly s (if c then t else u) := by
  split
  · exact h
  · exact h'

theorem BootOnly.foldl {α : Type} {f : State → α → State} (hf : ∀ s x, BootOnly s (f s x)) (l : List α) (s : State) :
    BootOnly s (l.foldl f s) := by
  induction l generalizing s with
  | nil => exact .rfl
  | cons x t ih => exact (hf s x).trans (ih _)

theorem BootOnly.setReg (s : State) (a : Nat) (v : W64) : BootOnly s (s.setReg a v) := Eq.refl _
theorem BootOnly.setFld (s : State) (a : Nat) (f : Fld) (n : Nat) : BootOnly s (s.setFld a f n) := Eq.refl _
theorem BootOnly.setBit (s : State) (a : Nat) (f : Fld) (b : Bool) : BootOnly s (s.setBit a f b) := Eq.refl _
theorem BootOnly.of_clk (s : State) (x : ClockState) : BootOnly s { s with clk := x } := Eq.refl _
theorem BootOnly.of_start (s : State) (x : StartState) : BootOnly s { s with start := x } := Eq.refl _

namespace State

theorem bootBundle_bootOnly (s : State) : BootOnly s s.bootBundle := by
  unfold bootBundle
  split
  · exact .rfl
  · dsimp only
    split <;> exact Eq.refl _

theorem imageRegs_bootOnly (s : State) : BootOnly s s.imageRegs := by
  unfold imageRegs
  extract_lets i s1 s2 s3
  have h1 : BootOnly s s1 := .setFld ..
  have h2 : BootOnly s1 s2 := .setReg ..
  have h3 : BootOnly s2 s3 := (BootOnly.setFld ..).trans (.setReg ..)
  exact ((h1.trans h2).trans h3).trans (.foldl (fun _ _ => .setFld ..) _ _)

theorem setViewState_bootOnly (s : State) (v n : Nat) : BootOnly s (s.setViewState v n) := .setFld ..

theorem imageRegs0_bootOnly (s : State) : BootOnly s s.imageRegs0 := by
  unfold imageRegs0
  extract_lets i s1 s2 s3 s4 s5
  have h1 : BootOnly s s1 := .setBit ..
  have h2 : BootOnly s1 s2 := .setBit ..
  have h3 : BootOnly s2 s3 := ((BootOnly.setBit ..).trans (.setFld ..)).trans (.setFld ..)
  have h4 : BootOnly s3 s4 := .setFld ..
  have h5 : BootOnly s4 s5 := (BootOnly.setFld ..).trans (.setFld ..)
  refine ((((h1.trans h2).trans h3).trans h4).trans h5).trans (.foldl (fun s n => ?_) _ _)
  refine .ite ((setViewState_bootOnly ..).trans (.foldl (fun s o => ?_) _ _)) (setViewState_bootOnly ..)
  exact ((((setViewState_bootOnly ..).trans (.setFld ..)).trans (.setReg ..)).trans (.setFld ..)).trans (.setFld ..)

theorem setMon_bootOnly (s : State) (k : Nat) (x : ClockMon) : BootOnly s (s.setMon k x) :=
  (BootOnly.ite (.of_clk ..) (.of_clk ..)).trans (.setBit ..)

theorem beginSwitch_bootOnly (s : State) (d dest : Nat) : BootOnly s (s.beginSwitch d dest) :=
  (BootOnly.of_clk s _).trans (.setFld ..)

theorem holdover_bootOnly (s : State) (d : Nat) : BootOnly s (s.holdover d) :=
  (((BootOnly.of_clk s _).trans (.setFld ..)).trans (.setFld ..)).trans (.setBit ..)

theorem chooseTick_bootOnly (s : State) : BootOnly s s.chooseTick := .ite (beginSwitch_bootOnly ..) .rfl

theorem choosePll_bootOnly (s : State) (d : Nat) : BootOnly s (s.choosePll d) := by
  unfold choosePll
  extract_lets want
  clear_value want
  split
  · split
    · exact ((BootOnly.of_clk s _).trans (.setFld ..)).trans (.setFld ..)
    · exact .rfl
  · refine .ite .rfl ?_
    split
    · exact beginSwitch_bootOnly ..
    · exact holdover_bootOnly ..

theorem chooseAll_bootOnly (s : State) : BootOnly s s.chooseAll :=
  (chooseTick_bootOnly s).trans (.foldl (fun _ _ => choosePll_bootOnly ..) _ _)

theorem startClocks_bootOnly (s : State) : BootOnly s s.startClocks := by
  unfold startClocks
  extract_lets s1 s2
  have h1 : BootOnly s s1 := .foldl (fun _ _ => .setFld ..) _ _
  have h2 : BootOnly s1 s2 := ((setMon_bootOnly ..).trans (setMon_bootOnly ..)).trans (chooseAll_bootOnly _)
  exact .ite ((h1.trans h2).trans (.of_clk ..)) ((h1.trans h2).trans (.of_start ..))

/-! ### The Quench that a power-on finds latched -/

theorem loadQuench_bootOnly (s : State) (w : Option (Nat × Nat)) : BootOnly s (s.loadQuench w) := by
  unfold loadQuench
  split
  · exact .of_start ..
  · exact (((BootOnly.setReg ..).trans (.setBit ..)).trans (.setFld ..)).trans (.of_start ..)

/-- The fields of a Quench word (R426). -/
theorem quenchWord_fields (src time : Nat) :
    getFld (BitVec.ofNat 64 (2 ^ 63 + src % 64 * 2 ^ 32 + time % 2 ^ 32)) ⟨63, 1⟩ = 1 ∧
      getFld (BitVec.ofNat 64 (2 ^ 63 + src % 64 * 2 ^ 32 + time % 2 ^ 32)) ⟨32, 6⟩ = src % 64 ∧
      getFld (BitVec.ofNat 64 (2 ^ 63 + src % 64 * 2 ^ 32 + time % 2 ^ 32)) ⟨0, 32⟩ = time % 2 ^ 32 := by
  simp only [getFld, BitVec.toNat_ofNat, Nat.shiftRight_eq_div_pow]
  omega

/-- What a word held beside the latch makes a power-on load. -/
def quenchLoaded (s : State) (word : W64) : State :=
  ((s.setReg FLT_QUENCH word).setBit FLT_STATUS ⟨4, 1⟩).setFld (FLT_COUNT 4) FLT_COUNT.COUNT 1

/-- The start that a cause carried over is noted in. -/
def withCause (s : State) (n : Nat) : State := { s with start := { s.start with cause := n } }

theorem loadQuench_eq (s : State) (src time : Nat) : s.loadQuench (some (src, time)) =
    (s.quenchLoaded (BitVec.ofNat 64 (2 ^ 63 + src % 64 * 2 ^ 32 + time % 2 ^ 32))).withCause 2 := by
  simp only [loadQuench, quenchLoaded, withCause]

theorem withCause_fld (s : State) (n a : Nat) (f : Fld) : (s.withCause n).fld a f = s.fld a f := (rfl)

theorem quenchLoaded_reg (s : State) (word : W64) : (s.quenchLoaded word).reg FLT_QUENCH = word :=
  ((reg_setFld_ne _ _ _ (by decide)).trans (reg_setFld_ne _ _ _ (by decide))).trans (reg_setReg_self ..)

theorem quenchLoaded_bit (s : State) (word : W64) : (s.quenchLoaded word).bit FLT_STATUS ⟨4, 1⟩ = true :=
  (congrArg (· == 1) (fld_setFld_ne _ _ _ _ (by decide))).trans (bit_setBit_self _ _ _ _ (by decide))

/-- R413, R437: the cause held beside the latch is carried over. -/
theorem loadQuench_some (s : State) (w : Nat × Nat) : (s.loadQuench (some w)).start.cause = 2 ∧
    (s.loadQuench (some w)).bit FLT_STATUS ⟨4, 1⟩ = true ∧ (s.loadQuench (some w)).fld FLT_QUENCH ⟨63, 1⟩ = 1 ∧
    (s.loadQuench (some w)).fld FLT_QUENCH ⟨32, 6⟩ = w.1 % 64 ∧ (s.loadQuench (some w)).fld FLT_QUENCH ⟨0, 32⟩ = w.2 % 2 ^ 32 := by
  obtain ⟨src, time⟩ := w
  obtain ⟨hv, hs, ht⟩ := quenchWord_fields src time
  rw [loadQuench_eq]
  generalize BitVec.ofNat 64 (2 ^ 63 + src % 64 * 2 ^ 32 + time % 2 ^ 32) = word at hv hs ht
  have hreg := quenchLoaded_reg s word
  have hbit := quenchLoaded_bit s word
  generalize s.quenchLoaded word = u at hreg hbit
  have hfld : ∀ f, u.fld FLT_QUENCH f = getFld word f := fun f => by rw [← hreg]; rfl
  simp only [bit, withCause_fld] at hbit ⊢
  exact ⟨rfl, hbit, (hfld _).trans hv, (hfld _).trans hs, (hfld _).trans ht⟩

/-! ### The state that the checks of a power-on start from -/

/-- What is loaded before anything is reported. -/
def loadedState (s : State) : State :=
  s.powerState.bootBundle.imageRegs.imageRegs0.startClocks.loadQuench s.pwr.bellows.latchWord

theorem loadedState_bootOnly (s : State) : BootOnly s.powerState s.loadedState :=
  ((((bootBundle_bootOnly _).trans (imageRegs_bootOnly _)).trans (imageRegs0_bootOnly _)).trans (startClocks_bootOnly _)).trans
    (loadQuench_bootOnly ..)

/-- Power-on up to the checks: what is loaded, shown, and a rail that stuck (R431). -/
def bootState (s : State) (x : StartChecks) : State :=
  if x.railStuck then s.loadedState.showOut.logEvent 0 blockPwr causeNone 0 else s.loadedState.showOut

theorem bootState_eventOnly (s : State) (x : StartChecks) : EventOnly s.loadedState (s.bootState x) :=
  .ite ((showOut_eventOnly _).trans (logEvent_eventOnly _ _ _ _ _ _ (.inl (Nat.zero_le 1)))) (showOut_eventOnly _)

theorem powerOn_off {s : State} (x : StartChecks)
    (h : s.phase ≠ .off ∨ s.pwr.bellows.latch = true ∨ s.pwr.bellows.removed = true) : s.powerOn x = s := by
  unfold powerOn
  rw [if_pos]
  rcases h with h | h | h <;> simp [h]

theorem powerOn_eq {s : State} (x : StartChecks) (hp : s.phase = .off) (hl : s.pwr.bellows.latch = false)
    (hr : s.pwr.bellows.removed = false) :
    s.powerOn x = (s.bootState x).startChecks x true (if s.pwr.bellows.latchWord.isSome then 4 else 3) := by
  unfold powerOn
  rw [if_neg (by simp [hp, hl, hr])]
  rfl

section
variable (s : State) (x : StartChecks)

/-- R433: what a power-on keeps, and what it starts from. -/
theorem bootState_keeps :
    (s.bootState x).phase = .starting 3 true ∧ (s.bootState x).mem = [] ∧ (s.bootState x).tb = s.firstCount ∧
      (s.bootState x).jnl.bootCount = s.jnl.bootCount + 1 ∧ (s.bootState x).jnl.die0 = s.jnl.die0 ∧
      (s.bootState x).jnl.die1 = s.jnl.die1 ∧ (s.bootState x).cru.parts = s.cru.parts ∧
      (s.bootState x).cru.batchCount = s.cru.batchCount ∧ (s.bootState x).disp.units = [] ∧ (s.bootState x).cip.keys = [] := by
  have he := bootState_eventOnly s x
  have hb := loadedState_bootOnly s
  rw [he.phase, he.mem, he.tb, he.jnl, he.cru, he.disp, he.cip]
  generalize s.loadedState = v at hb
  rw [hb]
  exact ⟨rfl, rfl, rfl, rfl, rfl, rfl, rfl, rfl, rfl, rfl⟩

theorem bootState_idle : (s.bootState x).Idle := by
  have hb := loadedState_bootOnly s
  have he := (bootState_eventOnly s x).still
  generalize s.loadedState = v at hb he
  refine .of_still he ?_
  rw [hb]
  exact ⟨rfl, rfl, rfl, rfl, rfl⟩

theorem bootState_quenched : (s.bootState x).flt.quenched = false := by
  have hb := loadedState_bootOnly s
  rw [(bootState_eventOnly s x).quenched]
  generalize s.loadedState = v at hb
  rw [hb]
  rfl

/-- R437: with no cause beside the latch, the start is a power-on. -/
theorem bootState_cause_none (h : s.pwr.bellows.latchWord = none) : (s.bootState x).start.cause = 1 := by
  rw [(bootState_eventOnly s x).start, loadedState, h]
  rfl

/-- R413, R437: a cause beside the latch is carried over. -/
theorem bootState_cause_some {w : Nat × Nat} (h : s.pwr.bellows.latchWord = some w) : (s.bootState x).start.cause = 2 ∧
    (s.bootState x).bit FLT_STATUS ⟨4, 1⟩ = true ∧ (s.bootState x).fld FLT_QUENCH ⟨63, 1⟩ = 1 ∧
    (s.bootState x).fld FLT_QUENCH ⟨32, 6⟩ = w.1 % 64 ∧ (s.bootState x).fld FLT_QUENCH ⟨0, 32⟩ = w.2 % 2 ^ 32 := by
  have he := bootState_eventOnly s x
  have hq : ¬ EventReg FLT_QUENCH := fun h => h.1 rfl
  rw [he.start, he.class4, he.fld hq, he.fld hq, he.fld hq, loadedState, h]
  exact loadQuench_some ..

end

/-- R413, R431, R433, R437, R438: power-on, and what its checks find. -/
theorem powerOn_spec {s : State} (x : StartChecks) (hp : s.phase = .off) (hl : s.pwr.bellows.latch = false)
    (hr : s.pwr.bellows.removed = false) :
    (x.identity = false → (s.powerOn x).phase = .halted 4) ∧
      (x.identity = true → x.anvilA = false → x.anvilB = false → (s.powerOn x).flt.quenched = true) ∧
      (x.identity = true → x.anvilA = true ∨ x.anvilB = true → x.comparators = false → (s.powerOn x).phase = .halted 6) ∧
      (x.identity = true → x.anvilA = true ∨ x.anvilB = true → x.comparators = true → (s.powerOn x).phase = .starting 7 true) := by
  obtain ⟨hphase, -⟩ := bootState_keeps s x
  have hu := bootState_idle s x
  have hq := bootState_quenched s x
  rw [powerOn_eq x hp hl hr]
  generalize s.bootState x = u at hphase hu hq
  exact ⟨fun hi => startChecks_noIdentity hu _ _ (by rw [hphase]; simp) hi,
    fun hi ha hb => startChecks_noAnvil hu _ _ hi ha hb,
    fun hi hab hc => startChecks_noComparators hu _ _ hi hab hq hc,
    fun hi hab hc => (startChecks_pass hu _ _ hi hab (.inl hq) hc).1⟩

end State
end Sys2Proof.Machine
end

section
/-!
SUPPORT. Training, the scan, replay and the bridges (R13, R434, R435, R436, R438).
-/
namespace Sys2Proof.Machine
open Sys2Proof

/-! ### What leaves the channels' states alone -/

/-- The registers of the 24 memory channels are unchanged. -/
structure ChansKept (s t : State) : Prop where
  reg : ∀ h < 24, t.reg (MEM_CHAN h) = s.reg (MEM_CHAN h)

namespace ChansKept

theorem rfl {s : State} : ChansKept s s := ⟨fun _ _ => Eq.refl _⟩

theorem trans {s t u : State} (h : ChansKept s t) (h' : ChansKept t u) : ChansKept s u :=
  ⟨fun c hc => (h'.reg c hc).trans (h.reg c hc)⟩

theorem ite {c : Prop} [Decidable c] {s t u : State} (h : ChansKept s t) (h' : ChansKept s u) :
    ChansKept s (if c then t else u) := by
  split
  · exact h
  · exact h'

theorem foldl {α : Type} {f : State → α → State} (hf : ∀ s x, ChansKept s (f s x)) (l : List α) (s : State) :
    ChansKept s (l.foldl f s) := by
  induction l generalizing s with
  | nil => exact .rfl
  | cons x t ih => exact (hf s x).trans (ih _)

theorem setReg (s : State) {a : Nat} (v : W64) (h : a < 0x500200 ∨ 0x5002C0 ≤ a) : ChansKept s (s.setReg a v) :=
  ⟨fun c hc => State.reg_setReg_ne s v (by unfold MEM_CHAN; omega)⟩

theorem setFld (s : State) {a : Nat} (f : Fld) (n : Nat) (h : a < 0x500200 ∨ 0x5002C0 ≤ a) : ChansKept s (s.setFld a f n) :=
  setReg s _ h

theorem of_mm (s : State) (x : MemState) : ChansKept s { s with mm := x } := ⟨fun _ _ => Eq.refl _⟩

theorem of_eventOnly {s t : State} (h : EventOnly s t) : ChansKept s t :=
  ⟨fun c hc => h.reg _ (by unfold EventReg MEM_CHAN msixPba ANV_OUT FLT_QUENCH; simp only [if_true]; omega)⟩

theorem fld {s t : State} (h : ChansKept s t) {c : Nat} (hc : c < 24) (f : Fld) : t.fld (MEM_CHAN c) f = s.fld (MEM_CHAN c) f := by
  simp only [State.fld, h.reg c hc]

end ChansKept

namespace State

theorem setBad_chansKept (s : State) (g r i : Nat) (b : Bool) : ChansKept s (s.setBad g r i b) := .of_mm s _
theorem setPoison_chansKept (s : State) (l : Nat) (b : Bool) : ChansKept s (s.setPoison l b) := .of_mm s _
theorem setParityOut_chansKept (s : State) (g r : Nat) (b : Bool) : ChansKept s (s.setParityOut g r b) := .of_mm s _
theorem setBuilt_chansKept (s : State) (g r i : Nat) : ChansKept s (s.setBuilt g r i) := .ite .rfl (.of_mm s _)
theorem setRangeKey_chansKept (s : State) (a b k : Nat) : ChansKept s (s.setRangeKey a b k) := .of_mm s _

theorem memEvent_chansKept (s : State) {cls : Nat} (bit kind chan index : Nat) (h : cls ≤ 1) :
    ChansKept s (s.memEvent cls bit kind chan index) := by
  have herr : ChansKept s (s.memErr kind chan index).2 := .ite .rfl (.setReg s _ (by decide))
  exact (herr.trans (.setFld _ _ _ (by decide))).trans (.of_eventOnly (logEvent_eventOnly _ _ _ _ _ _ (.inl h)))

theorem poisonMember_chansKept (s : State) (g r i : Nat) : ChansKept s (s.poisonMember g r i) := by
  unfold poisonMember
  extract_lets s1 s2
  have h1 : ChansKept s s1 := by
    unfold s1
    split
    · exact setPoison_chansKept ..
    · exact setParityOut_chansKept ..
  have h2 : ChansKept s1 s2 :=
    ((setBad_chansKept ..).trans (setBuilt_chansKept ..)).trans (.setFld _ _ _ (by decide))
  exact (h1.trans h2).trans (memEvent_chansKept _ _ _ _ _ (le_refl 1))

theorem rowLost_chansKept (s : State) (g r : Nat) (bad : List Nat) : ChansKept s (s.rowLost g r bad) := by
  unfold rowLost
  extract_lets p out s1 s2
  have h1 : ChansKept s s1 := .foldl (fun s i => poisonMember_chansKept s ..) _ _
  have h2 : ChansKept s1 s2 := setBad_chansKept ..
  exact .ite ((h1.trans h2).trans (poisonMember_chansKept ..)) (h1.trans h2)

/-- R434: zeroing memory leaves the channels' states. -/
theorem zeroMemory_chansKept (s : State) : ChansKept s s.zeroMemory := by
  unfold zeroMemory
  extract_lets x s1 s2
  have h1 : ChansKept s s1 := ⟨fun _ _ => rfl⟩
  have h2 : ChansKept s1 s2 := setRangeKey_chansKept ..
  refine (h1.trans h2).trans (.foldl (fun s e => .ite .rfl ?_) _ _)
  exact (ChansKept.foldl (fun s r => setRangeKey_chansKept s ..) _ s).trans
    (.setFld _ _ _ (.inr (by unfold CRU_PART; omega)))

/-- R435: a consistency pass over a memory with nothing bad leaves the channels' states. -/
theorem consistencyPass_chansKept (s : State) (lost : List Nat) (hb : s.mm.bad = []) (hc : s.mm.badCode = []) :
    ChansKept s (s.consistencyPass lost) := by
  have hpass : s.consistencyPass lost = lost.foldl (fun s l =>
      if (s.lostMembers (lineGroup l) (lineRow l)).contains (lineMember l) then s.rowLost (lineGroup l) (lineRow l) []
      else s.rowLost (lineGroup l) (lineRow l) [lineMember l]) s := by
    simp only [consistencyPass, hb, hc, List.map_nil, List.flatMap_nil, List.append_nil, List.eraseDups_nil, List.foldl_nil]
  rw [hpass]
  exact .foldl (fun s l => .ite (rowLost_chansKept ..) (rowLost_chansKept ..)) _ _

/-! ### Training -/

/-- The state of channel `h`. -/
def chanState (s : State) (h : Nat) : Nat := s.fld (MEM_CHAN h) MEM_CHAN.STATE

/-- A channel that serves is shown as in service. -/
def serveChan (s : State) (h : Nat) : State :=
  if s.chanState h < 4 then s.setFld (MEM_CHAN h) MEM_CHAN.STATE 1 else s

theorem chanState_serveChan_self (s : State) (h : Nat) (hs : s.chanState h < 4) : (s.serveChan h).chanState h = 1 := by
  rw [serveChan, if_pos hs]
  exact fld_setFld_self _ _ _ _ (by decide)

theorem chanState_serveChan_of_lt (s : State) (h : Nat) (hs : (s.serveChan h).chanState h < 4) : (s.serveChan h).chanState h = 1 := by
  by_cases hlt : s.chanState h < 4
  · exact chanState_serveChan_self s h hlt
  · rw [serveChan, if_neg hlt] at hs
    exact absurd hs hlt

theorem chanState_serveChan_ne (s : State) {g h : Nat} (hne : g ≠ h) : (s.serveChan h).chanState g = s.chanState g := by
  unfold serveChan
  split
  · exact fld_setFld_ne _ _ _ _ (by unfold MEM_CHAN; omega)
  · rfl

/-- Every channel of a list is in service after it was shown so, if all of them serve. -/
theorem chanState_serveChans (l : List Nat) (s : State) (hs : ∀ h ∈ l, s.chanState h < 4) :
    ∀ h ∈ l, (l.foldl serveChan s).chanState h = 1 := by
  obtain ⟨-, hserved⟩ := foldl_establishes (f := serveChan) (P := fun s h => s.chanState h < 4 → s.chanState h = 1)
    chanState_serveChan_of_lt
    (fun s x y hy hlt => by
      by_cases hxy : y = x
      · subst hxy
        exact chanState_serveChan_of_lt s y hlt
      · rw [chanState_serveChan_ne s hxy] at hlt ⊢
        exact hy hlt) l s
  have hlt : ∀ h ∈ l, (l.foldl serveChan s).chanState h < 4 := by
    clear hserved
    intro h hh
    have : s.chanState h < 4 := hs h hh
    clear hs hh
    induction l generalizing s with
    | nil => exact this
    | cons x t ih =>
      refine ih _ ?_
      by_cases hx : h = x
      · subst hx; rw [chanState_serveChan_self s h this]; decide
      · rwa [chanState_serveChan_ne s hx]
  exact fun h hh => hserved h hh (hlt h hh)

theorem serveChans_mm (l : List Nat) (s : State) : (l.foldl serveChan s).mm = s.mm := by
  induction l generalizing s with
  | nil => rfl
  | cons x t ih =>
    refine (ih _).trans ?_
    unfold serveChan
    split <;> rfl

theorem zeroMemory_mem (s : State) : s.zeroMemory.mem = [] := by
  unfold zeroMemory
  extract_lets x s1 s2
  have h2 : s2.mem = [] := rfl
  clear_value s2
  refine List.foldlRecOn (motive := fun t : State => t.mem = []) _ _ h2 (fun t ht e _ => ?_)
  split
  · exact ht
  · exact List.foldlRecOn (motive := fun t : State => t.mem = []) _ _ ht (fun _ hu _ _ => hu)

/-- A group has two channels that serve no more. -/
def twoDead (s : State) : Bool :=
  [0, 1, 2].any (fun g => decide (2 ≤ ((List.range 8).filter (fun i => s.fld (MEM_CHAN (memberHome g i)) MEM_CHAN.STATE == 4)).length))

theorem twoDead_eq_false {s : State} (h : ∀ c, c < 24 → s.chanState c < 4) : s.twoDead = false := by
  have hnone : ∀ g, g < 3 → (List.range 8).filter (fun i => s.fld (MEM_CHAN (memberHome g i)) MEM_CHAN.STATE == 4) = [] := by
    intro g hg
    rw [List.filter_eq_nil_iff]
    intro i hi
    have hi' := List.mem_range.1 hi
    have := h (memberHome g i) (by unfold memberHome; omega)
    unfold chanState at this
    simp only [beq_iff_eq]
    omega
  simp [twoDead, hnone]

theorem starting_mem (s : State) (n : Nat) (p : Bool) : (s.starting n p).mem = s.mem := (starting_eventOnly n p).mem

theorem starting_chansKept (s : State) (n : Nat) (p : Bool) : ChansKept s (s.starting n p) :=
  ChansKept.trans (t := { s with phase := .starting n p }) ⟨fun _ _ => rfl⟩ (.of_eventOnly (starting_eventOnly n p))

/-- The end of training (R434, R435, R438). -/
theorem trained_eq (s : State) (failed lost : List Nat) (p : Bool) : s.trained failed lost p =
    (let u := failed.foldl (fun s h => s.failChannel h) s
     let v := (List.range 24).foldl serveChan u
     if u.twoDead then u.halt 8
     else (if p then v.zeroMemory else v.consistencyPass (lost.filter (fun l => decide (l < memLimit / 64)))).starting 8 p) := rfl

theorem trained_phase (s : State) (failed lost : List Nat) (p : Bool) :
    (s.trained failed lost p).phase = .halted 8 ∨ (s.trained failed lost p).phase = .starting 8 p := by
  rw [trained_eq]
  dsimp only
  split
  · exact .inl (halt_phase ..)
  · exact .inr (starting_phase ..)

/-- R434: a power-on leaves zeroed memory. -/
theorem trained_mem (s : State) (failed lost : List Nat) (h : (s.trained failed lost true).phase = .starting 8 true) :
    (s.trained failed lost true).mem = [] := by
  rw [trained_eq] at h ⊢
  dsimp only at h ⊢
  split
  · next hd =>
    rw [if_pos hd, halt_phase] at h
    cases h
  · rw [if_pos rfl]
    exact (starting_mem ..).trans (zeroMemory_mem _)

section
variable {s : State} (lost : List Nat) (p : Bool) (hs : ∀ h, h < 24 → s.chanState h < 4)
include hs

theorem trained_serving : s.trained [] lost p =
    ((if p then ((List.range 24).foldl serveChan s).zeroMemory
      else ((List.range 24).foldl serveChan s).consistencyPass (lost.filter (fun l => decide (l < memLimit / 64)))).starting 8 p) := by
  rw [trained_eq]
  dsimp only [List.foldl_nil]
  rw [if_neg (by rw [twoDead_eq_false hs]; decide)]

/-- R434, R435: training with no channel failed ends with every channel in service. -/
theorem trained_chans (hb : p = true ∨ (s.mm.bad = [] ∧ s.mm.badCode = [])) :
    ∀ h, h < 24 → (s.trained [] lost p).chanState h = 1 := by
  intro h hh
  rw [trained_serving lost p hs]
  have hserved := chanState_serveChans (List.range 24) s (fun c hc => hs c (List.mem_range.1 hc)) h (List.mem_range.2 hh)
  have hmm := serveChans_mm (List.range 24) s
  generalize (List.range 24).foldl serveChan s = v at hserved hmm
  have hkept : ChansKept v (if p then v.zeroMemory
      else v.consistencyPass (lost.filter (fun l => decide (l < memLimit / 64)))) := by
    cases p with
    | true => exact zeroMemory_chansKept v
    | false =>
      obtain ⟨hbad, hcode⟩ := hb.resolve_left (by decide)
      exact consistencyPass_chansKept v _ (hmm ▸ hbad) (hmm ▸ hcode)
  exact ((hkept.trans (starting_chansKept _ 8 p)).fld hh _).trans hserved

end

end State
end Sys2Proof.Machine
end

section
/-!
R13, R389, R407, R413, R431 to R438: replay to ready, the bridges, and the settlement of O57.
-/
namespace Sys2Proof.Machine
open Sys2Proof

namespace State

/-! ### Replay -/

/-- What is told of a module that became ready. -/
def readyView (s : State) : Phase × Nat × Nat × Nat × Nat × Option Nat :=
  (s.phase, s.flt.readyAt, s.start.failures, s.tb, s.mm.planishAt, s.jnl.snapAt)

theorem setFld_readyView (s : State) (a : Nat) (f : Fld) (n : Nat) : (s.setFld a f n).readyView = s.readyView := (rfl)

theorem setBit_readyView (s : State) (a : Nat) (f : Fld) (b : Bool) : (s.setBit a f b).readyView = s.readyView := (rfl)

theorem readyView_of_eventOnly {s t : State} (h : EventOnly s t) : t.readyView = s.readyView := by
  simp only [readyView, h.phase, h.readyAt, h.start, h.tb, h.mm, h.jnl]

theorem settleBundle_eventOnly (s : State) : EventOnly s s.settleBundle := .ite .rfl (.of_anv s _)

theorem endGuarded_readyView (s : State) : s.endGuarded.readyView = s.readyView := by
  unfold endGuarded
  extract_lets lost
  split
  · rfl
  · exact setFld_readyView ..

theorem showFeeds_readyView (s : State) : s.showFeeds.readyView = s.readyView := by
  unfold showFeeds
  extract_lets a b s1 s2
  have h1 : s1.readyView = s.readyView := (setBit_readyView ..).trans (setBit_readyView ..)
  have h2 : s2.readyView = s1.readyView := (setBit_readyView ..).trans (setBit_readyView ..)
  rw [h1] at h2
  clear_value s2
  split
  · exact h2
  · split
    · exact (setFld_readyView ..).trans h2
    · split
      · exact (setFld_readyView ..).trans h2
      · exact h2

/-- R436, R437: what replay ends in. -/
theorem becomeReady_readyView (s : State) (p : Bool) :
    ∃ snap, (s.becomeReady p).readyView = (.ready, s.tb, 0, s.tb, s.tb, some snap) := by
  unfold becomeReady
  extract_lets s1 fs s2 fallback flt anv hep jnl mm start s3 s4 s5
  have hcore : s2.core = s.core := (core_foldl (fun s f => afterReset_core ..) _ _).trans ((replayUnits_core ..).trans (setFld_core ..))
  obtain ⟨htb, -⟩ := core_eq_iff.1 hcore
  clear_value s2
  have h3 : s3.readyView = (.ready, s2.tb, 0, s2.tb, s2.tb, some (s2.tb + s2.snapPeriod)) := rfl
  have h4 : s4.readyView = s3.readyView := (readyView_of_eventOnly (afcEvent_eventOnly _ _ (Nat.zero_le 1))).trans
    ((endGuarded_readyView _).trans (readyView_of_eventOnly (settleBundle_eventOnly _)))
  have h5 : s5.readyView = s4.readyView := by
    unfold s5
    split
    · exact readyView_of_eventOnly (afcEvent_eventOnly _ _ (le_refl 1))
    · rfl
  rw [htb] at h3
  refine ⟨s.tb + s2.snapPeriod, ?_⟩
  rw [← h3, ← h4, ← h5]
  split
  · exact showFeeds_readyView s5
  · rfl

theorem becomeReady_spec (s : State) (p : Bool) : (s.becomeReady p).phase = .ready ∧ (s.becomeReady p).flt.readyAt = s.tb ∧
    (s.becomeReady p).start.failures = 0 ∧ (s.becomeReady p).tb = s.tb ∧ (s.becomeReady p).mm.planishAt = s.tb ∧
    (s.becomeReady p).jnl.snapAt.isSome = true := by
  obtain ⟨snap, h⟩ := becomeReady_readyView s p
  simp only [readyView, Prod.mk.injEq] at h
  obtain ⟨hphase, hready, hfail, htb, hplanish, hsnap⟩ := h
  exact ⟨hphase, hready, hfail, htb, hplanish, by rw [hsnap]; rfl⟩

/-! ### Bridges -/

/-- Half `h` of bridge `b` is down. -/
def halfDown (s : State) (b h : Nat) : State :=
  { s with start := { s.start with bridges := s.start.bridges.set 0 b (s.start.bridges.get 0 b + 2 ^ h) } }

theorem halfDown_bridges (s : State) (b h : Nat) : (s.halfDown b h).start.bridges.get 0 b = s.start.bridges.get 0 b + 2 ^ h := by
  simp [halfDown]

section
variable {s : State} {b h : Nat}

theorem bridgeHalf_down (hd : s.start.bridges.get 0 b / 2 ^ h % 2 = 1) : s.bridgeHalf b h = s := if_pos hd

theorem bridgeHalf_first (h0 : s.start.bridges.get 0 b = 0) :
    s.bridgeHalf b h = (s.halfDown b h).logEvent 0 blockCoh causeNone 0 := by
  unfold bridgeHalf
  dsimp only
  rw [if_neg (by rw [h0]; simp), if_pos h0]
  rfl

/-- The second half of a bridge: one between C-dies is forwarded by the H-die, one to the H-die loses its C-die (R13). -/
theorem bridgeHalf_second (hh : h < 2) (h1 : s.start.bridges.get 0 b = 3 - 2 ^ h) : s.bridgeHalf b h =
    if (bridgeDies b).2 < 4 then ((s.halfDown b h).setBit COH_STATUS COH_STATUS.GUARDED).logEvent 0 blockCoh causeNone 0
    else (s.halfDown b h).dieLost (bridgeDies b).1 := by
  have hup : ¬ s.start.bridges.get 0 b / 2 ^ h % 2 = 1 ∧ ¬ s.start.bridges.get 0 b = 0 := by
    rw [h1]
    interval_cases h <;> decide
  unfold bridgeHalf
  dsimp only
  rw [if_neg hup.1, if_neg hup.2]
  rfl

theorem halfDown_second (hh : h < 2) (h1 : s.start.bridges.get 0 b = 3 - 2 ^ h) :
    (s.halfDown b h).start.bridges.get 0 b = 3 := by
  rw [halfDown_bridges, h1]
  interval_cases h <;> rfl

end
end State

section
variable {s : State} (hl : s.live = true)
include hl

/-! ### The commands -/

theorem exec_gddr7TrainingComplete_other (failed : List (Fin 24)) (lost : List (BitVec 42)) (h : ∀ p, s.phase ≠ .starting 7 p) :
    exec (.gddr7TrainingComplete failed lost) s = .next s := by
  have hexec : exec (.gddr7TrainingComplete failed lost) s = execGddr7TrainingComplete failed lost s := rfl
  rw [hexec, execGddr7TrainingComplete, onLive_open hl]
  split
  · next p hp => exact absurd hp (h p)
  · rfl

theorem exec_gddr7TrainingComplete (failed : List (Fin 24)) (lost : List (BitVec 42)) {p : Bool} (h : s.phase = .starting 7 p) :
    exec (.gddr7TrainingComplete failed lost) s = .next (s.trained (failed.map (·.val)) (lost.map (·.toNat)) p) := by
  have hexec : exec (.gddr7TrainingComplete failed lost) s = execGddr7TrainingComplete failed lost s := rfl
  rw [hexec, execGddr7TrainingComplete, onLive_open hl]
  simp only [h]

/-- R434, R435, R438: training that ends at step 7. -/
theorem exec_training (failed : List (Fin 24)) (lost : List (BitVec 42)) {p : Bool} (h : s.phase = .starting 7 p) :
    ∃ t : State, exec (.gddr7TrainingComplete failed lost) s = .next t ∧
      (t.phase = .halted 8 ∨ t.phase = .starting 8 p) ∧ (p = true → t.phase = .starting 8 p → t.mem = []) ∧
      (failed = [] → (∀ h, h < 24 → s.fld (MEM_CHAN h) MEM_CHAN.STATE < 4) → t.phase = .starting 8 p) ∧
      (failed = [] → (∀ h, h < 24 → s.fld (MEM_CHAN h) MEM_CHAN.STATE < 4) → p = true ∨ (s.mm.bad = [] ∧ s.mm.badCode = []) →
        (∀ h, h < 24 → t.fld (MEM_CHAN h) MEM_CHAN.STATE = 1)) := by
  refine ⟨_, exec_gddr7TrainingComplete hl failed lost h, State.trained_phase .., ?_, ?_, ?_⟩
  · rintro rfl hp
    exact State.trained_mem _ _ _ hp
  · rintro rfl hs
    rw [List.map_nil, State.trained_serving _ _ hs]
    exact State.starting_phase ..
  · rintro rfl hs hb
    exact State.trained_chans _ _ hs hb

theorem exec_recoveryScan_other (h : (∀ p, s.phase ≠ .starting 8 p) ∨ s.pwr.reported = true) :
    exec .recoveryScan s = .next s := by
  have hexec : exec .recoveryScan s = execRecoveryScan s := rfl
  rw [hexec, execRecoveryScan, onLive_open hl]
  split
  · next p hp =>
    rw [if_pos (h.resolve_left (fun h => h p hp))]
  · rfl

/-- R42, R431, R438: the scan at its own step. -/
theorem exec_recoveryScan {p : Bool} (h : s.phase = .starting 8 p) (hr : s.pwr.reported = false) :
    (s.dieOk 0 = false → s.dieOk 1 = false → exec .recoveryScan s = .next (s.halt 9)) ∧
      (s.dieOk 0 = true ∨ s.dieOk 1 = true → ∃ u : State, u = s.scan ∧ exec .recoveryScan s =
        .next (if u.dieOk 0 = false ∧ u.dieOk 1 = false then u.halt 9 else u.starting 9 p)) := by
  have hexec : exec .recoveryScan s = execRecoveryScan s := rfl
  rw [hexec, execRecoveryScan, onLive_open hl]
  simp only [h, hr, Bool.false_eq_true, if_false, Bool.not_eq_true']
  refine ⟨fun h0 h1 => by rw [if_pos ⟨h0, h1⟩], fun hok => ⟨_, rfl, ?_⟩⟩
  rw [if_neg]
  rintro ⟨h0, h1⟩
  rw [h0, h1] at hok
  exact absurd hok (by decide)

theorem exec_replay_other (h : (∀ p, s.phase ≠ .starting 9 p) ∨ s.pwr.reported = true) : exec .replay s = .next s := by
  have hexec : exec .replay s = execReplay s := rfl
  rw [hexec, execReplay, onLive_open hl]
  split
  · next p hp =>
    rw [if_pos (h.resolve_left (fun h => h p hp))]
  · rfl

theorem exec_replay {p : Bool} (h : s.phase = .starting 9 p) (hr : s.pwr.reported = false) :
    exec .replay s = .next (s.becomeReady p) := by
  have hexec : exec .replay s = execReplay s := rfl
  rw [hexec, execReplay, onLive_open hl]
  simp only [h, hr, Bool.false_eq_true, if_false]

/-- R438: an overrun of a step. -/
theorem exec_startupStepOverrun {n : Nat} {p : Bool} (h : s.phase = .starting n p) :
    exec .startupStepOverrun s = .next (s.logEvent 3 blockFlt causeNone (n + 1)) := by
  have hexec : exec .startupStepOverrun s = execStartupStepOverrun s := rfl
  rw [hexec, execStartupStepOverrun, onLive_open hl]
  simp only [h]

theorem exec_startupStepOverrun_other (h : ∀ n p, s.phase ≠ .starting n p) : exec .startupStepOverrun s = .next s := by
  have hexec : exec .startupStepOverrun s = execStartupStepOverrun s := rfl
  rw [hexec, execStartupStepOverrun, onLive_open hl]
  split
  · next n p hp => exact absurd hp (h n p)
  · rfl

theorem exec_bridgeHalfFailure (b : Fin 10) (h : Fin 2) :
    exec (.bridgeHalfFailure b h) s = .next (s.bridgeHalf b.val h.val) :=
  (rfl : _ = execBridgeHalfFailure b h s).trans (onLive_open hl _)

theorem exec_bridgeFailure (b : Fin 10) :
    exec (.bridgeFailure b) s = .next ((s.bridgeHalf b.val 0).bridgeHalf b.val 1) :=
  (rfl : _ = execBridgeFailure b s).trans (onLive_open hl _)

end
/-! ### The settlement -/

/-- R431: a power-on that acts. -/
theorem exec_powerOn {s : State} (x : StartChecks) (hp : s.phase = .off) (hl : s.pwr.bellows.latch = false)
    (hr : s.pwr.bellows.removed = false) : ∃ u t : State, exec (.powerOn x) s = .next t ∧
      u.phase = .starting 3 true ∧ u.mem = [] ∧ u.tb = s.firstCount ∧ u.jnl.bootCount = s.jnl.bootCount + 1 ∧ u.jnl.die0 = s.jnl.die0 ∧
      u.jnl.die1 = s.jnl.die1 ∧ u.cru.parts = s.cru.parts ∧ u.cru.batchCount = s.cru.batchCount ∧ u.disp.units = [] ∧ u.cip.keys = [] ∧
      t = u.startChecks x true (if s.pwr.bellows.latchWord.isSome then 4 else 3) ∧
      (s.pwr.bellows.latchWord = none → u.start.cause = 1) ∧
      (∀ w, s.pwr.bellows.latchWord = some w → u.start.cause = 2 ∧ u.bit FLT_STATUS ⟨4, 1⟩ = true ∧
        u.fld FLT_QUENCH ⟨63, 1⟩ = 1 ∧ u.fld FLT_QUENCH ⟨32, 6⟩ = w.1 % 64 ∧ u.fld FLT_QUENCH ⟨0, 32⟩ = w.2 % 2 ^ 32) ∧
      (x.identity = false → t.phase = .halted 4) ∧
      (x.identity = true → x.anvilA = false → x.anvilB = false → t.flt.quenched = true) ∧
      (x.identity = true → x.anvilA = true ∨ x.anvilB = true → x.comparators = false → t.phase = .halted 6) ∧
      (x.identity = true → x.anvilA = true ∨ x.anvilB = true → x.comparators = true → t.phase = .starting 7 true) := by
  obtain ⟨hphase, hmem, htb, hboots, hdie0, hdie1, hparts, hbatch, hunits, hkeys⟩ := State.bootState_keeps s x
  exact ⟨s.bootState x, s.powerOn x, rfl, hphase, hmem, htb, hboots, hdie0, hdie1, hparts, hbatch, hunits, hkeys,
    State.powerOn_eq x hp hl hr, State.bootState_cause_none s x, fun w hw => State.bootState_cause_some s x hw,
    State.powerOn_spec x hp hl hr⟩

section
variable {s : State} (hl : s.live = true)
include hl

/-- R389, R407, R432: the three starters of a module reset. -/
theorem exec_moduleReset_starters (x : StartChecks) :
    (s.bit ANV_STATUS ANV_STATUS.GAP = true → exec (.moduleReset 0 x) s = .next s) ∧
      (s.bit ANV_STATUS ANV_STATUS.GAP = false → exec (.moduleReset 0 x) s = .next (s.moduleReset 3 x)) ∧
      (due s s.flt.class3Due = false → exec (.moduleReset 1 x) s = .next s) ∧
      (due s s.flt.class3Due = true → exec (.moduleReset 1 x) s = .next (s.moduleReset 4 x)) ∧
      exec (.moduleReset 2 x) s = exec (.busStableTimer x) s := by
  have h0 : exec (.moduleReset 0 x) s = .next (if s.bit ANV_STATUS ANV_STATUS.GAP then s else s.moduleReset 3 x) :=
    (rfl : _ = execModuleReset 0 x s).trans (onLive_open hl _)
  have h1 : exec (.moduleReset 1 x) s = .next (if due s s.flt.class3Due then s.moduleReset 4 x else s) :=
    (rfl : _ = execModuleReset 1 x s).trans (onLive_open hl _)
  refine ⟨fun h => ?_, fun h => ?_, fun h => ?_, fun h => ?_, rfl⟩
  · rw [h0, if_pos h]
  · rw [h0, if_neg (by rw [h]; decide)]
  · rw [h1, if_neg (by rw [h]; decide)]
  · rw [h1, if_pos h]

/-- R13: what the loss of a half of a bridge does. -/
theorem exec_bridges (b : Fin 10) (h : Fin 2) :
    (s.start.bridges.get 0 b.val / 2 ^ h.val % 2 = 1 → exec (.bridgeHalfFailure b h) s = .next s) ∧
      (s.start.bridges.get 0 b.val = 0 → ∃ u : State, exec (.bridgeHalfFailure b h) s = .next (u.logEvent 0 blockCoh causeNone 0) ∧
        u.start.bridges.get 0 b.val = 2 ^ h.val ∧ u.regs = s.regs ∧ u.mem = s.mem) ∧
      (s.start.bridges.get 0 b.val = 3 - 2 ^ h.val → (State.bridgeDies b.val).2 = 4 → ∃ u : State,
        exec (.bridgeHalfFailure b h) s = .next (u.dieLost (State.bridgeDies b.val).1) ∧ u.start.bridges.get 0 b.val = 3 ∧
          u.regs = s.regs) ∧
      (s.start.bridges.get 0 b.val = 3 - 2 ^ h.val → (State.bridgeDies b.val).2 < 4 → ∃ u : State,
        exec (.bridgeHalfFailure b h) s = .next (u.logEvent 0 blockCoh causeNone 0) ∧ u.start.bridges.get 0 b.val = 3 ∧
        u.bit COH_STATUS COH_STATUS.GUARDED = true ∧ (∀ a, a ≠ COH_STATUS → u.reg a = s.reg a) ∧ u.mem = s.mem) ∧
      exec (.bridgeFailure b) s = .next ((s.bridgeHalf b.val 0).bridgeHalf b.val 1) := by
  have hexec := exec_bridgeHalfFailure hl b h
  refine ⟨fun hd => ?_, fun h0 => ⟨s.halfDown b.val h.val, ?_, ?_, rfl, rfl⟩, fun h1 h4 => ⟨s.halfDown b.val h.val, ?_, ?_, rfl⟩,
    fun h1 hlt => ⟨(s.halfDown b.val h.val).setBit COH_STATUS COH_STATUS.GUARDED, ?_, ?_, ?_, ?_, rfl⟩, exec_bridgeFailure hl b⟩
  · rw [hexec, State.bridgeHalf_down hd]
  · rw [hexec, State.bridgeHalf_first h0]
  · rw [State.halfDown_bridges, h0, Nat.zero_add]
  · rw [hexec, State.bridgeHalf_second h.isLt h1, if_neg (by omega)]
  · exact State.halfDown_second h.isLt h1
  · rw [hexec, State.bridgeHalf_second h.isLt h1, if_pos hlt]
  · exact State.halfDown_second h.isLt h1
  · exact State.bit_setBit_self _ _ _ _ (by decide)
  · exact fun a ha => State.reg_setFld_ne (s.halfDown b.val h.val) _ _ ha

end

/-- Settles O57: power-on and module reset by what their checks find from a state with nothing standing, and each command of a
live module by the rule above of its own step. -/
theorem startsAndReadiness : Obligations.StartsAndReadiness := by
  unfold Obligations.StartsAndReadiness
  refine ⟨fun s x => ⟨fun h => ?_, fun hp hlatch hr => exec_powerOn x hp hlatch hr⟩, fun s hl => ?_⟩
  · exact congrArg Host.Outcome.next (State.powerOn_off x h)
  · refine ⟨fun x => ?_, fun failed lost => ⟨exec_gddr7TrainingComplete_other hl failed lost,
        fun p hp => exec_training hl failed lost hp⟩, exec_recoveryScan_other hl, fun p hp hr => exec_recoveryScan hl hp hr,
      exec_replay_other hl, fun p hp hr => ⟨_, exec_replay hl hp hr, State.becomeReady_spec s p⟩,
      fun n p hp => exec_startupStepOverrun hl hp, exec_startupStepOverrun_other hl, fun b h => exec_bridges hl b h⟩
    obtain ⟨hgap, hno, hearly, hdue, hbus⟩ := exec_moduleReset_starters hl x
    exact ⟨hgap, hno, hearly, hdue, hbus, fun cause => ⟨fun n p hn hf => State.moduleReset_third cause x hn hf,
      fun hready => State.moduleReset_ready_spec cause x hready⟩⟩

end Sys2Proof.Machine
end

section
/-!
R69: what a reset of the endpoint leaves of a function whose issued records stand behind a descriptor that has none, and
the refutation of O7.
-/
namespace Sys2Proof.Machine
open Sys2Proof

/-- A ready module that has fetched two descriptors of ring 0 of the PF, and has issued the Acceptance Record of the second
but not of the first. -/
def State.issuedBehindFetched : State :=
  { phase := .ready
    disp := { rings := [(0, { fetched := [{ count := 0, desc := [] }, { count := 1, desc := [], issued := some 0 }] })] } }

/-- That module as PERST# leaves it. -/
def State.issuedBehindFetchedReset : State :=
  { State.issuedBehindFetched with
    hep := { State.issuedBehindFetched.hep with perst := true, trainBy := none } }.endpointReset true

theorem issuedBehindFetched_live : State.issuedBehindFetched.live = true := rfl

/-- A record of the PF is issued before the reset. -/
theorem issuedBehindFetched_fnIssued : State.issuedBehindFetched.fnIssued 0 = true := by decide +kernel

/-- R92: the reset squashes from the first descriptor without a record on, so the issued one goes with it: the PF is left
disabled, as a function is that has neither units nor records. -/
theorem issuedBehindFetchedReset_fnState : State.issuedBehindFetchedReset.fnState 0 = 0 := by decide +kernel

/-- R64: PERST# resets the endpoint of a live module. -/
theorem exec_perstAssert {s : State} (hl : s.live = true) : exec .perstAssert s =
    .next (({ s with hep := { s.hep with perst := true, trainBy := none } } : State).endpointReset true) :=
  (rfl : _ = execPerstAssert s).trans (onLive_open (s := { s with hep := { s.hep with perst := true, trainBy := none } }) hl (·.endpointReset true))

/-- Refutes O7. Its first clause says that PERST# leaves the PF orphaned (state 3) whenever a record of it is issued before
the reset. In the state above it leaves it disabled. The model issues records in count order, so that an issued record
stands in front of a descriptor without one; the statement is about every state, and has no hypothesis that says so. -/
theorem not_endpointResets : ¬ Obligations.EndpointResets := by
  unfold Obligations.EndpointResets
  intro h
  obtain ⟨⟨t, hexec, hclean, -⟩, -⟩ := h State.issuedBehindFetched 0 0 issuedBehindFetched_live
  obtain ⟨-, -, -, -, -, -, -, hstate⟩ := hclean
  have ht : State.issuedBehindFetchedReset = t := Host.Outcome.next.inj ((exec_perstAssert issuedBehindFetched_live).symm.trans hexec)
  rw [issuedBehindFetched_fnIssued, if_neg (by simp), ← ht, issuedBehindFetchedReset_fnState] at hstate
  exact absurd hstate (by decide)

end Sys2Proof.Machine
end

section
/-!
R21, R32, R39: what the settlement of finished writes reports durable, and how far behind the head of the log a block
outstanding in a die may lie; the settlement of O3.
-/
namespace Sys2Proof.Machine
open Sys2Proof

/-! ### Settled writes -/

/-- A write is finished when both dies and the mirror partner are through with it. -/
theorem writeDone_iff (x : BlockWrite) : State.writeDone x = true ↔ x.done0 = true ∧ x.done1 = true ∧ x.mirror = none := by
  simp [State.writeDone, and_assoc]

namespace State

/-- R39: what is named durable has a finished write, while a die is in service, and no write of it stays outstanding. -/
theorem mem_settleWrites_names {s : State} {w : WriteFor} (h : w ∈ s.settleWrites.1) :
    (s.dieOk 0 || s.dieOk 1) = true ∧ (∃ x ∈ s.jnl.out, x.what = w) ∧ ∀ x ∈ s.settleWrites.2.jnl.out, x.what ≠ w := by
  simp only [settleWrites, List.mem_filter, List.mem_eraseDups, List.mem_map, Bool.and_eq_true] at h
  obtain ⟨⟨x, ⟨hx, hok, -⟩, hw⟩, hall⟩ := h
  refine ⟨hok, ⟨x, hx, hw⟩, fun y hy hyw => ?_⟩
  have hany : (s.settleWrites.2.jnl.out.any fun x => x.what == w) = true := List.any_eq_true.2 ⟨y, hy, by simp [hyw]⟩
  exact absurd ((congrArg not hany).symm.trans hall) (by decide)

/-- A write stays outstanding exactly where it is not finished, or no die is in service. -/
theorem mem_settleWrites_out {s : State} {x : BlockWrite} : x ∈ s.settleWrites.2.jnl.out ↔
    x ∈ s.jnl.out ∧ ((s.dieOk 0 || s.dieOk 1) = true → writeDone x = false) := by
  have hout : s.settleWrites.2.jnl.out = s.jnl.out.filter (fun x => !((s.dieOk 0 || s.dieOk 1) && writeDone x)) := rfl
  rw [hout, List.mem_filter]
  cases (s.dieOk 0 || s.dieOk 1) <;> simp

end State

/-! ### The span of the outstanding blocks -/

/-- R31: positions advance by one, or by less where an index that the log does not hold wraps. -/
theorem seqLinear_nextSeq_le (q : Nat) : seqLinear (nextSeq q) ≤ seqLinear q + 1 := by
  unfold nextSeq seqLinear seqEpoch seqIndex mkSeq logBlocks
  split <;> omega

/-- R32: `n` more blocks leave no block outstanding in a die more than 32 positions behind the head. -/
def LogSpan (n : Nat) (s : State) : Prop :=
  ∀ x ∈ s.jnl.out, (x.done0 = true ∧ x.done1 = true) ∨ seqLinear s.jnl.head + n ≤ seqLinear x.seq + 32

theorem logSpan_zero_iff {s : State} : LogSpan 0 s ↔
    ∀ x ∈ s.jnl.out, (x.done0 = true ∧ x.done1 = true) ∨ seqLinear s.jnl.head ≤ seqLinear x.seq + 32 := by
  simp only [LogSpan, Nat.add_zero]

theorem LogSpan.of_log {n : Nat} {s t : State} (h : LogSpan n s) (hout : t.jnl.out = s.jnl.out) (hhead : t.jnl.head = s.jnl.head) :
    LogSpan n t := by
  simpa only [LogSpan, hout, hhead] using h

theorem LogSpan.foldl {α : Type} {n : Nat} {f : State → α → State} (hf : ∀ s x, LogSpan n s → LogSpan n (f s x)) (l : List α)
    {s : State} (h : LogSpan n s) : LogSpan n (l.foldl f s) := by
  induction l generalizing s with
  | nil => exact h
  | cons x t ih => exact ih (hf s x h)

namespace State

/-- One block issued takes one of the positions that were left. -/
theorem issueBlock_logSpan {n : Nat} {s : State} (h : LogSpan (n + 1) s) (hn : n ≤ 31) (b : Bytes) (w : WriteFor) (m : Option Nat) :
    LogSpan n (s.issueBlock b w m) := by
  have hnext := seqLinear_nextSeq_le s.jnl.head
  have hhead : (s.issueBlock b w m).jnl.head = nextSeq s.jnl.head := rfl
  have hout : (s.issueBlock b w m).jnl.out =
      s.jnl.out ++ [BlockWrite.mk s.jnl.head b w s.jnl.failed0 s.jnl.failed1 m] := rfl
  intro x hx
  rw [hhead]
  rw [hout, List.mem_append, List.mem_singleton] at hx
  rcases hx with hx | rfl
  · exact (h x hx).imp_right fun hle => by omega
  · exact .inr (by simp only; omega)

theorem issueBlocks_logSpan (l : List Bytes) {s : State} (h : LogSpan l.length s) (hn : l.length ≤ 32) (w : WriteFor)
    (m : Option Nat) : LogSpan 0 (l.foldl (fun s b => s.issueBlock b w m) s) := by
  induction l generalizing s with
  | nil => exact h
  | cons b t ih =>
    have ht : t.length ≤ 31 := Nat.le_of_succ_le_succ hn
    exact ih (issueBlock_logSpan h ht b w m) (by omega)

theorem length_closeFrom (q : Nat) (l : List Bytes) : (closeFrom q l).length = l.length := by
  induction l generalizing q with
  | nil => rfl
  | cons b t ih => exact congrArg (· + 1) (ih _)

/-- The blocks of a record are as many as it counts for in the log. -/
theorem length_closedBlocks (q : Nat) (l : List Bytes) : (closedBlocks q l).length = blockCount l := by
  unfold closedBlocks blockCount
  split
  · rfl
  · exact length_closeFrom q l

theorem logSpan_of_logRoom {n : Nat} {s : State} (h : s.logRoom n = true) : n ≤ 32 ∧ LogSpan n s := by
  simpa only [LogSpan, logRoom, Bool.and_eq_true, Bool.or_eq_true, decide_eq_true_eq, List.all_eq_true] using h

theorem closedBlocks_logSpan {s : State} {bs : List Bytes} (h : s.logRoom (blockCount bs) = true) (w : WriteFor) (m : Option Nat) :
    LogSpan 0 ((closedBlocks s.jnl.head bs).foldl (fun s b => s.issueBlock b w m) s) := by
  obtain ⟨hn, hspan⟩ := logSpan_of_logRoom h
  rw [← length_closedBlocks s.jnl.head bs] at hn hspan
  exact issueBlocks_logSpan _ hspan hn w m

theorem sendMirror_log (s : State) (k : Nat) (b : List Bytes) (w : WriteFor) (p : Option Nat) :
    (s.sendMirror k b w p).jnl.out = s.jnl.out ∧ (s.sendMirror k b w p).jnl.head = s.jnl.head := by
  simp only [sendMirror, (sendSeam_hepOnly _ _).jnl]
  exact ⟨rfl, rfl⟩

theorem issueRecord_logSpan {s : State} {r : RecordWait} (h : s.logRoom (blockCount r.blocks) = true) :
    LogSpan 0 (s.issueRecord r) := by
  unfold issueRecord
  extract_lets first blocks mirror needsAck s1 posted s2
  have h1 : LogSpan 0 s1 := (closedBlocks_logSpan h r.what needsAck).of_log rfl rfl
  have h2 : LogSpan 0 s2 := by
    unfold s2
    clear_value mirror
    split
    · obtain ⟨hout, hhead⟩ := sendMirror_log s1 _ blocks r.what posted
      exact h1.of_log hout hhead
    · exact h1
  exact h2.of_log rfl rfl

/-- R32: waiting records are issued only while their blocks fit. -/
theorem pumpLog_logSpan (n : Nat) {s : State} (h : LogSpan 0 s) : LogSpan 0 (pumpLog n s) := by
  induction n generalizing s with
  | zero => exact h
  | succ n ih =>
    unfold pumpLog
    split
    · exact h
    · dsimp only
      split
      · next hroom => exact ih (issueRecord_logSpan (Bool.and_eq_true_iff.1 hroom).1)
      · exact h

theorem carryRecord_logSpan (s : State) (r : LiveRec) (h : LogSpan 0 s) : LogSpan 0 (s.carryRecord r) := by
  unfold carryRecord
  split
  · exact h
  · next hroom => exact (closedBlocks_logSpan (by simpa using hroom) .carry none).of_log rfl rfl

theorem carryForward_logSpan {s : State} (h : LogSpan 0 s) : LogSpan 0 s.carryForward :=
  LogSpan.foldl carryRecord_logSpan _ h

theorem writeRecord_logSpan {s : State} (h : LogSpan 0 s) (bs : List Bytes) (w : WriteFor) (m : Option Nat) :
    LogSpan 0 (s.writeRecord bs w m) := by
  unfold writeRecord
  extract_lets _ s1 s2
  have h1 : LogSpan 0 s1 := h.of_log rfl rfl
  split
  · exact (carryForward_logSpan (pumpLog_logSpan _ h1)).of_log rfl rfl
  · exact h1

end State

/-- Settles O3: what is named durable is what `settleWrites` filters, and every block issued found room for its record. -/
theorem durableMeansWrittenInBothDies : Obligations.DurableMeansWrittenInBothDies := by
  unfold Obligations.DurableMeansWrittenInBothDies
  intro s t ws hs
  obtain ⟨rfl, rfl⟩ : s.settleWrites.1 = ws ∧ s.settleWrites.2 = t := by rw [hs]; exact ⟨rfl, rfl⟩
  refine ⟨fun w hw => ?_, fun x hx => ?_, fun hspan => ⟨fun bs w m => ?_, fun n => ?_⟩⟩
  · obtain ⟨hok, hex, hnone⟩ := State.mem_settleWrites_names hw
    refine ⟨by simpa using hok, hex, fun x hx hxw => (writeDone_iff x).1 ?_, hnone⟩
    by_contra hdone
    exact hnone x (State.mem_settleWrites_out.2 ⟨hx, fun _ => by simpa using hdone⟩) hxw
  · obtain ⟨hmem, hdone⟩ := State.mem_settleWrites_out.1 hx
    refine ⟨hmem, fun hok hx => ?_⟩
    have := hdone (by simpa using hok)
    rw [(writeDone_iff x).2 hx] at this
    exact absurd this (by decide)
  · exact logSpan_zero_iff.1 (State.writeRecord_logSpan (logSpan_zero_iff.2 hspan) bs w m)
  · exact logSpan_zero_iff.1 (State.pumpLog_logSpan n (State.carryForward_logSpan (logSpan_zero_iff.2 hspan)))

end Sys2Proof.Machine
end

section
/-!
SUPPORT. Tables whose keys rise, and the two dies of the journal: what a write to one leaves of the other.
-/
namespace Sys2Proof

/-- The keys of the table rise strictly. -/
def Tbl.Rising {α : Type} (t : Tbl α) : Prop := (t.map (·.1)).Pairwise (· < ·)

theorem Tbl.rising_of_wf {α : Type} [DecidableEq α] {d : α} {t : Tbl α} (h : Tbl.wf d t = true) : t.Rising := by
  induction t with
  | nil => exact .nil
  | cons e t ih =>
    obtain ⟨-, habove, hwf⟩ := (Tbl.wf_cons d e.2 e.1 t).1 h
    exact List.pairwise_cons.2 ⟨fun k hk => by
      obtain ⟨x, hx, rfl⟩ := List.mem_map.1 hk
      exact habove x hx, ih hwf⟩

/-- The keys after an entry is put in. -/
theorem Tbl.mem_keys_ins {α : Type} {t : Tbl α} {k j : Nat} {v : α} :
    j ∈ (Tbl.ins t k v).map (·.1) ↔ j = k ∨ j ∈ t.map (·.1) := by
  induction t with
  | nil => simp [Tbl.ins]
  | cons e t ih =>
    unfold Tbl.ins
    split
    · next h => subst h; simp
    · split
      · simp
      · simp only [List.map_cons, List.mem_cons, ih]; tauto

theorem Tbl.Rising.ins {α : Type} {t : Tbl α} (h : t.Rising) (k : Nat) (v : α) : (Tbl.ins t k v).Rising := by
  induction t with
  | nil => simp [Tbl.ins, Tbl.Rising]
  | cons e t ih =>
    obtain ⟨habove, hrest⟩ := List.pairwise_cons.1 h
    unfold Tbl.ins
    split
    · next hk => subst hk; exact List.pairwise_cons.2 ⟨habove, hrest⟩
    · next hne =>
      split
      · next hlt =>
        refine List.pairwise_cons.2 ⟨fun j hj => ?_, h⟩
        rcases List.mem_cons.1 hj with rfl | hj
        · exact hlt
        · exact hlt.trans (habove j hj)
      · next hle =>
        refine List.pairwise_cons.2 ⟨fun j hj => ?_, ih hrest⟩
        rcases Tbl.mem_keys_ins.1 hj with rfl | hj
        · exact lt_of_le_of_ne (not_lt.1 hle) hne
        · exact habove j hj

theorem Tbl.Rising.foldl_ins {α β : Type} (f : β → Nat) (g : β → α) (l : List β) {t : Tbl α} (h : t.Rising) :
    (l.foldl (fun t x => Tbl.ins t (f x) (g x)) t).Rising := by
  induction l generalizing t with
  | nil => exact h
  | cons x l ih => exact ih (h.ins _ _)

theorem Tbl.mem_keys_foldl_ins {α β : Type} (f : β → Nat) (g : β → α) (l : List β) {t : Tbl α} {j : Nat} :
    j ∈ (l.foldl (fun t x => Tbl.ins t (f x) (g x)) t).map (·.1) ↔ j ∈ l.map f ∨ j ∈ t.map (·.1) := by
  induction l generalizing t with
  | nil => simp
  | cons x l ih => rw [List.foldl_cons, ih, Tbl.mem_keys_ins, List.map_cons, List.mem_cons]; tauto

end Sys2Proof

namespace Sys2Proof.Machine
open Sys2Proof

namespace State

/-- A die written stands in its own place alone. -/
theorem die_setDie (s : State) (d e : Nat) (x : Die) : (s.setDie d x).die e = if (d = 0 ↔ e = 0) then x else s.die e := by
  unfold setDie die
  by_cases hd : d = 0 <;> by_cases he : e = 0 <;> simp [hd, he]

@[simp] theorem setDie_dieOk (s : State) (d e : Nat) (x : Die) : (s.setDie d x).dieOk e = s.dieOk e := by
  unfold setDie; split <;> rfl

theorem die_of_jnl {s t : State} (h : t.jnl = s.jnl) (d : Nat) : t.die d = s.die d := by simp only [die, h]
theorem dieOk_of_jnl {s t : State} (h : t.jnl = s.jnl) (d : Nat) : t.dieOk d = s.dieOk d := by simp only [dieOk, h]

@[simp] theorem wearRegs_jnl (s : State) (d : Nat) : (s.wearRegs d).jnl = s.jnl := by
  unfold wearRegs
  extract_lets t old life s1 s2 s3
  have h3 : s3.jnl = s.jnl := (setFld_jnl ..).trans ((setFld_jnl ..).trans (setFld_jnl ..))
  clear_value s3 life old
  split
  · exact (setBit_jnl ..).trans h3
  · exact h3

/-- The copy of log position `i` that die `d` holds. -/
def copyAt (s : State) (d i : Nat) : Bytes := (s.die d).log.get [] i

theorem copyAt_of_jnl {s t : State} (h : t.jnl = s.jnl) (d i : Nat) : t.copyAt d i = s.copyAt d i := by
  simp only [copyAt, die_of_jnl h]

/-- A block write lands at its position in its die, and nowhere else. -/
theorem copyAt_storeBlock (s : State) (d i : Nat) (b : Bytes) (e j : Nat) :
    (s.storeBlock d i b).copyAt e j = if (d = 0 ↔ e = 0) ∧ j = i then b else s.copyAt e j := by
  unfold storeBlock
  rw [copyAt_of_jnl (wearRegs_jnl ..), copyAt, die_setDie]
  by_cases h : d = 0 ↔ e = 0
  · have hdie : s.die d = s.die e := by unfold die; simp only [h]
    rw [if_pos h, Tbl.get_set]
    simp only [h, true_and, hdie]
    rfl
  · rw [if_neg h, if_neg (fun hc => h hc.1)]; rfl

@[simp] theorem storeBlock_dieOk (s : State) (d i : Nat) (b : Bytes) (e : Nat) : (s.storeBlock d i b).dieOk e = s.dieOk e := by
  unfold storeBlock
  rw [dieOk_of_jnl (wearRegs_jnl ..), setDie_dieOk]

/-- R45: the note of a recomputation leaves the logs alone, and which dies are in service. -/
theorem recomputedBlock_jnl (s : State) (d row : Nat) :
    ∃ x : Die, x.log = (s.die d).log ∧ (s.recomputedBlock d row).jnl = (s.setDie d x).jnl := by
  unfold recomputedBlock
  extract_lets x old s1 weak s2 s3 s4
  have h4 : s4.jnl = s1.jnl := (setFld_jnl ..).trans ((setBit_jnl ..).trans (setFld_jnl ..))
  clear_value s4
  exact ⟨{ x with recomputed := x.recomputed.set [] row (s.tb :: old) }, rfl,
    (logEvent_eventOnly s4 blockJnl 0 d 0 0 (.inl (Nat.zero_le 1))).jnl.trans h4⟩

theorem copyAt_recomputedBlock (s : State) (d row e i : Nat) : (s.recomputedBlock d row).copyAt e i = s.copyAt e i := by
  obtain ⟨x, hlog, hjnl⟩ := s.recomputedBlock_jnl d row
  rw [copyAt_of_jnl hjnl, copyAt, die_setDie]
  split
  · next h =>
    have hdie : s.die d = s.die e := by unfold die; simp only [h]
    rw [hlog, hdie]; rfl
  · rfl

theorem recomputedBlock_dieOk (s : State) (d row e : Nat) : (s.recomputedBlock d row).dieOk e = s.dieOk e := by
  obtain ⟨x, -, hjnl⟩ := s.recomputedBlock_jnl d row
  rw [dieOk_of_jnl hjnl, setDie_dieOk]

theorem copyAt_voidPosition (s : State) (i d j : Nat) :
    (s.voidPosition i).copyAt d j = if j = i then [] else s.copyAt d j := by
  simp only [copyAt, die, voidPosition]
  split
  · exact Tbl.get_del ..
  · exact Tbl.get_del ..

end State
end Sys2Proof.Machine
end

section
/-!
R42: how the recovery scan settles each position of the log, once and alike in every die in service.
-/
namespace Sys2Proof.Machine
open Sys2Proof

namespace State

/-- What the scan has found so far: the blocks that stand, the damaged indices, and the module. -/
abbrev Scanned := List (Nat × Bytes) × List Nat × State

/-- The scan settles one position. -/
def settleAt (head : Nat) (p : Scanned) (i : Nat) : Scanned :=
  match settleCopies (p.2.2.scanCopies i).1 (p.2.2.scanCopies i).2 (inWindow head i) with
  | .stands b => ((mkSeq (blockEpoch b) i, b) :: p.1, p.2.1, p.2.2)
  | .rewrite d b =>
    ((mkSeq (blockEpoch b) i, b) :: p.1, p.2.1,
      if p.2.2.dieOk d then (p.2.2.storeBlock d i b).recomputedBlock d (logRow i) else p.2.2)
  | .void => (p.1, p.2.1, p.2.2.voidPosition i)
  | .damaged => (p.1, i :: p.2.1, p.2.2)

/-- The order in which the scan takes the positions: from the one after the head on. -/
def scanOrder (s : State) (head : Nat) : List Nat :=
  s.logIndices.filter (fun i => decide (head < i)) ++ s.logIndices.filter (fun i => decide (i ≤ head))

theorem settlePositions_eq (s : State) (head : Nat) : s.settlePositions head =
    let p := (s.scanOrder head).foldl (settleAt head) ([], [], s)
    (p.1.reverse, p.2.1.reverse, p.2.2) := by
  unfold settlePositions
  rfl

/-- Position `i` holds the passing block `b` in every die in service. -/
def StandsAt (s : State) (i : Nat) (b : Bytes) : Prop :=
  blockOk b = true ∧ ∀ d, d < 2 → s.dieOk d = true → s.copyAt d i = b

/-- Position `i` is void in both dies. -/
def VoidAt (s : State) (i : Nat) : Prop := ∀ d, d < 2 → s.copyAt d i = []

/-- `t` has the dies of `s` in service, and every copy of `s` but those of position `i`. -/
structure SettlesOnly (s t : State) (i : Nat) : Prop where
  dieOk : ∀ d, t.dieOk d = s.dieOk d
  copies : ∀ d j, j ≠ i → t.copyAt d j = s.copyAt d j

theorem SettlesOnly.rfl {s : State} {i : Nat} : SettlesOnly s s i := ⟨fun _ => Eq.refl _, fun _ _ _ => Eq.refl _⟩

theorem StandsAt.mono {s t : State} {i j : Nat} {b : Bytes} (h : StandsAt s j b) (ht : SettlesOnly s t i) (hj : j ≠ i) :
    StandsAt t j b :=
  ⟨h.1, fun d hd hok => (ht.copies d j hj).trans (h.2 d hd (ht.dieOk d ▸ hok))⟩

theorem VoidAt.mono {s t : State} {i j : Nat} (h : VoidAt s j) (ht : SettlesOnly s t i) (hj : j ≠ i) : VoidAt t j :=
  fun d hd => (ht.copies d j hj).trans (h d hd)

/-- R47: what the scan reads of a position is the copy of each die in service, and the survivor's for both where one is
not. -/
theorem scanCopies_cases (s : State) (i : Nat) :
    (s.dieOk 0 = true ∧ s.dieOk 1 = true ∧ s.scanCopies i = (s.copyAt 0 i, s.copyAt 1 i)) ∨
      (s.dieOk 0 = false ∧ s.scanCopies i = (s.copyAt 1 i, s.copyAt 1 i)) ∨
      (s.dieOk 1 = false ∧ s.scanCopies i = (s.copyAt 0 i, s.copyAt 0 i)) := by
  unfold scanCopies
  cases h0 : s.dieOk 0 with
  | false => exact .inr (.inl ⟨rfl, rfl⟩)
  | true =>
    cases h1 : s.dieOk 1 with
    | false => exact .inr (.inr ⟨rfl, rfl⟩)
    | true => exact .inl ⟨rfl, rfl, rfl⟩

/-! ### The verdict on one position -/

theorem settleCopies_stands {c0 c1 b : Bytes} {w : Bool} (h : settleCopies c0 c1 w = .stands b) :
    blockOk b = true ∧ c0 = b ∧ c1 = b := by
  unfold settleCopies at h
  split at h
  · next h0 _ =>
    split_ifs at h with heq
    cases h
    exact ⟨h0, rfl, heq.symm⟩
  · cases h
  · cases h
  · split_ifs at h

theorem settleCopies_rewrite {c0 c1 b : Bytes} {w : Bool} {d : Nat} (h : settleCopies c0 c1 w = .rewrite d b) :
    blockOk b = true ∧ c0 ≠ c1 ∧ (d = 0 ∧ c1 = b ∨ d = 1 ∧ c0 = b) := by
  unfold settleCopies at h
  split at h
  · next h0 h1 =>
    split_ifs at h with heq <;> cases h
    · exact ⟨h1, heq, .inl ⟨rfl, rfl⟩⟩
    · exact ⟨h0, heq, .inr ⟨rfl, rfl⟩⟩
  · next h0 h1 =>
    cases h
    exact ⟨h0, fun e => by simp [e, h1] at h0, .inr ⟨rfl, rfl⟩⟩
  · next h0 h1 =>
    cases h
    exact ⟨h1, fun e => by simp [e, h1] at h0, .inl ⟨rfl, rfl⟩⟩
  · split_ifs at h

theorem settleCopies_void {c0 c1 : Bytes} {w : Bool} (h : settleCopies c0 c1 w = .void) : w = true := by
  unfold settleCopies at h
  split at h
  · split_ifs at h with _ hw
    exact hw
  · cases h
  · cases h
  · split_ifs at h with hw
    exact hw

theorem settleCopies_damaged {c0 c1 : Bytes} {w : Bool} (h : settleCopies c0 c1 w = .damaged) : w = false := by
  unfold settleCopies at h
  split at h
  · split_ifs at h with _ hw
    exact eq_false_of_ne_true hw
  · cases h
  · cases h
  · split_ifs at h with hw
    exact eq_false_of_ne_true hw

/-- A copy rewritten from the other die stands in both. -/
theorem standsAt_rewritten {s : State} {i d : Nat} {b : Bytes} (hok : blockOk b = true)
    (hother : ∀ e, e < 2 → e ≠ d → s.dieOk e = true → s.copyAt e i = b) (hd2 : d < 2) (row : Nat) :
    StandsAt ((s.storeBlock d i b).recomputedBlock d row) i b ∧
      SettlesOnly s ((s.storeBlock d i b).recomputedBlock d row) i := by
  refine ⟨⟨hok, fun e he hek => ?_⟩, ⟨fun e => ?_, fun e j hj => ?_⟩⟩
  · rw [recomputedBlock_dieOk, storeBlock_dieOk] at hek
    rw [copyAt_recomputedBlock, copyAt_storeBlock]
    by_cases hed : e = d
    · rw [if_pos ⟨by rw [hed], rfl⟩]
    · rw [if_neg (by omega)]
      exact hother e he hed hek
  · rw [recomputedBlock_dieOk, storeBlock_dieOk]
  · rw [copyAt_recomputedBlock, copyAt_storeBlock, if_neg (fun h => hj h.2)]

/-- R42: a position stands alike in every die in service, or is damaged outside the window, or becomes void inside it. -/
theorem settleAt_cases (head : Nat) (p : Scanned) (i : Nat) :
    let t := settleAt head p i
    SettlesOnly p.2.2 t.2.2 i ∧
      ((∃ b, t.1 = (mkSeq (blockEpoch b) i, b) :: p.1 ∧ t.2.1 = p.2.1 ∧ StandsAt t.2.2 i b) ∨
        (t.1 = p.1 ∧ t.2.1 = i :: p.2.1 ∧ inWindow head i = false) ∨
        (t.1 = p.1 ∧ t.2.1 = p.2.1 ∧ inWindow head i = true ∧ VoidAt t.2.2 i)) := by
  obtain ⟨bs, dam, s⟩ := p
  have hcopies := s.scanCopies_cases i
  simp only [settleAt]
  cases hv : settleCopies (s.scanCopies i).1 (s.scanCopies i).2 (inWindow head i) with
  | stands b =>
    obtain ⟨hok, h0, h1⟩ := settleCopies_stands hv
    refine ⟨.rfl, .inl ⟨b, rfl, rfl, hok, fun d hd hdok => ?_⟩⟩
    obtain rfl | rfl : d = 0 ∨ d = 1 := by omega
    · rcases hcopies with ⟨-, -, hc⟩ | ⟨h, -⟩ | ⟨-, hc⟩
      · rw [hc] at h0; exact h0
      · rw [h] at hdok; cases hdok
      · rw [hc] at h0; exact h0
    · rcases hcopies with ⟨-, -, hc⟩ | ⟨-, hc⟩ | ⟨h, -⟩
      · rw [hc] at h1; exact h1
      · rw [hc] at h1; exact h1
      · rw [h] at hdok; cases hdok
  | rewrite d b =>
    obtain ⟨hok, hne, hfrom⟩ := settleCopies_rewrite hv
    rcases hcopies with ⟨hd0, hd1, hc⟩ | ⟨-, hc⟩ | ⟨-, hc⟩
    · rw [hc] at hfrom
      have hd : s.dieOk d = true := by rcases hfrom with ⟨rfl, -⟩ | ⟨rfl, -⟩ <;> assumption
      have hother : ∀ e, e < 2 → e ≠ d → s.dieOk e = true → s.copyAt e i = b := by
        rintro e he hed -
        rcases hfrom with ⟨rfl, hb⟩ | ⟨rfl, hb⟩
        · rwa [show e = 1 by omega]
        · rwa [show e = 0 by omega]
      obtain ⟨hstands, honly⟩ := standsAt_rewritten (i := i) hok hother (by omega) (logRow i)
      dsimp only
      rw [if_pos hd]
      exact ⟨honly, .inl ⟨b, rfl, rfl, hstands⟩⟩
    · rw [hc] at hne; exact absurd rfl hne
    · rw [hc] at hne; exact absurd rfl hne
  | void =>
    refine ⟨⟨fun _ => rfl, fun d j hj => ?_⟩, .inr (.inr ⟨rfl, rfl, settleCopies_void hv, fun d _ => ?_⟩)⟩
    · rw [copyAt_voidPosition, if_neg hj]
    · rw [copyAt_voidPosition, if_pos rfl]
  | damaged => exact ⟨.rfl, .inr (.inl ⟨rfl, rfl, settleCopies_damaged hv⟩)⟩

/-! ### All positions -/

/-- The positions of `done` are settled. -/
structure ScanInv (head : Nat) (done : List Nat) (p : Scanned) : Prop where
  blocks : ∀ q b, (q, b) ∈ p.1 → q = mkSeq (blockEpoch b) (seqIndex q) ∧ seqIndex q ∈ done ∧ StandsAt p.2.2 (seqIndex q) b
  settled : ∀ i ∈ done, (∃ q b, (q, b) ∈ p.1 ∧ seqIndex q = i) ∨ (i ∈ p.2.1 ∧ inWindow head i = false) ∨
    (inWindow head i = true ∧ VoidAt p.2.2 i)

theorem seqIndex_mkSeq (e : Nat) {i : Nat} (h : i < logBlocks) : seqIndex (mkSeq e i) = i := by
  unfold logBlocks at h
  unfold seqIndex mkSeq
  omega

/-- One more position settled. -/
theorem ScanInv.settleAt {head : Nat} {done : List Nat} {p : Scanned} (h : ScanInv head done p) {i : Nat} (hi : i ∉ done)
    (hlt : i < logBlocks) : ScanInv head (done ++ [i]) (State.settleAt head p i) := by
  obtain ⟨honly, hcases⟩ := settleAt_cases head p i
  have hold : ∀ q b, (q, b) ∈ p.1 → q = mkSeq (blockEpoch b) (seqIndex q) ∧ seqIndex q ∈ done ++ [i] ∧
      StandsAt (State.settleAt head p i).2.2 (seqIndex q) b := fun q b hq => by
    obtain ⟨hseq, hdone, hstands⟩ := h.blocks q b hq
    exact ⟨hseq, List.mem_append_left _ hdone, hstands.mono honly fun e => hi (e ▸ hdone)⟩
  have hvoid : ∀ j ∈ done, VoidAt p.2.2 j → VoidAt (State.settleAt head p i).2.2 j := fun j hj hv =>
    hv.mono honly fun e => hi (e ▸ hj)
  have hsplit : ∀ j, j ∈ done ++ [i] → j ∈ done ∨ j = i := fun j hj => by simpa using hj
  rcases hcases with ⟨b, hbs, hdam, hstands⟩ | ⟨hbs, hdam, hwin⟩ | ⟨hbs, hdam, hwin, hv⟩
  · have hidx := seqIndex_mkSeq (blockEpoch b) hlt
    refine ⟨fun q c hq => ?_, fun j hj => ?_⟩
    · rw [hbs, List.mem_cons, Prod.mk.injEq] at hq
      rcases hq with ⟨rfl, rfl⟩ | hq
      · rw [hidx]
        exact ⟨rfl, by simp, hstands⟩
      · exact hold q c hq
    · rw [hbs, hdam]
      rcases hsplit j hj with hj | rfl
      · rcases h.settled j hj with ⟨q, c, hq, hqj⟩ | hd | ⟨hw, hv⟩
        · exact .inl ⟨q, c, List.mem_cons_of_mem _ hq, hqj⟩
        · exact .inr (.inl hd)
        · exact .inr (.inr ⟨hw, hvoid j hj hv⟩)
      · exact .inl ⟨_, b, List.mem_cons_self, hidx⟩
  · refine ⟨fun q c hq => hold q c (hbs ▸ hq), fun j hj => ?_⟩
    rw [hbs, hdam]
    rcases hsplit j hj with hj | rfl
    · rcases h.settled j hj with hs | ⟨hd, hw⟩ | ⟨hw, hv⟩
      · exact .inl hs
      · exact .inr (.inl ⟨List.mem_cons_of_mem _ hd, hw⟩)
      · exact .inr (.inr ⟨hw, hvoid j hj hv⟩)
    · exact .inr (.inl ⟨List.mem_cons_self, hwin⟩)
  · refine ⟨fun q c hq => hold q c (hbs ▸ hq), fun j hj => ?_⟩
    rw [hbs, hdam]
    rcases hsplit j hj with hj | rfl
    · rcases h.settled j hj with hs | hd | ⟨hw, hv⟩
      · exact .inl hs
      · exact .inr (.inl hd)
      · exact .inr (.inr ⟨hw, hvoid j hj hv⟩)
    · exact .inr (.inr ⟨hwin, hv⟩)

/-- Positions taken once each are settled, and the dies in service stay so. -/
theorem scanInv_foldl (s : State) (head : Nat) (l : List Nat) (hnd : l.Nodup) (hlt : ∀ i ∈ l, i < logBlocks) :
    ScanInv head l (l.foldl (State.settleAt head) ([], [], s)) ∧
      ∀ d, (l.foldl (State.settleAt head) ([], [], s)).2.2.dieOk d = s.dieOk d := by
  induction l using List.reverseRecOn with
  | nil => exact ⟨⟨fun q b h => by simp at h, fun i h => by simp at h⟩, fun _ => rfl⟩
  | append_singleton l i ih =>
    obtain ⟨hl, -, hdisj⟩ := List.nodup_append.1 hnd
    obtain ⟨hinv, hok⟩ := ih hl fun j hj => hlt j (List.mem_append_left _ hj)
    rw [List.foldl_append, List.foldl_cons, List.foldl_nil]
    refine ⟨hinv.settleAt (fun hi => hdisj i hi i (by simp) rfl) (hlt i (by simp)), fun d => ?_⟩
    exact ((settleAt_cases head _ i).1.dieOk d).trans (hok d)

/-! ### The order of the scan -/

/-- Every index of a log is taken once. -/
theorem logIndices_spec {s : State} (h : ∀ d, d < 2 → Tbl.wf [] (s.die d).log = true ∧ ∀ e ∈ (s.die d).log, e.1 < logBlocks) :
    s.logIndices.Nodup ∧ ∀ i ∈ s.logIndices, i < logBlocks := by
  obtain ⟨hwf0, hlt0⟩ : Tbl.wf [] s.jnl.die0.log = true ∧ ∀ e ∈ s.jnl.die0.log, e.1 < logBlocks := h 0 (by omega)
  obtain ⟨-, hlt1⟩ : Tbl.wf [] s.jnl.die1.log = true ∧ ∀ e ∈ s.jnl.die1.log, e.1 < logBlocks := h 1 (by omega)
  have hrise : (if s.dieOk 0 then s.jnl.die0.log else []).Rising := by
    split
    · exact Tbl.rising_of_wf hwf0
    · exact .nil
  have hkeys : ∀ (c : Bool) (l : Tbl Bytes), (∀ e ∈ l, e.1 < logBlocks) → ∀ i ∈ (if c then l else []).map (·.1), i < logBlocks := by
    intro c l hl i hi
    cases c with
    | false => simp at hi
    | true => obtain ⟨e, he, rfl⟩ := List.mem_map.1 hi; exact hl e he
  refine ⟨(Tbl.Rising.foldl_ins _ _ _ hrise).imp ne_of_lt, fun i hi => ?_⟩
  rcases (Tbl.mem_keys_foldl_ins _ _ _).1 hi with hi | hi
  · exact hkeys _ _ hlt1 i hi
  · exact hkeys _ _ hlt0 i hi

theorem mem_scanOrder {s : State} {head i : Nat} : i ∈ s.scanOrder head ↔ i ∈ s.logIndices := by
  simp only [scanOrder, List.mem_append, List.mem_filter, decide_eq_true_eq, ← and_or_left]
  exact ⟨And.left, fun h => ⟨h, by omega⟩⟩

theorem nodup_scanOrder {s : State} (head : Nat) (h : s.logIndices.Nodup) : (s.scanOrder head).Nodup := by
  refine List.nodup_append.2 ⟨h.filter _, h.filter _, fun i hi j hj => ?_⟩
  have hi' : head < i := by simpa using (List.mem_filter.1 hi).2
  have hj' : j ≤ head := by simpa using (List.mem_filter.1 hj).2
  omega


end State
end Sys2Proof.Machine
end

section
/-!
R29, R42: what a series rebuilt from its records keeps, and the settlement of O5.
-/
namespace Sys2Proof.Machine
open Sys2Proof

namespace State

/-- R42: the ASNs followed never fall behind where they began, and what is left over lies above where they end. -/
theorem followAsns_spec (l : List Nat) (n : Nat) (hl : l.Pairwise (· < ·)) :
    n ≤ (followAsns l n).1 ∧ ∀ a ∈ (followAsns l n).2, (followAsns l n).1 < a := by
  induction l generalizing n with
  | nil => exact ⟨le_refl n, fun a ha => by simp [followAsns] at ha⟩
  | cons a t ih =>
    obtain ⟨habove, ht⟩ := List.pairwise_cons.1 hl
    unfold followAsns
    split_ifs with hlt heq
    · exact ih n ht
    · obtain ⟨hn, hrest⟩ := ih (n + 1) ht
      exact ⟨by omega, hrest⟩
    · refine ⟨le_refl n, fun b hb => ?_⟩
      rcases List.mem_cons.1 hb with rfl | hb
      · show n < b
        omega
      · have := habove b hb
        show n < b
        omega

/-- The records of a kind stand by rising ASN. -/
theorem newestBy_rising (rs : List LogRec) (kind : Nat) : (newestBy rs kind).Rising :=
  Tbl.Rising.foldl_ins _ _ _ .nil

/-- A unit rebuilt from records has their ASN, and does not run. -/
theorem unitFrom_spec {acc comp com res : Tbl LogRec} {a : Nat} {u : WorkUnit} (h : unitFrom acc comp com res a = some u) :
    u.asn = a ∧ u.exec = none := by
  unfold unitFrom at h
  split at h
  · cases h
  · dsimp only at h
    split at h <;> cases h <;> exact ⟨rfl, rfl⟩

theorem rebuild_spec (rk : Nat) (x : Ring) (rs : List LogRec) (next : Nat) (posted : Option Nat) (first floor : Nat)
    (win : Nat → Bool) (dam torn : List Nat) :
    let o := rebuild rk x rs next posted first floor win dam torn
    (∀ i ∈ o.voids, win i = true) ∧ o.ring.nextAsn ≤ o.ring.floor + 65536 ∧ next ≤ o.ring.nextAsn ∧
    (∀ k u, (k, u) ∈ o.units → k = unitKey rk u.asn ∧ u.asn < o.ring.nextAsn ∧
      (∀ p, posted = some p → p < u.asn) ∧ u.exec = none) := by
  have hrise : ((newestBy rs 1).map fun e => e.1).Pairwise (· < ·) := newestBy_rising rs 1
  obtain ⟨hnext, hafter⟩ := followAsns_spec _ next hrise
  intro o
  generalize ho : rebuild rk x rs next posted first floor win dam torn = o'
  rw [show o = o' from ho]
  clear_value o
  unfold rebuild at ho
  extract_lets acc comp young done com lowest lost at ho
  split at ho
  next n0 after hfollow =>
  replace hfollow : followAsns ((newestBy rs 1).map fun e => e.1) next = (n0, after) := hfollow
  rw [hfollow] at hnext hafter
  extract_lets gone kept n isLive asns units fl window at ho
  subst ho
  refine ⟨fun i hi => ?_, ?_, ?_, fun k u hu => ?_⟩
  · obtain ⟨a, ha, hi⟩ := List.mem_filterMap.1 hi
    obtain ⟨r, hr, rfl⟩ := Option.map_eq_some_iff.1 hi
    simpa [hr] using (List.mem_filter.1 ha).2
  · show n ≤ max (max _ floor) (n - 65536) + 65536
    omega
  · show next ≤ n
    unfold n
    split
    · next a ha =>
      have := hafter a (List.mem_filter.1 (List.mem_of_getLast? ha)).1
      omega
    · exact hnext
  · obtain ⟨e, he, heq⟩ := List.mem_map.1 hu
    obtain ⟨rfl, rfl⟩ := Prod.mk.inj heq
    obtain ⟨a, ha, hmap⟩ := List.mem_filterMap.1 he
    obtain ⟨v, hv, rfl⟩ := Option.map_eq_some_iff.1 hmap
    obtain ⟨hasn, hexec⟩ := unitFrom_spec hv
    have hlive := (List.mem_filter.1 ha).2
    simp only [isLive, Bool.and_eq_true, decide_eq_true_eq] at hlive
    obtain ⟨⟨⟨hposted, hlt⟩, -⟩, -⟩ := hlive
    refine ⟨by rw [hasn], by rw [hasn]; exact hlt, fun p hp => ?_, hexec⟩
    rw [hasn]
    simpa [hp] using hposted

end State

/-- Settles O5: the scan settles each position of its order once (`scanInv_foldl`), and every index of a log is in that
order; the series by `rebuild_spec`. -/
theorem scanSettlesPositionsAndSeries : Obligations.ScanSettlesPositionsAndSeries := by
  unfold Obligations.ScanSettlesPositionsAndSeries
  refine ⟨fun s t head bs dam _ hdies hscan => ?_, State.rebuild_spec⟩
  obtain ⟨hnd, hlt⟩ := State.logIndices_spec hdies
  obtain ⟨⟨hblocks, hsettled⟩, hok⟩ := State.scanInv_foldl s head (s.scanOrder head) (State.nodup_scanOrder head hnd)
    fun i hi => hlt i (State.mem_scanOrder.1 hi)
  rw [State.settlePositions_eq] at hscan
  generalize (s.scanOrder head).foldl (State.settleAt head) ([], [], s) = p at *
  simp only [Prod.mk.injEq] at hscan
  obtain ⟨rfl, rfl, rfl⟩ := hscan
  refine ⟨fun q b hq => ?_, fun i hi => ?_⟩
  · obtain ⟨hseq, -, hblock, hcopies⟩ := hblocks q b (List.mem_reverse.1 hq)
    exact ⟨hblock, hseq, fun d hd hdok => hcopies d hd ((hok d).trans hdok)⟩
  · rcases hsettled i (State.mem_scanOrder.2 hi) with ⟨q, b, hq, hqi⟩ | ⟨hd, hw⟩ | h
    · exact .inl ⟨q, b, List.mem_reverse.2 hq, hqi⟩
    · exact .inr (.inl ⟨List.mem_reverse.2 hd, hw⟩)
    · exact .inr (.inr h)

end Sys2Proof.Machine
end

section
/-!
SUPPORT. Bytes of a record, and everything that handing a record to the journal may change (R32 to R34, R48).
-/
namespace Sys2Proof

theorem length_leBytes (n v : Nat) : (leBytes n v).length = n := by
  induction n generalizing v with
  | zero => rfl
  | succ n ih => exact congrArg (· + 1) (ih _)

/-- R3: a number read back from its bytes is cut to their width. -/
theorem ofLe_leBytes (n v : Nat) : ofLe (leBytes n v) = v % 2 ^ (8 * n) := by
  induction n generalizing v with
  | zero => simp [leBytes, ofLe, Nat.mod_one]
  | succ n ih =>
    have hpow : 2 ^ (8 * (n + 1)) = 256 * 2 ^ (8 * n) := by rw [Nat.mul_add, pow_add]; ring
    simp only [leBytes, ofLe, ih, BitVec.toNat_ofNat]
    rw [hpow, Nat.mod_mul]

/-- The field that stands behind `a` in a record. -/
theorem leAt_append (a c : Bytes) (n v : Nat) : leAt (a ++ leBytes n v ++ c) a.length n = v % 2 ^ (8 * n) := by
  rw [leAt, slice, List.append_assoc, List.drop_left, List.take_append_of_le_length (length_leBytes n v).ge,
    List.take_of_length_le (length_leBytes n v).le, ofLe_leBytes]

theorem length_padTo (n : Nat) (l : Bytes) : (padTo n l).length = n := by
  simp only [padTo, zeros, List.length_take, List.length_append, List.length_replicate]
  omega

end Sys2Proof

namespace Sys2Proof.Machine
open Sys2Proof

/-- `t` is `s` after records were handed to the journal: the log, its mirrors and its two pointer registers moved on, and
nothing else did. -/
structure LogOnly (s t : State) : Prop where
  rest : t = { s with
    regs := t.regs, out := t.out
    jnl := { s.jnl with
      head := t.jnl.head, damaged := t.jnl.damaged, out := t.jnl.out, waiting := t.jnl.waiting, live := t.jnl.live
      partners := t.jnl.partners, unacked := t.jnl.unacked, budgetSec := t.jnl.budgetSec, budgetUsed := t.jnl.budgetUsed } }
  reg : ∀ a, a ≠ JNL_HEAD → a ≠ JNL_TAIL → t.reg a = s.reg a

namespace LogOnly

theorem rfl {s : State} : LogOnly s s := ⟨Eq.refl _, fun _ _ _ => Eq.refl _⟩

theorem trans {s t u : State} (h : LogOnly s t) (h' : LogOnly t u) : LogOnly s u where
  rest := by
    conv_lhs => rw [h'.rest, h.rest]
  reg a h1 h2 := (h'.reg a h1 h2).trans (h.reg a h1 h2)

theorem foldl {α : Type} {f : State → α → State} (hf : ∀ s x, LogOnly s (f s x)) (l : List α) (s : State) :
    LogOnly s (l.foldl f s) := by
  induction l generalizing s with
  | nil => exact .rfl
  | cons x t ih => exact (hf s x).trans (ih _)

/-- The log moves on, and no register with it. -/
theorem of_jnl (s : State) (j : JournalState) (h : j = { s.jnl with
    head := j.head, damaged := j.damaged, out := j.out, waiting := j.waiting, live := j.live
    partners := j.partners, unacked := j.unacked, budgetSec := j.budgetSec, budgetUsed := j.budgetUsed }) :
    LogOnly s { s with jnl := j } where
  rest := by conv_lhs => rw [h]
  reg _ _ _ := Eq.refl _

theorem emit (s : State) (o : Output) : LogOnly s (s.emit o) := ⟨Eq.refl _, fun _ _ _ => Eq.refl _⟩

variable {s t : State} (h : LogOnly s t)
include h

theorem tb : t.tb = s.tb := by rw [h.rest]
theorem mem : t.mem = s.mem := by rw [h.rest]
theorem disp : t.disp = s.disp := by rw [h.rest]
theorem hep : t.hep = s.hep := by rw [h.rest]
theorem procs : t.procs = s.procs := by rw [h.rest]
theorem generation : t.jnl.generation = s.jnl.generation := by rw [h.rest]
theorem snapAt : t.jnl.snapAt = s.jnl.snapAt := by rw [h.rest]
theorem die (d : Nat) : t.die d = s.die d := by rw [h.rest]; exact Eq.refl _
theorem unit? (k : Nat) : t.unit? k = s.unit? k := by simp only [State.unit?, h.disp]

end LogOnly

namespace State

/-- R53: the pointers of the log are what `headRegs` writes. -/
theorem headRegs_logOnly (s : State) : LogOnly s s.headRegs where
  rest := Eq.refl _
  reg _ h1 h2 := (reg_setFld_ne _ _ _ h2).trans (reg_setFld_ne _ _ _ h1)

theorem issueBlock_logOnly (s : State) (b : Bytes) (w : WriteFor) (m : Option Nat) : LogOnly s (s.issueBlock b w m) :=
  (LogOnly.of_jnl s _ rfl).trans (.emit _ _)

theorem sendSeam_logOnly (s : State) (o : Output) : LogOnly s (s.sendSeam o) := by
  unfold sendSeam; split
  · exact .emit ..
  · exact .rfl

theorem sendMirror_logOnly (s : State) (k : Nat) (b : List Bytes) (w : WriteFor) (p : Option Nat) :
    LogOnly s (s.sendMirror k b w p) :=
  ((LogOnly.of_jnl s _ rfl).trans (.of_jnl _ _ rfl)).trans (sendSeam_logOnly ..)

theorem issueRecord_logOnly (s : State) (r : RecordWait) : LogOnly s (s.issueRecord r) := by
  unfold issueRecord
  extract_lets first blocks mirror needsAck s1 posted s2
  have h1 : LogOnly s s1 := (LogOnly.foldl (fun _ _ => issueBlock_logOnly ..) _ _).trans (.of_jnl _ _ rfl)
  have h2 : LogOnly s1 s2 := by
    unfold s2
    clear_value mirror
    split
    · exact sendMirror_logOnly ..
    · exact .rfl
  exact (h1.trans h2).trans (.of_jnl _ _ rfl)

theorem pumpLog_logOnly (n : Nat) (s : State) : LogOnly s (pumpLog n s) := by
  induction n generalizing s with
  | zero => exact .rfl
  | succ n ih =>
    unfold pumpLog
    split
    · exact .rfl
    · dsimp only
      split
      · exact ((LogOnly.of_jnl s _ rfl).trans (issueRecord_logOnly ..)).trans (ih _)
      · exact .rfl

theorem carryRecord_logOnly (s : State) (r : LiveRec) : LogOnly s (s.carryRecord r) := by
  unfold carryRecord
  split
  · exact .rfl
  · exact (LogOnly.foldl (fun _ _ => issueBlock_logOnly ..) _ s).trans (.of_jnl _ _ rfl)

/-- R32 to R34: everything that a record handed to the journal may change. -/
theorem writeRecord_logOnly (s : State) (b : List Bytes) (w : WriteFor) (m : Option Nat) : LogOnly s (s.writeRecord b w m) := by
  unfold writeRecord
  extract_lets _ s1 s2
  have h1 : LogOnly s s1 := .of_jnl s _ rfl
  split
  · exact ((h1.trans (pumpLog_logOnly ..)).trans (.foldl carryRecord_logOnly _ _)).trans (headRegs_logOnly _)
  · exact h1

end State
end Sys2Proof.Machine
end

section
/-!
SUPPORT. Snapshot generations (R41), the end of a unit as far as the journal sees it, and the count of events (R410).
-/
namespace Sys2Proof.Machine
open Sys2Proof

/-! ### Blocks -/

/-- R35: a closed block holds the epoch that it was closed with, unless it is a Completion pair. -/
theorem blockEpoch_closeBlock (v e : Nat) (t : Bytes) (hv : v % 256 ≠ 2) :
    blockEpoch (closeBlock (leBytes 1 v ++ t) e) = e % 2 ^ 32 := by
  have hbody := length_padTo 56 (leBytes 1 v ++ t)
  have hhead : leAt (closeBlock (leBytes 1 v ++ t) e) 0 1 = v % 256 := by
    simp [closeBlock, padTo, leBytes, leAt, slice, ofLe]
  rw [blockEpoch, if_neg (by rw [hhead]; exact hv)]
  have := leAt_append (padTo 56 (leBytes 1 v ++ t)) (leBytes 4 (Crypto.crc32c (padTo 56 (leBytes 1 v ++ t) ++ leBytes 4 e))) 4 e
  rwa [hbody] at this

namespace State

/-! ### Snapshot generations -/

/-- `t` is `s` after its dies were written, but for their wear and what stands in their generations. -/
structure DiesOnly (s t : State) : Prop where
  tb : t.tb = s.tb
  disp : t.disp = s.disp
  out : t.jnl.out = s.jnl.out
  generation : t.jnl.generation = s.jnl.generation
  dieOk : ∀ d, t.dieOk d = s.dieOk d
  cfg : t.reg JNL_CFG = s.reg JNL_CFG

theorem DiesOnly.rfl {s : State} : DiesOnly s s :=
  ⟨Eq.refl _, Eq.refl _, Eq.refl _, Eq.refl _, fun _ => Eq.refl _, Eq.refl _⟩

theorem DiesOnly.trans {s t u : State} (h : DiesOnly s t) (h' : DiesOnly t u) : DiesOnly s u where
  tb := h'.tb.trans h.tb
  disp := h'.disp.trans h.disp
  out := h'.out.trans h.out
  generation := h'.generation.trans h.generation
  dieOk d := (h'.dieOk d).trans (h.dieOk d)
  cfg := h'.cfg.trans h.cfg

theorem DiesOnly.setFld (s : State) {a : Nat} (f : Fld) (n : Nat) (h : JNL_CFG ≠ a) : DiesOnly s (s.setFld a f n) :=
  ⟨Eq.refl _, Eq.refl _, Eq.refl _, Eq.refl _, fun _ => Eq.refl _, reg_setFld_ne s f n h⟩

@[simp] theorem setDie_disp (s : State) (d : Nat) (x : Die) : (s.setDie d x).disp = s.disp := by unfold setDie; split <;> rfl
@[simp] theorem setDie_tb (s : State) (d : Nat) (x : Die) : (s.setDie d x).tb = s.tb := by unfold setDie; split <;> rfl
@[simp] theorem setDie_regs (s : State) (d : Nat) (x : Die) : (s.setDie d x).regs = s.regs := by unfold setDie; split <;> rfl
@[simp] theorem setDie_outputs (s : State) (d : Nat) (x : Die) : (s.setDie d x).out = s.out := by unfold setDie; split <;> rfl
@[simp] theorem setDie_out (s : State) (d : Nat) (x : Die) : (s.setDie d x).jnl.out = s.jnl.out := by
  unfold setDie; split <;> rfl
@[simp] theorem setDie_generation (s : State) (d : Nat) (x : Die) : (s.setDie d x).jnl.generation = s.jnl.generation := by
  unfold setDie; split <;> rfl

theorem DiesOnly.setDie (s : State) (d : Nat) (x : Die) : DiesOnly s (s.setDie d x) :=
  ⟨setDie_tb .., setDie_disp .., setDie_out .., setDie_generation .., fun _ => setDie_dieOk .., by simp only [reg, setDie_regs]⟩

theorem die_setDie_self (s : State) (d : Nat) (x : Die) : (s.setDie d x).die d = x := by rw [die_setDie, if_pos Iff.rfl]

theorem die_congr (s : State) {d e : Nat} (h : d = 0 ↔ e = 0) : s.die d = s.die e := by unfold die; simp only [h]

/-- The generations that a die holds, A and B. -/
def gens (s : State) (d : Nat) : List Bytes × List Bytes := ((s.die d).genA, (s.die d).genB)

theorem gens_setDie (s : State) (d e : Nat) (x : Die) :
    (s.setDie d x).gens e = if (d = 0 ↔ e = 0) then (x.genA, x.genB) else s.gens e := by
  unfold gens; rw [die_setDie]; split <;> rfl

/-- A die is written, but for its generations. -/
theorem gens_setDie_same (s : State) (d e : Nat) {x : Die} (ha : x.genA = (s.die d).genA) (hb : x.genB = (s.die d).genB) :
    (s.setDie d x).gens e = s.gens e := by
  rw [gens_setDie]
  split
  · next h => rw [ha, hb, s.die_congr h]; rfl
  · rfl

theorem wearRegs_diesOnly (s : State) (d : Nat) : DiesOnly s (s.wearRegs d) := by
  have hw : JNL_CFG ≠ JNL_DIE_WRITES d := by unfold JNL_CFG JNL_DIE_WRITES; omega
  have hl : JNL_CFG ≠ JNL_DIE_LIFE d := by unfold JNL_CFG JNL_DIE_LIFE; omega
  unfold wearRegs
  extract_lets t old life s1 s2 s3
  have h3 : DiesOnly s s3 := ((DiesOnly.setFld s _ _ hw).trans (.setFld _ _ _ hw)).trans (.setFld _ _ _ hl)
  split
  · exact h3.trans (.setFld _ _ _ (by decide))
  · exact h3

/-- R30: the count of the writes of a generation. -/
theorem wearMeta_spec (s : State) (d n first : Nat) :
    DiesOnly s (s.wearMeta d n first) ∧ ∀ e, (s.wearMeta d n first).gens e = s.gens e := by
  unfold wearMeta
  extract_lets x s1
  refine ⟨(DiesOnly.setDie s d _).trans (wearRegs_diesOnly ..), fun e => ?_⟩
  have h : (s1.wearRegs d).gens e = s1.gens e := by simp only [gens, die_of_jnl (wearRegs_jnl ..)]
  exact h.trans (gens_setDie_same s d e rfl rfl)

/-- R46: the row maps of dies are written. -/
theorem rowMaps_spec (f : Tbl Nat → Tbl Nat) (ds : List Nat) (s : State) :
    let t := ds.foldl (fun s d => s.setDie d { s.die d with rowMap := f (s.die d).rowMap }) s
    DiesOnly s t ∧ ∀ e, t.gens e = s.gens e := by
  induction ds generalizing s with
  | nil => exact ⟨.rfl, fun _ => rfl⟩
  | cons d ds ih =>
    obtain ⟨honly, hgens⟩ := ih (s.setDie d { s.die d with rowMap := f (s.die d).rowMap })
    exact ⟨(DiesOnly.setDie s d _).trans honly, fun e => (hgens e).trans (gens_setDie_same s d e rfl rfl)⟩

/-- R46: rows that change places. -/
theorem wearExchange_spec (s : State) (first : Nat) :
    DiesOnly s (s.wearExchange first) ∧ ∀ e, (s.wearExchange first).gens e = s.gens e := by
  unfold wearExchange
  extract_lets rows head ahead
  split
  · exact ⟨.rfl, fun _ => rfl⟩
  · exact rowMaps_spec (fun m => (List.range 16384).foldl (fun t i =>
      (t.set (first + i) (first + i) (m.get (32768 + (head + 1024 + i) % rows) (32768 + (head + 1024 + i) % rows))).set
        (32768 + (head + 1024 + i) % rows) (32768 + (head + 1024 + i) % rows) (m.get (first + i) (first + i))) m) [0, 1] s

/-- A generation written into its slot of a die in service. -/
def putGen (s : State) (g first : Nat) (blocks : List Bytes) (d : Nat) : State :=
  if s.dieOk d then
    (s.setDie d (if g % 2 = 0 then { s.die d with genA := blocks } else { s.die d with genB := blocks })).wearMeta d
      blocks.length first
  else s

/-- The generations of a die once `blocks` stand in the slot of generation `g`. -/
def withGen (g : Nat) (blocks : List Bytes) (p : List Bytes × List Bytes) : List Bytes × List Bytes :=
  if g % 2 = 0 then (blocks, p.2) else (p.1, blocks)

/-- R41: the slot of the number of generation `g` holds `blocks` in its die, and the other slot is as it was. -/
theorem putGen_spec (s : State) (g first : Nat) (blocks : List Bytes) (d : Nat) :
    DiesOnly s (s.putGen g first blocks d) ∧ ∀ e, (s.putGen g first blocks d).gens e =
      if s.dieOk d = true ∧ (d = 0 ↔ e = 0) then withGen g blocks (s.gens e) else s.gens e := by
  unfold putGen
  by_cases hok : s.dieOk d = true
  · rw [if_pos hok]
    generalize hx : (if g % 2 = 0 then { s.die d with genA := blocks } else { s.die d with genB := blocks }) = x
    have hgen : (x.genA, x.genB) = withGen g blocks (s.gens d) := by rw [← hx]; unfold withGen; split <;> rfl
    obtain ⟨honly, hgens⟩ := wearMeta_spec (s.setDie d x) d blocks.length first
    refine ⟨(DiesOnly.setDie s d x).trans honly, fun e => ?_⟩
    rw [hgens, gens_setDie, hgen]
    by_cases he : d = 0 ↔ e = 0
    · rw [if_pos he, if_pos ⟨hok, he⟩, gens, s.die_congr he]; rfl
    · rw [if_neg he, if_neg (fun h => he h.2)]
  · rw [if_neg hok]
    exact ⟨.rfl, fun e => by rw [if_neg (fun h => hok h.1)]⟩

/-- The blocks of generation `g`. -/
def genBlocks (s : State) (clean : Bool) (g : Nat) : List Bytes :=
  (snapHeader clean s.ringSnaps.length s.jnl.head s.tb :: s.ringSnaps).map (fun b => closeBlock b g)

theorem length_genBlocks (s : State) (clean : Bool) (g : Nat) : (s.genBlocks clean g).length = s.ringSnaps.length + 1 := by
  simp [genBlocks]

/-- Every block of a generation carries its number. -/
theorem blockEpoch_genBlocks {s : State} {clean : Bool} {g : Nat} {b : Bytes} (h : b ∈ s.genBlocks clean g) :
    blockEpoch b = g % 2 ^ 32 := by
  obtain ⟨c, hc, rfl⟩ := List.mem_map.1 h
  rcases List.mem_cons.1 hc with rfl | hc
  · simp only [snapHeader, List.append_assoc]
    exact blockEpoch_closeBlock 0x10 g _ (by decide)
  · obtain ⟨e, -, rfl⟩ := List.mem_map.1 hc
    simp only [ringSnap, List.append_assoc]
    exact blockEpoch_closeBlock 0x11 g _ (by decide)

theorem writeGeneration_eq (s : State) (clean : Bool) :
    let g := s.jnl.generation + 1
    let first := if g % 2 = 0 then 0 else 16384
    let u := (s.putGen g first (s.genBlocks clean g) 0).putGen g first (s.genBlocks clean g) 1
    let w : State := { u with jnl := { u.jnl with generation := g } }
    s.writeGeneration clean = if g % 65536 = 0 then w.wearExchange (16384 - first) else w := by
  rfl

/-- R41: a generation written: its number, its slot in every die in service, and what it leaves alone. -/
theorem writeGeneration_spec (s : State) (clean : Bool) :
    let t := s.writeGeneration clean
    let g := s.jnl.generation + 1
    t.tb = s.tb ∧ t.disp = s.disp ∧ t.jnl.out = s.jnl.out ∧ t.jnl.generation = g ∧ t.reg JNL_CFG = s.reg JNL_CFG ∧
      ∀ d, d < 2 → s.dieOk d = true → t.gens d = withGen g (s.genBlocks clean g) (s.gens d) := by
  rw [writeGeneration_eq]
  intro t g
  obtain ⟨h0, hg0⟩ := putGen_spec s g (if g % 2 = 0 then 0 else 16384) (s.genBlocks clean g) 0
  obtain ⟨h1, hg1⟩ := putGen_spec (s.putGen g (if g % 2 = 0 then 0 else 16384) (s.genBlocks clean g) 0) g
    (if g % 2 = 0 then 0 else 16384) (s.genBlocks clean g) 1
  generalize hu : (s.putGen g (if g % 2 = 0 then 0 else 16384) (s.genBlocks clean g) 0).putGen g
    (if g % 2 = 0 then 0 else 16384) (s.genBlocks clean g) 1 = u at h1 hg1
  have h := h0.trans h1
  have hgens : ∀ d, d < 2 → s.dieOk d = true → u.gens d = withGen g (s.genBlocks clean g) (s.gens d) := by
    intro d hd hok
    rw [hg1, h0.dieOk, hg0]
    obtain rfl | rfl : d = 0 ∨ d = 1 := by omega
    · rw [if_neg (by simp), if_pos ⟨hok, Iff.rfl⟩]
    · rw [if_pos ⟨hok, Iff.rfl⟩, if_neg (by simp)]
  have ht : t = if g % 65536 = 0 then ({ u with jnl := { u.jnl with generation := g } } : State).wearExchange
      (16384 - if g % 2 = 0 then 0 else 16384) else { u with jnl := { u.jnl with generation := g } } := by
    unfold t; rw [hu]
  clear_value t
  subst ht
  split
  · obtain ⟨hx, hxg⟩ := wearExchange_spec { u with jnl := { u.jnl with generation := g } }
      (16384 - if g % 2 = 0 then 0 else 16384)
    exact ⟨hx.tb.trans h.tb, hx.disp.trans h.disp, hx.out.trans h.out, hx.generation, hx.cfg.trans h.cfg,
      fun d hd hok => (hxg d).trans (hgens d hd hok)⟩
  · exact ⟨h.tb, h.disp, h.out, rfl, h.cfg, hgens⟩

end State
end Sys2Proof.Machine
end

section
/-!
SUPPORT. How a unit ends (R22, R37), and the count of events (R410).
-/
namespace Sys2Proof

/-- The entry of a key after one is put in. -/
theorem Tbl.find?_ins {α : Type} (t : Tbl α) (k j : Nat) (v : α) :
    (Tbl.ins t k v).find? (fun e => e.1 == j) = if j = k then some (k, v) else t.find? (fun e => e.1 == j) := by
  induction t with
  | nil => by_cases h : j = k <;> simp [Tbl.ins, h, Ne.symm]
  | cons e t ih =>
    unfold Tbl.ins
    split
    · next hk => subst hk; by_cases h : j = e.1 <;> simp [h, Ne.symm]
    · split
      · by_cases h : j = k <;> simp [h, List.find?_cons, Ne.symm]
      · next hne _ =>
        have hek : (e.1 == k) = false := beq_eq_false_iff_ne.2 hne
        by_cases h : j = k
        · subst h; simp [ih, hek]
        · simp [h, List.find?_cons, ih]

end Sys2Proof

namespace Sys2Proof.Machine
open Sys2Proof

namespace State

/-! ### The end of a unit -/

theorem unit?_setUnit_self (s : State) (k : Nat) (u : WorkUnit) : (s.setUnit k u).unit? k = some u := by
  simp [unit?, setUnit, Tbl.find?_ins]

theorem unit?_setUnit_ne (s : State) {j k : Nat} (u : WorkUnit) (h : j ≠ k) : (s.setUnit k u).unit? j = s.unit? j := by
  simp [unit?, setUnit, Tbl.find?_ins, h]

/-- A unit with its end. -/
def ended (s : State) (u : WorkUnit) (status result : Nat) : WorkUnit :=
  { u with status := status, result := result, complIssued := true, finish := some (u.finish.getD s.stamp) }

/-- The record of a unit's end: its registers, then its Completion Record. -/
theorem endUnit_open (s : State) {k : Nat} {u : WorkUnit} (hu : s.unit? k = some u) (hc : u.complIssued = false)
    (status result : Nat) : ∃ regs : Tbl W64,
      LogOnly { s.setUnit k (s.ended u status result) with regs := regs } (s.endUnit k status result) := by
  unfold endUnit
  rw [hu]
  dsimp only
  rw [if_neg (by rw [hc]; exact Bool.false_ne_true)]
  split
  all_goals exact ⟨_, writeRecord_logOnly ..⟩

/-- A unit whose end is issued does not end again. -/
theorem endUnit_closed (s : State) {k : Nat} {u : WorkUnit} (hu : s.unit? k = some u) (hc : u.complIssued = true)
    (status result : Nat) : s.endUnit k status result = s := by
  unfold endUnit
  rw [hu]
  dsimp only
  rw [if_pos hc]

theorem endUnit_none (s : State) {k : Nat} (hu : s.unit? k = none) (status result : Nat) : s.endUnit k status result = s := by
  unfold endUnit
  rw [hu]

/-- What the end of a unit leaves of the journal: the generations and the date of the next. -/
structure SnapsKept (s t : State) : Prop where
  generation : t.jnl.generation = s.jnl.generation
  snapAt : t.jnl.snapAt = s.jnl.snapAt
  die : ∀ d, t.die d = s.die d

theorem SnapsKept.rfl {s : State} : SnapsKept s s := ⟨Eq.refl _, Eq.refl _, fun _ => Eq.refl _⟩

theorem SnapsKept.trans {s t u : State} (h : SnapsKept s t) (h' : SnapsKept t u) : SnapsKept s u :=
  ⟨h'.generation.trans h.generation, h'.snapAt.trans h.snapAt, fun d => (h'.die d).trans (h.die d)⟩

theorem SnapsKept.foldl {α : Type} {f : State → α → State} (hf : ∀ s x, SnapsKept s (f s x)) (l : List α) (s : State) :
    SnapsKept s (l.foldl f s) := by
  induction l generalizing s with
  | nil => exact .rfl
  | cons x t ih => exact (hf s x).trans (ih _)

theorem endUnit_snapsKept (s : State) (k status result : Nat) : SnapsKept s (s.endUnit k status result) := by
  cases hu : s.unit? k with
  | none => rw [endUnit_none s hu]; exact .rfl
  | some u =>
    cases hc : u.complIssued with
    | true => rw [endUnit_closed s hu hc]; exact .rfl
    | false =>
      obtain ⟨_, h⟩ := endUnit_open s hu hc status result
      exact ⟨h.generation, h.snapAt, h.die⟩

/-! ### The count of events -/

theorem reg_ite {c : Prop} [Decidable c] {t u : State} {a : Nat} {v : W64} (ht : t.reg a = v) (hu : u.reg a = v) :
    (if c then t else u).reg a = v := by
  split
  · exact ht
  · exact hu

theorem reg_of_flt (s : State) (x : FaultState) (a : Nat) : ({ s with flt := x } : State).reg a = s.reg a := (rfl)

section
variable {a : Nat} (ha : a = FLT_SEQ)
include ha

/-- R410: an event takes the next sequence number. -/
theorem recordEvent_seq (s : State) (cls block cause inst detail : Nat) :
    (s.recordEvent cls block cause inst detail).reg a =
      (s.setFld FLT_SEQ FLT_SEQ.COUNT (s.fld FLT_SEQ FLT_SEQ.COUNT + 1)).reg a := by
  have hhead : s.fld FLT_STATUS FLT_STATUS.HEAD < 32 := getFld_lt _ _
  have hstatus : a ≠ FLT_STATUS := by rw [ha]; decide
  have htime : a ≠ FLT_FIRST_TIME := by rw [ha]; decide
  have hevent : a ≠ FLT_FIRST_EVENT := by rw [ha]; decide
  have hdetail : a ≠ FLT_FIRST_DETAIL := by rw [ha]; decide
  unfold recordEvent
  extract_lets seq head ev time lost s1 s2 s3 s4 _ s5 s6 s7 s8 s9
  have h2 : s2.reg a = s1.reg a := reg_setReg_ne _ _ (ha.trans_lt (by unfold FLT_HIST_TIME FLT_SEQ; omega)).ne
  have h3 : s3.reg a = s2.reg a := reg_setReg_ne _ _ (ha.trans_lt (by unfold FLT_HIST_EVENT FLT_SEQ; omega)).ne
  have h4 : s4.reg a = s3.reg a := reg_setReg_ne _ _ (ha.trans_lt (by unfold FLT_HIST_DETAIL FLT_SEQ; omega)).ne
  have h5 : s5.reg a = s4.reg a := reg_of_flt ..
  have h6 : s6.reg a = s5.reg a := reg_ite (reg_setFld_ne _ _ _ hstatus) rfl
  have h7 : s7.reg a = s6.reg a := reg_setFld_ne _ _ _ hstatus
  have h8 : s8.reg a = s7.reg a := reg_ite
    ((reg_setReg_ne _ _ hdetail).trans ((reg_setReg_ne _ _ hevent).trans (reg_setReg_ne _ _ htime))) rfl
  have h9 : s9.reg a = s8.reg a := reg_setFld_ne _ _ _ (ha.trans_lt (by unfold FLT_COUNT FLT_SEQ; omega)).ne
  have h10 : (s9.setBit FLT_STATUS ⟨cls, 1⟩).reg a = s9.reg a := reg_setFld_ne _ _ _ hstatus
  exact h10.trans (h9.trans (h8.trans (h7.trans (h6.trans (h5.trans (h4.trans (h3.trans h2)))))))

theorem showOut_seq (s : State) : s.showOut.reg a = s.reg a := by
  have hout : a ≠ ANV_OUT := by rw [ha]; decide
  unfold showOut
  exact reg_ite rfl ((reg_setFld_ne _ _ _ hout).trans ((reg_setFld_ne _ _ _ hout).trans (reg_setFld_ne _ _ _ hout)))

theorem sendVector_seq (s : State) (v : Nat) : (s.sendVector 0 v).reg a = s.reg a := by
  have hpba : a ≠ msixPba 0 := by rw [ha]; decide
  unfold sendVector
  exact reg_ite rfl (reg_ite rfl (reg_ite (reg_setFld_ne _ _ _ hpba) ((emitOver_hepOnly ..).reg _)))

theorem tellAnvil_seq (s : State) (l : List Nat) : (s.tellAnvil l).reg a = s.reg a := by
  have hout : a ≠ ANV_OUT := by rw [ha]; decide
  have hevent : a ≠ ANV_EVENT := by rw [ha]; decide
  unfold tellAnvil pldmEvent vectorTrigger
  refine reg_ite ((reg_setFld_ne _ _ _ hout).trans ((reg_setFld_ne _ _ _ hout).trans ?_)) rfl
  exact reg_ite ((sendVector_seq ha _ _).trans (reg_setFld_ne _ _ _ hevent)) (reg_setFld_ne _ _ _ hevent)

theorem notifyAnvil_seq (s : State) (q c : Nat) : (s.notifyAnvil q c).reg a = s.reg a :=
  reg_ite (tellAnvil_seq ha _ _) rfl

theorem openRec_seq (s : State) (p n k q : Nat) : (s.openRec p n k q).reg a = s.reg a := by
  unfold openRec
  refine reg_ite rfl ?_
  split
  · next m hm =>
    have hm8 : m < 8 := List.mem_range.1 (List.mem_of_find?_eq_some hm)
    exact (reg_of_flt ..).trans (reg_setReg_ne s _ (ha.trans_lt (by unfold FLT_REC FLT_SEQ; omega)).ne)
  · rfl

theorem logEvent_seq (s : State) {cls : Nat} (block cause inst detail source : Nat) (h : cls ≤ 1) :
    (s.logEvent cls block cause inst detail source).reg a = (s.recordEvent cls block cause inst detail).reg a := by
  have hup : (cls == 3 && s.escalates) = false := by
    rw [beq_eq_false_iff_ne.2 (by omega : cls ≠ 3), Bool.false_and]
  unfold logEvent
  rw [hup]
  extract_lets up cls' s1 seq s2 s3 s4 s5
  have h1 : s1.reg a = (s.recordEvent cls' block cause inst detail).reg a := showOut_seq ha _
  have h2 : s2.reg a = s1.reg a := reg_ite (sendVector_seq ha ..) rfl
  have h3 : s3.reg a = s2.reg a := reg_ite rfl rfl
  have h4 : s4.reg a = s3.reg a := notifyAnvil_seq ha ..
  have h5 : s5.reg a = s4.reg a := by
    unfold s5
    split
    · exact openRec_seq ha ..
    · rfl
  have hcls : cls' = cls := rfl
  rw [hcls, if_neg (by omega : ¬ cls = 4), if_neg (by omega : ¬ cls = 2), if_neg (by omega : ¬ cls = 3)]
  exact h5.trans (h4.trans (h3.trans (h2.trans h1)))

end

/-- R410: each event of Class 0 or 1 is counted once. -/
theorem logEvent_count (s : State) {cls : Nat} (block cause inst detail source : Nat) (h : cls ≤ 1) :
    (s.logEvent cls block cause inst detail source).fld FLT_SEQ FLT_SEQ.COUNT = (s.fld FLT_SEQ FLT_SEQ.COUNT + 1) % 2 ^ 64 := by
  have hcount := fld_setFld_self s FLT_SEQ FLT_SEQ.COUNT (s.fld FLT_SEQ FLT_SEQ.COUNT + 1) (by decide)
  rw [fld, logEvent_seq rfl s block cause inst detail source h, recordEvent_seq rfl]
  exact hcount

end State
end Sys2Proof.Machine
end

section
/-!
SUPPORT and obligation O4. Block writes (R45), snapshots (R41), rows (R45), a failed die (R47) and the clean stop (R44, R53).
-/
namespace Sys2Proof.Machine
open Sys2Proof

namespace State

/-! ### Block writes -/

/-- A block write is marked complete in die `d`. -/
def markDone (d seq : Nat) (y : BlockWrite) : BlockWrite :=
  if y.seq = seq then (if d = 0 then { y with done0 := true } else { y with done1 := true }) else y

theorem markDone_done {d seq : Nat} {z : BlockWrite} (h : (markDone d seq z).seq = seq) :
    (if d = 0 then (markDone d seq z).done0 else (markDone d seq z).done1) = true := by
  have hz : z.seq = seq := by
    unfold markDone at h
    by_contra hne
    rw [if_neg hne] at h
    exact hne h
  unfold markDone
  rw [if_pos hz]
  by_cases hd : d = 0
  · simp only [if_pos hd]
  · simp only [if_neg hd]

section
variable {s : State} {d : Fin 2} (hl : s.live = true) {seq : Nat} {x : BlockWrite}
  (hfind : s.jnl.out.find? (fun y => y.seq == seq) = some x) (hok : s.dieOk d.val = true)
  (hdone : (if d.val = 0 then x.done0 else x.done1) = false)
include hl hfind hok hdone

/-- R21: a complete write stands at its position in its die, and is marked. -/
theorem exec_blockWrite_ok : exec (.journalBlockWriteComplete d seq false) s =
    .next (let u := s.storeBlock d.val (seqIndex seq) x.bytes
      ({ u with jnl := { u.jnl with out := u.jnl.out.map (markDone d.val seq) } } : State).settle) := by
  have hexec : exec (.journalBlockWriteComplete d seq false) s = execJournalBlockWriteComplete d seq false s := rfl
  rw [hexec, execJournalBlockWriteComplete, onLive_open hl]
  dsimp only
  rw [hfind]
  dsimp only
  rw [if_neg (by rw [hdone, hok]; simp), if_neg (by simp)]
  rfl

/-- R45: a failed write marks its row and is issued again. -/
theorem exec_blockWrite_failed : exec (.journalBlockWriteComplete d seq true) s =
    .next ((s.setDie d.val { s.die d.val with
      badRows := (logRow (seqIndex seq) :: (s.die d.val).badRows).eraseDups }).emit (.journalWrite seq x.bytes)) := by
  have hexec : exec (.journalBlockWriteComplete d seq true) s = execJournalBlockWriteComplete d seq true s := rfl
  rw [hexec, execJournalBlockWriteComplete, onLive_open hl]
  dsimp only
  rw [hfind]
  dsimp only
  rw [if_neg (by rw [hdone, hok]; simp), if_pos rfl]

end

/-! ### Snapshots -/

/-- A purge of R105 that waited for a generation ends. -/
def endPurge (s : State) (p : Nat × Nat) : State := (s.setRing p.1 { s.ring p.1 with purgeFor := none }).endUnit p.2 0 0

/-- The rings whose purge waits, with the units that asked for it. -/
def purgeWaits (s : State) : List (Nat × Nat) := s.disp.rings.filterMap (fun e => e.2.purgeFor.map (fun k => (e.1, k)))

theorem endPurge_snapsKept (s : State) (p : Nat × Nat) : SnapsKept s (s.endPurge p) :=
  SnapsKept.trans (t := s.setRing p.1 { s.ring p.1 with purgeFor := none }) ⟨rfl, rfl, fun _ => rfl⟩ (endUnit_snapsKept ..)

theorem purgeWaits_eq_nil {s : State} (h : ∀ e ∈ s.disp.rings, e.2.purgeFor = none) : s.purgeWaits = [] :=
  List.filterMap_eq_nil_iff.2 fun e he => by rw [h e he]; rfl

/-- The state once a due generation is written, before purges end. -/
def snapped (s : State) : State :=
  let w := s.writeGeneration false
  { w with jnl := { w.jnl with snapAt := some (w.tb + w.snapPeriod) } }

theorem exec_snapshot_due {s : State} (hl : s.live = true) (hstate : s.fld JNL_STATUS JNL_STATUS.STATE = 3)
    (hdue : due s s.jnl.snapAt = true) :
    exec .snapshotGeneration s = .next (s.snapped.purgeWaits.foldl endPurge s.snapped) := by
  have hexec : exec .snapshotGeneration s = execSnapshotGeneration s := rfl
  rw [hexec, execSnapshotGeneration, onLive_open hl]
  dsimp only
  rw [if_pos ⟨hstate, hdue⟩]
  rfl

theorem exec_snapshot_early {s : State} (hl : s.live = true)
    (h : s.fld JNL_STATUS JNL_STATUS.STATE ≠ 3 ∨ due s s.jnl.snapAt = false) : exec .snapshotGeneration s = .next s := by
  have hexec : exec .snapshotGeneration s = execSnapshotGeneration s := rfl
  rw [hexec, execSnapshotGeneration, onLive_open hl]
  dsimp only
  rw [if_neg (by rcases h with h | h <;> simp [h])]

theorem snapped_snapAt (s : State) :
    s.snapped.jnl.snapAt = some (s.tb + 1000000 * s.fld JNL_CFG JNL_CFG.SNAP_MS) := by
  obtain ⟨htb, -, -, -, hcfg, -⟩ := writeGeneration_spec s false
  have hperiod : (s.writeGeneration false).snapPeriod = 1000000 * s.fld JNL_CFG JNL_CFG.SNAP_MS := by
    unfold snapPeriod fld ms
    rw [hcfg]
    exact Nat.mul_comm ..
  have hsnap : s.snapped.jnl.snapAt = some ((s.writeGeneration false).tb + (s.writeGeneration false).snapPeriod) := rfl
  rw [hsnap, hperiod, htb]

/-- R41: the slots of generation `g`, the one written first. -/
theorem slots_of_gens {s t : State} {d g : Nat} {bs : List Bytes} (h : t.gens d = withGen g bs (s.gens d)) :
    let slots := if g % 2 = 0 then ((t.die d).genA, (t.die d).genB, (s.die d).genB)
      else ((t.die d).genB, (t.die d).genA, (s.die d).genA)
    slots.1 = bs ∧ slots.2.1 = slots.2.2 := by
  unfold gens withGen at h
  split at h
  · next hg =>
    obtain ⟨ha, hb⟩ := Prod.mk.inj h
    simp only [if_pos hg]
    exact ⟨ha, hb⟩
  · next hg =>
    obtain ⟨ha, hb⟩ := Prod.mk.inj h
    simp only [if_neg hg]
    exact ⟨hb, ha⟩

/-! ### Rows -/

theorem exec_rowRetire_open {s : State} {d : Fin 2} {row : Fin 1048576} (hl : s.live = true) (hok : s.dieOk d.val = true)
    (hrow : s.rowQualifies d.val row.val = true) : exec (.rowRetire d row) s = .next (s.retireRow d.val row.val).settle := by
  have hexec : exec (.rowRetire d row) s = execRowRetire d row s := rfl
  rw [hexec, execRowRetire, onLive_open hl]
  rw [if_pos ⟨hok, hrow⟩]

theorem exec_rowRetire_stays {s : State} {d : Fin 2} {row : Fin 1048576} (hl : s.live = true)
    (hrow : s.rowQualifies d.val row.val = false) : exec (.rowRetire d row) s = .next s := by
  have hexec : exec (.rowRetire d row) s = execRowRetire d row s := rfl
  rw [hexec, execRowRetire, onLive_open hl]
  rw [if_neg (by simp [hrow])]

/-- R45: a retired row stands in the next spare row; the count of spares, its event, and nothing of the writes moves. -/
theorem retireRow_spec (s : State) (d row : Nat) (h : (s.die d).sparesUsed < 21504) :
    let u := s.retireRow d row
    (u.die d).rowMap.get row row = 1048576 + (s.die d).sparesUsed ∧ (u.die d).sparesUsed = (s.die d).sparesUsed + 1 ∧
      u.fld (JNL_DIE_ROWS d) JNL_DIE_ROWS.SPARE_LEFT = 21503 - (s.die d).sparesUsed ∧
      u.bit JNL_EVENT JNL_EVENT.ROW_RETIRED = true ∧ u.jnl.out = s.jnl.out := by
  have hne : JNL_DIE_ROWS d ≠ JNL_EVENT := by unfold JNL_DIE_ROWS JNL_EVENT; omega
  unfold retireRow
  rw [if_neg (by omega)]
  extract_lets s1 left s2 s3 s4 s5 s6
  have hj5 : s5.jnl = s1.jnl :=
    (setBit_jnl ..).trans ((setFld_jnl ..).trans ((setFld_jnl ..).trans (setFld_jnl ..)))
  have hleft : s4.fld (JNL_DIE_ROWS d) JNL_DIE_ROWS.SPARE_LEFT = 21503 - (s.die d).sparesUsed := by
    refine (fld_setFld_apart _ _ _ _ _ (by decide) (by decide)).trans ((fld_setFld_apart _ _ _ _ _ (by decide) (by decide)).trans
      ((fld_setFld_self _ _ _ _ (by decide)).trans ((Nat.mod_eq_of_lt (show left < 2 ^ 16 by omega)).trans ?_)))
    omega
  have hleft5 : s5.fld (JNL_DIE_ROWS d) JNL_DIE_ROWS.SPARE_LEFT = 21503 - (s.die d).sparesUsed :=
    (fld_setFld_ne _ _ _ _ hne).trans hleft
  have hbit5 : s5.bit JNL_EVENT JNL_EVENT.ROW_RETIRED = true := bit_setBit_self _ _ _ _ (by decide)
  have hmap : (s1.die d).rowMap.get row row = 1048576 + (s.die d).sparesUsed :=
    (congrArg (fun x : Die => x.rowMap.get row row) (die_setDie_self ..)).trans (Tbl.get_set_self ..)
  have hused : (s1.die d).sparesUsed = (s.die d).sparesUsed + 1 :=
    (congrArg Die.sparesUsed (die_setDie_self ..)).trans rfl
  have hout : s1.jnl.out = s.jnl.out := setDie_out ..
  unfold s6
  clear_value s5 s4 s1
  split
  · have hj : (s5.setBit JNL_EVENT JNL_EVENT.SPARE_LOW).jnl = s1.jnl := (setBit_jnl ..).trans hj5
    refine ⟨?_, ?_, (fld_setFld_ne _ _ _ _ hne).trans hleft5, ?_, ?_⟩
    · rw [die_of_jnl hj, hmap]
    · rw [die_of_jnl hj, hused]
    · exact (bit_setBit_apart _ _ (by decide) (by decide)).trans hbit5
    · rw [hj, hout]
  · exact ⟨by rw [die_of_jnl hj5, hmap], by rw [die_of_jnl hj5, hused], hleft5, hbit5, by rw [hj5, hout]⟩

/-! ### A die fails -/

theorem exec_dieFailed {s : State} {d : Fin 2} (hl : s.live = true) (hok : s.dieOk d.val = true) :
    exec (.journalDieFailed d) s = .next (s.failDie d.val).settle := by
  have hexec : exec (.journalDieFailed d) s = execJournalDieFailed d s := rfl
  rw [hexec, execJournalDieFailed, onLive_open hl]
  rw [if_pos hok]

/-- The journal once die `d` is out of service. -/
def withoutDie (s : State) (d : Nat) : State :=
  if d = 0 then
    { s with jnl := { s.jnl with failed0 := true, out := s.jnl.out.map (fun (x : BlockWrite) => { x with done0 := true }) } }
  else { s with jnl := { s.jnl with failed1 := true, out := s.jnl.out.map (fun (x : BlockWrite) => { x with done1 := true }) } }

theorem withoutDie_spec (s : State) (d : Nat) : (s.withoutDie d).dieOk d = false ∧
    (∀ y ∈ (s.withoutDie d).jnl.out, (if d = 0 then y.done0 else y.done1) = true) ∧
    (s.withoutDie d).regs = s.regs := by
  unfold withoutDie dieOk
  by_cases hd : d = 0
  · simp only [if_pos hd]
    refine ⟨rfl, fun y hy => ?_, trivial⟩
    obtain ⟨x, -, rfl⟩ := List.mem_map.1 hy
    rfl
  · simp only [if_neg hd]
    refine ⟨rfl, fun y hy => ?_, trivial⟩
    obtain ⟨x, -, rfl⟩ := List.mem_map.1 hy
    rfl

/-- R47: a failed die leaves service, with its status bits and one event. -/
theorem failDie_spec (s : State) (d : Nat) :
    let u := s.failDie d
    u.dieOk d = false ∧ u.bit JNL_STATUS (if d = 0 then JNL_STATUS.DIE0_OK else JNL_STATUS.DIE1_OK) = false ∧
      u.bit JNL_STATUS JNL_STATUS.SINGLE_DIE = true ∧ u.bit JNL_EVENT JNL_EVENT.DIE_FAILED = true ∧
      u.fld FLT_SEQ FLT_SEQ.COUNT = (s.fld FLT_SEQ FLT_SEQ.COUNT + 1) % 2 ^ 64 ∧
      ∀ y ∈ u.jnl.out, (if d = 0 then y.done0 else y.done1) = true := by
  obtain ⟨hok, hout, hregs⟩ := withoutDie_spec s d
  obtain ⟨lo, hlo, hlo1⟩ : ∃ lo, (if d = 0 then JNL_STATUS.DIE0_OK else JNL_STATUS.DIE1_OK) = ⟨lo, 1⟩ ∧ lo ≤ 1 := by
    split
    · exact ⟨0, rfl, by omega⟩
    · exact ⟨1, rfl, le_refl 1⟩
  have hdef : s.failDie d = ((((s.withoutDie d).setBit JNL_STATUS (if d = 0 then JNL_STATUS.DIE0_OK else JNL_STATUS.DIE1_OK) false).setBit
      JNL_STATUS JNL_STATUS.SINGLE_DIE).setBit JNL_EVENT JNL_EVENT.DIE_FAILED).logEvent 1 blockJnl 2 d := rfl
  rw [hdef, hlo]
  have hseq : (s.withoutDie d).fld FLT_SEQ FLT_SEQ.COUNT = s.fld FLT_SEQ FLT_SEQ.COUNT := by simp only [fld, reg, hregs]
  generalize s.withoutDie d = w at hok hout hseq
  generalize hw1 : w.setBit JNL_STATUS ⟨lo, 1⟩ false = w1
  generalize hw2 : w1.setBit JNL_STATUS JNL_STATUS.SINGLE_DIE = w2
  generalize hw3 : w2.setBit JNL_EVENT JNL_EVENT.DIE_FAILED = w3
  have hjnl : w3.jnl = w.jnl := by
    rw [← hw3, ← hw2, ← hw1]
    exact (setBit_jnl ..).trans ((setBit_jnl ..).trans (setBit_jnl ..))
  have hev := logEvent_eventOnly w3 blockJnl 2 d 0 0 (.inl (le_refl 1))
  have hstatus : ¬ EventReg JNL_STATUS := by unfold EventReg; decide
  have hevent : ¬ EventReg JNL_EVENT := by unfold EventReg; decide
  have hne : JNL_STATUS ≠ JNL_EVENT := by decide
  have hbit : ∀ f, w3.bit JNL_STATUS f = w2.bit JNL_STATUS f := fun f => by
    rw [← hw3]; exact congrArg (· == 1) (fld_setFld_ne _ _ _ _ hne)
  refine ⟨(dieOk_of_jnl (hev.jnl.trans hjnl) d).trans hok, ?_, ?_, ?_, ?_, ?_⟩
  · refine (congrArg (· == 1) (hev.fld hstatus _)).trans ((hbit _).trans ?_)
    rw [← hw2]
    refine (bit_setBit_apart _ _ (by decide) (by omega)).trans ?_
    rw [← hw1]
    exact bit_setBit_self _ _ _ _ (by omega)
  · refine (congrArg (· == 1) (hev.fld hstatus _)).trans ((hbit _).trans ?_)
    rw [← hw2]
    exact bit_setBit_self _ _ _ _ (by decide)
  · refine (congrArg (· == 1) (hev.fld hevent _)).trans ?_
    rw [← hw3]
    exact bit_setBit_self _ _ _ _ (by decide)
  · rw [logEvent_count _ _ _ _ _ _ (le_refl 1), ← hseq, ← hw3, ← hw2, ← hw1]
    refine congrArg (fun n => (n + 1) % 2 ^ 64) ?_
    exact (fld_setFld_ne _ _ _ _ (by decide)).trans ((fld_setFld_ne _ _ _ _ (by decide)).trans (fld_setFld_ne _ _ _ _ (by decide)))
  · rw [hev.jnl, hjnl]
    exact hout

/-! ### Both feeds are lost -/

theorem exec_bothFeedsLost {s : State} (hl : s.live = true) : exec .bothFeedsLostReport s = .next s.cleanStop := by
  have hexec : exec .bothFeedsLostReport s = execBothFeedsLostReport s := rfl
  rw [hexec, execBothFeedsLostReport, onLive_open hl]

/-- R44, R53: the journal ends a clean stop locked. -/
theorem cleanStop_stops {s : State} (h : s.fld JNL_STATUS JNL_STATUS.STATE = 2 ∨ s.fld JNL_STATUS JNL_STATUS.STATE = 3) :
    s.cleanStop.fld JNL_STATUS JNL_STATUS.STATE = 5 ∧ s.cleanStop.jnl.snapAt = none := by
  unfold cleanStop
  extract_lets _ s1 s2 _ s3 n s4 s5 s6 s7 s8
  rw [if_pos (show s1.fld JNL_STATUS JNL_STATUS.STATE = 3 ∨ s1.fld JNL_STATUS JNL_STATUS.STATE = 2 from h.symm)]
  have hstate : s7.fld JNL_STATUS JNL_STATUS.STATE = 5 := fld_setFld_self s6 JNL_STATUS JNL_STATUS.STATE 5 (by decide)
  clear_value s7
  exact ⟨hstate, rfl⟩

theorem cleanStop_early {s : State} (h2 : s.fld JNL_STATUS JNL_STATUS.STATE ≠ 2) (h3 : s.fld JNL_STATUS JNL_STATUS.STATE ≠ 3) :
    s.cleanStop = { s with disp := { s.disp with stopped := true } } := by
  unfold cleanStop
  extract_lets _ s1 s2 _ s3 n s4 s5 s6 s7 s8
  rw [if_neg (show ¬ (s1.fld JNL_STATUS JNL_STATUS.STATE = 3 ∨ s1.fld JNL_STATUS JNL_STATUS.STATE = 2) from fun h => h.elim h3 h2)]

end State

/-- Settles O4: one lemma for each command of the journal. -/
theorem journalUpkeep : Obligations.JournalUpkeep := by
  unfold Obligations.JournalUpkeep
  intro s d hl die state
  refine ⟨fun seq x hfind hok hdone => ⟨?_, ?_⟩, fun hstate hdue => ?_, State.exec_snapshot_early hl, fun row hok hrow hspare => ?_,
    fun row hrow => State.exec_rowRetire_stays hl hrow, fun hok => ?_, fun hstate => ?_, fun h2 h3 => ?_⟩
  · refine ⟨_, State.exec_blockWrite_ok hl hfind hok hdone, ?_, fun i hi => ?_, fun y hy hyseq => ?_⟩
    · exact (State.copyAt_storeBlock s d.val _ x.bytes d.val _).trans (if_pos ⟨Iff.rfl, rfl⟩)
    · exact (State.copyAt_storeBlock s d.val _ x.bytes d.val i).trans (if_neg fun h => hi h.2)
    · obtain ⟨z, -, rfl⟩ := List.mem_map.1 hy
      exact State.markDone_done hyseq
  · refine ⟨_, State.exec_blockWrite_failed hl hfind hok hdone, ?_, State.setDie_out .., ?_, ?_⟩
    · refine (congrArg (logRow (seqIndex seq) ∈ Die.badRows ·) (State.die_setDie_self ..)).mpr ?_
      exact List.mem_eraseDups.2 (List.mem_cons_self ..)
    · exact congrArg (Output.journalWrite seq x.bytes :: ·) (State.setDie_outputs ..)
    · exact (congrArg Die.log (State.die_setDie_self s d.val _)).trans rfl
  · obtain ⟨-, hdisp, hout, hgen, -, hgens⟩ := State.writeGeneration_spec s false
    have hkept := State.SnapsKept.foldl State.endPurge_snapsKept s.snapped.purgeWaits s.snapped
    refine ⟨_, State.exec_snapshot_due hl hstate hdue, hkept.generation.trans hgen, hkept.snapAt.trans s.snapped_snapAt,
      fun hnone => ?_, fun hok => ?_⟩
    · rw [State.purgeWaits_eq_nil (s := s.snapped) (fun e he => hnone e (hdisp ▸ he))]
      exact hout
    · have hg : (s.snapped.purgeWaits.foldl State.endPurge s.snapped).jnl.generation = s.jnl.generation + 1 := hkept.generation.trans hgen
      have hslots : (s.snapped.purgeWaits.foldl State.endPurge s.snapped).gens d.val =
          State.withGen (s.jnl.generation + 1) (s.genBlocks false (s.jnl.generation + 1)) (s.gens d.val) := by
        rw [← hgens d.val d.isLt hok]
        simp only [State.gens, hkept.die]
        rfl
      obtain ⟨hnew, hold⟩ := State.slots_of_gens hslots
      rw [hg]
      refine ⟨?_, ?_, hold⟩
      · rw [hnew, State.length_genBlocks]
      · rw [hnew]
        exact fun b hb => State.blockEpoch_genBlocks hb
  · exact ⟨_, State.exec_rowRetire_open hl hok hrow, State.retireRow_spec s d.val row.val hspare⟩
  · exact ⟨_, State.exec_dieFailed hl hok, State.failDie_spec s d.val⟩
  · exact ⟨_, State.exec_bothFeedsLost hl, State.cleanStop_stops hstate⟩
  · rw [State.exec_bothFeedsLost hl, State.cleanStop_early h2 h3]

end Sys2Proof.Machine
end

section
/-!
SUPPORT. Bindings and confirmations (R111, R112, R348), and the start of a run (R114, R116).
-/
namespace Sys2Proof

/-- No entry of a key is left where a filter takes it out. -/
theorem Tbl.get_filter_of_not {α : Type} (d : α) (t : Tbl α) (p : Nat × α → Bool) {j : Nat} (h : ∀ v, p (j, v) = false) :
    Tbl.get d (t.filter p) j = d := by
  induction t with
  | nil => rfl
  | cons e t ih =>
    obtain ⟨k, v⟩ := e
    rw [List.filter_cons]
    split
    · next hp =>
      have hk : k ≠ j := by
        rintro rfl
        rw [h v] at hp
        exact Bool.false_ne_true hp
      simp only [Tbl.get, if_neg hk, ih]
    · exact ih

/-- The table that numbers a list of words from `k + 1` on. -/
theorem Tbl.get_foldl_zipIdx (l : List Nat) (k j : Nat) (t : Tbl W64) :
    Tbl.get 0 ((l.zipIdx k).foldl (fun (t : Tbl W64) v => t.set 0 (v.2 + 1) (BitVec.ofNat 64 v.1)) t) j =
      if k < j ∧ j ≤ k + l.length then BitVec.ofNat 64 (l.getD (j - 1 - k) 0) else Tbl.get 0 t j := by
  induction l generalizing k t with
  | nil => rw [if_neg (by simp)]; rfl
  | cons x l ih =>
    rw [List.zipIdx_cons, List.foldl_cons, ih, Tbl.get_set, List.length_cons]
    by_cases h : j = k + 1
    · rw [if_neg (by omega), if_pos h, if_pos (by omega), show j - 1 - k = 0 by omega]; rfl
    · by_cases hr : k < j ∧ j ≤ k + (l.length + 1)
      · rw [if_pos (by omega), if_pos hr, show j - 1 - k = (j - 1 - (k + 1)) + 1 by omega]; rfl
      · rw [if_neg (by omega), if_neg h, if_neg hr]

end Sys2Proof

namespace Sys2Proof.Machine
open Sys2Proof

/-- A field of a word given as a number. -/
theorem getFld_ofNat {n : Nat} (h : n < 2 ^ 64) (f : Fld) : getFld (BitVec.ofNat 64 n) f = n / 2 ^ f.lo % 2 ^ f.len := by
  rw [getFld, BitVec.toNat_ofNat, Nat.mod_eq_of_lt h, Nat.shiftRight_eq_div_pow]

namespace State

/-! ### Registers -/

theorem fld_of_regs {s t : State} (h : t.regs = s.regs) (a : Nat) (f : Fld) : t.fld a f = s.fld a f := by
  simp only [fld, reg, h]

/-- `t` is `s` with other registers. -/
def RegsOnly (s t : State) : Prop := t = { s with regs := t.regs }

theorem RegsOnly.rfl {s : State} : RegsOnly s s := Eq.refl s

theorem RegsOnly.trans {s t u : State} (h : RegsOnly s t) (h' : RegsOnly t u) : RegsOnly s u := by
  unfold RegsOnly at h h' ⊢
  rw [h', h]

theorem RegsOnly.setFld (s : State) (a : Nat) (f : Fld) (n : Nat) : RegsOnly s (s.setFld a f n) := Eq.refl (s.setFld a f n)

theorem RegsOnly.disp {s t : State} (h : RegsOnly s t) : t.disp = s.disp := by rw [h]
theorem RegsOnly.cru {s t : State} (h : RegsOnly s t) : t.cru = s.cru := by rw [h]
theorem RegsOnly.procs {s t : State} (h : RegsOnly s t) : t.procs = s.procs := by rw [h]

/-! ### Restarts -/

theorem meterUnit_cru (s : State) (u : WorkUnit) (restart : Bool) : ∃ x, s.meterUnit u restart = { s with cru := x } := by
  unfold meterUnit
  split
  · exact ⟨_, rfl⟩
  · cases restart <;> cases u.foreign <;> exact ⟨_, rfl⟩

/-- R128: a durable restart queues its unit, with its count advanced. -/
theorem restartDurable_spec {s : State} {k : Nat} {u : WorkUnit} (hu : s.unit? k = some u) (hp : u.phase = .restarting) :
    let t := s.restartDurable k
    t.unit? k = some { u with phase := .queued, restarts := u.restarts + 1, closed := false } ∧
      t.bit UOW_EVENT UOW_EVENT.RESTART = true ∧ t.mem = s.mem := by
  unfold restartDurable
  rw [hu]
  dsimp only
  rw [if_pos hp]
  generalize hv : ({ u with phase := .queued, restarts := u.restarts + 1, closed := false } : WorkUnit) = v
  generalize hw : (s.setUnit k v).setBit UOW_EVENT UOW_EVENT.RESTART = w
  have hbit : w.bit UOW_EVENT UOW_EVENT.RESTART = true := by rw [← hw]; exact bit_setBit_self _ _ _ _ (by decide)
  have hunit : w.unit? k = some v := by rw [← hw]; exact unit?_setUnit_self s k v
  have hmem : w.mem = s.mem := by rw [← hw]; rfl
  obtain ⟨x, hx⟩ := meterUnit_cru (w.bump UOW_RESTARTS UOW_RESTARTS.COUNT) u true
  rw [hx]
  refine ⟨hunit, ?_, hmem⟩
  exact (congrArg (· == 1) ((fld_of_regs rfl _ _).trans (fld_setFld_ne w _ _ _ (by decide)))).trans hbit

/-! ### Bindings -/

/-- The word that a binding of a pair that runs nothing leaves: awaiting its confirmation, or free. -/
def bindWord (en : Bool) (part : Nat) : W64 :=
  BitVec.ofNat 64 (if en then 2 ^ 31 + 2 ^ 28 + part * 2 ^ 16 else part * 2 ^ 16)

theorem bindWord_fields (en : Bool) {part : Nat} (h : part < 2 ^ 10) :
    getFld (bindWord en part) UOW_PAIR_BIND.PARTITION = part ∧ (getFld (bindWord en part) UOW_PAIR_BIND.EN == 1) = en ∧
      getFld (bindWord en part) UOW_PAIR_BIND.STATE = if en then 1 else 0 := by
  unfold bindWord
  have hlt : (if en = true then 2 ^ 31 + 2 ^ 28 + part * 2 ^ 16 else part * 2 ^ 16) < 2 ^ 64 := by split <;> omega
  simp only [getFld_ofNat hlt, UOW_PAIR_BIND.PARTITION, UOW_PAIR_BIND.EN, UOW_PAIR_BIND.STATE]
  cases en
  · refine ⟨?_, ?_, ?_⟩ <;> simp <;> omega
  · refine ⟨?_, ?_, ?_⟩ <;> simp <;> omega

/-- R111: a request on a free slot is written, and confirmed by the owner where it binds. -/
theorem applyBind_free {s : State} {pair : Nat} (hstate : s.fld (UOW_PAIR_BIND pair) UOW_PAIR_BIND.STATE = 0) (en : Bool)
    {part : Nat} (hpart : part < 2 ^ 10) :
    let t := s.applyBind pair en part
    t.fld (UOW_PAIR_BIND pair) UOW_PAIR_BIND.PARTITION = part ∧ t.bit (UOW_PAIR_BIND pair) UOW_PAIR_BIND.EN = en ∧
      t.fld (UOW_PAIR_BIND pair) UOW_PAIR_BIND.STATE = (if en then 1 else 0) ∧
      t.cru.confirms = s.cru.confirms ++ (if en then [(1, pair, part)] else []) := by
  have hreg : (s.applyBind pair en part).reg (UOW_PAIR_BIND pair) = bindWord en part := by
    unfold applyBind
    cases en
    · exact reg_setReg_self ..
    · dsimp only
      rw [if_pos rfl, if_neg (by rw [hstate]; simp)]
      exact reg_setReg_self ..
  have hconf : (s.applyBind pair en part).cru.confirms = s.cru.confirms ++ (if en then [(1, pair, part)] else []) := by
    unfold applyBind
    cases en
    · exact (List.append_nil _).symm
    · dsimp only
      rw [if_pos rfl, if_neg (by rw [hstate]; simp)]
      rfl
  obtain ⟨hp, he, hs⟩ := bindWord_fields en hpart
  refine ⟨?_, ?_, ?_, hconf⟩
  · rw [fld, hreg, hp]
  · rw [bit, fld, hreg, he]
  · rw [fld, hreg, hs]

section
variable {s : State} {pair : Fin 160} {v : BitVec 32} (hl : s.live = true)

/-- The fields of a binding request. -/
theorem bindRequest_fields (v : BitVec 32) : (getFld (BitVec.ofNat 64 v.toNat) UOW_PAIR_BIND.EN == 1) = v.getLsbD 31 ∧
    getFld (BitVec.ofNat 64 v.toNat) UOW_PAIR_BIND.PARTITION = v.toNat / 2 ^ 16 % 2 ^ 10 := by
  have hlt : v.toNat < 2 ^ 64 := v.isLt.trans (by decide)
  refine ⟨?_, getFld_ofNat hlt _⟩
  rw [getFld_ofNat hlt, BitVec.getLsbD, Nat.testBit_eq_decide_div_mod_eq]
  exact Bool.beq_eq_decide_eq _ _

include hl

theorem exec_pairBind : exec (.pairBindRequest pair v) s = .next (s.bindWrite pair.val (BitVec.ofNat 64 v.toNat)) := by
  have hexec : exec (.pairBindRequest pair v) s = execPairBindRequest pair v s := rfl
  rw [hexec, execPairBindRequest, onLive_open hl]

end

theorem bindWrite_locked {s : State} {pair : Nat} (v : W64) (h : s.fld (UOW_PAIR_BIND pair) UOW_PAIR_BIND.STATE = 5) :
    s.bindWrite pair v = s := by
  unfold bindWrite
  dsimp only
  rw [if_pos h]

theorem bindWrite_free {s : State} {pair : Nat} (v : W64) (h : s.fld (UOW_PAIR_BIND pair) UOW_PAIR_BIND.STATE ≠ 5)
    (hbusy : (s.slotBusy pair || s.slotAssay pair) = false) :
    s.bindWrite pair v = s.applyBind pair (getFld v UOW_PAIR_BIND.EN == 1) (getFld v UOW_PAIR_BIND.PARTITION) := by
  unfold bindWrite
  dsimp only
  rw [if_neg h, hbusy, if_neg Bool.false_ne_true]

/-- R112: a request of another partition on a slot that runs drains the slot. -/
theorem bindWrite_drains {s : State} {pair : Nat} (v : W64) (h : s.fld (UOW_PAIR_BIND pair) UOW_PAIR_BIND.STATE ≠ 5)
    (hbusy : (s.slotBusy pair || s.slotAssay pair) = true) (hrun : s.slotPart pair ≠ some (getFld v UOW_PAIR_BIND.PARTITION))
    (hfld : s.fld (UOW_PAIR_BIND pair) UOW_PAIR_BIND.PARTITION ≠ getFld v UOW_PAIR_BIND.PARTITION) :
    let t := s.bindWrite pair v
    t.fld (UOW_PAIR_BIND pair) UOW_PAIR_BIND.STATE = 4 ∧ t.disp.runs = s.disp.runs ∧ t.disp.units = s.disp.units ∧
      t.procs = s.procs ∧ t.disp.bindWait.get none pair = some v.toNat := by
  have hold : (s.slotPart pair).getD (s.fld (UOW_PAIR_BIND pair) UOW_PAIR_BIND.PARTITION) ≠ getFld v UOW_PAIR_BIND.PARTITION := by
    cases hp : s.slotPart pair with
    | none => exact hfld
    | some p => exact fun he => hrun (hp.trans (congrArg some he))
  unfold bindWrite
  generalize UOW_PAIR_BIND pair = a at h hfld hold ⊢
  dsimp only
  rw [if_neg h, hbusy, if_pos rfl, if_neg (by rw [Bool.and_eq_true]; exact fun hc => hold (beq_iff_eq.1 hc.2))]
  generalize hw : (s.setBit a UOW_PAIR_BIND.EN (getFld v UOW_PAIR_BIND.EN == 1)).setFld a UOW_PAIR_BIND.PARTITION
    (getFld v UOW_PAIR_BIND.PARTITION) = w
  have hdisp : w.disp = s.disp := by rw [← hw]; exact (setFld_disp ..).trans (setBit_disp ..)
  have hprocs : w.procs = s.procs := by rw [← hw]; exact (setFld_procs ..).trans (setBit_procs ..)
  refine ⟨fld_setFld_self _ _ UOW_PAIR_BIND.STATE 4 (by decide), ?_, ?_, (setFld_procs ..).trans hprocs, ?_⟩
  · rw [setFld_disp, ← hdisp]
  · rw [setFld_disp, ← hdisp]
  · rw [setFld_disp]
    simp only [Tbl.get_set_self]

/-! ### Confirmations -/

/-- R348: Crucible confirms only for a partition being restored or running. -/
theorem partState_of_confirms {s : State} {kind index part : Nat} (h : s.confirms kind index part = true) :
    s.fld (CRU_PART part) CRU_PART.STATE = 3 ∨ s.fld (CRU_PART part) CRU_PART.STATE = 4 := by
  unfold confirms at h
  simp only [Bool.and_eq_true, Bool.or_eq_true, beq_iff_eq] at h
  exact h.1.1

/-- R253, R273, R292: the state of an awaiting queue follows the answer for its owner. -/
theorem queueAnswer_state {s : State} {status event : Nat} {stateF errF bit : Fld} (ok : Bool)
    (h : s.fld status stateF = 1) (hne : status ≠ event) (hs : stateF.lo + stateF.len ≤ 64) (he : errF.lo + errF.len ≤ 64)
    (hlen : stateF.len = 2) (hapart : stateF.lo + stateF.len ≤ errF.lo) :
    (s.queueAnswer status stateF errF event bit ok).fld status stateF = if ok then 2 else 0 := by
  unfold queueAnswer
  rw [if_neg (not_not.2 h)]
  cases ok
  · refine (fld_setFld_ne _ _ _ _ hne).trans ((fld_setFld_apart _ _ _ _ _ he (.inl hapart)).trans
      ((fld_setFld_self _ _ _ _ hs).trans (Nat.zero_mod _)))
  · refine (fld_setFld_self _ _ _ _ hs).trans ?_
    rw [hlen]
    rfl

theorem queueAnswer_confirms (s : State) (status event : Nat) (stateF errF bit : Fld) (ok : Bool) :
    (s.queueAnswer status stateF errF event bit ok).cru = s.cru := by
  unfold queueAnswer
  split
  · rfl
  · cases ok
    · exact (setBit_cru ..).trans ((setFld_cru ..).trans (setFld_cru ..))
    · exact setFld_cru ..

/-- R111: an awaiting binding follows its answer. -/
theorem bindAnswer_state {s : State} {pair part : Nat} (ok : Bool)
    (hstate : s.fld (UOW_PAIR_BIND pair) UOW_PAIR_BIND.STATE = 1)
    (hpart : s.fld (UOW_PAIR_BIND pair) UOW_PAIR_BIND.PARTITION = part) :
    let t := s.bindAnswer pair part ok
    t.fld (UOW_PAIR_BIND pair) UOW_PAIR_BIND.STATE = (if ok then 2 else 0) ∧
      (ok = false → t.bit (UOW_PAIR_BIND pair) UOW_PAIR_BIND.EN = false ∧ t.bit UOW_EVENT UOW_EVENT.BIND_REFUSED = true) := by
  have hne : UOW_PAIR_BIND pair ≠ UOW_EVENT := by unfold UOW_PAIR_BIND UOW_EVENT; omega
  unfold bindAnswer
  generalize UOW_PAIR_BIND pair = a at hstate hpart hne ⊢
  dsimp only
  rw [if_neg (by simp [hstate, hpart])]
  cases ok
  · refine ⟨(fld_setFld_ne _ _ _ _ hne).trans (fld_setFld_self _ _ UOW_PAIR_BIND.STATE 0 (by decide)), fun _ => ⟨?_, bit_setBit_self _ _ _ _ (by decide)⟩⟩
    exact (congrArg (· == 1) ((fld_setFld_ne _ _ _ _ hne).trans (fld_setFld_apart _ _ _ _ _ (by decide) (by decide)))).trans
      (bit_setBit_self _ _ _ _ (by decide))
  · exact ⟨fld_setFld_self _ _ UOW_PAIR_BIND.STATE 2 (by decide), fun h => absurd h (by decide)⟩

theorem bindAnswer_confirms (s : State) (pair part : Nat) (ok : Bool) : (s.bindAnswer pair part ok).cru = s.cru := by
  unfold bindAnswer
  dsimp only
  split
  · rfl
  · cases ok
    · exact (setBit_cru ..).trans ((setFld_cru ..).trans (setBit_cru ..))
    · exact setFld_cru ..

/-- R302: a refused device keeps awaiting. -/
theorem deviceAnswer_refused {s : State} {d : Nat} (h : s.fld (CHN_DEV_CFG d) CHN_DEV_CFG.STATE = 1) :
    (s.deviceAnswer d false).fld (CHN_DEV_CFG d) CHN_DEV_CFG.STATE = 1 ∧
      (s.deviceAnswer d false).bit CHN_EVENT CHN_EVENT.OWNER_REFUSED = true := by
  have hne : CHN_DEV_CFG d ≠ CHN_EVENT := by unfold CHN_DEV_CFG CHN_EVENT; omega
  unfold deviceAnswer
  rw [if_neg (not_not.2 h), if_neg Bool.false_ne_true]
  generalize CHN_DEV_CFG d = a at h hne ⊢
  exact ⟨(fld_setFld_ne _ _ _ _ hne).trans h, bit_setBit_self _ _ _ _ (by decide)⟩

theorem deviceAnswer_confirms (s : State) (d : Nat) (ok : Bool) : (s.deviceAnswer d ok).cru = s.cru := by
  unfold deviceAnswer
  split
  · rfl
  · cases ok
    · exact setBit_cru ..
    · exact setFld_cru ..

/-- The answer of each kind of question. -/
def answerOf (s : State) (kind index part : Nat) (ok : Bool) : State :=
  match kind with
  | 1 => s.bindAnswer index part ok
  | 2 => s.queueAnswer (SWG_Q_STATUS index) SWG_Q_STATUS.STATE SWG_Q_STATUS.ERR SWG_EVENT SWG_EVENT.OWNER_REFUSED ok
  | 3 => s.queueAnswer (CIP_Q_STATUS index) CIP_Q_STATUS.STATE CIP_Q_STATUS.ERR CIP_EVENT CIP_EVENT.OWNER_REFUSED ok
  | 4 => s.queueAnswer (CHN_Q_STATUS index) CHN_Q_STATUS.STATE CHN_Q_STATUS.ERR CHN_EVENT CHN_EVENT.OWNER_REFUSED ok
  | _ => s.deviceAnswer index ok

theorem answerOf_cru (s : State) (kind index part : Nat) (ok : Bool) : (s.answerOf kind index part ok).cru = s.cru := by
  unfold answerOf
  split
  · exact bindAnswer_confirms ..
  · exact queueAnswer_confirms ..
  · exact queueAnswer_confirms ..
  · exact queueAnswer_confirms ..
  · exact deviceAnswer_confirms ..

section
variable {s : State} {kind : Fin 6} {index : Fin 1024} {c : Nat × Nat × Nat} (hl : s.live = true)
  (hfind : s.cru.confirms.find? (fun c => c.1 == kind.val && c.2.1 == index.val) = some c)
include hl hfind

theorem exec_confirmation_waits (h : s.fld CRU_STATUS CRU_STATUS.STATE ≠ 1) :
    exec (.ownerConfirmation kind index) s = .next s := by
  have hexec : exec (.ownerConfirmation kind index) s = execOwnerConfirmation kind index s := rfl
  rw [hexec, execOwnerConfirmation, onLive_open hl, answer, hfind]
  dsimp only
  rw [if_pos h]

theorem exec_confirmation (h : s.fld CRU_STATUS CRU_STATUS.STATE = 1) :
    exec (.ownerConfirmation kind index) s =
      .next (({ s with cru := { s.cru with confirms := s.cru.confirms.erase c } } : State).answerOf kind.val index.val c.2.2
        (s.confirms kind.val index.val c.2.2)) := by
  have hexec : exec (.ownerConfirmation kind index) s = execOwnerConfirmation kind index s := rfl
  rw [hexec, execOwnerConfirmation, onLive_open hl, answer, hfind]
  dsimp only
  rw [if_neg (not_not.2 h)]
  rfl

end

/-! ### The start of a run -/

theorem startable_iff {s : State} {rk : Nat} {v : WorkUnit} (h : s.startable rk v = true) {x : Nat × WorkUnit}
    (hx : x ∈ s.ringUnits rk) : v.asn < x.2.asn + 4096 ∧ (x.2.phase = .restarting → v.asn ≤ x.2.asn) := by
  unfold startable at h
  have hall := List.all_eq_true.1 h x.2 (List.mem_map_of_mem hx)
  simp only [Bool.and_eq_true, decide_eq_true_eq, Bool.not_eq_true', Bool.and_eq_false_iff, beq_eq_false_iff_ne,
    decide_eq_false_iff_not] at hall
  exact ⟨hall.1, fun hp => hall.2.elim (absurd hp) not_lt.1⟩

/-- R116: the processor as a run of partition `p` enters it. -/
def entered (s : State) (p e entry : Nat) (gs : List Nat) (unit : Bool) : ProcState :=
  let b := (s.partRec p).block
  let x := s.proc e
  let g := (gs ++ [e / 2, e]).zipIdx.foldl (fun (t : Tbl W64) v => t.set 0 (v.2 + 1) (BitVec.ofNat 64 v.1)) []
  let psr := 1 + 2 ^ 4 + (if unit then 2 ^ 5 else 0) + s.fld (CRU_PART p) CRU_PART.WTAG * 2 ^ 16
  let y : ProcState := { x with
    g := g.set 0 62 (BitVec.ofNat 64 (leAt b 24 8 + (e + 1) * leAt b 4 4)), f := [], lk := 0
    sp := x.sp.filter (fun r => decide (0x040 ≤ r.1))
    part := some p, segs := blockSegs b, waiting := false, suspended := none }
  ((y.setSp spPsr (BitVec.ofNat 64 psr)).setSp spEvbase (BitVec.ofNat 64 (leAt b 32 8))).setPc (BitVec.ofNat 64 entry)

theorem enterPart_eq (s : State) (p e entry : Nat) (gs : List Nat) (unit : Bool) :
    s.enterPart p e entry gs unit = (s.setProc e (s.entered p e entry gs unit)).meterRunStart e := rfl

section
variable (s : State) (p e entry : Nat) (gs : List Nat) (unit : Bool)

/-- R116: the registers of a run as it starts. -/
theorem entered_g {r : Nat} : (s.entered p e entry gs unit).g.get 0 r =
    if r = 62 then BitVec.ofNat 64 (leAt (s.partRec p).block 24 8 + (e + 1) * leAt (s.partRec p).block 4 4)
    else if 0 < r ∧ r ≤ 0 + (gs ++ [e / 2, e]).length then BitVec.ofNat 64 ((gs ++ [e / 2, e]).getD (r - 1 - 0) 0) else 0 := by
  have h := Tbl.get_foldl_zipIdx (gs ++ [e / 2, e]) 0 r []
  show Tbl.get 0 (Tbl.set 0 _ 62 _) r = _
  rw [Tbl.get_set, h]
  rfl

theorem entered_fpc : (s.entered p e entry gs unit).getSp spFpc = 0 := by
  show Tbl.get 0 (Tbl.set 0 (Tbl.set 0 _ spPsr _) spEvbase _) spFpc = 0
  rw [Tbl.get_set_ne _ _ _ (by decide), Tbl.get_set_ne _ _ _ (by decide)]
  exact Tbl.get_filter_of_not _ _ _ fun _ => rfl

theorem entered_psr : (s.entered p e entry gs unit).psr =
    BitVec.ofNat 64 (1 + 2 ^ 4 + (if unit then 2 ^ 5 else 0) + s.fld (CRU_PART p) CRU_PART.WTAG * 2 ^ 16) := by
  show Tbl.get 0 (Tbl.set 0 (Tbl.set 0 _ spPsr _) spEvbase _) spPsr = _
  rw [Tbl.get_set_ne _ _ _ (by decide), Tbl.get_set_self]

end

/-- R116: a run of a unit is at supervisor level, in a unit and sealed. -/
theorem unitPsr_fields {w : Nat} (h : w < 2 ^ 11) :
    getFld (BitVec.ofNat 64 (1 + 2 ^ 4 + 2 ^ 5 + w * 2 ^ 16)) PSR.PL = 1 ∧
    getFld (BitVec.ofNat 64 (1 + 2 ^ 4 + 2 ^ 5 + w * 2 ^ 16)) PSR.UNIT = 1 ∧
    getFld (BitVec.ofNat 64 (1 + 2 ^ 4 + 2 ^ 5 + w * 2 ^ 16)) PSR.SEALED = 1 := by
  have hlt : 1 + 2 ^ 4 + 2 ^ 5 + w * 2 ^ 16 < 2 ^ 64 := by omega
  simp only [getFld_ofNat hlt, PSR.PL, PSR.UNIT, PSR.SEALED]
  omega

/-- R113: the slot shows a run in its registers alone. -/
theorem showRun_regsOnly (s : State) (e st fn ring asn : Nat) : RegsOnly s (s.showRun e st fn ring asn) := by
  unfold showRun
  dsimp only
  split
  · exact (((RegsOnly.setFld ..).trans (.setFld ..)).trans (.setFld ..)).trans (.setFld ..)
  · exact .rfl

theorem showRun_state (s : State) {e st fn ring asn : Nat} (he : e % 2 = 0) (hst : st < 8) :
    (s.showRun e st fn ring asn).fld (UOW_PAIR_BIND (e / 2)) UOW_PAIR_BIND.STATE = st := by
  have hne : UOW_PAIR_BIND (e / 2) ≠ UOW_PAIR_ASN (e / 2) := by unfold UOW_PAIR_BIND UOW_PAIR_ASN; omega
  unfold showRun
  dsimp only
  rw [if_pos he]
  generalize UOW_PAIR_BIND (e / 2) = a at hne ⊢
  generalize UOW_PAIR_ASN (e / 2) = b at hne ⊢
  exact (fld_setFld_ne _ _ _ _ hne).trans ((fld_setFld_apart _ _ _ _ _ (by decide) (by decide)).trans
    ((fld_setFld_apart _ _ _ _ _ (by decide) (by decide)).trans
      ((fld_setFld_self _ _ _ _ (by decide)).trans (Nat.mod_eq_of_lt hst))))

end State
end Sys2Proof.Machine
end

section
/-!
SUPPORT and obligation O13. Dispatch (R114 to R116), the Commit Record (R122), restarts (R128) and stops (R130).
-/
namespace Sys2Proof.Machine
open Sys2Proof

/-! ### Commit Records -/

theorem length_recHead (type flags fn ring b5 part : Nat) : (recHead type flags fn ring b5 part).length = 8 := by
  simp only [recHead, List.length_append, length_leBytes]

/-- R38: the type and the first word of a block of a Commit Record. -/
theorem commitBody_fields (type flags fn ring count part asn w0 : Nat) (ids devs : List Nat) :
    leAt (commitBody type flags fn ring count part asn w0 ids devs) 0 1 = type % 2 ^ 8 ∧
      leAt (commitBody type flags fn ring count part asn w0 ids devs) 16 8 = w0 % 2 ^ 64 := by
  constructor
  · have h := leAt_append [] (leBytes 1 flags ++ leBytes 2 (fn % 2048) ++ leBytes 1 (if ring = 16 then 0 else ring)
      ++ leBytes 1 count ++ leBytes 2 (part % 1024) ++ leBytes 8 asn ++ leBytes 8 w0
      ++ padTo 24 (ids.map (leBytes 8)).flatten ++ padTo 8 (devs.map (leBytes 2)).flatten) 1 type
    rw [← h]
    simp only [commitBody, recHead, List.append_assoc, List.nil_append]
    rfl
  · have h := leAt_append (recHead type flags fn ring count part ++ leBytes 8 asn)
      (padTo 24 (ids.map (leBytes 8)).flatten ++ padTo 8 (devs.map (leBytes 2)).flatten) 8 w0
    have hlen : (recHead type flags fn ring count part ++ leBytes 8 asn).length = 16 := by
      rw [List.length_append, length_recHead, length_leBytes]
    rw [hlen] at h
    rw [← h]
    simp only [commitBody, List.append_assoc]

/-- R38: four exchanges stand in each continuation block. -/
theorem length_commitRest (flags fn ring part asn fuel k : Nat) (xs : List (Nat × Nat)) (h : xs.length ≤ 4 * fuel) :
    (commitRest flags fn ring part asn fuel k xs).length = (xs.length + 3) / 4 := by
  induction fuel generalizing k xs with
  | zero => rw [List.length_eq_zero_iff.1 (by omega : xs.length = 0)]; rfl
  | succ fuel ih =>
    unfold commitRest
    split
    · rfl
    · next x xs =>
      have hlen := ih (k + 1) ((x :: xs).drop 4) (by rw [List.length_drop]; omega)
      rw [List.length_cons, hlen, List.length_drop, List.length_cons]
      omega

theorem length_commitBlocks (flags fn ring part asn result : Nat) {xs : List (Nat × Nat)} (h : xs.length ≤ 64) :
    (commitBlocks flags fn ring part asn result xs).length = 1 + xs.length / 4 := by
  rw [commitBlocks, List.length_cons, length_commitRest _ _ _ _ _ _ _ _ (by rw [List.length_drop]; omega), List.length_drop]
  omega

theorem commitBlocks_head (flags fn ring part asn result : Nat) (xs : List (Nat × Nat)) :
    leAt ((commitBlocks flags fn ring part asn result xs).headD []) 0 1 = 3 ∧
      leAt ((commitBlocks flags fn ring part asn result xs).headD []) 16 8 = result % 2 ^ 64 := by
  rw [commitBlocks, List.headD_cons]
  exact commitBody_fields ..

namespace State

theorem unit?_of_disp {s t : State} (h : t.disp = s.disp) (k : Nat) : t.unit? k = s.unit? k := by simp only [unit?, h]

theorem proc_of_procs {s t : State} (h : t.procs = s.procs) (n : Nat) : t.proc n = s.proc n := by simp only [proc, h]

theorem run_setRun_self (s : State) (e : Nat) (r : ExecRun) : (s.setRun e r).run e = r := by simp [run, setRun]

/-! ### Dispatch -/

/-- R116: a unit starts on executor `e`: its registers, its slot, and what it leaves alone. -/
theorem startUnit_spec (s : State) (k e : Nat) (u : WorkUnit) :
    ∃ w : State, RegsOnly ((s.setUnit k { u with phase := .executing, exec := some e, closed := false, exchanges := [], refused := none }).setRun
        e (.unit k)) w ∧
      (e % 2 = 0 → w.fld (UOW_PAIR_BIND (e / 2)) UOW_PAIR_BIND.STATE = 3) ∧
      s.startUnit k e u = (w.setProc e (w.entered u.part e (leAt (s.partRec u.part).block 8 8)
        [leAt u.args 0 8, leAt u.args 8 8, leAt u.args 16 8, leAt u.args 24 8, u.asn, u.restarts] true)).meterRunStart e := by
  refine ⟨_, showRun_regsOnly _ e 3 u.fn u.ring u.asn, fun he => showRun_state _ he (by decide), ?_⟩
  have hpart : ((((s.setUnit k { u with phase := .executing, exec := some e, closed := false, exchanges := [], refused := none }).setRun
      e (.unit k)).showRun e 3 u.fn u.ring u.asn)).partRec u.part = s.partRec u.part := by
    rw [partRec, (showRun_regsOnly ..).cru]
    rfl
  rw [← hpart]
  exact enterPart_eq ..

section
variable {s : State} {p : Fin 1024} {e : Fin 320} (hl : s.live = true) (hr : s.isReady = true)
include hl hr

theorem exec_unitStart : exec (.unitStart p e) s = .next (s.dispatch p.val e.val) := by
  have hexec : exec (.unitStart p e) s = execUnitStart p e s := rfl
  rw [hexec, execUnitStart, onLive_open hl, if_pos hr]

end

section
variable {s : State} {p e rk k : Nat} {u : WorkUnit}

theorem dispatch_restored (h : s.fld (CRU_PART p) CRU_PART.STATE = 3) : s.dispatch p e = s := by
  unfold dispatch
  dsimp only
  rw [if_pos h]

/-- R115: a unit of a partition that is neither restored nor running ends. -/
theorem dispatch_notRunnable (h3 : s.fld (CRU_PART p) CRU_PART.STATE ≠ 3) (h4 : s.fld (CRU_PART p) CRU_PART.STATE ≠ 4)
    (hrk : (s.ringsInTurn p).head? = some rk) (hk : s.firstQueued rk = some (k, u)) :
    s.dispatch p e = (s.passTurn p rk).endUnit k 4 0 := by
  obtain ⟨l, hl⟩ := List.head?_eq_some_iff.1 hrk
  unfold dispatch
  dsimp only
  rw [if_neg h3, if_neg h4, hl]
  dsimp only
  rw [hk]

/-- R114: in a running partition the unit chosen starts on the executor, if it may take it. -/
theorem dispatch_running (h4 : s.fld (CRU_PART p) CRU_PART.STATE = 4)
    (hrk : (s.ringsInTurn p).find? (fun rk => decide (s.ringRunning rk < 2 ^ s.fld (UOW_PART_CFG p) UOW_PART_CFG.RING_CONC) &&
      (s.firstQueued rk).any (fun x => s.startable rk x.2)) = some rk)
    (hk : s.firstQueued rk = some (k, u)) :
    s.dispatch p e = if s.execIdleFor p e then (s.passTurn p rk).startUnit k e u else s := by
  have hpred : (fun rk => decide (s.ringRunning rk < 2 ^ s.fld (UOW_PART_CFG p) UOW_PART_CFG.RING_CONC) &&
      (match s.firstQueued rk with
        | some (_, u) => s.startable rk u
        | none => false)) =
      fun rk => decide (s.ringRunning rk < 2 ^ s.fld (UOW_PART_CFG p) UOW_PART_CFG.RING_CONC) &&
        (s.firstQueued rk).any (fun x => s.startable rk x.2) := by
    funext rk
    cases s.firstQueued rk <;> rfl
  unfold dispatch
  dsimp only
  rw [if_neg (by rw [h4]; decide), if_pos h4, show List.find? _ (s.ringsInTurn p) = some rk from hpred ▸ hrk]
  dsimp only
  rw [hk]

end

/-! ### Prepared units, restarts and stops -/

section
variable {s : State} {f : Fin 9225} {r : Fin 16} {asn k : Nat} {u : WorkUnit} (hl : s.live = true)
  (hk : k = unitKey (ringOf f.val r.val) asn)
include hl hk

theorem exec_unitPrepared : exec (.unitPrepared f r asn) s = .next (s.prepared k) := by
  have hexec : exec (.unitPrepared f r asn) s = execUnitPrepared f r asn s := rfl
  rw [hexec, execUnitPrepared, onLive_open hl, ← hk]

theorem exec_unitRestart (hu : s.unit? k = some u) (poison : Bool) : exec (.unitRestart f r asn poison) s =
    .next (if u.phase = .executing then s.restartUnit k (if poison then 2 else 1) else s) := by
  have hexec : exec (.unitRestart f r asn poison) s = execUnitRestart f r asn poison s := rfl
  rw [hexec, execUnitRestart, onLive_open hl]
  dsimp only
  rw [← hk, hu]

end

section
variable {s : State} {k : Nat} {u : WorkUnit} (hu : s.unit? k = some u)
include hu

theorem prepared_waits (h : u.aborts ≠ [] ∨ s.unitProgs k ≠ [] ∨ s.originAborted u = false ∨ u.phase ≠ .preparing ∨
    u.refused ≠ none ∨ s.ringServed (keyRing k) = false) : s.prepared k = s := by
  unfold prepared
  rw [hu]
  dsimp only
  refine if_neg ?_
  rintro ⟨hphase, -, -, haborts, hprogs, horigin, -, hrefused, hserved⟩
  rcases h with h | h | h | h | h | h
  · exact h haborts
  · exact h hprogs
  · exact Bool.false_ne_true (h.symm.trans horigin)
  · exact h hphase
  · exact h (Option.isNone_iff_eq_none.1 hrefused)
  · exact Bool.false_ne_true (h.symm.trans hserved)

/-- R122: a prepared unit ends, or writes its Commit Record. -/
theorem prepared_ends (hphase : u.phase = .preparing) (hcommit : u.commitIssued = false) (hcompl : u.complIssued = false)
    (haborts : u.aborts = []) (hprogs : s.unitProgs k = []) (horigin : s.originAborted u = true) (hrefused : u.refused = none)
    (hserved : s.ringServed (keyRing k) = true) (hheld : ∀ x ∈ u.exchanges, x.phase = .held) :
    s.prepared k = if u.exchanges = [] then s.endUnit k 0 u.result
      else (s.setUnit k { u with commitIssued := true }).writeRecord
        (commitBlocks (unitFlags (s.setUnit k { u with commitIssued := true }) u) u.fn u.ring u.part u.asn u.result
          (u.exchanges.map (fun x => (x.id, x.dev)))) (.commit k) (s.ring (keyRing k)).mirror := by
  unfold prepared
  rw [hu]
  dsimp only
  exact if_pos ⟨hphase, by rw [hcommit]; rfl, by rw [hcompl]; rfl, haborts, hprogs, horigin,
    List.all_eq_true.2 fun x hx => beq_iff_eq.2 (hheld x hx), by rw [hrefused]; rfl, hserved⟩

/-- R127: with its budget spent a unit is aborted. -/
theorem restartUnit_spent (hcompl : u.complIssued = false) (hbudget : u.budget ≤ u.restarts) (cause : Nat) :
    s.restartUnit k cause = s.abortUnit k 2 cause := by
  unfold restartUnit
  rw [hu]
  dsimp only
  rw [if_neg (by rw [hcompl]; exact Bool.false_ne_true), if_pos hbudget]

end

theorem exec_partitionStop {s : State} {p : Fin 1024} (hl : s.live = true) : exec (.partitionStop p) s =
    .next (if s.fld (CRU_PART p.val) CRU_PART.STATE = 5 then s.stopPart p.val else s) := by
  have hexec : exec (.partitionStop p) s = execPartitionStop p s := rfl
  rw [hexec, execPartitionStop, onLive_open hl]

/-- R130, R355: no suspended world of a stopped partition is left. -/
theorem stopPart_suspended (s : State) (p : Nat) : ∀ e ∈ (s.stopPart p).procs, e.2.suspended.map (·.part) ≠ some p := by
  intro e he
  obtain ⟨x, -, rfl⟩ := List.mem_map.1 he
  split
  · simp
  · assumption

end State

/-! ### The clauses of O13 -/

/-- R111, R112: what a binding request does. -/
theorem exec_pairBindRequest_cases {s : State} (hl : s.live = true) (pair : Fin 160) (v : BitVec 32) :
    let a := UOW_PAIR_BIND pair.val
    let en := v.getLsbD 31
    let part := v.toNat / 2 ^ 16 % 2 ^ 10
    let busy := s.slotBusy pair.val || s.slotAssay pair.val
    (s.fld a UOW_PAIR_BIND.STATE = 5 → exec (.pairBindRequest pair v) s = .next s) ∧
    (s.fld a UOW_PAIR_BIND.STATE = 0 → busy = false → ∃ t : State, exec (.pairBindRequest pair v) s = .next t ∧
      t.fld a UOW_PAIR_BIND.PARTITION = part ∧ t.bit a UOW_PAIR_BIND.EN = en ∧
      t.fld a UOW_PAIR_BIND.STATE = (if en then 1 else 0) ∧
      t.cru.confirms = s.cru.confirms ++ (if en then [(1, pair.val, part)] else [])) ∧
    (s.fld a UOW_PAIR_BIND.STATE ≠ 5 → busy = true → s.slotPart pair.val ≠ some part →
      s.fld a UOW_PAIR_BIND.PARTITION ≠ part → ∃ t : State, exec (.pairBindRequest pair v) s = .next t ∧
        t.fld a UOW_PAIR_BIND.STATE = 4 ∧ t.disp.runs = s.disp.runs ∧ t.disp.units = s.disp.units ∧ t.procs = s.procs ∧
        t.disp.bindWait.get none pair.val = some v.toNat) := by
  intro a en part busy
  obtain ⟨hen, hpart⟩ := State.bindRequest_fields v
  have hnat : (BitVec.ofNat 64 v.toNat).toNat = v.toNat := by
    rw [BitVec.toNat_ofNat, Nat.mod_eq_of_lt (v.isLt.trans (by decide))]
  refine ⟨fun h => ?_, fun h hbusy => ⟨_, State.exec_pairBind hl, ?_⟩, fun h hbusy hrun hfld => ⟨_, State.exec_pairBind hl, ?_⟩⟩
  · rw [State.exec_pairBind hl, State.bindWrite_locked _ h]
  · rw [State.bindWrite_free _ (by rw [h]; decide) hbusy, hen, hpart]
    exact State.applyBind_free h _ (Nat.mod_lt _ (by decide))
  · have hdrain := State.bindWrite_drains (BitVec.ofNat 64 v.toNat) h hbusy (by rw [hpart]; exact hrun) (by rw [hpart]; exact hfld)
    rwa [hnat] at hdrain

/-- R348: what a confirmation does. -/
theorem exec_ownerConfirmation_cases {s : State} (hl : s.live = true) {kind : Fin 6} {index : Fin 1024} {c : Nat × Nat × Nat}
    (hfind : s.cru.confirms.find? (fun c => c.1 == kind.val && c.2.1 == index.val) = some c)
    (hup : s.fld CRU_STATUS CRU_STATUS.STATE = 1) :
    let ok := s.confirms kind.val index.val c.2.2
    ∃ t : State, exec (.ownerConfirmation kind index) s = .next t ∧ t.cru.confirms = s.cru.confirms.erase c ∧
      (kind.val = 1 → s.fld (UOW_PAIR_BIND index.val) UOW_PAIR_BIND.STATE = 1 →
        s.fld (UOW_PAIR_BIND index.val) UOW_PAIR_BIND.PARTITION = c.2.2 →
        t.fld (UOW_PAIR_BIND index.val) UOW_PAIR_BIND.STATE = (if ok then 2 else 0) ∧
        (ok = false → t.bit (UOW_PAIR_BIND index.val) UOW_PAIR_BIND.EN = false ∧
          t.bit UOW_EVENT UOW_EVENT.BIND_REFUSED = true)) ∧
      (kind.val = 2 → s.fld (SWG_Q_STATUS index.val) SWG_Q_STATUS.STATE = 1 →
        t.fld (SWG_Q_STATUS index.val) SWG_Q_STATUS.STATE = (if ok then 2 else 0)) ∧
      (kind.val = 3 → s.fld (CIP_Q_STATUS index.val) CIP_Q_STATUS.STATE = 1 →
        t.fld (CIP_Q_STATUS index.val) CIP_Q_STATUS.STATE = (if ok then 2 else 0)) ∧
      (kind.val = 4 → s.fld (CHN_Q_STATUS index.val) CHN_Q_STATUS.STATE = 1 →
        t.fld (CHN_Q_STATUS index.val) CHN_Q_STATUS.STATE = (if ok then 2 else 0)) ∧
      (kind.val = 5 → ok = false → s.fld (CHN_DEV_CFG index.val) CHN_DEV_CFG.STATE = 1 →
        t.fld (CHN_DEV_CFG index.val) CHN_DEV_CFG.STATE = 1 ∧ t.bit CHN_EVENT CHN_EVENT.OWNER_REFUSED = true) := by
  intro ok
  have hswg : SWG_Q_STATUS index.val ≠ SWG_EVENT := by unfold SWG_Q_STATUS SWG_EVENT; omega
  have hcip : CIP_Q_STATUS index.val ≠ CIP_EVENT := by unfold CIP_Q_STATUS CIP_EVENT; omega
  have hchn : CHN_Q_STATUS index.val ≠ CHN_EVENT := by unfold CHN_Q_STATUS CHN_EVENT; omega
  have hexec := State.exec_confirmation hl hfind hup
  rw [show s.confirms kind.val index.val c.2.2 = ok from rfl] at hexec
  clear_value ok
  generalize hw : ({ s with cru := { s.cru with confirms := s.cru.confirms.erase c } } : State) = w at hexec
  have hfld : ∀ a f, w.fld a f = s.fld a f := by rw [← hw]; exact State.fld_of_regs rfl
  have hconf : w.cru.confirms = s.cru.confirms.erase c := by rw [← hw]
  refine ⟨_, hexec, (congrArg CruState.confirms (State.answerOf_cru ..)).trans hconf, fun hkind hst hpart => ?_,
    fun hkind hst => ?_, fun hkind hst => ?_, fun hkind hst => ?_, fun hkind hok hst => ?_⟩
  · rw [hkind]
    exact State.bindAnswer_state ok ((hfld ..).trans hst) ((hfld ..).trans hpart)
  · rw [hkind]
    exact State.queueAnswer_state (errF := SWG_Q_STATUS.ERR) ok ((hfld ..).trans hst) hswg (by decide) (by decide) rfl (by decide)
  · rw [hkind]
    exact State.queueAnswer_state (errF := CIP_Q_STATUS.ERR) ok ((hfld ..).trans hst) hcip (by decide) (by decide) rfl (by decide)
  · rw [hkind]
    exact State.queueAnswer_state (errF := CHN_Q_STATUS.ERR) ok ((hfld ..).trans hst) hchn (by decide) (by decide) rfl (by decide)
  · rw [hok, hkind]
    exact State.deviceAnswer_refused ((hfld ..).trans hst)

/-- R114 to R116: what the Dispatcher does for a partition. -/
theorem exec_unitStart_cases {s : State} (hl : s.live = true) (hr : s.isReady = true) {k : Nat} {u : WorkUnit}
    (p : Fin 1024) (e : Fin 320) (rk : Nat) :
    let st := s.fld (CRU_PART p.val) CRU_PART.STATE
    let block := (s.partRec p.val).block
    (st = 3 → exec (.unitStart p e) s = .next s) ∧
    (st ≠ 3 → st ≠ 4 → (s.ringsInTurn p.val).head? = some rk → s.firstQueued rk = some (k, u) →
      exec (.unitStart p e) s = .next ((s.passTurn p.val rk).endUnit k 4 0)) ∧
    (st = 4 → (s.ringsInTurn p.val).find? (fun rk =>
        decide (s.ringRunning rk < 2 ^ s.fld (UOW_PART_CFG p.val) UOW_PART_CFG.RING_CONC) &&
          (s.firstQueued rk).any (fun x => s.startable rk x.2)) = some rk →
      s.firstQueued rk = some (k, u) →
      (s.execIdleFor p.val e.val = false → exec (.unitStart p e) s = .next s) ∧
      (s.execIdleFor p.val e.val = true → u.part = p.val → ∃ t : State, exec (.unitStart p e) s = .next t ∧
        let x := t.proc e.val
        t.run e.val = .unit k ∧
        t.unit? k = some { u with phase := .executing, exec := some e.val, closed := false, exchanges := [], refused := none } ∧
        (e.val % 2 = 0 → t.fld (UOW_PAIR_BIND (e.val / 2)) UOW_PAIR_BIND.STATE = 3) ∧
        x.pc = BitVec.ofNat 64 (leAt block 8 8) &&& 0xFFFFFFFFFFFFFFFC#64 ∧ x.lk = 0 ∧
        x.getG 1 = BitVec.ofNat 64 (leAt u.args 0 8) ∧ x.getG 4 = BitVec.ofNat 64 (leAt u.args 24 8) ∧
        x.getG 5 = BitVec.ofNat 64 u.asn ∧ x.getG 6 = BitVec.ofNat 64 u.restarts ∧
        x.getG 7 = BitVec.ofNat 64 (e.val / 2) ∧ x.getG 8 = BitVec.ofNat 64 e.val ∧
        x.getG 62 = BitVec.ofNat 64 (leAt block 24 8 + (e.val + 1) * leAt block 4 4) ∧
        (∀ r : RegNo, 8 < r.val → r.val ≠ 62 → x.getG r = 0) ∧ (∀ r, x.getF r = 0) ∧
        getFld x.psr PSR.PL = 1 ∧ getFld x.psr PSR.UNIT = 1 ∧ getFld x.psr PSR.SEALED = 1 ∧
        x.getSp spFpc = 0 ∧ x.part = some p.val ∧ (∀ n, n ≠ e.val → t.proc n = s.proc n))) := by
  intro st block
  refine ⟨fun h => ?_, fun h3 h4 hrk hk => ?_, fun h4 hrk hk => ⟨fun hidle => ?_, fun hidle hp => ?_⟩⟩
  · rw [State.exec_unitStart hl hr, State.dispatch_restored h]
  · rw [State.exec_unitStart hl hr, State.dispatch_notRunnable h3 h4 hrk hk]
  · rw [State.exec_unitStart hl hr, State.dispatch_running h4 hrk hk, hidle, if_neg Bool.false_ne_true]
  · rw [State.exec_unitStart hl hr, State.dispatch_running h4 hrk hk, hidle, if_pos rfl]
    refine ⟨_, rfl, ?_⟩
    obtain ⟨w, hw, hbind, hstart⟩ := State.startUnit_spec (s.passTurn p.val rk) k e.val u
    have hblock : (w.partRec p.val).block = block := by rw [State.partRec, hw.cru]; rfl
    have hrun : w.run e.val = .unit k := by rw [State.run, hw.disp]; exact State.run_setRun_self ..
    have hunit := State.unit?_setUnit_self s k
      { u with phase := .executing, exec := some e.val, closed := false, exchanges := [], refused := none }
    have hprocs : w.procs = s.procs := hw.procs
    rw [hp, show ((s.passTurn p.val rk).partRec p.val).block = block from rfl] at hstart
    rw [hstart]
    generalize hx : w.entered p.val e.val (leAt block 8 8)
      [leAt u.args 0 8, leAt u.args 8 8, leAt u.args 16 8, leAt u.args 24 8, u.asn, u.restarts] true = x
    have hg : ∀ r : RegNo, 0 < r.val → x.getG r = _ := fun r hr => by
      rw [ProcState.getG, if_neg (by omega), ← hx, State.entered_g, hblock]
    have hproc : ((w.setProc e.val x).meterRunStart e.val).proc e.val = x := State.proc_setProc_self w e.val x
    obtain ⟨hpl, hun, hse⟩ := State.unitPsr_fields (w := w.fld (CRU_PART p.val) CRU_PART.WTAG) (getFld_lt _ _)
    have hpsr : x.psr = _ := hx ▸ State.entered_psr w p.val e.val (leAt block 8 8) _ true
    rw [if_pos rfl] at hpsr
    rw [hproc]
    dsimp only
    rw [hpsr]
    refine ⟨hrun, ?_, hbind, by rw [← hx]; rfl, by rw [← hx]; rfl, hg 1 (by decide), hg 4 (by decide), hg 5 (by decide),
      hg 6 (by decide), hg 7 (by decide), hg 8 (by decide), hg 62 (by decide), fun r h8 h62 => ?_, fun r => by rw [← hx]; rfl,
      hpl, hun, hse, by rw [← hx]; exact State.entered_fpc .., by rw [← hx]; rfl, fun n hn => ?_⟩
    · exact (State.unit?_of_disp hw.disp k).trans hunit
    · rw [hg r (by omega), if_neg h62, if_neg (by simp only [List.length_append, List.length_cons, List.length_nil]; omega)]
    · exact (State.proc_setProc_ne w x hn).trans (State.proc_of_procs hprocs n)

/-- Settles O13: the end of a unit, a durable restart, and one lemma for each command. -/
theorem unitsOfWork : Obligations.UnitsOfWork := by
  unfold Obligations.UnitsOfWork
  intro s k u hu hl
  refine ⟨fun hc st r st' r' => ?_, State.restartDurable_spec hu, exec_pairBindRequest_cases hl, fun kind index c hfind => ?_,
    fun rk v h x hx => State.startable_iff h hx, fun p e rk hr => exec_unitStart_cases hl hr p e rk, fun f r asn hk => ?_,
    fun p => ?_⟩
  · obtain ⟨regs, hlog⟩ := State.endUnit_open s hu hc st r
    have hself : (s.endUnit k st r).unit? k = some (s.ended u st r) := (hlog.unit? k).trans (State.unit?_setUnit_self s k _)
    exact ⟨hself, fun x hx => (hlog.unit? x).trans (State.unit?_setUnit_ne s _ hx), State.endUnit_closed _ hself rfl st' r'⟩
  · exact ⟨State.exec_confirmation_waits hl hfind,
      fun hup => ⟨State.partState_of_confirms, exec_ownerConfirmation_cases hl hfind hup⟩⟩
  · refine ⟨fun h => ?_, fun hphase hcommit hcompl haborts hprogs horigin hrefused hserved => ⟨fun hnone => ?_, fun hsome hheld => ?_⟩,
      fun poison => ⟨fun hphase => ?_, fun hphase => ?_⟩, fun cause hcompl hbudget => State.restartUnit_spent hu hcompl hbudget cause⟩
    · rw [State.exec_unitPrepared hl hk, State.prepared_waits hu h]
    · rw [State.exec_unitPrepared hl hk, State.prepared_ends hu hphase hcommit hcompl haborts hprogs horigin hrefused hserved
        (by rw [hnone]; exact fun x hx => absurd hx List.not_mem_nil), if_pos hnone]
    · have hexec := State.prepared_ends hu hphase hcommit hcompl haborts hprogs horigin hrefused hserved hheld
      rw [if_neg hsome] at hexec
      refine ⟨_, _, (State.exec_unitPrepared hl hk).trans (congrArg Host.Outcome.next hexec), rfl, fun hlen => ?_,
        commitBlocks_head ..⟩
      rw [length_commitBlocks _ _ _ _ _ _ (by rw [List.length_map]; exact hlen), List.length_map]
    · rw [State.exec_unitRestart hl hk hu, if_pos hphase]
    · rw [State.exec_unitRestart hl hk hu, if_neg hphase]
  · refine ⟨fun h => ?_, fun h => ⟨_, ?_, State.stopPart_suspended s p.val⟩⟩
    · rw [State.exec_partitionStop hl, if_neg h]
    · rw [State.exec_partitionStop hl, if_pos h]

end Sys2Proof.Machine
end

section
/-!
SUPPORT. What leaves the Dispatcher's state alone: writes of memory by an I/O agent with all that they check and mend on
their way (R211, R230 to R236, R245, R248), and steps of exchanges (R303, R322).
-/
namespace Sys2Proof.Machine
open Sys2Proof

/-- `t` has the Dispatcher's state of `s`: its units, rings and runs. -/
def DispKept (s t : State) : Prop := t.disp = s.disp

namespace DispKept

theorem rfl {s : State} : DispKept s s := Eq.refl s.disp

theorem trans {s t u : State} (h : DispKept s t) (h' : DispKept t u) : DispKept s u := Eq.trans h' h

theorem ite {c : Prop} [Decidable c] {s t u : State} (h : DispKept s t) (h' : DispKept s u) :
    DispKept s (if c then t else u) := by
  split
  · exact h
  · exact h'

theorem foldl {α : Type} {f : State → α → State} (hf : ∀ s x, DispKept s (f s x)) (l : List α) (s : State) :
    DispKept s (l.foldl f s) := by
  induction l generalizing s with
  | nil => exact .rfl
  | cons x t ih => exact (hf s x).trans (ih _)

theorem setReg (s : State) (a : Nat) (v : W64) : DispKept s (s.setReg a v) := Eq.refl s.disp
theorem setFld (s : State) (a : Nat) (f : Fld) (n : Nat) : DispKept s (s.setFld a f n) := Eq.refl s.disp
theorem setBit (s : State) (a : Nat) (f : Fld) (b : Bool) : DispKept s (s.setBit a f b) := Eq.refl s.disp
theorem bump (s : State) (a : Nat) (f : Fld) (n : Nat) : DispKept s (s.bump a f n) := Eq.refl s.disp
theorem bumpSat (s : State) (a : Nat) (f : Fld) (n : Nat) : DispKept s (s.bumpSat a f n) := Eq.refl s.disp
theorem emit (s : State) (o : Output) : DispKept s (s.emit o) := Eq.refl s.disp
theorem of_mm (s : State) (x : MemState) : DispKept s { s with mm := x } := Eq.refl s.disp
theorem of_coh (s : State) (x : CohState) : DispKept s { s with coh := x } := Eq.refl s.disp
theorem of_chn (s : State) (x : ChannelState) : DispKept s { s with chn := x } := Eq.refl s.disp
theorem of_srx (s : State) (x : SurexState) : DispKept s { s with srx := x } := Eq.refl s.disp
theorem of_mem (s : State) (x : Memory) : DispKept s { s with mem := x } := Eq.refl s.disp
theorem of_rand (s : State) (n : Nat) : DispKept s { s with rand := n } := Eq.refl s.disp

theorem of_eventOnly {s t : State} (h : EventOnly s t) : DispKept s t := h.disp

end DispKept

namespace State

/-! ### Stored lines -/

theorem setBad_dispKept (s : State) (g r i : Nat) (b : Bool) : DispKept s (s.setBad g r i b) := .of_mm s _
theorem setBadCode_dispKept (s : State) (h b : Nat) (v : Bool) : DispKept s (s.setBadCode h b v) := .of_mm s _
theorem setPoison_dispKept (s : State) (l : Nat) (b : Bool) : DispKept s (s.setPoison l b) := .of_mm s _
theorem setParityOut_dispKept (s : State) (g r : Nat) (b : Bool) : DispKept s (s.setParityOut g r b) := .of_mm s _
theorem setBuilt_dispKept (s : State) (g r i : Nat) : DispKept s (s.setBuilt g r i) := .ite .rfl (.of_mm s _)
theorem useCode_dispKept (s : State) (h b : Nat) : DispKept s (s.useCode h b) := .of_mm s _
theorem setLineKey_dispKept (s : State) (l k : Nat) : DispKept s (s.setLineKey l k) := .ite .rfl (.of_mm s _)
theorem rekeyLine_dispKept (s : State) (k l : Nat) : DispKept s (s.rekeyLine k l) :=
  .ite .rfl (.trans (.of_mem s _) (setLineKey_dispKept ..))

theorem keyedWrite_dispKept (s : State) (k a : Nat) (d : Bytes) : DispKept s (s.keyedWrite k a d) := by
  unfold keyedWrite
  exact .trans (.foldl (fun _ _ => .ite (.trans (setLineKey_dispKept ..) (setPoison_dispKept ..)) (rekeyLine_dispKept ..)) _ _)
    (.of_mem _ _)

/-! ### Events, and the calibration window -/

theorem memEvent_dispKept (s : State) {cls : Nat} (bit kind chan index : Nat) (h : cls ≤ 1) :
    DispKept s (s.memEvent cls bit kind chan index) := by
  have herr : DispKept s (s.memErr kind chan index).2 := .ite .rfl (.setReg ..)
  exact (herr.trans (.setBit ..)).trans (.of_eventOnly (logEvent_eventOnly _ _ _ _ _ _ (.inl h)))

theorem setWindow_dispKept (s : State) (w : CalWindow) : DispKept s (s.setWindow w) := .of_mm s _
theorem showMarked_dispKept (s : State) : DispKept s s.showMarked := .setFld ..

theorem setGroup_dispKept (s : State) (g n : Nat) : DispKept s (s.setGroup g n) :=
  ((DispKept.setFld ..).trans (.setBit ..)).trans (.setBit ..)

theorem calIdle_dispKept (s : State) : DispKept s s.calIdle :=
  (((DispKept.of_mm s _).trans (.setFld ..)).trans (.setFld ..)).trans (.setFld ..)

theorem calReopen_dispKept (s : State) (w : CalWindow) (b : Bool) : DispKept s (s.calReopen w b) :=
  ((((DispKept.bumpSat ..).trans (.setFld ..)).trans (.setFld ..)).trans (.setFld ..)).trans (setWindow_dispKept ..)

theorem calAbort_dispKept (s : State) (b : Bool) : DispKept s (s.calAbort b) := by
  unfold calAbort
  split
  · exact .ite .rfl (((calReopen_dispKept ..).trans (.setBit ..)).trans
      (.of_eventOnly (logEvent_eventOnly _ _ _ _ _ _ (.inl (Nat.zero_le 1)))))
  · exact .rfl

/-! ### Failed channels and failed checks -/

theorem failChannel_dispKept (s : State) (h : Nat) : DispKept s (s.failChannel h) := by
  unfold failChannel
  refine .ite .rfl ?_
  extract_lets s1 s2 s3
  have h1 : DispKept s s1 := by
    unfold s1
    split
    · exact .ite (calIdle_dispKept _) (.ite (calAbort_dispKept ..) .rfl)
    · exact .rfl
  have h2 : DispKept s1 s2 := (DispKept.of_mm s1 _).trans (.setFld ..)
  have h3 : DispKept s2 s3 := .ite (((setGroup_dispKept ..).trans (.setFld ..)).trans (.setFld ..))
    (.ite ((setGroup_dispKept ..).trans (.setFld ..)) .rfl)
  exact ((h1.trans h2).trans h3).trans (memEvent_dispKept _ _ _ _ _ (le_refl 1))

theorem lineRecomputed_dispKept (s : State) (h row : Nat) : DispKept s (s.lineRecomputed h row) := by
  unfold lineRecomputed
  extract_lets s1 s2 recent _ s3 s4
  have h4 : DispKept s s4 :=
    (((DispKept.bump s ..).trans (.bumpSat s1 ..)).trans (.of_mm s2 _)).trans (memEvent_dispKept s3 _ _ _ _ (Nat.zero_le 1))
  exact .ite (h4.trans (failChannel_dispKept ..)) h4

theorem poisonMember_dispKept (s : State) (g r i : Nat) : DispKept s (s.poisonMember g r i) := by
  unfold poisonMember
  extract_lets s1 s2
  have h1 : DispKept s s1 := by
    unfold s1
    split
    · exact setPoison_dispKept ..
    · exact setParityOut_dispKept ..
  have h2 : DispKept s1 s2 := ((setBad_dispKept ..).trans (setBuilt_dispKept ..)).trans (.bump ..)
  exact (h1.trans h2).trans (memEvent_dispKept _ _ _ _ _ (le_refl 1))

theorem rowLost_dispKept (s : State) (g r : Nat) (bad : List Nat) : DispKept s (s.rowLost g r bad) := by
  unfold rowLost
  extract_lets p out s1 s2
  have h1 : DispKept s s1 := .foldl (fun s _ => poisonMember_dispKept s ..) _ _
  have h2 : DispKept s1 s2 := setBad_dispKept ..
  exact .ite ((h1.trans h2).trans (poisonMember_dispKept ..)) (h1.trans h2)

theorem freeLine_dispKept (s : State) (l : Nat) : DispKept s (s.freeLine l) := (DispKept.of_rand s _).trans (.of_mem _ _)

theorem rebuildCode_dispKept (s : State) (h b : Nat) : DispKept s (s.rebuildCode h b) := by
  unfold rebuildCode
  extract_lets g i healthy rows s1 s2
  have h1 : DispKept s s1 := setBadCode_dispKept ..
  have h2 : DispKept s1 s2 := .foldl (fun _ _ => .ite (.ite .rfl (setBad_dispKept ..))
    ((setBad_dispKept ..).trans (.foldl freeLine_dispKept _ _))) _ _
  exact (h1.trans h2).trans (memEvent_dispKept _ _ _ _ _ (by split <;> decide))

theorem mendMember_dispKept (s : State) (g r i : Nat) : DispKept s (s.mendMember g r i) := by
  unfold mendMember
  extract_lets h others again s1
  have h1 : DispKept s s1 := .ite (rebuildCode_dispKept ..) .rfl
  exact .ite ((h1.trans (setBad_dispKept ..)).trans (lineRecomputed_dispKept ..)) (h1.trans (rowLost_dispKept ..))

theorem secondFault_dispKept (s : State) (g r i : Nat) : DispKept s (s.secondFault g r i) :=
  .ite (rebuildCode_dispKept ..) (rowLost_dispKept ..)

theorem checkPlain_dispKept (s : State) (g r i : Nat) : DispKept s (s.checkPlain g r i) := by
  unfold checkPlain
  dsimp only
  refine .ite ?_ (.ite .rfl (.ite (mendMember_dispKept ..) (secondFault_dispKept ..)))
  split
  · exact .rfl
  · exact .ite (.ite (poisonMember_dispKept ..) .rfl) (rowLost_dispKept ..)
  · exact rowLost_dispKept ..

theorem copyGood_dispKept (s : State) (r : Nat) : DispKept s (s.copyGood r).2 := by
  unfold copyGood
  split
  · exact checkPlain_dispKept ..
  · exact .rfl

theorem checkMember_dispKept (s : State) (g r i : Nat) : DispKept s (s.checkMember g r i) := by
  unfold checkMember
  split
  · dsimp only
    refine .ite (checkPlain_dispKept ..) (.ite ?_ (.ite ?_ (checkPlain_dispKept ..)))
    · exact (copyGood_dispKept s r).trans (.ite (checkPlain_dispKept ..) (rowLost_dispKept ..))
    · exact ((calAbort_dispKept s false).trans (copyGood_dispKept _ r)).trans (.ite (mendMember_dispKept ..) (rowLost_dispKept ..))
  · exact checkPlain_dispKept ..

/-! ### Rebuild and catch-up -/

theorem catchUpRow_dispKept (s : State) (w : CalWindow) (k : Nat) : DispKept s (s.catchUpRow w k) := by
  unfold catchUpRow
  dsimp only
  split
  · exact .ite .rfl ((checkMember_dispKept ..).trans (setBad_dispKept ..))
  · exact .rfl

theorem catchUpTo_dispKept (s : State) (n : Nat) : DispKept s (s.catchUpTo n) := by
  unfold catchUpTo
  split
  · refine .ite ?_ .rfl
    extract_lets m s1
    have h1 : DispKept s s1 := .foldl (fun s _ => catchUpRow_dispKept s ..) _ _
    clear_value s1
    split
    · exact (h1.trans (setWindow_dispKept ..)).trans (showMarked_dispKept _)
    · exact h1
  · exact .rfl

theorem rebuildRow_dispKept (s : State) (g r : Nat) : DispKept s (s.rebuildRow g r) := by
  unfold rebuildRow
  extract_lets m s1 others s2
  have h1 : DispKept s s1 := checkMember_dispKept ..
  have h2 : DispKept s s2 := h1.trans (setParityOut_dispKept ..)
  exact .ite (.ite h2 (h2.trans (poisonMember_dispKept ..))) h1

theorem rebuildTo_dispKept (s : State) (g n : Nat) : DispKept s (s.rebuildTo g n) := by
  unfold rebuildTo
  extract_lets old keys rows s1 m second here _ s2
  have h1 : DispKept s s1 := .foldl (fun s _ => rebuildRow_dispKept s ..) _ _
  exact (h1.trans (.of_mm s1 _)).trans (.setFld ..)

theorem background_dispKept (s : State) (g : Nat) : DispKept s (s.background g) := by
  unfold background
  extract_lets s1
  have h1 : DispKept s s1 := .ite ((DispKept.of_rand s _).trans (rebuildTo_dispKept ..)) .rfl
  clear_value s1
  split
  · exact .ite ((h1.trans (.of_rand s1 _)).trans (catchUpTo_dispKept ..)) h1
  · exact h1

/-! ### Writes -/

theorem beforeWrite_dispKept (s : State) (l : Nat) : DispKept s (s.beforeWrite l) :=
  (background_dispKept ..).trans (.foldl (fun s _ => checkMember_dispKept s ..) _ _)

theorem noteParity_dispKept (s : State) (l : Nat) (full : Bool) : DispKept s (s.noteParity l full) := by
  unfold noteParity
  extract_lets g r p out never s1 s2 s3
  have h1 : DispKept s s1 := .ite (setPoison_dispKept ..) .rfl
  have h2 : DispKept s s2 := .ite (h1.trans (setBuilt_dispKept ..)) h1
  have h3 : DispKept s s3 := setBad_dispKept ..
  exact .ite (.ite (.ite h2 (h2.trans (setPoison_dispKept ..)))
    ((h2.trans (setBad_dispKept ..)).trans (setParityOut_dispKept ..))) (.ite h3 (h3.trans (setBad_dispKept ..)))

theorem putCopy_dispKept (s : State) (w : CalWindow) (r i : Nat) : DispKept s (s.putCopy w r i) :=
  ((((beforeWrite_dispKept ..).trans (keyedWrite_dispKept ..)).trans (setPoison_dispKept ..)).trans
    (noteParity_dispKept ..)).trans (useCode_dispKept ..)

theorem noteRow_dispKept (s : State) (l : Nat) : DispKept s (s.noteRow l) := by
  unfold noteRow
  dsimp only
  split
  · exact .rfl
  · refine .ite .rfl (.ite (.ite ((setWindow_dispKept ..).trans (showMarked_dispKept _)) .rfl) ?_)
    split
    · exact putCopy_dispKept ..
    · exact .ite ((calReopen_dispKept ..).trans (.setBit ..))
        (((setWindow_dispKept ..).trans (showMarked_dispKept _)).trans (putCopy_dispKept ..))

theorem noteWrite_dispKept (s : State) (l : Nat) (full : Bool) : DispKept s (s.noteWrite l full) :=
  ((noteParity_dispKept ..).trans (useCode_dispKept ..)).trans (noteRow_dispKept ..)

theorem ioTake_dispKept (s : State) (w : World) (l : Nat) : DispKept s (s.ioTake w l) := .ite .rfl (.of_coh s _)

theorem checkedWrite_dispKept (s : State) (w : World) (a : Nat) (d : Bytes) : DispKept s (s.checkedWrite w a d) :=
  .foldl (fun s _ => keyedWrite_dispKept s ..) _ _

theorem logRefusal_dispKept (s : State) (req reason a : Nat) : DispKept s (s.logRefusal req reason a) :=
  (DispKept.setBit s ..).trans (.ite .rfl (.setReg ..))

theorem writeKey_dispKept (s : State) (w : World) (req a n : Nat) (hit : Nat → Bool) : DispKept s (s.writeKey w req a n hit).2 := by
  unfold writeKey
  split
  · exact .rfl
  · split
    · exact .rfl
    · exact logRefusal_dispKept ..

/-- R211: an I/O agent's write leaves the Dispatcher's state alone. -/
theorem memWrite_dispKept (s : State) (w : World) (req a : Nat) (d : Bytes) : DispKept s (s.memWrite w req a d).2 := by
  have hkey := writeKey_dispKept s w req a d.length (fun _ => false)
  unfold memWrite
  split
  · next u h => rw [h] at hkey; exact hkey
  · next k u h =>
    rw [h] at hkey
    split
    · exact DispKept.trans hkey (checkedWrite_dispKept ..)
    · exact ((DispKept.trans hkey (.foldl beforeWrite_dispKept _ _)).trans (checkedWrite_dispKept ..)).trans
        (.foldl (fun _ _ => (noteWrite_dispKept ..).trans (ioTake_dispKept ..)) _ _)

theorem ioWrite_dispKept (s : State) (w : World) (a : Nat) (d : Bytes) : DispKept s (s.ioWrite w a d).2 := by
  unfold ioWrite
  split
  · exact .rfl
  · exact memWrite_dispKept ..

/-- R295: the end of a channel request leaves the Dispatcher's state alone. -/
theorem endProg_dispKept (s : State) (p : ChanProg) : DispKept s (s.endProg p) := by
  unfold endProg
  extract_lets s1 _ s2 s3
  have h1 : DispKept s s1 := ioWrite_dispKept ..
  have h3 : DispKept s2 s3 := .ite (.bumpSat ..) .rfl
  exact ((h1.trans (.of_chn s1 _)).trans h3).trans (.setFld ..)

/-! ### Steps of exchanges -/

theorem pumpAssoc_dispKept (n : Nat) (s : State) (a : Nat) : DispKept s (pumpAssoc n s a) := by
  induction n generalizing s with
  | zero => exact .rfl
  | succ n ih =>
    unfold pumpAssoc
    dsimp only
    split
    · exact .rfl
    · exact .ite (((DispKept.of_srx s _).trans (.emit ..)).trans (ih _)) .rfl

theorem sendSeq_dispKept (s : State) (a t g x : Nat) (b : Bytes) : DispKept s (s.sendSeq a t g x b) :=
  (DispKept.of_srx s _).trans (pumpAssoc_dispKept ..)

theorem sendStep_dispKept (s : State) (t : XStep) : DispKept s (s.sendStep t) := by
  unfold sendStep
  split
  · exact .rfl
  · exact .foldl (fun s _ => sendSeq_dispKept s ..) _ _

theorem addStep_dispKept (s : State) (t : XStep) : DispKept s (s.addStep t) :=
  (DispKept.of_chn s { s.chn with steps := s.chn.steps ++ [t] }).trans (sendStep_dispKept ..)

theorem issueUnitStep_dispKept (s : State) (k x d : Nat) (o : StepKind) (l : List (Nat × Nat)) :
    DispKept s (s.issueUnitStep k x d o l) := by
  unfold issueUnitStep
  refine .ite (addStep_dispKept ..) ?_
  split
  · exact addStep_dispKept ..
  · exact (DispKept.of_chn s _).trans (addStep_dispKept ..)

/-- R34: records of a unit that stop being live leave the Dispatcher's state alone. -/
theorem dropLive_dispKept (s : State) (k : Nat) : DispKept s (s.dropLive k) :=
  ((LogOnly.of_jnl s _ rfl).trans (headRegs_logOnly _)).disp

end State
end Sys2Proof.Machine
end

section
/-!
SUPPORT. The units that a reset ring loses (R105), and the part of each admin command that acts (R104 to R107).
-/
namespace Sys2Proof

theorem Tbl.ne_of_mem_del {α : Type} {t : Tbl α} {k : Nat} {e : Nat × α} (h : e ∈ Tbl.del t k) : e.1 ≠ k := by
  induction t with
  | nil => cases h
  | cons x t ih =>
    obtain ⟨j, v⟩ := x
    unfold Tbl.del at h
    split at h
    · exact ih h
    · next hne =>
      rcases List.mem_cons.1 h with rfl | h
      · exact hne
      · exact ih h

end Sys2Proof

namespace Sys2Proof.Machine
open Sys2Proof

/-! ### Units that go with a broken ring -/

/-- Every unit of `t` is one of `s`, in whatever state. -/
def UnitsFrom (s t : State) : Prop := ∀ e ∈ t.disp.units, e.1 ∈ s.disp.units.map (·.1)

namespace UnitsFrom

theorem of_units {s t : State} (h : t.disp.units = s.disp.units) : UnitsFrom s t := fun _ he =>
  List.mem_map_of_mem (h ▸ he)

theorem of_dispKept {s t : State} (h : DispKept s t) : UnitsFrom s t := of_units (congrArg DispatchState.units h)

theorem trans {s t u : State} (h : UnitsFrom s t) (h' : UnitsFrom t u) : UnitsFrom s u := fun e he => by
  obtain ⟨x, hx, hxe⟩ := List.mem_map.1 (h' e he)
  exact hxe ▸ h x hx

/-- A unit that is there moves on. -/
theorem setUnit {s : State} {k : Nat} {v : WorkUnit} (h : s.unit? k = some v) (u : WorkUnit) : UnitsFrom s (s.setUnit k u) := by
  intro e he
  obtain ⟨x, hx, -⟩ := Option.map_eq_some_iff.1 h
  have hk : k ∈ s.disp.units.map (·.1) :=
    List.mem_map.2 ⟨x, List.mem_of_find?_eq_some hx, by simpa using List.find?_some hx⟩
  rcases Tbl.mem_keys_ins.1 (List.mem_map_of_mem he : e.1 ∈ (Tbl.ins s.disp.units k u).map (·.1)) with he | he
  · exact he ▸ hk
  · exact he

end UnitsFrom

namespace State

theorem freePair_units (s : State) (n : Nat) : (s.freePair n).disp.units = s.disp.units := by
  unfold freePair
  generalize UOW_PAIR_BIND n = a
  dsimp only
  split
  · rfl
  · split
    · split
      · split
        · rfl
        · rfl
      · exact congrArg DispatchState.units (setFld_disp ..)
    · split
      · exact congrArg DispatchState.units ((setFld_disp ..).trans ((setFld_disp ..).trans (setFld_disp ..)))
      · rfl

theorem meterRunStop_disp (s : State) (e : Nat) : (s.meterRunStop e).disp = s.disp := by
  unfold meterRunStop
  split
  · rfl
  · dsimp only
    split
    · rfl
    · rfl
    · split
      · split <;> rfl
      · rfl

/-- The end of a run leaves the units. -/
theorem stopExec_units (s : State) (e : Nat) : (s.stopExec e).disp.units = s.disp.units := by
  unfold stopExec
  extract_lets s1
  have h1 : s1.disp.units = s.disp.units := by
    show (s.meterRunStop e).disp.units = s.disp.units
    rw [meterRunStop_disp]
  clear_value s1
  split
  · exact (freePair_units ..).trans h1
  · split
    · exact (congrArg DispatchState.units ((setFld_disp ..).trans ((setFld_disp ..).trans (setFld_disp ..)))).trans h1
    · exact h1

theorem stopRun_unitsFrom (s : State) (k : Nat) : UnitsFrom s (s.stopRun k) := by
  unfold stopRun
  split
  · exact .of_units rfl
  · next u hu =>
    split
    · exact .of_units rfl
    · exact (UnitsFrom.setUnit hu _).trans (.of_units (stopExec_units ..))

theorem stopPrograms_unitsFrom (s : State) (k : Nat) : UnitsFrom s (s.stopPrograms k) := by
  unfold stopPrograms
  refine .of_dispKept (DispKept.trans ?_ (.foldl (fun _ _ => endProg_dispKept ..) _ _))
  exact Eq.refl s.disp

theorem sendAborts_unitsFrom (s : State) (k : Nat) : UnitsFrom s (s.sendAborts k) := by
  unfold sendAborts
  split
  · exact .of_units rfl
  · next u hu =>
    exact (UnitsFrom.setUnit hu _).trans (.of_dispKept (.foldl (fun _ _ => issueUnitStep_dispKept ..) _ _))

/-- R105: a unit of a broken ring goes, and no other comes. -/
theorem dropBroken_units (s : State) (k : Nat) : UnitsFrom s (s.dropBroken k) ∧ ∀ e ∈ (s.dropBroken k).disp.units, e.1 ≠ k := by
  unfold dropBroken
  have h1 := ((stopRun_unitsFrom s k).trans (stopPrograms_unitsFrom _ k)).trans (sendAborts_unitsFrom _ k)
  generalize ((s.stopRun k).stopPrograms k).sendAborts k = w at h1
  have hdrop : ((w.delUnit k).dropLive k).disp = (w.delUnit k).disp := dropLive_dispKept ..
  rw [hdrop]
  have h2 : UnitsFrom w (w.delUnit k) := fun _ he => List.mem_map_of_mem (Tbl.mem_del he)
  exact ⟨(h1.trans h2).trans (.of_dispKept hdrop), fun e he => Tbl.ne_of_mem_del he⟩

/-- R105: none of the units dropped is left. -/
theorem foldl_dropBroken_units (ks : List Nat) (s : State) : ∀ e ∈ (ks.foldl dropBroken s).disp.units, e.1 ∉ ks := by
  obtain ⟨-, hgone⟩ := foldl_establishes (f := dropBroken) (P := fun s k => ∀ e ∈ s.disp.units, e.1 ≠ k)
    (fun s k => (dropBroken_units s k).2)
    (fun s k j hj e he => by
      obtain ⟨x, hx, hxe⟩ := List.mem_map.1 ((dropBroken_units s k).1 e he)
      exact hxe ▸ hj x hx) ks s
  exact fun e he hk => hgone e.1 hk e he rfl

/-! ### Admin units -/

theorem adminWait_ring (s : State) (k j : Nat) : (s.adminWait k).ring j = s.ring j := by
  unfold adminWait
  split <;> rfl

theorem adminWait_jnl (s : State) (k : Nat) : (s.adminWait k).jnl = s.jnl := by
  unfold adminWait
  split <;> rfl

theorem adminWait_unit?_ne (s : State) {j k : Nat} (h : j ≠ k) : (s.adminWait k).unit? j = s.unit? j := by
  unfold adminWait
  split
  · exact unit?_setUnit_ne s _ h
  · rfl

theorem startDrain_ring (s : State) (f r : Nat) (unit : Option Nat) :
    ((s.startDrain f r unit).ring (ringOf f r)).draining = true ∧ ((s.startDrain f r unit).ring (ringOf f r)).drainFor = unit := by
  unfold startDrain
  dsimp only
  rw [showRing_ring, ring_setRing_self]
  exact ⟨rfl, rfl⟩

theorem startDrain_units (s : State) (f r : Nat) (unit : Option Nat) : (s.startDrain f r unit).disp.units = s.disp.units := by
  unfold startDrain
  dsimp only
  rw [showRing_disp]
  rfl

theorem mayFetch_draining {s : State} {f r : Nat} (h : (s.ring (ringOf f r)).draining = true) : s.mayFetch f r = false := by
  simp [mayFetch, h]

theorem dmaWrite_hepOnly (s : State) (f a : Nat) (b : Bytes) : HepOnly s (s.dmaWrite f a b) :=
  .foldl (fun _ _ => request_hepOnly ..) _ _

theorem jnl_foldl {α : Type} {f : State → α → State} (hf : ∀ s x, (f s x).jnl = s.jnl) (l : List α) (s : State) :
    (l.foldl f s).jnl = s.jnl := by
  induction l generalizing s with
  | nil => rfl
  | cons x t ih => exact (ih _).trans (hf s x)

theorem meterMem_jnl (s : State) : s.meterMem.jnl = s.jnl := by
  unfold meterMem
  dsimp only
  split
  · rfl
  · refine (jnl_foldl ?_ _ _).trans (jnl_foldl ?_ _ _)
    all_goals exact fun _ _ => rfl

/-- R65: a function that is active is not frozen. -/
theorem frozen_of_fnActive {s : State} {f : Nat} (h : s.fnActive f = true) : s.bit HEP_FREEZE HEP_FREEZE.FROZEN = false := by
  simp only [fnActive, mayRequest, maySend, Bool.and_eq_true, Bool.not_eq_true'] at h
  exact h.2.1.2.1.2

section
variable {s : State} {f : Fin 1025} {k : Nat} {u : WorkUnit} (hl : s.live = true) (hr : s.isReady = true)
  (hn : s.adminNext f.val = some (k, u))
include hl hr hn

/-- R104, R105: a command row ends its unit with the error that stands against it, or acts. -/
theorem adminRow {i : Instr} {n : Nat} {act : State → Nat → Bytes → State} {P : Host.Outcome State Fault Refusal → Prop}
    (hexec : exec i s = onLive s fun s => s.adminRun f.val n act)
    (h : admOp u.args = n → s.adminErr f.val u.args = 0 → P (.next (act s k u.args))) :
    admOp u.args = n → (s.adminErr f.val u.args ≠ 0 → exec i s = .next (s.endUnit k (s.adminErr f.val u.args) 0)) ∧
      (s.adminErr f.val u.args = 0 → P (exec i s)) := by
  intro hop
  rw [hexec, onLive_open hl, adminRun, hn]
  dsimp only
  rw [if_pos ⟨hr, hop⟩]
  refine ⟨fun he => ?_, fun he => ?_⟩
  · split
    · next h0 => exact absurd h0 he
    · rfl
  · rw [he]
    exact h hop he

/-- R105: a reserved opcode. -/
theorem exec_adminOpcodeUnknown (h : admKnown (admOp u.args) = false) :
    exec (.adminOpcodeUnknown f) s = .next (s.endUnit k 0x0100 0) := by
  have hexec : exec (.adminOpcodeUnknown f) s = execAdminOpcodeUnknown f s := rfl
  rw [hexec, execAdminOpcodeUnknown, onLive_open hl, hn]
  dsimp only
  rw [if_pos ⟨hr, by rw [h]; rfl⟩]

end

/-! ### The actions -/

section
variable (s : State) (f k : Nat) (a : Bytes)

/-- R107: `RESYNC`. -/
theorem admResync_cases :
    let o : Host.Outcome State Fault Refusal := .next (s.admResync f k a)
    let need := 256 + 64 * (s.summaryRings (admFn a)).length
    (admB a % 64 ≠ 0 → o = .next (s.endUnit k 0x0101 0)) ∧
    (admB a % 64 = 0 → s.bit HEP_FREEZE HEP_FREEZE.FROZEN = false → 64 * (admA a % 32) < need →
      o = .next (s.endUnit k 0x0106 need)) ∧
    (admB a % 64 = 0 → s.bit HEP_FREEZE HEP_FREEZE.FROZEN = true → o = .next s) ∧
    (admB a % 64 = 0 → s.bit HEP_FREEZE HEP_FREEZE.FROZEN = false → need ≤ 64 * (admA a % 32) → s.fnActive f = false →
      o = .next (s.endUnit k 0x0107 0)) ∧
    (admB a % 64 = 0 → need ≤ 64 * (admA a % 32) → s.fnActive f = true → s.reach f (admB a) need = false →
      ∃ t : State, o = .next t ∧ t.disp = s.disp) ∧
    (admB a % 64 = 0 → need ≤ 64 * (admA a % 32) → s.fnActive f = true → s.reach f (admB a) need = true →
      ∃ w : State, o = .next (w.endUnit k 0 need) ∧ w.out = (s.dmaWrite f (admB a) (s.summary (admFn a))).out ∧
        w.disp = s.disp) := by
  intro o need
  have hneed' : need ≤ 64 * (admA a % 32) → ¬ 64 * (admA a % 32) < 256 + 64 * (s.summaryRings (admFn a)).length := not_lt.2
  refine ⟨fun h => congrArg _ ?_, fun h hf hneed => congrArg _ ?_, fun h hf => congrArg _ ?_,
    fun h hf hneed hact => congrArg _ ?_, fun h hneed hact hreach => ?_, fun h hneed hact hreach => ?_⟩
  · rw [admResync, if_pos h]
  · rw [admResync, if_neg (not_not.2 h), hf, if_neg Bool.false_ne_true, if_pos hneed]
  · rw [admResync, if_neg (not_not.2 h), if_pos hf]
  · rw [admResync, if_neg (not_not.2 h), hf, if_neg Bool.false_ne_true, if_neg (hneed' hneed), hact, if_pos (by decide)]
  · have hask : s.admResync f k a = (s.askPages f (admB a) need).pumpReads := by
      rw [admResync, if_neg (not_not.2 h), frozen_of_fnActive hact, if_neg Bool.false_ne_true, if_neg (hneed' hneed), hact,
        if_neg (by decide), hreach, if_pos (by decide)]
    exact ⟨_, congrArg _ hask, (pumpReads_hepOnly _).disp⟩
  · have hwrite : s.admResync f k a = (s.writeSummary f (admFn a) (admB a)).endUnit k 0 need := by
      rw [admResync, if_neg (not_not.2 h), frozen_of_fnActive hact, if_neg Bool.false_ne_true, if_neg (hneed' hneed), hact,
        if_neg (by decide), hreach, if_neg (by decide)]
    have hdisp := (dmaWrite_hepOnly s f (admB a) (s.summary (admFn a))).disp
    have ho : o = .next ((s.writeSummary f (admFn a) (admB a)).endUnit k 0 need) := congrArg _ hwrite
    rw [writeSummary] at ho
    clear_value o
    generalize s.dmaWrite f (admB a) (s.summary (admFn a)) = w at ho hdisp ⊢
    exact ⟨_, ho, rfl, hdisp⟩

/-- R105: `RING_DRAIN`. -/
theorem admDrain_cases :
    let o : Host.Outcome State Fault Refusal := .next (s.admDrain k a)
    let g := admFn a
    let r := admRing a
    let rk := ringOf g r
    (s.sqEnabled g r = false → o = .next (s.endUnit k 0 (s.ring rk).nextAsn)) ∧
    (s.sqEnabled g r = true → (s.ring rk).draining = true → o = .next (s.endUnit k 0x0103 0)) ∧
    (s.sqEnabled g r = true → (s.ring rk).draining = false → ∃ t : State, o = .next t ∧ (t.ring rk).draining = true ∧
      (t.ring rk).drainFor = some k ∧ t.mayFetch g r = false ∧ (∀ x, x ≠ k → t.unit? x = s.unit? x)) := by
  intro o g r rk
  refine ⟨fun hen => congrArg _ ?_, fun hen hd => congrArg _ ?_, fun hen hd => ?_⟩
  · rw [admDrain, hen, if_pos (by decide)]
  · rw [admDrain, hen, if_neg (by decide), hd, if_pos rfl]
  · have hdrain : s.admDrain k a = (s.startDrain g r (some k)).adminWait k := by
      rw [admDrain, hen, if_neg (by decide), hd, if_neg Bool.false_ne_true]
    obtain ⟨hdraining, hfor⟩ := startDrain_ring s g r (some k)
    have hring := adminWait_ring (s.startDrain g r (some k)) k rk
    refine ⟨_, congrArg _ hdrain, hring ▸ hdraining, hring ▸ hfor, mayFetch_draining (hring ▸ hdraining), fun x hx => ?_⟩
    refine (adminWait_unit?_ne _ hx).trans ?_
    simp only [unit?, startDrain_units]

/-- R105: `RING_RESET` of a broken ring. -/
theorem admReset_broken :
    let o : Host.Outcome State Fault Refusal := .next (s.admReset k a)
    let rk := ringOf (admFn a) (admRing a)
    (s.ring rk).broken = true → ∃ w : State, o = .next ((w.showRing rk).endUnit k 0 (s.ring rk).nextAsn) ∧
      (w.ring rk).broken = false ∧ (w.ring rk).floor = (s.ring rk).nextAsn ∧ (w.ring rk).window = [] ∧
      (∀ e ∈ w.disp.units, e.1 ∉ (s.ringUnits rk).map (·.1)) := by
  intro o rk hb
  have hreset : s.admReset k a = ((((((s.ringUnits rk).map (·.1)).foldl dropBroken s).setRing rk
      { (((s.ringUnits rk).map (·.1)).foldl dropBroken s).ring rk with
        floor := (s.ring rk).nextAsn, broken := false, window := [], leftWindow := [], postQ := [], postOld := [] }).showRing
      rk).endUnit k 0 (s.ring rk).nextAsn) := by
    rw [admReset, hb, if_neg (by decide)]
  refine ⟨_, congrArg _ hreset, ?_, ?_, ?_, foldl_dropBroken_units _ s⟩
  all_goals rw [ring_setRing_self]

/-- R48, R105: `RING_MIRROR`. -/
theorem admMirror_cases :
    let o : Host.Outcome State Fault Refusal := .next (s.admMirror f k a)
    let r := admRing a
    let own := ringOf f r
    let p := admA a / 2 ^ 8 % 8
    let q := s.partner p
    let part := if (s.ring own).exists_ then (s.ring own).part else s.fld (RING_SQ_CFG f r) RING_SQ_CFG.PARTITION
    (s.sqEnabled f r = true → o = .next (s.endUnit k 0x0103 0)) ∧
    (s.sqEnabled f r = false → admA a / 2 ^ 15 % 2 = 1 → (q.present = false ∨ q.clash = true ∨ part ∉ q.standby) →
      o = .next (s.endUnit k 0x0105 0)) ∧
    (s.sqEnabled f r = false → (admA a / 2 ^ 15 % 2 = 0 ∨ (q.present = true ∧ q.clash = false ∧ part ∈ q.standby)) →
      ∃ w : State, o = .next (w.endUnit k 0 0) ∧ (w.ring own).mirror = if admA a / 2 ^ 15 % 2 = 1 then some p else none) := by
  intro o r own p q part
  refine ⟨fun hen => congrArg _ ?_, fun hen hbit href => congrArg _ ?_, fun hen hgood => ?_⟩
  · rw [admMirror, if_pos hen]
  · rw [admMirror, hen, if_neg Bool.false_ne_true, if_neg (by omega), if_pos]
    rcases href with h | h | h
    · exact .inl (by rw [h]; rfl)
    · exact .inr (.inl h)
    · exact .inr (.inr (by rw [Bool.not_eq_true', ← Bool.not_eq_true, List.contains_iff_mem]; exact h))
  · by_cases hbit : admA a / 2 ^ 15 % 2 = 1
    · obtain ⟨hp, hc, hs⟩ := hgood.resolve_left (by omega)
      have hset : s.admMirror f k a = ((s.setRing own { s.ring own with mirror := some p, fenced := s.bit JNL_MIRROR ⟨8 + p, 1⟩ }).showRing
          own).endUnit k 0 0 := by
        rw [admMirror, hen, if_neg Bool.false_ne_true, if_neg (by omega), if_neg]
        rintro (h | h | h)
        · rw [hp] at h; exact absurd h (by decide)
        · rw [hc] at h; exact absurd h (by decide)
        · rw [List.contains_iff_mem.2 hs] at h; exact absurd h (by decide)
      refine ⟨_, congrArg _ hset, ?_⟩
      rw [showRing_ring, ring_setRing_self, if_pos hbit]
    · have hset : s.admMirror f k a = ((s.setRing own { s.ring own with mirror := none, fenced := false }).showRing own).endUnit k 0 0 := by
        rw [admMirror, hen, if_neg Bool.false_ne_true, if_pos (by omega)]
      refine ⟨_, congrArg _ hset, ?_⟩
      rw [showRing_ring, ring_setRing_self, if_neg hbit]

/-- R50, R105: `RING_ADOPT`. -/
theorem admAdopt_cases (hf : f < 1025) (hring : admRing a ≤ 15) :
    let o : Host.Outcome State Fault Refusal := .next (s.admAdopt f k a)
    let r := admRing a
    let own := ringOf f r
    let org := (admA a % 8, admB a % 2 ^ 11, admB a / 2 ^ 16 % 16)
    let y := s.ring (adoptKey org.1 org.2.1 org.2.2)
    (s.sqEnabled f r = true → o = .next (s.endUnit k 0x0103 0)) ∧
    (s.sqEnabled f r = false → (s.ring own).adopted ≠ some org → (s.ring own).exists_ = false → y.adopted ≠ some org →
      o = .next (s.endUnit k 0x0101 0)) ∧
    (s.sqEnabled f r = false → (s.ring own).adopted ≠ some org → (s.ring own).exists_ = false → y.adopted = some org →
      s.dedupFree ≠ 0 → ∃ w : State, o = .next (w.endUnit k 0 y.nextAsn) ∧ w.ring own = { y with exists_ := true } ∧
        w.ring (adoptKey org.1 org.2.1 org.2.2) = {}) := by
  intro o r own org y
  refine ⟨fun hen => congrArg _ ?_, fun hen had hex hy => congrArg _ ?_, fun hen had hex hy hfree => ?_⟩
  · rw [admAdopt, if_pos hen]
  · rw [admAdopt, hen, if_neg Bool.false_ne_true, if_neg had, hex, if_neg Bool.false_ne_true, if_pos hy]
  · have hadopt : s.admAdopt f k a = (((((s.rekeySeries (adoptKey org.1 org.2.1 org.2.2) own).setRing own
        { y with exists_ := true }).setRing (adoptKey org.1 org.2.1 org.2.2) {}).showRing own).endUnit k 0 y.nextAsn) := by
      rw [admAdopt, hen, if_neg Bool.false_ne_true, if_neg had, hex, if_neg Bool.false_ne_true, if_neg (not_not.2 hy),
        if_neg hfree]
    have hne : own ≠ adoptKey org.1 org.2.1 org.2.2 := by
      have hown : own = f * 17 + admRing a := rfl
      rw [hown]
      unfold adoptKey ringOf
      omega
    refine ⟨_, congrArg _ hadopt, ?_, ?_⟩
    · rw [showRing_ring, ring_setRing_ne _ _ hne, ring_setRing_self]
    · rw [showRing_ring, ring_setRing_self]

/-- R105: `RING_PURGE`. -/
theorem admPurge_cases :
    let o : Host.Outcome State Fault Refusal := .next (s.admPurge k a)
    let g := admFn a
    let r := admRing a
    let rk := ringOf g r
    ((s.sqEnabled g r = true ∨ s.ringUnits rk ≠ []) → o = .next (s.endUnit k 0x0103 0)) ∧
    (s.sqEnabled g r = false → (s.ring rk).draining = false → s.ringUnits rk = [] → (s.ring rk).fetched = [] →
      ∃ t : State, o = .next t ∧ t.ring rk = { purgeFor := some k } ∧ t.jnl = s.jnl) := by
  intro o g r rk
  refine ⟨fun h => congrArg _ ?_, fun hen hd hunits hfetched => ?_⟩
  · rw [admPurge, if_pos (h.imp_right fun hu => .inr (.inl hu))]
  · have hpurge : s.admPurge k a = ((s.meterMem.setRing rk { purgeFor := some k }).showRing rk).adminWait k := by
      rw [admPurge, if_neg]
      rintro (h | h | h | h)
      · rw [hen] at h; exact absurd h (by decide)
      · rw [hd] at h; exact absurd h (by decide)
      · exact h hunits
      · exact h hfetched
    refine ⟨_, congrArg _ hpurge, ?_, ?_⟩
    · rw [adminWait_ring, showRing_ring, ring_setRing_self]
    · rw [adminWait_jnl]
      exact (showRing_ringsOnly ..).jnl.trans (meterMem_jnl s)

/-- R106: `VF_SET_RINGS`. -/
theorem admSetRings_cases :
    let o : Host.Outcome State Fault Refusal := .next (s.admSetRings k a)
    let g := admFn a
    let x := s.fn g
    (16 < admA a → o = .next (s.endUnit k 0x0101 0)) ∧ (admA a ≤ 16 → x.setRings.isSome = true → o = .next (s.endUnit k 0x0103 0)) ∧
    (admA a ≤ 16 → x.setRings = none → x.ringCount ≤ admA a →
      o = .next ((s.setFn g { x with ringCount := admA a }).endUnit k 0 x.ringCount)) ∧
    (x.setRings = none → admA a < x.ringCount → admA a ≤ 16 →
      (∃ q, q < 16 ∧ q < admA a ∧ s.sqEnabled g q = true ∧ admA a ≤ s.cqOf g q) → o = .next (s.endUnit k 0x0103 0)) := by
  intro o g x
  have hset : x.setRings = none → ¬ x.setRings.isSome = true := fun h => by rw [h]; exact Bool.false_ne_true
  refine ⟨fun h => congrArg _ ?_, fun h hs => congrArg _ ?_, fun h hs hn => congrArg _ ?_, fun hs hn h hq => congrArg _ ?_⟩
  · rw [admSetRings, if_pos h]
  · rw [admSetRings, if_neg (not_lt.2 h), if_pos hs]
  · rw [admSetRings, if_neg (not_lt.2 h), if_neg (hset hs), if_pos hn]
  · obtain ⟨q, hq16, hqn, hen, hcq⟩ := hq
    rw [admSetRings, if_neg (not_lt.2 h), if_neg (hset hs), if_neg (not_le.2 hn), if_pos]
    exact List.any_eq_true.2 ⟨q, List.mem_filter.2 ⟨List.mem_range.2 hq16, hen⟩,
      Bool.and_eq_true_iff.2 ⟨decide_eq_true hqn, decide_eq_true hcq⟩⟩

/-- R105: a setting of a VF within its range. -/
theorem admSet_set {n most : Nat} (h : n ≤ most) (prev : FnState → Nat) (change : FnState → FnState) :
    s.admSet k a n most false prev change = (s.setFn (admFn a) (change (s.fn (admFn a)))).endUnit k 0 (prev (s.fn (admFn a))) := by
  unfold admSet
  dsimp only
  rw [if_neg (not_lt.2 h), if_neg Bool.false_ne_true]

theorem admSet_range {n most : Nat} (h : most < n) (busy : Bool) (prev : FnState → Nat) (change : FnState → FnState) :
    s.admSet k a n most busy prev change = s.endUnit k 0x0101 0 := by
  unfold admSet
  dsimp only
  rw [if_pos h]

theorem admSet_busy {n most : Nat} (h : n ≤ most) (prev : FnState → Nat) (change : FnState → FnState) :
    s.admSet k a n most true prev change = s.endUnit k 0x0103 0 := by
  unfold admSet
  dsimp only
  rw [if_neg (not_lt.2 h), if_pos rfl]

/-- R105: a VF may not use the PF's commands. -/
theorem adminErr_vf (hf : f ≠ 0) (hop : admPfOnly (admOp a) = true) (hr : admRing a ≤ 15) (hg : admFn a ≤ 1024) :
    s.adminErr f a = 0x0102 := by
  unfold adminErr
  dsimp only
  rw [if_neg (fun h => absurd h.2 (not_lt.2 hr)), if_neg (fun h => absurd h.2 (not_lt.2 hg)), if_pos ⟨hf, .inl hop⟩]

/-- R79, R105: the PF may not command a VF whose TDI is not unlocked. -/
theorem adminErr_locked (hop : admHasFn (admOp a) = true) (hg0 : admFn a ≠ 0) (hg : admFn a ≤ 1024) (hr : admRing a ≤ 15)
    (hp : s.fnPresent (admFn a) = true) (ht : s.tdi (admFn a) ≠ 0) : s.adminErr 0 a = 0x0102 := by
  unfold adminErr
  dsimp only
  rw [if_neg (fun h => absurd h.2 (not_lt.2 hr)), if_neg (fun h => absurd h.2 (not_lt.2 hg)), if_neg (fun h => h.1 rfl),
    if_neg (fun h => hg0 h.2), if_neg (fun h => by rw [hp] at h; exact absurd h.2 (by decide)), if_pos ⟨rfl, hop, hg0, ht⟩]

end

theorem admRing_le_of_err {s : State} {f : Nat} {a : Bytes} (hop : admHasRing (admOp a) = true) (h : s.adminErr f a = 0) :
    admRing a ≤ 15 := by
  by_contra hlt
  unfold adminErr at h
  dsimp only at h
  rw [if_pos ⟨hop, not_le.1 hlt⟩] at h
  exact absurd h (by decide)

end State

/-- Settles O12: each row ends its unit with the error that stands against it, or acts as one lemma says. -/
theorem adminCommands : Obligations.AdminCommands := by
  unfold Obligations.AdminCommands
  intro s f k u hl hr hn a g r rk own err op ends
  have row : ∀ {n : Nat} {i : Instr} {act : State → Nat → Bytes → State} {P : Host.Outcome State Fault Refusal → Prop},
      exec i s = onLive s (fun s => s.adminRun f.val n act) → (admOp a = n → err = 0 → P (.next (act s k a))) → op n i P :=
    fun hexec h => State.adminRow hl hr hn hexec h
  clear_value op
  refine ⟨row rfl fun _ _ => rfl,
    row rfl fun _ _ => s.admResync_cases f.val k a,
    row rfl fun _ _ => s.admDrain_cases k a,
    row rfl fun _ _ hb _ => s.admReset_broken k a hb,
    row rfl fun _ _ => s.admMirror_cases f.val k a,
    row rfl fun hop he => s.admAdopt_cases f.val k a f.isLt (State.admRing_le_of_err (by rw [hop]; decide) he),
    row rfl fun _ _ => s.admPurge_cases k a,
    row rfl fun _ _ => s.admSetRings_cases k a,
    row rfl fun _ _ => congrArg Host.Outcome.next (s.admSet_set k a (le_refl 0) _ _),
    row rfl fun _ _ => ⟨fun h => ?_, fun h hbusy => ?_, fun h hbusy => ?_⟩,
    row rfl fun _ _ => ⟨fun h => congrArg Host.Outcome.next (s.admSet_range k a h _ _ _),
      fun h => congrArg Host.Outcome.next (s.admSet_set k a h _ _)⟩,
    row rfl fun _ _ => ⟨fun h => congrArg Host.Outcome.next (s.admSet_range k a h _ _ _),
      fun h => congrArg Host.Outcome.next (s.admSet_set k a h _ _)⟩,
    State.exec_adminOpcodeUnknown hl hr hn,
    fun hf hop hr hg => s.adminErr_vf f.val a hf hop hr hg, fun hf hop hg0 hg hr hp ht => ?_⟩
  · exact congrArg Host.Outcome.next (s.admSet_range k a h _ _ _)
  · rw [decide_eq_true hbusy]
    exact congrArg Host.Outcome.next (s.admSet_busy k a h _ _)
  · rw [decide_eq_false (not_lt.2 hbusy)]
    exact congrArg Host.Outcome.next (s.admSet_set k a h _ _)
  · show s.adminErr f.val a = 0x0102
    rw [hf]
    exact s.adminErr_locked a hop hg0 hg hr hp ht

end Sys2Proof.Machine
end

section
/-!
SUPPORT. What registers read after bits and fields of others were written, and what the endpoint's own operations on TDIs and
streams, its freeze and the reads it drops leave alone (R69 to R75).
-/
namespace Sys2Proof.Machine
open Sys2Proof

namespace State

/-! ### Registers and functions -/

theorem bit_setFld_ne (s : State) {a b : Nat} (f g : Fld) (n : Nat) (h : b ≠ a) : (s.setFld a f n).bit b g = s.bit b g := by
  simp only [bit, fld_setFld_ne s f g n h]

theorem bit_setBit_ne (s : State) {a b : Nat} (f g : Fld) (x : Bool) (h : b ≠ a) : (s.setBit a f x).bit b g = s.bit b g :=
  bit_setFld_ne s f g _ h

theorem bit_setFld_apart (s : State) (a : Nat) (f g : Fld) (n : Nat) (h : f.lo + f.len ≤ 64)
    (hd : g.lo + g.len ≤ f.lo ∨ f.lo + f.len ≤ g.lo) : (s.setFld a f n).bit a g = s.bit a g := by
  simp only [bit, fld_setFld_apart s a f g n h hd]

theorem fn_setFn_self (s : State) (f : Nat) (x : FnState) : (s.setFn f x).fn f = x := Tbl.get_set_self ..

/-- A function's TDI and its state are fields of a register of its own. -/
theorem fnReg_ne_event (f : Nat) : HEP_EVENT ≠ HEP_FN_STATE f := by unfold HEP_EVENT HEP_FN_STATE; omega

/-! ### TDIs and streams -/

@[simp] theorem setTdi_hep (s : State) (f n : Nat) : (s.setTdi f n).hep = s.hep := by unfold setTdi; split <;> rfl
@[simp] theorem setTdi_disp (s : State) (f n : Nat) : (s.setTdi f n).disp = s.disp := by unfold setTdi; split <;> rfl
@[simp] theorem setTdi_tb (s : State) (f n : Nat) : (s.setTdi f n).tb = s.tb := by unfold setTdi; split <;> rfl

theorem setTdi_regs (s : State) (f n : Nat) : (s.setTdi f n).regs = (s.setFld (HEP_FN_STATE f) HEP_FN_STATE.TDI n).regs := by
  unfold setTdi; split <;> rfl

theorem bit_of_regs {s t : State} (h : t.regs = s.regs) (a : Nat) (f : Fld) : t.bit a f = s.bit a f := by
  simp only [bit, fld, reg, h]

/-- A TDI goes to ERROR within the endpoint, and no bit of `HEP_EVENT` but its own moves. -/
theorem tdiError_spec (s : State) (f : Nat) : (s.tdiError f).hep = s.hep ∧
    (s.tdiError f).bit HEP_EVENT HEP_EVENT.IDE_FAIL = s.bit HEP_EVENT HEP_EVENT.IDE_FAIL := by
  unfold tdiError
  split
  · refine ⟨(setBit_hep ..).trans (setTdi_hep s f 3), (bit_setBit_apart _ _ (by omega) (by omega)).trans ?_⟩
    rw [bit_of_regs (setTdi_regs ..)]
    exact bit_setFld_ne s _ _ _ (fnReg_ne_event f)
  · exact ⟨rfl, rfl⟩

theorem unbind_spec (s : State) (st : Nat) : (s.unbind st).hep = s.hep ∧
    (s.unbind st).bit HEP_EVENT HEP_EVENT.IDE_FAIL = s.bit HEP_EVENT HEP_EVENT.IDE_FAIL :=
  List.foldlRecOn (motive := fun t : State => t.hep = s.hep ∧
      t.bit HEP_EVENT HEP_EVENT.IDE_FAIL = s.bit HEP_EVENT HEP_EVENT.IDE_FAIL) _ _ ⟨rfl, rfl⟩
    fun t ⟨hhep, hbit⟩ f _ => ⟨(tdiError_spec t f).1.trans hhep, (tdiError_spec t f).2.trans hbit⟩

/-- R74: the stream that is lost is insecure, and the failed check stays reported. -/
theorem loseStream_spec (s : State) (st : Nat) : ((s.loseStream st).hep.ide.get {} st).secure = false ∧
    (s.loseStream st).bit HEP_EVENT HEP_EVENT.IDE_FAIL = s.bit HEP_EVENT HEP_EVENT.IDE_FAIL := by
  unfold loseStream
  extract_lets x e t u
  obtain ⟨hhep, hbit⟩ := unbind_spec u st
  have hide : u.hep = t.hep := by unfold u; split <;> rfl
  refine ⟨by rw [hhep, hide]; exact congrArg IdeStream.secure (Tbl.get_set_self ..), hbit.trans ?_⟩
  have ht : t.regs = s.regs := rfl
  rw [← bit_of_regs ht]
  unfold u
  split
  · exact bit_setBit_ne t _ _ _ (by decide)
  · rfl

/-! ### Freeze -/

theorem freezeCode_lt (c : FreezeCause) : freezeCode c < 256 := by cases c <;> decide

/-- R70: the trigger in AER of its function, where it has a status bit there. -/
def aerLogged (s : State) (c : FreezeCause) (f : Nat) : State :=
  if freezeCode c < 0x10 then s.setFn f { s.fn f with aer := (freezeCode c :: (s.fn f).aer).eraseDups } else s

/-- R71: the endpoint enters freeze for cause `c`. -/
def enterFreeze (s : State) (c : FreezeCause) : State :=
  let t := (s.setBit HEP_FREEZE HEP_FREEZE.FROZEN).setFld HEP_FREEZE HEP_FREEZE.CAUSE (freezeCode c)
  ({ t with hep := { t.hep with pfOut := [] } }).setBit HEP_EVENT HEP_EVENT.FROZE

theorem enterFreeze_regs (s : State) (c : FreezeCause) : (s.enterFreeze c).regs =
    (((s.setBit HEP_FREEZE HEP_FREEZE.FROZEN).setFld HEP_FREEZE HEP_FREEZE.CAUSE (freezeCode c)).setBit HEP_EVENT
      HEP_EVENT.FROZE).regs := rfl

@[simp] theorem aerLogged_regs (s : State) (c : FreezeCause) (f : Nat) : (s.aerLogged c f).regs = s.regs := by
  unfold aerLogged; split <;> rfl
@[simp] theorem aerLogged_disp (s : State) (c : FreezeCause) (f : Nat) : (s.aerLogged c f).disp = s.disp := by
  unfold aerLogged; split <;> rfl
@[simp] theorem aerLogged_jnl (s : State) (c : FreezeCause) (f : Nat) : (s.aerLogged c f).jnl = s.jnl := by
  unfold aerLogged; split <;> rfl
@[simp] theorem aerLogged_ide (s : State) (c : FreezeCause) (f : Nat) : (s.aerLogged c f).hep.ide = s.hep.ide := by
  unfold aerLogged; split <;> rfl

theorem mem_aerLogged (s : State) {c : FreezeCause} (f : Nat) (h : freezeCode c < 0x10) :
    freezeCode c ∈ ((s.aerLogged c f).fn f).aer := by
  rw [aerLogged, if_pos h, fn_setFn_self]
  exact List.mem_eraseDups.2 (List.mem_cons_self ..)

theorem freeze_eq (s : State) (c : FreezeCause) (f : Nat) : s.freeze c f =
    if s.bit HEP_FREEZE HEP_FREEZE.FROZEN = true then s.aerLogged c f else (s.aerLogged c f).enterFreeze c := by
  have h := bit_of_regs (aerLogged_regs s c f) HEP_FREEZE HEP_FREEZE.FROZEN
  rw [← h]; rfl

theorem enterFreeze_frozen (s : State) (c : FreezeCause) : (s.enterFreeze c).bit HEP_FREEZE HEP_FREEZE.FROZEN = true := by
  rw [bit_of_regs (enterFreeze_regs s c), bit_setBit_ne _ _ _ _ (by decide), bit_setFld_apart _ _ _ _ _ (by decide) (by decide)]
  exact bit_setBit_self s _ _ _ (by decide)

theorem enterFreeze_cause (s : State) (c : FreezeCause) : (s.enterFreeze c).fld HEP_FREEZE HEP_FREEZE.CAUSE = freezeCode c := by
  rw [fld_of_regs (enterFreeze_regs s c), setBit_eq, fld_setFld_ne _ _ _ _ (by decide), fld_setFld_self _ _ _ _ (by decide)]
  exact Nat.mod_eq_of_lt (freezeCode_lt c)

theorem enterFreeze_event (s : State) (c : FreezeCause) : (s.enterFreeze c).bit HEP_EVENT HEP_EVENT.FROZE = true := by
  rw [bit_of_regs (enterFreeze_regs s c)]
  exact bit_setBit_self _ _ _ _ (by decide)

theorem enterFreeze_ideFail (s : State) (c : FreezeCause) :
    (s.enterFreeze c).bit HEP_EVENT HEP_EVENT.IDE_FAIL = s.bit HEP_EVENT HEP_EVENT.IDE_FAIL := by
  rw [bit_of_regs (enterFreeze_regs s c)]
  refine (bit_setBit_apart _ _ (by omega) (by omega)).trans ?_
  exact (bit_setFld_ne _ _ _ _ (by decide)).trans (bit_setBit_ne _ _ _ _ (by decide))

theorem freeze_frozen (s : State) (c : FreezeCause) (f : Nat) : (s.freeze c f).bit HEP_FREEZE HEP_FREEZE.FROZEN = true := by
  rw [freeze_eq]
  split
  · next h => rwa [bit_of_regs (aerLogged_regs ..)]
  · exact enterFreeze_frozen ..

/-- R70: the first cause is kept. -/
theorem freeze_cause_kept (s : State) (c : FreezeCause) (f : Nat) (h : s.bit HEP_FREEZE HEP_FREEZE.FROZEN = true) :
    (s.freeze c f).fld HEP_FREEZE HEP_FREEZE.CAUSE = s.fld HEP_FREEZE HEP_FREEZE.CAUSE := by
  rw [freeze_eq, if_pos h, fld_of_regs (aerLogged_regs ..)]

theorem freeze_cause (s : State) (c : FreezeCause) (f : Nat) (h : s.bit HEP_FREEZE HEP_FREEZE.FROZEN = false) :
    (s.freeze c f).fld HEP_FREEZE HEP_FREEZE.CAUSE = freezeCode c := by
  rw [freeze_eq, if_neg (by simp [h]), enterFreeze_cause]

theorem freeze_event (s : State) (c : FreezeCause) (f : Nat) (h : s.bit HEP_FREEZE HEP_FREEZE.FROZEN = false) :
    (s.freeze c f).bit HEP_EVENT HEP_EVENT.FROZE = true := by
  rw [freeze_eq, if_neg (by simp [h]), enterFreeze_event]

/-- R71: beyond the registers, a freeze reaches the endpoint only. -/
theorem freeze_disp (s : State) (c : FreezeCause) (f : Nat) : (s.freeze c f).disp = s.disp := by
  rw [freeze_eq]; split <;> exact aerLogged_disp ..

theorem freeze_jnl (s : State) (c : FreezeCause) (f : Nat) : (s.freeze c f).jnl = s.jnl := by
  rw [freeze_eq]; split <;> exact aerLogged_jnl ..

theorem freeze_ide (s : State) (c : FreezeCause) (f : Nat) : (s.freeze c f).hep.ide = s.hep.ide := by
  rw [freeze_eq]; split <;> exact aerLogged_ide ..

theorem mem_freeze_aer (s : State) {c : FreezeCause} (f : Nat) (h : freezeCode c < 0x10) :
    freezeCode c ∈ ((s.freeze c f).fn f).aer := by
  rw [freeze_eq]; split <;> exact mem_aerLogged s f h

theorem freeze_ideFail (s : State) (c : FreezeCause) (f : Nat) :
    (s.freeze c f).bit HEP_EVENT HEP_EVENT.IDE_FAIL = s.bit HEP_EVENT HEP_EVENT.IDE_FAIL := by
  rw [freeze_eq, ← bit_of_regs (aerLogged_regs s c f) HEP_EVENT]
  split
  · rfl
  · exact enterFreeze_ideFail ..

section
variable {s : State} (h : s.bit HEP_FREEZE HEP_FREEZE.FROZEN = true)
include h

/-- R71: a frozen endpoint initiates nothing. -/
theorem fnActive_of_frozen (g : Nat) : s.fnActive g = false := by simp [fnActive, mayRequest, maySend, h]

theorem mayFetch_of_frozen (g r : Nat) : s.mayFetch g r = false := by simp [mayFetch, fnActive_of_frozen h]

theorem mayPost_of_frozen (g r : Nat) : s.mayPost g r = false := by simp [mayPost, fnActive_of_frozen h]

end

/-! ### Reads given up -/

@[simp] theorem dropRead_regs (s : State) (q : ReadReq) : (s.dropRead q).regs = s.regs := by
  unfold dropRead; dsimp only; split
  · split <;> rfl
  · rfl

@[simp] theorem dropRead_units (s : State) (q : ReadReq) : (s.dropRead q).disp.units = s.disp.units := by
  unfold dropRead; dsimp only; split
  · split <;> rfl
  · rfl

/-- What a discarded read would have brought is not fetched again. -/
theorem dropRead_disp_of_discard (s : State) {q : ReadReq} (h : q.discard = true) : (s.dropRead q).disp = s.disp := by
  unfold dropRead; dsimp only; split
  · rw [if_pos h]
  · rfl

theorem dropRead_reads (s : State) (q : ReadReq) : (s.dropRead q).hep.reads = s.hep.reads.filter (fun x => x.tag != q.tag) := by
  unfold dropRead; dsimp only; split
  · split <;> rfl
  · rfl

theorem tag_ne_of_mem_dropRead {s : State} {q x : ReadReq} (h : x ∈ (s.dropRead q).hep.reads) : x.tag ≠ q.tag := by
  rw [dropRead_reads] at h
  simpa using (List.mem_filter.1 h).2

end State
end Sys2Proof.Machine
end

section
/-!
R54, R68 to R73: completions and their timeouts, freeze and release, AtomicOps and ATS invalidations, and the settlement of O8.
-/
namespace Sys2Proof.Machine
open Sys2Proof

/-! ### Completions -/

/-- R69: the state after a late completion of the read `q`, before the reads that wait for its tag go on. -/
def State.lateCompletion (s : State) (q : ReadReq) : State :=
  ((s.dropRead { q with discard := true }).bump HEP_LATE_CPL HEP_LATE_CPL.COUNT).setBit HEP_EVENT HEP_EVENT.LATE_CPL

theorem State.lateCompletion_spec (s : State) (q : ReadReq) :
    (s.lateCompletion q).fld HEP_LATE_CPL HEP_LATE_CPL.COUNT = (s.fld HEP_LATE_CPL HEP_LATE_CPL.COUNT + 1) % 2 ^ 64 ∧
      (s.lateCompletion q).bit HEP_EVENT HEP_EVENT.LATE_CPL = true ∧ (s.lateCompletion q).disp = s.disp ∧
      ∀ x ∈ (s.lateCompletion q).hep.reads, x.tag ≠ q.tag := by
  refine ⟨?_, bit_setBit_self _ _ _ _ (by decide), dropRead_disp_of_discard s rfl, fun x => tag_ne_of_mem_dropRead⟩
  rw [lateCompletion, setBit_eq, fld_setFld_ne _ _ _ _ (by decide), bump, fld_setFld_self _ _ _ _ (by decide),
    fld_of_regs (dropRead_regs ..)]
  rfl

section
variable {s : State} {tag : Nat} {q : ReadReq} (hl : s.live = true)
  (hq : s.hep.reads.find? (fun x => x.tag == tag) = some q)
include hl hq

omit hl in
theorem tag_of_find : q.tag = tag := by simpa using List.find?_some hq

theorem exec_completionTlp_late (st : CplStatus) (data : Bytes) (hquar : q.quarantined = true) :
    exec (.completionTlp tag st data) s = .next (s.lateCompletion q).pumpReads := by
  have hexec : exec (.completionTlp tag st data) s = execCompletionTlp tag st data s := rfl
  rw [hexec, execCompletionTlp, onLive_open hl]
  dsimp only
  rw [hq]
  exact congrArg Host.Outcome.next (if_pos hquar)

/-- R71, R68: a completion that brings no data. -/
theorem exec_completionTlp_lost (st : CplStatus) (data : Bytes) (hquar : q.quarantined = false)
    (h : q.discard = true ∨ s.bit HEP_FREEZE HEP_FREEZE.FROZEN = true ∨ st ≠ .success) :
    exec (.completionTlp tag st data) s =
      .next (State.pumpReads (if q.kind = .translation ∧ s.bit HEP_FREEZE HEP_FREEZE.FROZEN = false then
        (if q.discard = true then (s.dropRead q).atsResume q.fn else (s.dropRead q).translated q.fn (q.addr / 4096) [])
        else s.dropRead q)) := by
  have hexec : exec (.completionTlp tag st data) s = execCompletionTlp tag st data s := rfl
  rw [hexec, execCompletionTlp, onLive_open hl]
  dsimp only
  rw [hq]
  dsimp only
  rw [if_neg (by simp [hquar]), if_pos h, State.bit_of_regs (State.dropRead_regs s q), ← apply_ite State.pumpReads]
  simp only [Bool.not_eq_true']

theorem exec_completionTlp_data (data : Bytes) (hquar : q.quarantined = false) (hdis : q.discard = false)
    (hf : s.bit HEP_FREEZE HEP_FREEZE.FROZEN = false) :
    ∃ u : State, (∀ x ∈ u.hep.reads, x.tag ≠ tag) ∧ u.disp = s.disp ∧ u.regs = s.regs ∧
      exec (.completionTlp tag .success data) s = .next (State.pumpReads (match q.kind with
        | .doorbell poll => u.doorbellData q.fn poll data
        | .descriptors r c k => u.descriptorData q.fn r c k data
        | .translation => u.translated q.fn (q.addr / 4096) data)) := by
  have hexec : exec (.completionTlp tag .success data) s = execCompletionTlp tag .success data s := rfl
  refine ⟨{ s with hep := { s.hep with reads := s.hep.reads.filter (fun x => x.tag != tag) } },
    fun x hx => by simpa using (List.mem_filter.1 hx).2, rfl, rfl, ?_⟩
  rw [hexec, execCompletionTlp, onLive_open hl]
  dsimp only
  rw [hq]
  exact congrArg Host.Outcome.next ((if_neg (by simp [hquar])).trans (if_neg (by simp [hdis, hf])))

/-! ### Completion timeouts -/

theorem exec_completionTimeout_found : exec (.completionTimeout tag) s = .next (if q.expired s.tb then s.timedOut q else s) := by
  have hexec : exec (.completionTimeout tag) s = execCompletionTimeout tag s := rfl
  rw [hexec, execCompletionTimeout, onLive_open hl, hq]

theorem exec_completionTimeout_early {d : Nat} (hd : q.due = some d) (h : s.tb < d) :
    exec (.completionTimeout tag) s = .next s := by
  rw [exec_completionTimeout_found hl hq, if_neg (by simp [ReadReq.expired, hd, h])]

theorem exec_completionTimeout_due (h : ∀ d, q.due = some d → d ≤ s.tb) :
    exec (.completionTimeout tag) s = .next (s.timedOut q) := by
  rw [exec_completionTimeout_found hl hq, if_pos]
  cases hd : q.due with
  | none => simp [ReadReq.expired, hd]
  | some d => simpa [ReadReq.expired, hd] using h d hd

end

/-- The read `q` is given up, and what waits goes on. -/
def State.gaveUp (s : State) (q : ReadReq) : State :=
  if q.kind = .translation ∧ q.discard = true then (s.dropRead q).atsResume q.fn else (s.dropRead q).pumpReads

theorem State.timedOut_eq (s : State) (q : ReadReq) : s.timedOut q =
    if q.quarantined = true then s.gaveUp q
    else if s.inDrain q.fn = true then (s.gaveUp q).logTimeout q.fn else (s.gaveUp q).freeze .completionTimeout q.fn := rfl

/-- A read that is not a translation leaves the registers as they are. -/
theorem State.gaveUp_frozen (s : State) {q : ReadReq} (h : q.kind ≠ .translation) :
    (s.gaveUp q).bit HEP_FREEZE HEP_FREEZE.FROZEN = s.bit HEP_FREEZE HEP_FREEZE.FROZEN := by
  rw [gaveUp, if_neg (fun hk => h hk.1)]
  simp only [bit, fld, (pumpReads_hepOnly _).reg]
  exact bit_of_regs (dropRead_regs s q) ..

/-- R70: a read timed out in operation. -/
theorem State.timeoutFreeze_spec (s : State) (q : ReadReq) :
    let t := (s.gaveUp q).freeze .completionTimeout q.fn
    6 ∈ (t.fn q.fn).aer ∧ t.bit HEP_FREEZE HEP_FREEZE.FROZEN = true ∧
      ((s.gaveUp q).bit HEP_FREEZE HEP_FREEZE.FROZEN = false → t.fld HEP_FREEZE HEP_FREEZE.CAUSE = 6) ∧
      (q.kind ≠ .translation → s.bit HEP_FREEZE HEP_FREEZE.FROZEN = false → t.fld HEP_FREEZE HEP_FREEZE.CAUSE = 6) :=
  ⟨mem_freeze_aer (c := .completionTimeout) _ _ (by decide), freeze_frozen .., freeze_cause _ .completionTimeout _,
    fun hk hf => freeze_cause _ .completionTimeout _ ((s.gaveUp_frozen hk).trans hf)⟩

/-- R68: a read timed out in a drain. -/
theorem State.mem_logTimeout (s : State) (f : Nat) : 6 ∈ ((s.logTimeout f).fn f).aer := by
  rw [logTimeout, fn_setFn_self]
  exact List.mem_eraseDups.2 (List.mem_cons_self ..)

section
variable {s : State} (hl : s.live = true)
include hl

theorem exec_completion_none {tag : Nat} (h : s.hep.reads.find? (fun x => x.tag == tag) = none) :
    (∀ st data, exec (.completionTlp tag st data) s = .next s) ∧ exec (.completionTimeout tag) s = .next s := by
  have hcpl : ∀ st data, exec (.completionTlp tag st data) s = execCompletionTlp tag st data s := fun _ _ => rfl
  have htime : exec (.completionTimeout tag) s = execCompletionTimeout tag s := rfl
  refine ⟨fun st data => ?_, ?_⟩
  · rw [hcpl, execCompletionTlp, onLive_open hl]; dsimp only; rw [h]
  · rw [htime, execCompletionTimeout, onLive_open hl, h]

/-! ### Freeze and release -/

theorem exec_freezeTrigger_timeout (f : Fin 1025) (st : Fin 9) : exec (.freezeTrigger .completionTimeout f st) s =
    .next (match s.hep.reads.find? (fun q => q.fn == f.val && q.expired s.tb) with
      | none => s
      | some q => s.timedOut q) := by
  have hexec : exec (.freezeTrigger .completionTimeout f st) s = execFreezeTrigger .completionTimeout f st s := rfl
  rw [hexec, execFreezeTrigger]
  exact onLive_open hl _

theorem exec_freezeTrigger_other {c : FreezeCause} (f : Fin 1025) (st : Fin 9) (hi : c ≠ .ideCheck)
    (ht : c ≠ .completionTimeout) : exec (.freezeTrigger c f st) s = .next (s.freeze c f.val) := by
  have hexec : exec (.freezeTrigger c f st) s = execFreezeTrigger c f st s := rfl
  rw [hexec, execFreezeTrigger, onLive_open hl]
  dsimp only
  rw [if_neg hi, if_neg ht]

theorem exec_freezeTrigger_ide (f : Fin 1025) (st : Fin 9) : exec (.freezeTrigger .ideCheck f st) s =
    .next (((s.setBit HEP_EVENT HEP_EVENT.IDE_FAIL).loseStream st.val).freeze .ideCheck f.val) := by
  have hexec : exec (.freezeTrigger .ideCheck f st) s = execFreezeTrigger .ideCheck f st s := rfl
  rw [hexec, execFreezeTrigger]
  exact onLive_open hl _

/-- R70, R74: a failed IDE check. -/
theorem exec_freezeTrigger_ide_spec (f : Fin 1025) (st : Fin 9) :
    ∃ t : State, exec (.freezeTrigger .ideCheck f st) s = .next t ∧ t.bit HEP_FREEZE HEP_FREEZE.FROZEN = true ∧
      t.bit HEP_EVENT HEP_EVENT.IDE_FAIL = true ∧ (t.hep.ide.get {} st.val).secure = false := by
  obtain ⟨hsecure, hfail⟩ := (s.setBit HEP_EVENT HEP_EVENT.IDE_FAIL).loseStream_spec st.val
  refine ⟨_, exec_freezeTrigger_ide hl f st, State.freeze_frozen .., ?_, ?_⟩
  · rw [State.freeze_ideFail, hfail]
    exact State.bit_setBit_self _ _ _ _ (by decide)
  · rwa [State.freeze_ide]

/-- R70, R71: any other trigger. -/
theorem exec_freezeTrigger_spec {c : FreezeCause} (f : Fin 1025) (st : Fin 9) (hi : c ≠ .ideCheck)
    (ht : c ≠ .completionTimeout) :
    ∃ t : State, exec (.freezeTrigger c f st) s = .next t ∧ t.bit HEP_FREEZE HEP_FREEZE.FROZEN = true ∧
      t.disp = s.disp ∧ t.jnl = s.jnl ∧
      (s.bit HEP_FREEZE HEP_FREEZE.FROZEN = false →
        t.fld HEP_FREEZE HEP_FREEZE.CAUSE = freezeCode c ∧ t.bit HEP_EVENT HEP_EVENT.FROZE = true) ∧
      (s.bit HEP_FREEZE HEP_FREEZE.FROZEN = true → t.fld HEP_FREEZE HEP_FREEZE.CAUSE = s.fld HEP_FREEZE HEP_FREEZE.CAUSE) ∧
      (freezeCode c < 0x10 → freezeCode c ∈ (t.fn f.val).aer) ∧
      (∀ g r, t.fnActive g = false ∧ t.mayFetch g r = false ∧ t.mayPost g r = false) := by
  have hfrozen := s.freeze_frozen c f.val
  exact ⟨_, exec_freezeTrigger_other hl f st hi ht, hfrozen, s.freeze_disp .., s.freeze_jnl ..,
    fun h => ⟨s.freeze_cause c _ h, s.freeze_event c _ h⟩, s.freeze_cause_kept c _, s.mem_freeze_aer _,
    fun g r => ⟨State.fnActive_of_frozen hfrozen g, State.mayFetch_of_frozen hfrozen g r, State.mayPost_of_frozen hfrozen g r⟩⟩

theorem exec_hepFreezeRelease : exec .hepFreezeRelease s = .next (if s.hep.pfFlr.isSome = true then s else s.release) := by
  have hexec : exec .hepFreezeRelease s = execHepFreezeRelease s := rfl
  rw [hexec, execHepFreezeRelease, onLive_open hl]

end

namespace State

/-- R72: the link is up and the cause of the freeze clear in AER of every function. -/
def MayRelease (s : State) : Prop :=
  s.hep.l0 = true ∧ s.bit HEP_LINK_STATUS HEP_LINK_STATUS.DL_UP = true ∧
    ∀ e ∈ s.hep.fns, s.fld HEP_FREEZE HEP_FREEZE.CAUSE ∉ e.2.aer

theorem mayRelease_iff (s : State) : s.MayRelease ↔ (s.hep.l0 && s.bit HEP_LINK_STATUS HEP_LINK_STATUS.DL_UP &&
    !(s.hep.fns.any (fun e => e.2.aer.contains (s.fld HEP_FREEZE HEP_FREEZE.CAUSE)))) = true := by
  simp [MayRelease, and_assoc]

/-- R72: the freeze has ended, and no function has gone on yet. -/
def unfrozen (s : State) : State :=
  ((s.setBit HEP_FREEZE HEP_FREEZE.FROZEN false).setBit HEP_FREEZE HEP_FREEZE.REFUSED false).setBit HEP_EVENT HEP_EVENT.RELEASED

theorem unfrozen_spec (s : State) : s.unfrozen.bit HEP_FREEZE HEP_FREEZE.FROZEN = false ∧
    s.unfrozen.bit HEP_FREEZE HEP_FREEZE.REFUSED = false ∧ s.unfrozen.bit HEP_EVENT HEP_EVENT.RELEASED = true := by
  unfold unfrozen
  refine ⟨?_, ?_, bit_setBit_self _ _ _ _ (by decide)⟩
  · rw [bit_setBit_ne _ _ _ _ (by decide)]
    exact (bit_setBit_apart _ _ (by omega) (by omega)).trans (bit_setBit_self s _ _ _ (by decide))
  · rw [bit_setBit_ne _ _ _ _ (by decide)]
    exact bit_setBit_self _ _ _ _ (by decide)

section
variable {s : State} (h : s.bit HEP_FREEZE HEP_FREEZE.FROZEN = true)
include h

theorem release_refused (hok : ¬ s.MayRelease) : s.release = s.setBit HEP_FREEZE HEP_FREEZE.REFUSED := by
  rw [mayRelease_iff] at hok
  rw [release, if_neg (by simp [h])]
  exact if_neg hok

theorem release_done (hok : s.MayRelease) : s.release = s.unfrozen.presentFns.foldl (fun w g =>
    ((w.enabledSqs g).foldl (fun w r => w.writeSq g r) w).resumeFn g) s.unfrozen := by
  rw [mayRelease_iff] at hok
  rw [release, if_neg (by simp [h])]
  exact if_pos hok

end

theorem release_of_not_frozen {s : State} (h : s.bit HEP_FREEZE HEP_FREEZE.FROZEN = false) : s.release = s := by
  rw [release, if_pos (by simp [h])]

end State

section
variable {s : State} (hl : s.live = true) (hflr : s.hep.pfFlr = none) (hf : s.bit HEP_FREEZE HEP_FREEZE.FROZEN = true)
include hl hflr hf

theorem exec_hepFreezeRelease_refused (hok : ¬ s.MayRelease) :
    ∃ t : State, exec .hepFreezeRelease s = .next t ∧ t.bit HEP_FREEZE HEP_FREEZE.FROZEN = true ∧
      t.bit HEP_FREEZE HEP_FREEZE.REFUSED = true ∧ t.out = s.out ∧ t.disp = s.disp := by
  refine ⟨s.setBit HEP_FREEZE HEP_FREEZE.REFUSED, ?_, (State.bit_setBit_apart s _ (by omega) (by omega)).trans hf,
    State.bit_setBit_self s _ _ _ (by decide), State.setBit_out .., State.setBit_disp ..⟩
  rw [exec_hepFreezeRelease hl, if_neg (by simp [hflr]), State.release_refused hf hok]

/-- R72: on release every function goes on: its Status Area records are written, and it sends and fetches again. -/
theorem exec_hepFreezeRelease_done (hok : s.MayRelease) :
    ∃ u : State, u.bit HEP_FREEZE HEP_FREEZE.FROZEN = false ∧ u.bit HEP_FREEZE HEP_FREEZE.REFUSED = false ∧
      u.bit HEP_EVENT HEP_EVENT.RELEASED = true ∧ u.hep = s.hep ∧ u.disp = s.disp ∧ u.out = s.out ∧
      exec .hepFreezeRelease s = .next (u.presentFns.foldl (fun w g =>
        ((w.enabledSqs g).foldl (fun w r => w.writeSq g r) w).resumeFn g) u) := by
  obtain ⟨hrun, hrefused, hreleased⟩ := s.unfrozen_spec
  refine ⟨s.unfrozen, hrun, hrefused, hreleased, rfl, rfl, rfl, ?_⟩
  rw [exec_hepFreezeRelease hl, if_neg (by simp [hflr]), State.release_done hf hok]

end

/-! ### AtomicOps and ATS invalidations -/

section
variable {s : State} (hl : s.live = true)
include hl

theorem onServed_open (g : Nat) (o : Output) (f : State → State) : onServed s g o f = .next (f s) := by simp [onServed, hl]

theorem exec_atomicOpTlp (f : Fin 1025) : exec (.atomicOpTlp f) s = .next (s.emitTlp f.val (.cpl f.val 1 [])) := by
  have hexec : exec (.atomicOpTlp f) s = execAtomicOpTlp f s := rfl
  rw [hexec, execAtomicOpTlp, onServed_open hl]

end

namespace State

/-- R73: function `f`'s read `q` lies in the range that is invalidated. -/
def invalHits (f base size : Nat) (q : ReadReq) : Bool :=
  q.fn == f && decide (q.addr < base + size) && decide (base < q.addr + q.len)

/-- R73: the tags that an Invalidate Completion waits for. -/
def invalWaits (s : State) (f base size : Nat) : List Nat :=
  if (s.fn f).ats then
    (s.hep.reads.filter (fun q => invalHits f base size q && q.kind != .translation)).map (·.tag)
  else []

/-- R73: an Invalidate Request is taken. -/
def takeInval (s : State) (itag f base size : Nat) : State :=
  { s with hep := { s.hep with
    reads := s.hep.reads.map (fun (q : ReadReq) =>
      if q.kind = .translation ∧ invalHits f base size q then { q with discard := true } else q)
    ats := s.hep.ats.filter (fun e =>
      !(e.1 / 2 ^ 52 == f && decide (e.1 % 2 ^ 52 * 4096 < base + size) && decide (base < e.1 % 2 ^ 52 * 4096 + 4096)))
    invals := s.hep.invals ++ [AtsInval.mk itag f base size (s.invalWaits f base size)] } }

/-- R73: no translation that the range covers stays in the cache. -/
theorem takeInval_ats {s : State} {itag f base size : Nat} {e : Nat × Option Nat}
    (he : e ∈ (s.takeInval itag f base size).hep.ats) :
    e ∈ s.hep.ats ∧ ∀ p, e.1 = atsKey f p → p < 2 ^ 52 → p * 4096 + 4096 ≤ base ∨ base + size ≤ p * 4096 := by
  obtain ⟨hmem, hout⟩ := List.mem_filter.1 he
  refine ⟨hmem, fun p hkey hp => ?_⟩
  have hfn : (f * 2 ^ 52 + p) / 2 ^ 52 = f := by omega
  have hpage : (f * 2 ^ 52 + p) % 2 ^ 52 = p := by omega
  rw [hkey, atsKey, hfn, hpage] at hout
  simp only [beq_self_eq_true, Bool.true_and, Bool.not_eq_true', Bool.and_eq_false_iff, decide_eq_false_iff_not] at hout
  omega

/-- R73: a read of data stays outstanding, and is waited for where it may have used a translation of the range. -/
theorem takeInval_reads {s : State} {itag f base size : Nat} {q : ReadReq} (hq : q ∈ s.hep.reads) (hk : q.kind ≠ .translation) :
    q ∈ (s.takeInval itag f base size).hep.reads ∧
      ((s.fn f).ats = true → q.fn = f → q.addr < base + size → base < q.addr + q.len → q.tag ∈ s.invalWaits f base size) := by
  refine ⟨List.mem_map.2 ⟨q, hq, if_neg (fun h => hk h.1)⟩, fun ha hf hlo hhi => ?_⟩
  rw [invalWaits, if_pos ha]
  exact List.mem_map_of_mem (List.mem_filter.2 ⟨hq, by simp [invalHits, hf, hlo, hhi, hk]⟩)

end State

section
variable {s : State} (hl : s.live = true) (itag : Fin 32) (f : Fin 1025)
include hl

theorem exec_atsInvalidateRequest (base size : Nat) : exec (.atsInvalidateRequest itag f base size) s =
    .next (if (s.hep.invals.any (fun i => i.itag == itag.val && i.fn == f.val)) = true ∨ 32 ≤ s.hep.invals.length then s
      else s.takeInval itag.val f.val base size) := by
  have hexec : exec (.atsInvalidateRequest itag f base size) s = execAtsInvalidateRequest itag f base size s := rfl
  rw [hexec, execAtsInvalidateRequest]
  exact onLive_open hl _

theorem exec_atsInvalidateRequest_full (base size : Nat) (h : 32 ≤ s.hep.invals.length) :
    exec (.atsInvalidateRequest itag f base size) s = .next s := by
  rw [exec_atsInvalidateRequest hl, if_pos (.inr h)]

theorem exec_atsInvalidateRequest_inUse (base size : Nat) (h : ∃ i ∈ s.hep.invals, i.itag = itag.val ∧ i.fn = f.val) :
    exec (.atsInvalidateRequest itag f base size) s = .next s := by
  rw [exec_atsInvalidateRequest hl, if_pos (.inl (by simpa using h))]

theorem exec_atsInvalidateRequest_taken (base size : Nat) (hn : s.hep.invals.length < 32)
    (h : ∀ i ∈ s.hep.invals, ¬ (i.itag = itag.val ∧ i.fn = f.val)) :
    exec (.atsInvalidateRequest itag f base size) s = .next (s.takeInval itag.val f.val base size) := by
  rw [exec_atsInvalidateRequest hl, if_neg]
  rintro (hany | hlen)
  · obtain ⟨i, hi, heq⟩ := List.any_eq_true.1 hany
    exact h i hi (by simpa using heq)
  · omega

section
variable {i : AtsInval} (hi : s.hep.invals.find? (fun i => i.itag == itag.val && i.fn == f.val) = some i)
include hi

/-- R73: the completion waits for the reads named. -/
theorem exec_atsInvalidateCompletion_waits (h : ∃ x ∈ i.waits, ∃ q ∈ s.hep.reads, q.tag = x) :
    exec (.atsInvalidateCompletion itag f) s = .next s := by
  have hexec : exec (.atsInvalidateCompletion itag f) s = execAtsInvalidateCompletion itag f s := rfl
  rw [hexec, execAtsInvalidateCompletion, onLive_open hl]
  dsimp only
  rw [hi]
  exact congrArg Host.Outcome.next (if_pos (by simpa using h))

theorem exec_atsInvalidateCompletion_sent (h : ∀ x ∈ i.waits, ∀ q ∈ s.hep.reads, q.tag ≠ x) :
    ∃ t : State, exec (.atsInvalidateCompletion itag f) s = .next t ∧ t.out = .atsCpl f.val itag.val :: s.out ∧
      i ∉ t.hep.invals ∧ t.hep.reads = s.hep.reads := by
  have hexec : exec (.atsInvalidateCompletion itag f) s = execAtsInvalidateCompletion itag f s := rfl
  refine ⟨({ s with hep := { s.hep with invals := s.hep.invals.filter (fun x => x != i) } } : State).emit
    (.atsCpl f.val itag.val), ?_, rfl, ?_, rfl⟩
  · rw [hexec, execAtsInvalidateCompletion, onLive_open hl]
    dsimp only
    rw [hi]
    refine congrArg Host.Outcome.next (if_neg fun hany => ?_)
    obtain ⟨x, hx, hany⟩ := List.any_eq_true.1 hany
    obtain ⟨q, hq, htag⟩ := List.any_eq_true.1 hany
    exact h x hx q hq (by simpa using htag)
  · exact fun hmem => by simpa using (List.mem_filter.1 hmem).2

end
end

/-- Settles O8: a completion or a timeout is of a read that is found by its tag or of none; a trigger freezes; a release is
refused or done; an Invalidate Request is dropped or taken, and its completion waits or is sent. -/
theorem freezeAndCompletions : Obligations.FreezeAndCompletions := by
  unfold Obligations.FreezeAndCompletions
  intro s f tag hl
  dsimp only
  refine ⟨fun q hq => ⟨?_, ?_, ?_, ?_, ?_⟩, ?_, ?_, ?_, ?_, ?_, ?_, ?_, ?_, ?_⟩
  · have htag := tag_of_find hq
    intro st data hquar
    exact ⟨_, exec_completionTlp_late hl hq st data hquar, htag ▸ s.lateCompletion_spec q⟩
  · have htag := tag_of_find hq
    exact fun st data hquar h => ⟨exec_completionTlp_lost hl hq st data hquar h, s.dropRead_units q,
      fun x hx => htag ▸ State.tag_ne_of_mem_dropRead hx⟩
  · exact fun data hquar hdis hf => exec_completionTlp_data hl hq data hquar hdis hf
  · exact fun d hd h => exec_completionTimeout_early hl hq hd h
  · intro hdue
    rw [exec_completionTimeout_due hl hq hdue, State.timedOut_eq]
    refine ⟨fun hquar => ?_, fun hquar hdrain => ⟨?_, State.mem_logTimeout .., rfl⟩,
      fun hquar hdrain => ⟨_, ?_, s.timeoutFreeze_spec q⟩⟩
    · rw [if_pos hquar]; rfl
    · rw [if_neg (by simp [hquar]), if_pos hdrain]; rfl
    · rw [if_neg (by simp [hquar]), if_neg (by simp [hdrain])]
  · exact fun h => exec_completion_none hl h
  · exact fun st => ⟨fun h => by rw [exec_freezeTrigger_timeout hl, h], fun q h => by rw [exec_freezeTrigger_timeout hl, h]⟩
  · exact fun c st hi ht => exec_freezeTrigger_spec hl f st hi ht
  · exact fun st => exec_freezeTrigger_ide_spec hl f st
  · exact fun h => by rw [exec_hepFreezeRelease hl, if_pos h]
  · exact fun hf hflr => ⟨exec_hepFreezeRelease_refused hl hflr hf, exec_hepFreezeRelease_done hl hflr hf⟩
  · intro hf
    rw [exec_hepFreezeRelease hl, State.release_of_not_frozen hf, ite_self]
  · exact exec_atomicOpTlp hl f
  · refine fun itag base size => ⟨exec_atsInvalidateRequest_full hl itag f base size, fun hn h => ?_,
      exec_atsInvalidateRequest_inUse hl itag f base size, fun i hi => ⟨exec_atsInvalidateCompletion_waits hl itag f hi,
        exec_atsInvalidateCompletion_sent hl itag f hi⟩⟩
    exact ⟨_, _, exec_atsInvalidateRequest_taken hl itag f base size hn h, rfl, rfl, rfl, fun e => State.takeInval_ats,
      fun q => State.takeInval_reads⟩

end Sys2Proof.Machine
end

section
/-!
SUPPORT. TDIs and the start of a function-level reset (R67, R75), the Completer Abort and the completions of a peer window
(R54, R76, R77), and the commit of a window (R78).
-/
namespace Sys2Proof.Machine
open Sys2Proof

namespace State

/-! ### TDIs -/

theorem tdi_setTdi (s : State) (f n : Nat) : (s.setTdi f n).tdi f = n % 4 := by
  rw [tdi, fld_of_regs (setTdi_regs s f n)]
  exact fld_setFld_self s _ _ _ (by decide)

theorem fnState_setTdi (s : State) (f n : Nat) : (s.setTdi f n).fnState f = s.fnState f := by
  rw [fnState, fld_of_regs (setTdi_regs s f n)]
  exact fld_setFld_apart s _ _ _ _ (by decide) (by decide)

theorem fn_of_hep {s t : State} (h : t.hep = s.hep) (f : Nat) : t.fn f = s.fn f := by simp only [fn, h]

/-- R75: a TDI that is locked or in ERROR stops its function. -/
theorem fnActive_of_tdi {s : State} {f : Nat} (h0 : s.tdi f ≠ 0) (h2 : s.tdi f ≠ 2) : s.fnActive f = false := by
  unfold tdi at h0 h2
  simp [fnActive, mayRequest, maySend, h0, h2]

theorem tdiError_of_unlocked {s : State} {f : Nat} (h : s.tdi f = 0) : s.tdiError f = s := by
  rw [tdiError, if_neg (by omega)]

/-! ### The start of a function-level reset -/

theorem fnState_setFnState (s : State) (f n : Nat) : (s.setFnState f n).fnState f = n % 8 :=
  fld_setFld_self _ _ _ _ (by decide)

theorem setFnState_regs (s : State) (f n : Nat) :
    (s.setFnState f n).regs = (s.setFld (HEP_FN_STATE f) HEP_FN_STATE.STATE n).regs := by
  unfold setFnState; split <;> rfl

theorem tdi_setFnState (s : State) (f n : Nat) : (s.setFnState f n).tdi f = s.tdi f := by
  rw [tdi, fld_of_regs (setFnState_regs s f n)]
  exact fld_setFld_apart s _ _ _ _ (by decide) (by decide)

@[simp] theorem setFnState_tb (s : State) (f n : Nat) : (s.setFnState f n).tb = s.tb := by
  unfold setFnState; split <;> rfl
@[simp] theorem setFnState_disp (s : State) (f n : Nat) : (s.setFnState f n).disp = s.disp := by
  unfold setFnState; split <;> rfl

/-- Squashed descriptors leave registers, timebase and units alone. -/
theorem squash_spec (s : State) (f r : Nat) : (s.squash f r).regs = s.regs ∧ (s.squash f r).tb = s.tb ∧
    (s.squash f r).disp.units = s.disp.units := ⟨rfl, rfl, rfl⟩

theorem squashAll_spec (s : State) (f : Nat) (l : List Nat) :
    let t := l.foldl (fun s r => s.squash f r) s
    t.regs = s.regs ∧ t.tb = s.tb ∧ t.disp.units = s.disp.units :=
  List.foldlRecOn (motive := fun t : State => t.regs = s.regs ∧ t.tb = s.tb ∧ t.disp.units = s.disp.units) _ _ ⟨rfl, rfl, rfl⟩
    fun t ⟨hregs, htb, hunits⟩ r _ =>
      have ⟨hregs', htb', hunits'⟩ := squash_spec t f r
      ⟨hregs'.trans hregs, htb'.trans htb, hunits'.trans hunits⟩

theorem reg_resyncEnd_ne (s : State) {f e b : Nat} (h : b ≠ RING_RESYNC_CTL f) : (s.resyncEnd f e).reg b = s.reg b := by
  simp only [resyncEnd, setBit_eq, reg_setFld_ne _ _ _ h]
  rfl

@[simp] theorem resyncEnd_tb (s : State) (f e : Nat) : (s.resyncEnd f e).tb = s.tb := by simp [resyncEnd]
@[simp] theorem resyncEnd_disp (s : State) (f e : Nat) : (s.resyncEnd f e).disp = s.disp := by simp [resyncEnd]

/-- R110: the `RESYNC`s that a reset ends change their own control registers only. -/
theorem resyncReset_spec (s : State) (f : Nat) (p : Nat → Bool) {b : Nat} (hb : ∀ g, b ≠ RING_RESYNC_CTL g) :
    (s.resyncReset f p).reg b = s.reg b ∧ (s.resyncReset f p).tb = s.tb ∧ (s.resyncReset f p).disp = s.disp := by
  unfold resyncReset
  exact List.foldlRecOn (motive := fun t : State => t.reg b = s.reg b ∧ t.tb = s.tb ∧ t.disp = s.disp) _ _ ⟨rfl, rfl, rfl⟩
    fun t ⟨hreg, htb, hdisp⟩ q _ => ⟨(reg_resyncEnd_ne t (hb q.via)).trans hreg, (resyncEnd_tb t q.via 5).trans htb,
      (resyncEnd_disp t q.via 5).trans hdisp⟩

theorem fnReg_ne_resync {f : Nat} (hf : f < 1025) (g : Nat) : HEP_FN_STATE f ≠ RING_RESYNC_CTL g := by
  unfold HEP_FN_STATE RING_RESYNC_CTL ringPage
  split <;> omega

/-- R67: the drain of an unlocked function begins; its units stay. -/
theorem beginFlr_spec {s : State} {f : Nat} (hf : f < 1025) (h : s.tdi f = 0) :
    (s.beginFlr f).tdi f = 0 ∧ (s.beginFlr f).fnState f = 2 ∧ (s.beginFlr f).tb = s.tb ∧
      (s.beginFlr f).disp.units = s.disp.units := by
  generalize ht : (List.range 17).foldl (fun s r => s.squash f r) s = t
  obtain ⟨hregs, htb, hunits⟩ := s.squashAll_spec f (List.range 17)
  rw [ht] at hregs htb hunits
  have htdi : t.tdi f = 0 := (fld_of_regs hregs _ _).trans h
  obtain ⟨hreg, htb', hdisp⟩ := (t.setFnState f 2).resyncReset_spec f (· != f) (fnReg_ne_resync hf)
  generalize hu : (t.setFnState f 2).resyncReset f (· != f) = u at hreg htb' hdisp
  have hbegin : s.beginFlr f = ({ u with hep := { u.hep with
      reads := u.hep.reads.map (fun (q : ReadReq) => if q.fn = f then { q with discard := true } else q) } }).dropWaiting (· == f) := by
    rw [← hu, ← tdiError_of_unlocked htdi, ← ht]; rfl
  have hfld : ∀ g, (s.beginFlr f).fld (HEP_FN_STATE f) g = (t.setFnState f 2).fld (HEP_FN_STATE f) g := fun g => by
    rw [hbegin]; exact congrArg (getFld · g) hreg
  refine ⟨?_, ?_, ?_, ?_⟩
  · exact (hfld _).trans ((tdi_setFnState t f 2).trans htdi)
  · exact (hfld _).trans (fnState_setFnState t f 2)
  · rw [hbegin]; exact htb'.trans ((setFnState_tb ..).trans htb)
  · rw [hbegin]; exact (congrArg DispatchState.units (hdisp.trans (setFnState_disp ..))).trans hunits

/-! ### Peer windows -/

/-- R77: what `WIN_CA_LOG` holds of an abort. -/
def abortLog (reason off : Nat) : W64 :=
  BitVec.ofNat 64 (2 ^ 63 + reason * 2 ^ 60 + off / 2 ^ 38 % 64 * 2 ^ 54 + off % 2 ^ 44)

theorem abortLog_fields {reason off : Nat} (hr : reason < 8) (ho : off < 2 ^ 44) :
    getFld (abortLog reason off) WIN_CA_LOG.REASON = reason ∧ getFld (abortLog reason off) WIN_CA_LOG.WINDOW = off / 2 ^ 38 ∧
      getFld (abortLog reason off) WIN_CA_LOG.OFFSET = off := by
  have hwindow : off / 2 ^ 38 < 64 := by omega
  have hlog : (abortLog reason off).toNat = 2 ^ 63 + reason * 2 ^ 60 + off / 2 ^ 38 * 2 ^ 54 + off := by
    rw [abortLog, BitVec.toNat_ofNat, Nat.mod_eq_of_lt hwindow, Nat.mod_eq_of_lt ho]
    exact Nat.mod_eq_of_lt (by omega)
  have hreason : (abortLog reason off).toNat / 2 ^ 60 = 8 + reason := Nat.div_eq_of_lt_le (by omega) (by omega)
  have hlow : (abortLog reason off).toNat / 2 ^ 54 = 512 + reason * 64 + off / 2 ^ 38 :=
    Nat.div_eq_of_lt_le (by omega) (by omega)
  simp only [getFld, Nat.shiftRight_eq_div_pow, WIN_CA_LOG.REASON, WIN_CA_LOG.WINDOW, WIN_CA_LOG.OFFSET, hreason, hlow]
  refine ⟨?_, ?_, ?_⟩ <;> omega

/-- R77: the abort counted and, where the log is free, logged. -/
def abortNoted (s : State) (reason off : Nat) : State :=
  let s := s.bump WIN_CA_COUNT WIN_CA_COUNT.COUNT
  if s.bit WIN_CA_LOG WIN_CA_LOG.VALID then s else s.setReg WIN_CA_LOG (abortLog reason off)

/-- R77: a write that is aborted is reported in AER of the PF. -/
theorem completerAbort_write (s : State) (reason off : Nat) : s.completerAbort reason off true =
    (s.abortNoted reason off).setFn 0 { (s.abortNoted reason off).fn 0 with
      aer := (0x40 :: ((s.abortNoted reason off).fn 0).aer).eraseDups } := by
  unfold completerAbort abortNoted abortLog
  dsimp only
  rw [if_pos rfl]

theorem completerAbort_read (s : State) (reason off : Nat) :
    s.completerAbort reason off false = (s.abortNoted reason off).emitTlp 0 (.cpl 0 4 []) := by
  unfold completerAbort abortNoted abortLog
  dsimp only
  rw [if_neg (by decide)]

theorem completerAbort_abortNoted (s : State) (reason off : Nat) (write : Bool) :
    (s.completerAbort reason off write).mem = (s.abortNoted reason off).mem ∧
      (s.completerAbort reason off write).regs = (s.abortNoted reason off).regs := by
  cases write with
  | true => rw [completerAbort_write]; exact ⟨setFn_mem .., setFn_regs ..⟩
  | false => rw [completerAbort_read]; generalize s.abortNoted reason off = t; exact ⟨rfl, rfl⟩

theorem abortNoted_mem (s : State) (reason off : Nat) : (s.abortNoted reason off).mem = s.mem := by
  unfold abortNoted bump
  dsimp only
  split
  · exact setFld_mem ..
  · exact (setReg_mem ..).trans (setFld_mem ..)

theorem abortNoted_count (s : State) (reason off : Nat) :
    (s.abortNoted reason off).fld WIN_CA_COUNT WIN_CA_COUNT.COUNT = (s.fld WIN_CA_COUNT WIN_CA_COUNT.COUNT + 1) % 2 ^ 64 := by
  have hcount := s.fld_setFld_self WIN_CA_COUNT WIN_CA_COUNT.COUNT (s.fld WIN_CA_COUNT WIN_CA_COUNT.COUNT + 1) (by decide)
  unfold abortNoted bump
  dsimp only
  split
  · exact hcount
  · rw [fld_setReg_ne _ _ _ (by decide)]; exact hcount

theorem abortNoted_log {s : State} (reason off : Nat) (h : s.bit WIN_CA_LOG WIN_CA_LOG.VALID = false) :
    (s.abortNoted reason off).reg WIN_CA_LOG = abortLog reason off := by
  have hfree := (s.bit_setFld_ne WIN_CA_COUNT.COUNT WIN_CA_LOG.VALID (s.fld WIN_CA_COUNT WIN_CA_COUNT.COUNT + 1)
    (show WIN_CA_LOG ≠ WIN_CA_COUNT by decide)).trans h
  unfold abortNoted bump
  dsimp only
  rw [hfree]
  exact reg_setReg_self ..

/-- R77: an abort leaves memory alone, is counted, and is logged where the log is free. -/
theorem completerAbort_spec (s : State) {reason off : Nat} (write : Bool) (hr : reason < 8) (ho : off < 2 ^ 44) :
    let t := s.completerAbort reason off write
    t.mem = s.mem ∧ t.fld WIN_CA_COUNT WIN_CA_COUNT.COUNT = (s.fld WIN_CA_COUNT WIN_CA_COUNT.COUNT + 1) % 2 ^ 64 ∧
      (s.bit WIN_CA_LOG WIN_CA_LOG.VALID = false → t.fld WIN_CA_LOG WIN_CA_LOG.REASON = reason ∧
        t.fld WIN_CA_LOG WIN_CA_LOG.WINDOW = off / 2 ^ 38 ∧ t.fld WIN_CA_LOG WIN_CA_LOG.OFFSET = off) := by
  intro t
  obtain ⟨hmem, hregs⟩ : t.mem = _ ∧ t.regs = _ := s.completerAbort_abortNoted reason off write
  clear_value t
  simp only [fld_of_regs hregs, hmem]
  refine ⟨abortNoted_mem .., abortNoted_count .., fun h => ?_⟩
  simp only [fld, abortNoted_log reason off h]
  exact abortLog_fields hr ho

/-- The state with another one of Crucible. -/
def withCru (c : CruState) (s : State) : State := { s with cru := c }

/-- R364: the meters of a window lie with Crucible. -/
theorem meterWindow_eq (s : State) (w part n : Nat) : s.meterWindow w part n = withCru (s.meterWindow w part n).cru s :=
  List.foldlRecOn (motive := fun t : State => t = withCru t.cru s) _ _ rfl
    fun t ht f _ => by rw [ht]; rfl

theorem completeMem_mem (s : State) (off a : Nat) (b : Bytes) : (s.completeMem off a b).mem = s.mem :=
  List.foldlRecOn (motive := fun t : State => t.mem = s.mem) _ _ rfl fun _ ht _ _ => ht

/-- R54: the completions do not depend on the meters. -/
theorem completeMem_withCru (s : State) (c : CruState) (off a : Nat) (b : Bytes) :
    (withCru c s).completeMem off a b = withCru c (s.completeMem off a b) := by
  unfold completeMem
  refine List.foldl_hom (withCru c) ?_
  exact fun _ _ => rfl

theorem completeMem_meterWindow (s : State) (w part n off a : Nat) (b : Bytes) :
    ((s.meterWindow w part n).completeMem off a b).out = (s.completeMem off a b).out ∧
      ((s.meterWindow w part n).completeMem off a b).mem = s.mem := by
  rw [meterWindow_eq, completeMem_withCru]
  exact ⟨rfl, completeMem_mem ..⟩

/-- R54: payloads cover the bytes, each within a 512-byte block. -/
theorem payloads_spec (fuel a : Nat) (b : Bytes) (h : a % 512 + b.length ≤ 512 * fuel) :
    (payloads fuel a b).flatMap (·.2) = b ∧
      ∀ p ∈ payloads fuel a b, p.2.length ≤ 512 ∧ p.1 / 512 = (p.1 + p.2.length - 1) / 512 := by
  induction fuel generalizing a b with
  | zero =>
    have hb : b = [] := List.eq_nil_of_length_eq_zero (by omega)
    subst hb
    exact ⟨rfl, fun p hp => absurd hp List.not_mem_nil⟩
  | succ fuel ih =>
    unfold payloads
    by_cases hb : b = []
    · rw [if_pos hb]
      exact ⟨hb.symm, fun p hp => absurd hp List.not_mem_nil⟩
    · have hlen : 0 < b.length := List.length_pos_iff.2 hb
      obtain ⟨hcover, hfit⟩ := ih (a + (512 - a % 512)) (b.drop (512 - a % 512)) (by rw [List.length_drop]; omega)
      rw [if_neg hb]
      refine ⟨?_, fun p hp => ?_⟩
      · rw [List.flatMap_cons, hcover]
        exact List.take_append_drop ..
      · rcases List.mem_cons.1 hp with rfl | hp
        · simp only [List.length_take]
          omega
        · exact hfit p hp

theorem payloadsOf_spec (a : Nat) (b : Bytes) : (payloadsOf a b).flatMap (·.2) = b ∧
    ∀ p ∈ payloadsOf a b, p.2.length ≤ 512 ∧ p.1 / 512 = (p.1 + p.2.length - 1) / 512 :=
  payloads_spec _ a b (by omega)

/-! ### Window commits -/

/-- R78: the shadow set of window `w` passes the check of a commit. -/
def CommitOk (s : State) (w : Nat) : Prop :=
  let c := s.reg (WIN_SHADOW_CTL w)
  let n := getFld c WIN_SHADOW_CTL.SIZE
  12 ≤ n ∧ n ≤ 38 ∧ getFld (s.reg (WIN_SHADOW_TARGET w)) WIN_SHADOW_TARGET.ADDR * 4096 + 2 ^ n ≤ s.fld MEM_TOP MEM_TOP.TOP * 2 ^ 21 ∧
    s.fld (CRU_PART (getFld c WIN_SHADOW_CTL.PARTITION)) CRU_PART.STATE ≠ 0

/-- R78: a commit that fails its check. -/
def commitFailed (s : State) (w : Nat) : State :=
  (s.setFld WIN_COMMIT WIN_COMMIT.WINDOW w).setBit WIN_COMMIT WIN_COMMIT.ERROR

/-- R78: a commit that passes. -/
def committed (s : State) (w : Nat) : State :=
  let t := ((s.setFld WIN_COMMIT WIN_COMMIT.WINDOW w).setReg (WIN_ACTIVE_CTL w) (s.reg (WIN_SHADOW_CTL w))).setReg
    (WIN_ACTIVE_TARGET w) (s.reg (WIN_SHADOW_TARGET w))
  (t.setBit WIN_COMMIT WIN_COMMIT.ERROR false).setBit WIN_COMMIT WIN_COMMIT.BUSY

theorem winCommit_idle {s : State} {w : Nat} (hw : w < 64) (hb : s.bit WIN_COMMIT WIN_COMMIT.BUSY = false) :
    (s.CommitOk w → s.winCommit w = s.committed w) ∧ (¬ s.CommitOk w → s.winCommit w = s.commitFailed w) := by
  have hctl := s.reg_setFld_ne WIN_COMMIT.WINDOW w (show WIN_SHADOW_CTL w ≠ WIN_COMMIT by unfold WIN_SHADOW_CTL WIN_COMMIT; omega)
  have htarget := s.reg_setFld_ne WIN_COMMIT.WINDOW w
    (show WIN_SHADOW_TARGET w ≠ WIN_COMMIT by unfold WIN_SHADOW_TARGET WIN_COMMIT; omega)
  have htop := s.fld_setFld_ne WIN_COMMIT.WINDOW MEM_TOP.TOP w (show MEM_TOP ≠ WIN_COMMIT by decide)
  have hpart := s.fld_setFld_ne WIN_COMMIT.WINDOW CRU_PART.STATE w
    (show CRU_PART (getFld (s.reg (WIN_SHADOW_CTL w)) WIN_SHADOW_CTL.PARTITION) ≠ WIN_COMMIT by
      have h := getFld_lt (s.reg (WIN_SHADOW_CTL w)) WIN_SHADOW_CTL.PARTITION
      simp only [WIN_SHADOW_CTL.PARTITION] at h ⊢
      unfold CRU_PART WIN_COMMIT
      omega)
  unfold winCommit CommitOk
  dsimp only
  rw [if_neg (by simp [hb]), hctl, htarget, htop, hpart]
  refine ⟨fun h => if_neg ?_, fun h => if_pos ?_⟩ <;> omega

theorem commitFailed_spec (s : State) (w : Nat) : (s.commitFailed w).bit WIN_COMMIT WIN_COMMIT.ERROR = true ∧
    (s.commitFailed w).bit WIN_COMMIT WIN_COMMIT.BUSY = s.bit WIN_COMMIT WIN_COMMIT.BUSY ∧
    ∀ b, b ≠ WIN_COMMIT → (s.commitFailed w).reg b = s.reg b := by
  unfold commitFailed
  refine ⟨bit_setBit_self _ _ _ _ (by decide), ?_, fun b hb => ?_⟩
  · exact (bit_setBit_apart _ _ (by omega) (by omega)).trans (bit_setFld_apart s _ _ _ _ (by decide) (by decide))
  · rw [setBit_eq, reg_setFld_ne _ _ _ hb, reg_setFld_ne _ _ _ hb]

theorem committed_spec (s : State) (w : Nat) : (s.committed w).bit WIN_COMMIT WIN_COMMIT.ERROR = false ∧
    (s.committed w).bit WIN_COMMIT WIN_COMMIT.BUSY = true := by
  unfold committed
  refine ⟨(bit_setBit_apart _ _ (by omega) (by omega)).trans (bit_setBit_self _ _ _ _ (by decide)),
    bit_setBit_self _ _ _ _ (by decide)⟩

theorem committed_reg (s : State) (w : Nat) {b : Nat} (hb : b ≠ WIN_COMMIT) : (s.committed w).reg b =
    if b = WIN_ACTIVE_TARGET w then s.reg (WIN_SHADOW_TARGET w)
    else if b = WIN_ACTIVE_CTL w then s.reg (WIN_SHADOW_CTL w) else s.reg b := by
  simp only [committed, setBit_eq, reg_setFld_ne _ _ _ hb]
  split
  · next h => rw [h, reg_setReg_self]
  · next h =>
    rw [reg_setReg_ne _ _ h]
    split
    · next h => rw [h, reg_setReg_self]
    · next h => rw [reg_setReg_ne _ _ h, reg_setFld_ne _ _ _ hb]

/-- The active registers of two windows are apart, and apart from `WIN_COMMIT`. -/
theorem activeCtl_ne_target (w x : Nat) : WIN_ACTIVE_CTL x ≠ WIN_ACTIVE_TARGET w := by
  unfold WIN_ACTIVE_CTL WIN_ACTIVE_TARGET; omega

theorem activeCtl_ne_commit {w : Nat} (hw : w < 64) : WIN_ACTIVE_CTL w ≠ WIN_COMMIT := by
  unfold WIN_ACTIVE_CTL WIN_COMMIT; omega

theorem activeTarget_ne_commit (w : Nat) : WIN_ACTIVE_TARGET w ≠ WIN_COMMIT := by
  unfold WIN_ACTIVE_TARGET WIN_COMMIT; omega

theorem committed_active (s : State) {w : Nat} (hw : w < 64) :
    (s.committed w).reg (WIN_ACTIVE_CTL w) = s.reg (WIN_SHADOW_CTL w) ∧
      (s.committed w).reg (WIN_ACTIVE_TARGET w) = s.reg (WIN_SHADOW_TARGET w) := by
  rw [committed_reg s w (activeCtl_ne_commit hw), committed_reg s w (activeTarget_ne_commit w), if_pos rfl,
    if_neg (activeCtl_ne_target w w), if_pos rfl]
  exact ⟨rfl, rfl⟩

/-- R78: no other window changes. -/
theorem committed_other (s : State) {w x : Nat} (hx : x < 64) (h : x ≠ w) :
    (s.committed w).reg (WIN_ACTIVE_CTL x) = s.reg (WIN_ACTIVE_CTL x) ∧
      (s.committed w).reg (WIN_ACTIVE_TARGET x) = s.reg (WIN_ACTIVE_TARGET x) := by
  have hctl : WIN_ACTIVE_CTL x ≠ WIN_ACTIVE_CTL w := by unfold WIN_ACTIVE_CTL; omega
  have htarget : WIN_ACTIVE_TARGET x ≠ WIN_ACTIVE_TARGET w := by unfold WIN_ACTIVE_TARGET; omega
  rw [committed_reg s w (activeCtl_ne_commit hx), committed_reg s w (activeTarget_ne_commit x),
    if_neg (activeCtl_ne_target w x), if_neg hctl, if_neg htarget, if_neg (activeCtl_ne_target x w).symm]
  exact ⟨rfl, rfl⟩

end State
end Sys2Proof.Machine
end

section
/-!
R75 to R79, R456: TDI requests, peer-window accesses and window commits, and the settlement of O9.
-/
namespace Sys2Proof.Machine
open Sys2Proof

/-! ### TDI requests -/

namespace State

theorem dsmAnswer_tdi (s : State) (c f g : Nat) : (s.dsmAnswer c f).tdi g = s.tdi g := rfl
theorem dsmAnswer_fnState (s : State) (c f g : Nat) : (s.dsmAnswer c f).fnState g = s.fnState g := rfl
theorem dsmAnswer_hep (s : State) (c f : Nat) : (s.dsmAnswer c f).hep = s.hep := rfl
theorem dsmAnswer_tb (s : State) (c f : Nat) : (s.dsmAnswer c f).tb = s.tb := rfl
theorem dsmAnswer_disp (s : State) (c f : Nat) : (s.dsmAnswer c f).disp = s.disp := rfl

end State

section
variable {s : State} (hl : s.live = true) (v : Fin 1024)
include hl

/-- R75: LOCK of an unlocked TDI. -/
theorem exec_lockInterfaceRequest (st : Fin 8) (hd : s.dsmUp = true) (hp : s.fnPresent (v.val + 1) = true)
    (ht : s.tdi (v.val + 1) = 0) (hdrain : s.inDrain (v.val + 1) = false) :
    ∃ t : State, exec (.lockInterfaceRequest v st) s = .next t ∧ t.tdi (v.val + 1) = 1 ∧
      (t.fn (v.val + 1)).stream = some (st.val + 1) ∧ t.fnActive (v.val + 1) = false ∧
      t.fnState (v.val + 1) = s.fnState (v.val + 1) := by
  have hexec : exec (.lockInterfaceRequest v st) s = execLockInterfaceRequest v st s := rfl
  generalize hu : s.setFn (v.val + 1) { s.fn (v.val + 1) with stream := some (st.val + 1) } = u
  have htdi : ((u.setTdi (v.val + 1) 1).dsmAnswer 3 (v.val + 1)).tdi (v.val + 1) = 1 :=
    (State.dsmAnswer_tdi ..).trans (u.tdi_setTdi ..)
  refine ⟨(u.setTdi (v.val + 1) 1).dsmAnswer 3 (v.val + 1), ?_, htdi, ?_, State.fnActive_of_tdi (by omega) (by omega), ?_⟩
  · rw [hexec, execLockInterfaceRequest, onLive_open hl]
    dsimp only
    rw [if_neg (by simp [hd, hp, ht, hdrain]), hu]
  · rw [← hu]
    rw [State.fn_of_hep ((State.dsmAnswer_hep ..).trans (State.setTdi_hep ..)), State.fn_setFn_self]
  · rw [State.dsmAnswer_fnState, State.fnState_setTdi, ← hu]
    rfl

theorem exec_lockInterfaceRequest_locked (st : Fin 8) (ht : s.tdi (v.val + 1) ≠ 0) :
    exec (.lockInterfaceRequest v st) s = .next s := by
  have hexec : exec (.lockInterfaceRequest v st) s = execLockInterfaceRequest v st s := rfl
  rw [hexec, execLockInterfaceRequest, onLive_open hl]
  exact congrArg Host.Outcome.next (if_pos (.inr (.inr (.inl ht))))

/-- R75: START of a locked TDI. -/
theorem exec_startInterfaceRequest (hd : s.dsmUp = true) (hp : s.fnPresent (v.val + 1) = true) (ht : s.tdi (v.val + 1) = 1) :
    ∃ u : State, exec (.startInterfaceRequest v) s = .next (u.resumeFn (v.val + 1)) ∧ u.tdi (v.val + 1) = 2 ∧
      u.fnState (v.val + 1) = s.fnState (v.val + 1) ∧ u.disp = s.disp := by
  have hexec : exec (.startInterfaceRequest v) s = execStartInterfaceRequest v s := rfl
  refine ⟨(s.setTdi (v.val + 1) 2).dsmAnswer 5 (v.val + 1), ?_, (State.dsmAnswer_tdi ..).trans (s.tdi_setTdi ..),
    (State.dsmAnswer_fnState ..).trans (s.fnState_setTdi ..), (State.dsmAnswer_disp ..).trans (s.setTdi_disp ..)⟩
  rw [hexec, execStartInterfaceRequest, onLive_open hl]
  exact congrArg Host.Outcome.next (if_neg (by simp [hd, hp, ht]))

/-- R75: STOP unlocks a TDI and resets its function. -/
theorem exec_stopInterfaceRequest (hd : s.dsmUp = true) (hp : s.fnPresent (v.val + 1) = true)
    (hdrain : s.inDrain (v.val + 1) = false) :
    ∃ t : State, exec (.stopInterfaceRequest v) s = .next t ∧ t.tdi (v.val + 1) = 0 ∧ t.fnState (v.val + 1) = 2 ∧
      (t.fn (v.val + 1)).flrEnd = some (s.tb + 90000000) ∧ t.disp.units = s.disp.units := by
  have hexec : exec (.stopInterfaceRequest v) s = execStopInterfaceRequest v s := rfl
  generalize hu : (s.setTdi (v.val + 1) 0).dsmAnswer 6 (v.val + 1) = u
  have hhep : u.hep = s.hep := by rw [← hu]; exact (State.dsmAnswer_hep ..).trans (s.setTdi_hep ..)
  have hudrain : u.inDrain (v.val + 1) = false := by rw [← hdrain, State.inDrain, State.inDrain, State.fn_of_hep hhep, hhep]
  obtain ⟨htdi, hstate, htb, hunits⟩ := State.beginFlr_spec (s := u) (f := v.val + 1) (by omega) (by
    rw [← hu]; exact (State.dsmAnswer_tdi ..).trans (s.tdi_setTdi ..))
  have hutb : u.tb = s.tb := by rw [← hu]; exact (State.dsmAnswer_tb ..).trans (s.setTdi_tb ..)
  have huunits : u.disp.units = s.disp.units := by rw [← hu, State.dsmAnswer_disp, State.setTdi_disp]
  generalize hw : u.beginFlr (v.val + 1) = w at htdi hstate htb hunits
  refine ⟨w.setFn (v.val + 1) { w.fn (v.val + 1) with flrEnd := some (w.tb + ms 90) }, ?_, htdi, hstate, ?_, hunits.trans huunits⟩
  · rw [hexec, execStopInterfaceRequest, onLive_open hl]
    dsimp only
    rw [if_neg (by simp [hd, hp]), hu, if_neg (by simp [hudrain]), hw]
  · rw [State.fn_setFn_self, htb, hutb]
    rfl

end

/-! ### Peer windows -/

section
variable {s : State} (hl : s.live = true) (hr : s.isReady = true)
include hl hr

theorem exec_peerWindowTlp (hflr : s.hep.pfFlr = none) (write : Bool) (off : BitVec 44) (len : Nat) (data : Bytes) :
    exec (.peerWindowTlp write off len data) s = .next (s.windowTlp write off.toNat len data) := by
  have hexec : exec (.peerWindowTlp write off len data) s = execPeerWindowTlp write off len data s := rfl
  rw [hexec, execPeerWindowTlp, onLive_open hl, onServed_open hl, ite_self, if_neg (by simp [hr]), if_neg (by simp [hflr])]

/-- R456: a function-level reset of the PF drops writes and refuses reads. -/
theorem exec_peerWindowTlp_reset (hflr : s.hep.pfFlr.isSome = true) (off : BitVec 44) (len : Nat) (data : Bytes) :
    exec (.peerWindowTlp true off len data) s = .next s ∧
      exec (.peerWindowTlp false off len data) s = .next (s.emitTlp 0 (.cpl 0 1 [])) := by
  have hexec : ∀ write, exec (.peerWindowTlp write off len data) s =
      .next (if write then s else s.emitTlp 0 (.cpl 0 1 [])) := fun write => by
    have hexec : exec (.peerWindowTlp write off len data) s = execPeerWindowTlp write off len data s := rfl
    rw [hexec, execPeerWindowTlp, onLive_open hl, onServed_open hl, ite_self, if_neg (by simp [hr]), if_pos hflr]
  exact ⟨hexec true, hexec false⟩

end

namespace State

/-- R77: what a refused access leaves: memory as in `u`, one abort more, and its reason in a log that was free. -/
def AbortedFrom (u t : State) (reason w off : Nat) : Prop :=
  t.mem = u.mem ∧ t.fld WIN_CA_COUNT WIN_CA_COUNT.COUNT = (u.fld WIN_CA_COUNT WIN_CA_COUNT.COUNT + 1) % 2 ^ 64 ∧
    (u.bit WIN_CA_LOG WIN_CA_LOG.VALID = false → t.fld WIN_CA_LOG WIN_CA_LOG.REASON = reason ∧
      t.fld WIN_CA_LOG WIN_CA_LOG.WINDOW = w ∧ t.fld WIN_CA_LOG WIN_CA_LOG.OFFSET = off)

/-- R76, R78: the world on whose behalf window `w` reaches memory. -/
def windowWorld (s : State) (w : Nat) : World := .onBehalf (getFld (s.reg (WIN_ACTIVE_CTL w)) WIN_ACTIVE_CTL.PARTITION)

/-- R76: where offset `o` of window `w` lies in memory. -/
def windowAt (s : State) (w o : Nat) : Nat := s.fld (WIN_ACTIVE_TARGET w) WIN_ACTIVE_TARGET.ADDR * 4096 + o

/-- R76, R77: a write that the window permits. -/
def windowWrite (s : State) (w o off len : Nat) (data : Bytes) : State :=
  match s.memWrite (s.windowWorld w) 3 (s.windowAt w o) (padTo len data) with
  | (true, u) => u.meterWindow w (getFld (s.reg (WIN_ACTIVE_CTL w)) WIN_ACTIVE_CTL.PARTITION) len
  | (false, u) => u.completerAbort 4 off true

/-- R76, R77: a read that the window permits. -/
def windowRead (s : State) (w o off len : Nat) : State :=
  match s.memRead (s.windowWorld w) 3 (s.windowAt w o) len with
  | (some d, u) => (u.meterWindow w (getFld (s.reg (WIN_ACTIVE_CTL w)) WIN_ACTIVE_CTL.PARTITION) len).completeMem off
      (s.windowAt w o) d.1
  | (none, u) => u.completerAbort 4 off false

/-- R76: the field of a window that permits the access. -/
def allowFld (write : Bool) : Fld := if write then WIN_ACTIVE_CTL.WRITE_OK else WIN_ACTIVE_CTL.READ_OK

section
variable (s : State) {off w o : Nat} (hw : off / 2 ^ 38 = w) (hw64 : w < 64) (ho : off % 2 ^ 38 = o) (write : Bool) (len : Nat)
  (data : Bytes)
include hw hw64

theorem completerAbort_aborted {reason : Nat} (hr : reason < 8) :
    AbortedFrom s (s.completerAbort reason off write) reason w off :=
  hw ▸ s.completerAbort_spec write hr (by omega)

include ho

/-- R76, R77: a TLP of a window: its checks in order, then the access. -/
theorem windowTlp_eq : s.windowTlp write off len data =
    if 2 ^ 38 < o + len then s.completerAbort 5 off write
    else if getFld (s.reg (WIN_ACTIVE_CTL w)) WIN_ACTIVE_CTL.EN = 0 then s.completerAbort 1 off write
    else if 2 ^ getFld (s.reg (WIN_ACTIVE_CTL w)) WIN_ACTIVE_CTL.SIZE < o + len then s.completerAbort 2 off write
    else if getFld (s.reg (WIN_ACTIVE_CTL w)) (allowFld write) = 0 then s.completerAbort 3 off write
    else if write then s.windowWrite w o off len data else s.windowRead w o off len := by
  have hslot : off / 2 ^ 38 % 64 = w := hw ▸ Nat.mod_eq_of_lt (hw ▸ hw64)
  unfold windowTlp
  rw [hslot, ho]
  rfl

section
variable (hin : o + len ≤ 2 ^ 38)

theorem windowTlp_crossing (h : 2 ^ 38 < o + len) : s.windowTlp write off len data = s.completerAbort 5 off write := by
  rw [windowTlp_eq s hw hw64 ho, if_pos h]

include hin

theorem windowTlp_disabled (hen : getFld (s.reg (WIN_ACTIVE_CTL w)) WIN_ACTIVE_CTL.EN = 0) :
    s.windowTlp write off len data = s.completerAbort 1 off write := by
  rw [windowTlp_eq s hw hw64 ho, if_neg (not_lt.2 hin), if_pos hen]

variable (hen : getFld (s.reg (WIN_ACTIVE_CTL w)) WIN_ACTIVE_CTL.EN = 1)
include hen

theorem windowTlp_beyond (hsize : 2 ^ getFld (s.reg (WIN_ACTIVE_CTL w)) WIN_ACTIVE_CTL.SIZE < o + len) :
    s.windowTlp write off len data = s.completerAbort 2 off write := by
  rw [windowTlp_eq s hw hw64 ho, if_neg (not_lt.2 hin), if_neg (by omega), if_pos hsize]

variable (hsize : o + len ≤ 2 ^ getFld (s.reg (WIN_ACTIVE_CTL w)) WIN_ACTIVE_CTL.SIZE)
include hsize

theorem windowTlp_forbidden (hallow : getFld (s.reg (WIN_ACTIVE_CTL w)) (allowFld write) = 0) :
    s.windowTlp write off len data = s.completerAbort 3 off write := by
  rw [windowTlp_eq s hw hw64 ho, if_neg (not_lt.2 hin), if_neg (by omega), if_neg (not_lt.2 hsize), if_pos hallow]

theorem windowTlp_open (hallow : getFld (s.reg (WIN_ACTIVE_CTL w)) (allowFld write) = 1) : s.windowTlp write off len data =
    if write then s.windowWrite w o off len data else s.windowRead w o off len := by
  rw [windowTlp_eq s hw hw64 ho, if_neg (not_lt.2 hin), if_neg (by omega), if_neg (not_lt.2 hsize), if_neg (by omega)]

end
end

section
variable {s u : State} {w o off len : Nat}

theorem windowWrite_done {data : Bytes} (h : s.memWrite (s.windowWorld w) 3 (s.windowAt w o) (padTo len data) = (true, u)) :
    (s.windowWrite w o off len data).mem = u.mem ∧ (s.windowWrite w o off len data).regs = u.regs := by
  rw [windowWrite, h]
  dsimp only
  rw [meterWindow_eq]
  exact ⟨rfl, rfl⟩

theorem windowWrite_refused {data : Bytes} (h : s.memWrite (s.windowWorld w) 3 (s.windowAt w o) (padTo len data) = (false, u)) :
    s.windowWrite w o off len data = u.completerAbort 4 off true := by
  rw [windowWrite, h]

theorem windowRead_done {d : Bytes × Bool} (h : s.memRead (s.windowWorld w) 3 (s.windowAt w o) len = (some d, u)) :
    (s.windowRead w o off len).out = (u.completeMem off (s.windowAt w o) d.1).out ∧ (s.windowRead w o off len).mem = u.mem := by
  rw [windowRead, h]
  exact completeMem_meterWindow ..

theorem windowRead_refused (h : s.memRead (s.windowWorld w) 3 (s.windowAt w o) len = (none, u)) :
    s.windowRead w o off len = u.completerAbort 4 off false := by
  rw [windowRead, h]

end
end State

/-- R76, R77: one access of a window, as its checks take it. -/
theorem peerWindow_access {s : State} (hl : s.live = true) (hr : s.isReady = true) (hflr : s.hep.pfFlr = none) (w : Fin 64)
    (write : Bool) (o len : Nat) (data : Bytes) (hlt : o < 2 ^ 38) :
    let off : BitVec 44 := BitVec.ofNat 44 (w.val * 2 ^ 38 + o)
    let ctl := s.reg (WIN_ACTIVE_CTL w.val)
    let allows := getFld ctl (State.allowFld write)
    let refused := fun (u : State) (reason : Nat) =>
      ∃ t : State, exec (.peerWindowTlp write off len data) s = .next t ∧ State.AbortedFrom u t reason w.val off.toNat
    (2 ^ 38 < o + len → refused s 5) ∧
    (o + len ≤ 2 ^ 38 → getFld ctl WIN_ACTIVE_CTL.EN = 0 → refused s 1) ∧
    (o + len ≤ 2 ^ 38 → getFld ctl WIN_ACTIVE_CTL.EN = 1 → 2 ^ getFld ctl WIN_ACTIVE_CTL.SIZE < o + len → refused s 2) ∧
    (o + len ≤ 2 ^ 38 → getFld ctl WIN_ACTIVE_CTL.EN = 1 → o + len ≤ 2 ^ getFld ctl WIN_ACTIVE_CTL.SIZE → allows = 0 →
      refused s 3) ∧
    (o + len ≤ 2 ^ 38 → getFld ctl WIN_ACTIVE_CTL.EN = 1 → o + len ≤ 2 ^ getFld ctl WIN_ACTIVE_CTL.SIZE → allows = 1 →
      (write = true → ∀ ok u, s.memWrite (s.windowWorld w.val) 3 (s.windowAt w.val o) (padTo len data) = (ok, u) →
        (ok = true → ∃ t : State, exec (.peerWindowTlp write off len data) s = .next t ∧ t.mem = u.mem ∧ t.regs = u.regs) ∧
        (ok = false → refused u 4)) ∧
      (write = false →
        (∀ d u, s.memRead (s.windowWorld w.val) 3 (s.windowAt w.val o) len = (some d, u) →
          ∃ t : State, exec (.peerWindowTlp write off len data) s = .next t ∧
            t.out = (u.completeMem off.toNat (s.windowAt w.val o) d.1).out ∧ t.mem = u.mem) ∧
        (∀ u, s.memRead (s.windowWorld w.val) 3 (s.windowAt w.val o) len = (none, u) → refused u 4))) := by
  intro off ctl allows refused
  have hoff : off.toNat = w.val * 2 ^ 38 + o := by
    rw [BitVec.toNat_ofNat]
    exact Nat.mod_eq_of_lt (by omega)
  have hw : off.toNat / 2 ^ 38 = w.val := by omega
  have ho : off.toNat % 2 ^ 38 = o := by omega
  have hexec := exec_peerWindowTlp hl hr hflr write off len data
  have abort : ∀ {u reason}, reason < 8 → s.windowTlp write off.toNat len data = u.completerAbort reason off.toNat write →
      refused u reason := fun hreason h =>
    ⟨_, hexec.trans (congrArg Host.Outcome.next h), State.completerAbort_aborted _ hw w.isLt write hreason⟩
  refine ⟨fun hx => abort (by decide) (s.windowTlp_crossing hw w.isLt ho write len data hx),
    fun hin hen => abort (by decide) (s.windowTlp_disabled hw w.isLt ho write len data hin hen),
    fun hin hen hsize => abort (by decide) (s.windowTlp_beyond hw w.isLt ho write len data hin hen hsize),
    fun hin hen hsize ha => abort (by decide) (s.windowTlp_forbidden hw w.isLt ho write len data hin hen hsize ha),
    fun hin hen hsize ha => ?_⟩
  have hopen := s.windowTlp_open hw w.isLt ho write len data hin hen hsize ha
  rw [hopen] at hexec
  refine ⟨?_, ?_⟩
  · rintro rfl ok u hmem
    refine ⟨?_, ?_⟩
    · rintro rfl
      exact ⟨_, hexec, State.windowWrite_done hmem⟩
    · rintro rfl
      exact abort (by decide) (hopen.trans (State.windowWrite_refused hmem))
  · rintro rfl
    exact ⟨fun d u hmem => ⟨_, hexec, State.windowRead_done hmem⟩,
      fun u hmem => abort (by decide) (hopen.trans (State.windowRead_refused hmem))⟩

/-! ### Window commits -/

section
variable {s : State} (hl : s.live = true) (w : Fin 64)
include hl

theorem exec_winCommit : exec (.winCommit w) s = .next (if s.hep.pfFlr.isSome = true then s else s.winCommit w.val) := by
  have hexec : exec (.winCommit w) s = execWinCommit w s := rfl
  rw [hexec, execWinCommit, onLive_open hl]

theorem exec_winCommit_busy (hb : s.bit WIN_COMMIT WIN_COMMIT.BUSY = true) : exec (.winCommit w) s = .next s := by
  rw [exec_winCommit hl, State.winCommit, if_pos hb, ite_self]

/-- R78: a GO for an idle window. -/
theorem exec_winCommit_idle {_ : Decidable (s.CommitOk w.val)} (hb : s.bit WIN_COMMIT WIN_COMMIT.BUSY = false)
    (hflr : s.hep.pfFlr = none) :
    ∃ t : State, exec (.winCommit w) s = .next t ∧
      t.bit WIN_COMMIT WIN_COMMIT.ERROR = !decide (s.CommitOk w.val) ∧
      t.bit WIN_COMMIT WIN_COMMIT.BUSY = decide (s.CommitOk w.val) ∧
      t.reg (WIN_ACTIVE_CTL w.val) = (if s.CommitOk w.val then s.reg (WIN_SHADOW_CTL w.val) else s.reg (WIN_ACTIVE_CTL w.val)) ∧
      t.reg (WIN_ACTIVE_TARGET w.val) =
        (if s.CommitOk w.val then s.reg (WIN_SHADOW_TARGET w.val) else s.reg (WIN_ACTIVE_TARGET w.val)) ∧
      (∀ x : Fin 64, x ≠ w → t.reg (WIN_ACTIVE_CTL x.val) = s.reg (WIN_ACTIVE_CTL x.val) ∧
        t.reg (WIN_ACTIVE_TARGET x.val) = s.reg (WIN_ACTIVE_TARGET x.val)) := by
  obtain ⟨htaken, hfailed⟩ := State.winCommit_idle w.isLt hb
  have hexec := exec_winCommit hl w
  rw [if_neg (by simp [hflr])] at hexec
  by_cases hok : s.CommitOk w.val
  · obtain ⟨herror, hbusy⟩ := s.committed_spec w.val
    obtain ⟨hctl, htarget⟩ := s.committed_active w.isLt
    rw [htaken hok] at hexec
    rw [decide_eq_true hok, if_pos hok, if_pos hok]
    exact ⟨_, hexec, herror, hbusy, hctl, htarget, fun x hx => s.committed_other x.isLt (Fin.val_ne_of_ne hx)⟩
  · obtain ⟨herror, hbusy, hreg⟩ := s.commitFailed_spec w.val
    rw [hfailed hok] at hexec
    rw [decide_eq_false hok, if_neg hok, if_neg hok]
    exact ⟨_, hexec, herror, hbusy.trans hb, hreg _ (State.activeCtl_ne_commit w.isLt), hreg _ (State.activeTarget_ne_commit _),
      fun x _ => ⟨hreg _ (State.activeCtl_ne_commit x.isLt), hreg _ (State.activeTarget_ne_commit _)⟩⟩

omit w in
/-- R78: the TLPs under the old set have finished. -/
theorem exec_winCommitDrained : ∃ t : State, exec .winCommitDrained s = .next t ∧ t.bit WIN_COMMIT WIN_COMMIT.BUSY = false ∧
    t.fld WIN_COMMIT WIN_COMMIT.WINDOW = s.fld WIN_COMMIT WIN_COMMIT.WINDOW ∧ t.mem = s.mem := by
  have hexec : exec .winCommitDrained s = execWinCommitDrained s := rfl
  refine ⟨s.setBit WIN_COMMIT WIN_COMMIT.BUSY false, ?_, State.bit_setBit_self _ _ _ _ (by decide),
    State.fld_setFld_apart s _ _ _ _ (by decide) (by decide), State.setBit_mem ..⟩
  rw [hexec, execWinCommitDrained, onLive_open hl]

end

/-- Settles O9: TDI requests by their own lemmas; a peer-window access is decoded once and meets the checks in order; a commit
fails or is taken. -/
theorem tdisAndPeerWindows : Obligations.TdisAndPeerWindows := by
  unfold Obligations.TdisAndPeerWindows
  intro s v w hl
  dsimp only
  refine ⟨?_, ?_, ?_, ?_, ?_, ?_, ?_, ?_, ?_, ?_, ?_⟩
  · exact fun st hd hp ht hdrain => exec_lockInterfaceRequest hl v st hd hp ht hdrain
  · exact fun st ht => exec_lockInterfaceRequest_locked hl v st ht
  · exact fun hd hp ht => exec_startInterfaceRequest hl v hd hp ht
  · exact fun hd hp hdrain => exec_stopInterfaceRequest hl v hd hp hdrain
  · exact fun hr hflr write o len data hlt => peerWindow_access hl hr hflr w write o len data hlt
  · exact fun hr hflr off len data => exec_peerWindowTlp_reset hl hr hflr off len data
  · exact State.payloadsOf_spec
  · exact fun hflr => by rw [exec_winCommit hl, if_pos hflr]
  · exact fun hb => exec_winCommit_busy hl w hb
  · exact fun hb hflr => exec_winCommit_idle hl w hb hflr
  · exact exec_winCommitDrained hl

end Sys2Proof.Machine
end
section
/-!
R107 to R109: what a ring record shows of a partition that no register stands for, and the refutation of O11.
-/
namespace Sys2Proof.Machine
open Sys2Proof

namespace State

/-- The end of the orphaned state starts the poll interval (R90): a function left without one was not orphaned. -/
theorem endOrphan_of_pollAt_none {s : State} {f : Nat} (h : ((s.endOrphan f).fn f).pollAt = none) : s.endOrphan f = s := by
  unfold endOrphan at h ⊢
  split at h
  · rw [restartPoll, fn_setFn_self] at h
    cases h
  · next hc => rw [if_neg hc]

/-- A ready module that runs VF 1 with ring 0 enabled. The ring's series names a partition beyond the 1,024 that there are. -/
def partBeyondTable : State :=
  { phase := .ready
    hep := { fns := [(1, { present := true, bme := true })] }
    disp := { rings := [(ringOf 1 0, { part := 0x1FEBFA04 })] }
    regs := [(HEP_FN_STATE 1, 1), (RING_SQ_CFG 1 0, 0x80000000)] }

/-- The byte at offset `i` of a DMA write. -/
def dmaByte (i : Nat) : Output → Byte
  | .dma _ _ b => b.getD i 0
  | _ => 0

/-- That module after a GO with LEN 6, just enough for its two ring records. -/
def partBeyondTableGo : State := partBeyondTable.resyncGo 1 6

end State

/-- The place of such a partition's record in Crucible's table is the place of the control register of VF 1's `RESYNC`. -/
theorem record_beyond_table_eq_resyncCtl : CRU_PART 0x1FEBFA04 = RING_RESYNC_CTL 1 := by decide

/-- R107: a GO of VF 1, whose page is open. -/
theorem exec_resyncGo_partBeyondTable :
    exec (.resyncGo ⟨1, by decide⟩ 6) State.partBeyondTable = .next State.partBeyondTableGo := by
  have hopen : State.partBeyondTable.pageOpen 1 (State.partBeyondTable.tdi 1 == 2) = true := by decide +kernel
  have hexec : exec (.resyncGo ⟨1, by decide⟩ 6) State.partBeyondTable =
    execResyncGo ⟨1, by decide⟩ 6 State.partBeyondTable := rfl
  rw [hexec, execResyncGo, onLive_open (by decide), if_pos hopen]
  rfl

/-- The GO sets LEN before the summary is captured. The record of ring 0, which stands at offset 320, reads LEN for the state of
the ring's partition at its offset 4, so the bytes written are not those of the summary as it stood before the GO. -/
theorem partBeyondTableGo_out : (State.partBeyondTableGo.fn 1).pollAt = none ∧
    State.partBeyondTableGo.out ≠ (State.partBeyondTable.dmaWrite 1 0 (State.partBeyondTable.summary 1)).out := by
  have hpoll : (State.partBeyondTableGo.fn 1).pollAt = none := by decide +kernel
  have hgo : State.partBeyondTableGo.out.map (State.dmaByte 324) = [2] := by decide +kernel
  have hbefore : (State.partBeyondTable.dmaWrite 1 0 (State.partBeyondTable.summary 1)).out.map (State.dmaByte 324) = [0] := by
    decide +kernel
  refine ⟨hpoll, fun h => ?_⟩
  rw [h, hbefore] at hgo
  exact absurd hgo (by decide)

/-- Refutes O11. Its clause for a GO that is served says that the summary written is that of the state before the write. The
statement is about every state, and has no hypothesis that keeps the partition of a ring's series below 1,024. In the state
above the partition's record falls on `RING_RESYNC_CTL` itself, which the GO changes first. -/
theorem not_resyncSummary : ¬ Obligations.ResyncSummary := by
  unfold Obligations.ResyncSummary
  intro h
  obtain ⟨-, hidle, -⟩ := h State.partBeyondTable ⟨1, by decide⟩ 6 (by decide) (by decide +kernel)
  obtain ⟨-, -, -, hserved⟩ := hidle (by decide +kernel)
  obtain ⟨-, hwritten, -⟩ := hserved (by decide +kernel) (by decide +kernel) (by decide +kernel) (by decide +kernel)
  obtain ⟨u, hexec, hout, -⟩ := hwritten (by decide +kernel) (by decide +kernel)
  have hu : State.partBeyondTableGo = u.endOrphan 1 := Host.Outcome.next.inj (exec_resyncGo_partBeyondTable.symm.trans hexec)
  obtain ⟨hpoll, hne⟩ := partBeyondTableGo_out
  have hsame : u.endOrphan 1 = u := State.endOrphan_of_pollAt_none (hu ▸ hpoll)
  exact hne ((congrArg State.out (hu.trans hsame)).trans hout)

end Sys2Proof.Machine
end
section
/-!
SUPPORT. The registers of a function's ring page (R102), and what wakes (R88), tails (R89) and the endpoint's requests leave of
rings and registers.
-/
namespace Sys2Proof.Machine
open Sys2Proof

namespace State

/-! ### Registers that lie apart -/

theorem sqCfg_ne_sqStatus (f r q : Nat) : RING_SQ_CFG f r ≠ RING_SQ_STATUS f q := by
  unfold RING_SQ_CFG RING_SQ_STATUS; omega

theorem sqCfg_ne_cqStatus (f r c : Nat) : RING_SQ_CFG f r ≠ RING_CQ_STATUS f c := by
  unfold RING_SQ_CFG RING_CQ_STATUS; omega

theorem sqCfg_ne_cqCfg (f : Nat) {r : Nat} (c : Nat) (h : r < 17) : RING_SQ_CFG f r ≠ RING_CQ_CFG f c := by
  unfold RING_SQ_CFG RING_CQ_CFG; omega

theorem cqCfg_ne_cqStatus (f c d : Nat) : RING_CQ_CFG f c ≠ RING_CQ_STATUS f d := by
  unfold RING_CQ_CFG RING_CQ_STATUS; omega

/-- The journal's registers stand on no ring page. -/
theorem ringPage_ne_jnl (f : Nat) {n a : Nat} (hn : n < 0x1000) (ha : 0x200000 ≤ a) (ha' : a < 0x300000) :
    ringPage f + n ≠ a := by
  unfold ringPage; split <;> omega

/-- The state register of a function that there is stands on no ring page. -/
theorem fnReg_ne_ringPage {f : Nat} (hf : f < 1025) (g n : Nat) : HEP_FN_STATE f ≠ ringPage g + n := by
  unfold HEP_FN_STATE ringPage; split <;> omega

theorem reg_of_regs {s t : State} (h : t.regs = s.regs) (a : Nat) : t.reg a = s.reg a := by simp only [reg, h]

theorem fld_of_reg {s t : State} {a : Nat} (h : t.reg a = s.reg a) (g : Fld) : t.fld a g = s.fld a g := by
  simp only [fld, h]

theorem bit_of_reg {s t : State} {a : Nat} (h : t.reg a = s.reg a) (g : Fld) : t.bit a g = s.bit a g := by
  simp only [bit, fld, h]

theorem enabledSqs_of_reg {s t : State} {f : Nat} (h : ∀ r, t.reg (RING_SQ_CFG f r) = s.reg (RING_SQ_CFG f r)) :
    t.enabledSqs f = s.enabledSqs f :=
  List.filter_congr fun r _ => bit_of_reg (h r) _

theorem mem_enabledSqs {s : State} {f r : Nat} : r ∈ s.enabledSqs f ↔ r < 17 ∧ s.sqEnabled f r = true := by
  rw [enabledSqs, List.mem_filter, List.mem_range]

/-! ### Tables of the Dispatcher and of the endpoint -/

theorem ring_of_disp {s t : State} (h : t.disp = s.disp) (k : Nat) : t.ring k = s.ring k := by simp only [ring, h]

theorem cq_setCq_self (s : State) (k : Nat) (x : CplRing) : (s.setCq k x).cq k = x := Tbl.get_set_self ..

theorem cq_setCq_ne (s : State) {j k : Nat} (x : CplRing) (h : j ≠ k) : (s.setCq k x).cq j = s.cq j := Tbl.get_set_ne _ _ _ h

theorem readDoorbell_hepOnly (s : State) (f : Nat) (poll : Bool) : HepOnly s (s.readDoorbell f poll) := by
  unfold readDoorbell
  split
  · exact issueRead_hepOnly ..
  · exact .rfl

theorem writeSqOrphan_hepOnly (s : State) (f r : Nat) : HepOnly s (s.writeSqOrphan f r) := by
  unfold writeSqOrphan
  split
  · exact putSq_hepOnly ..
  · exact .rfl

theorem writeCq_hepOnly (s : State) (f c : Nat) : HepOnly s (s.writeCq f c) := request_hepOnly ..

theorem restartPoll_hepOnly (s : State) (f : Nat) : HepOnly s (s.restartPoll f) := Eq.refl _

/-! ### Wakes -/

/-- R88: a wake moves nothing of a ring that neither sleeps nor holds. -/
theorem wakeRing_awake {s : State} {f r : Nat} (h : ((s.ring (ringOf f r)).sleeping || (s.ring (ringOf f r)).formatHold) = false) :
    s.wakeRing f r = s := by
  rw [wakeRing, h, if_neg Bool.false_ne_true]

/-- R84, R88: a wake of a ring that sleeps or holds changes that ring, the state of its status register and the endpoint. -/
theorem wakeRing_asleep {s : State} {f r : Nat} (h : ((s.ring (ringOf f r)).sleeping || (s.ring (ringOf f r)).formatHold) = true) :
    (s.wakeRing f r).disp =
      (s.setRing (ringOf f r) { s.ring (ringOf f r) with sleeping := false, formatHold := false, unchanged := 0 }).disp := by
  rw [wakeRing, h, if_pos rfl]
  dsimp only
  rw [(writeSq_hepOnly ..).disp]
  split <;> rfl

theorem wakeRing_reg (s : State) {f r a : Nat} (h : a ≠ RING_SQ_STATUS f r) : (s.wakeRing f r).reg a = s.reg a := by
  unfold wakeRing
  dsimp only
  split
  · rw [(writeSq_hepOnly ..).reg]
    split
    · exact reg_setFld_ne _ _ _ h
    · rfl
  · rfl

/-- R88: the ring woken is awake, and no other ring changes. -/
theorem wakeRing_ring (s : State) (f r : Nat) :
    (((s.wakeRing f r).ring (ringOf f r)).sleeping = false ∧ ((s.wakeRing f r).ring (ringOf f r)).formatHold = false) ∧
      ∀ k, k ≠ ringOf f r → (s.wakeRing f r).ring k = s.ring k := by
  cases h : (s.ring (ringOf f r)).sleeping || (s.ring (ringOf f r)).formatHold with
  | false =>
    rw [wakeRing_awake h]
    exact ⟨Bool.or_eq_false_iff.1 h, fun _ _ => rfl⟩
  | true =>
    refine ⟨?_, fun k hk => (ring_of_disp (wakeRing_asleep h) k).trans (ring_setRing_ne _ _ hk)⟩
    rw [ring_of_disp (wakeRing_asleep h), ring_setRing_self]
    exact ⟨rfl, rfl⟩

/-- R88: a 4-byte wake leaves every ring of its list awake. -/
theorem foldl_wakeRing_awake (f : Nat) (l : List Nat) (s : State) :
    ∀ r ∈ l, ((l.foldl (fun s r => s.wakeRing f r) s).ring (ringOf f r)).sleeping = false ∧
      ((l.foldl (fun s r => s.wakeRing f r) s).ring (ringOf f r)).formatHold = false :=
  (foldl_establishes (f := fun s r => wakeRing s f r)
    (P := fun s r => (s.ring (ringOf f r)).sleeping = false ∧ (s.ring (ringOf f r)).formatHold = false)
    (fun s r => (wakeRing_ring s f r).1)
    (fun s r q hq => by
      by_cases h : ringOf f q = ringOf f r
      · rw [h]; exact (wakeRing_ring s f r).1
      · rw [(wakeRing_ring s f r).2 _ h]; exact hq) l s).2

theorem foldl_wakeRing_enabledSqs (f : Nat) (l : List Nat) (s : State) :
    (l.foldl (fun s r => s.wakeRing f r) s).enabledSqs f = s.enabledSqs f :=
  List.foldlRecOn (motive := fun t : State => t.enabledSqs f = s.enabledSqs f) _ _ rfl
    fun t ht r _ => (enabledSqs_of_reg fun q => wakeRing_reg t (sqCfg_ne_sqStatus f q r)).trans ht

theorem wakeRing_sqSize (s : State) (f r : Nat) : (s.wakeRing f r).sqSize f r = s.sqSize f r := by
  rw [sqSize, fld_of_reg (wakeRing_reg s (sqCfg_ne_sqStatus f r r)), sqSize]

/-! ### Tails -/

/-- R89: how far a count lies beyond the accepted count. -/
def tailDist (x : Ring) (t : Nat) : Nat := (t + 2 ^ 32 - x.accepted) % 2 ^ 32

/-- R89: the ring once a tail count has been read that is beyond its size (`far`), or that moves the tail on (`moved`). -/
def tailRead (x : Ring) (far moved poll : Bool) (t : Nat) : Ring :=
  if far then { x with tailInvalid := true, unchanged := if poll then x.unchanged + 1 else x.unchanged }
  else { x with
    tail := if moved then t else x.tail
    tailInvalid := false
    sleeping := x.sleeping && !moved
    unchanged := if moved then 0 else if poll then x.unchanged + 1 else x.unchanged }

/-- R89: a count that is beyond the ring's size changes, of the Dispatcher, its ring alone. -/
theorem newTail_far {s : State} {f r t : Nat} (poll : Bool) (h : s.sqSize f r < tailDist (s.ring (ringOf f r)) t) :
    (s.newTail f r t poll).disp = (s.setRing (ringOf f r) (tailRead (s.ring (ringOf f r)) true true poll t)).disp := by
  unfold newTail
  extract_lets rk x size dist old x1 moved x2 s1 s2
  have h : size < dist := h
  rw [if_pos h]
  split
  · rfl
  · exact (writeSq_hepOnly ..).disp

/-- R89: so does a valid count. -/
theorem newTail_near {s : State} {f r t : Nat} (poll : Bool) (h : ¬ s.sqSize f r < tailDist (s.ring (ringOf f r)) t) :
    ∃ moved : Bool,
      (moved = true ↔ tailDist (s.ring (ringOf f r)) (s.ring (ringOf f r)).tail < tailDist (s.ring (ringOf f r)) t) ∧
      (s.newTail f r t poll).disp = (s.setRing (ringOf f r) (tailRead (s.ring (ringOf f r)) false moved poll t)).disp := by
  unfold newTail
  extract_lets rk x size dist old x1 moved x2 s1 s2
  have h : ¬ size < dist := h
  have hmoved : moved = true ↔ old < dist := decide_eq_true_iff
  rw [if_neg h]
  clear_value moved
  refine ⟨moved, hmoved, ?_⟩
  have h2 : s2.disp = s1.disp := by unfold s2; split <;> rfl
  split
  · exact (writeSq_hepOnly ..).disp.trans h2
  · exact h2

theorem ring_of_newTail {s : State} {f r t : Nat} {poll : Bool} {x : Ring}
    (h : (s.newTail f r t poll).disp = (s.setRing (ringOf f r) x).disp) : (s.newTail f r t poll).ring (ringOf f r) = x :=
  (ring_of_disp h _).trans (ring_setRing_self ..)

/-- R89: a count read leaves the accepted count, never moves the tail back, and moves it nowhere where it is invalid. -/
theorem newTail_ring (s : State) (f r t : Nat) (poll : Bool) :
    let x := s.ring (ringOf f r)
    let y := (s.newTail f r t poll).ring (ringOf f r)
    y.accepted = x.accepted ∧ tailDist x x.tail ≤ tailDist x y.tail ∧
      (s.sqSize f r < tailDist x t → y.tail = x.tail ∧ y.tailInvalid = true) ∧
      (tailDist x t ≤ s.sqSize f r → y.tailInvalid = false ∧ tailDist x t ≤ tailDist x y.tail) := by
  intro x y
  by_cases h : s.sqSize f r < tailDist x t
  · have hy : y = tailRead x true true poll t := ring_of_newTail (newTail_far poll h)
    rw [hy]
    exact ⟨rfl, le_refl _, fun _ => ⟨rfl, rfl⟩, fun h' => absurd h (not_lt.2 h')⟩
  · obtain ⟨moved, hmoved, hdisp⟩ := newTail_near poll h
    have hy : y = tailRead x false moved poll t := ring_of_newTail hdisp
    rw [hy]
    cases moved with
    | true => exact ⟨rfl, (hmoved.1 rfl).le, fun h' => absurd h' h, fun _ => ⟨rfl, le_refl _⟩⟩
    | false => exact ⟨rfl, le_refl _, fun h' => absurd h' h, fun _ => ⟨rfl, not_lt.1 fun h => Bool.false_ne_true (hmoved.2 h)⟩⟩

end State
end Sys2Proof.Machine
end
section
/-!
SUPPORT. Posting (R98, R100): what one entry changes, what a completion ring holds of entries not yet consumed, and what
follows a batch of entries.
-/
namespace Sys2Proof.Machine
open Sys2Proof

/-- `t` has the completion rings of `s`. -/
def CqsKept (s t : State) : Prop := t.disp.cqs = s.disp.cqs

namespace CqsKept

theorem rfl {s : State} : CqsKept s s := Eq.refl s.disp.cqs

theorem trans {s t u : State} (h : CqsKept s t) (h' : CqsKept t u) : CqsKept s u := Eq.trans h' h

theorem foldl {α : Type} {f : State → α → State} (hf : ∀ s x, CqsKept s (f s x)) (l : List α) (s : State) :
    CqsKept s (l.foldl f s) := by
  induction l generalizing s with
  | nil => exact .rfl
  | cons x t ih => exact (hf s x).trans (ih _)

theorem of_disp {s t : State} (h : t.disp = s.disp) : CqsKept s t := congrArg DispatchState.cqs h

theorem setRing (s : State) (k : Nat) (x : Ring) : CqsKept s (s.setRing k x) := Eq.refl s.disp.cqs

theorem cq {s t : State} (h : CqsKept s t) (k : Nat) : t.cq k = s.cq k := by
  unfold CqsKept at h
  simp only [State.cq, h]

end CqsKept

namespace State

/-! ### A ring that moves on leaves the completion rings -/

theorem holdFormat_cqsKept (s : State) (f r n : Nat) : CqsKept s (s.holdFormat f r n) := by
  unfold holdFormat
  exact (CqsKept.setRing ..).trans (.of_disp (writeSq_hepOnly ..).disp)

theorem issueFetched_cqsKept (f r n : Nat) (s : State) : CqsKept s (issueFetched f r n s) := by
  induction n generalizing s with
  | zero => exact .rfl
  | succ n ih =>
    unfold issueFetched
    dsimp only
    split
    · exact .rfl
    · split
      · exact holdFormat_cqsKept ..
      · split
        · exact (CqsKept.setRing ..).trans (ih _)
        · split
          · exact .rfl
          · split
            · exact .rfl
            · exact ((CqsKept.setRing ..).trans (.of_disp (writeRecord_logOnly ..).disp)).trans (ih _)

theorem accept_cqsKept (s : State) (f r asn budget : Nat) (desc : Bytes) : CqsKept s (s.accept f r asn budget desc) := by
  unfold accept
  extract_lets rk x tag u s1 s2
  have h2 : CqsKept s s2 := Eq.refl s.disp.cqs
  split
  · exact h2
  · exact h2

theorem consume_cqsKept (f r n : Nat) (s : State) : CqsKept s (consume f r n s) := by
  induction n generalizing s with
  | zero => exact .rfl
  | succ n ih =>
    unfold consume
    dsimp only
    split
    · exact .rfl
    · split
      · split
        · exact ((CqsKept.setRing ..).trans (accept_cqsKept ..)).trans (ih _)
        · exact .rfl
      · exact (CqsKept.setRing ..).trans (ih _)
      · exact .rfl

theorem fetch_cqsKept (s : State) (f r : Nat) : CqsKept s (s.fetch f r) := by
  unfold fetch
  extract_lets x avail busy size n addr
  split
  · exact (CqsKept.setRing ..).trans (.of_disp (issueRead_hepOnly ..).disp)
  · exact .rfl

theorem driveRing_cqsKept (s : State) (f r : Nat) : CqsKept s (s.driveRing f r) := by
  unfold driveRing
  extract_lets rk before s1 s2 s3
  have h2 : CqsKept s s2 := (issueFetched_cqsKept ..).trans (consume_cqsKept ..)
  have h3 : CqsKept s2 s3 := by
    unfold s3
    split
    · exact .rfl
    · exact .of_disp (writeSq_hepOnly ..).disp
  exact (h2.trans h3).trans (fetch_cqsKept ..)

theorem resumeHeld_cqsKept (s : State) : CqsKept s s.resumeHeld := .foldl (fun _ _ => driveRing_cqsKept ..) _ _

/-- R93: with every fetched descriptor under way, a freed slot moves no ring on. -/
theorem resumeHeld_of_issued {s : State}
    (h : ∀ x ∈ s.disp.rings, ∀ d ∈ x.2.fetched, d.issued.isSome = true ∨ d.dupOf.isSome = true) : s.resumeHeld = s := by
  have hnone : s.disp.rings.filter (fun e => e.2.fetched.any (fun d => d.issued.isNone && d.dupOf.isNone)) = [] := by
    refine List.filter_eq_nil_iff.2 fun x hx => ?_
    rw [Bool.not_eq_true, List.any_eq_false]
    intro d hd
    rcases h x hx d hd with hi | hi
    · simp [Option.isSome_iff_ne_none.1 hi]
    · simp [Option.isSome_iff_ne_none.1 hi]
  rw [resumeHeld, hnone]
  rfl

/-! ### Messages -/

/-- R56: a message changes the endpoint and its own pending bit, and drives at most itself out. -/
theorem sendVector_spec (s : State) (f v : Nat) :
    (s.sendVector f v).disp = s.disp ∧ ∃ rest, (s.sendVector f v).out = rest ++ s.out := by
  unfold sendVector
  dsimp only
  split
  · exact ⟨rfl, [], rfl⟩
  · split
    · exact ⟨rfl, [], rfl⟩
    · split
      · exact ⟨rfl, [], rfl⟩
      · exact ⟨rfl, [_], rfl⟩

/-- R100: coalescing changes, of the Dispatcher, what its completion ring has left to signal. -/
theorem signal_spec (s : State) (f c n : Nat) :
    let t := s.signal f c n
    t.disp.rings = s.disp.rings ∧ t.disp.units = s.disp.units ∧
      (∃ k a, t.cq (ringOf f c) = { s.cq (ringOf f c) with unsignalled := k, coalAt := a }) ∧
      ∃ rest, t.out = rest ++ s.out := by
  unfold signal
  extract_lets cfg count time q t
  have hsame : s.disp.rings = s.disp.rings ∧ s.disp.units = s.disp.units ∧
      (∃ k a, s.cq (ringOf f c) = { s.cq (ringOf f c) with unsignalled := k, coalAt := a }) ∧
      ∃ rest, s.out = rest ++ s.out := ⟨rfl, rfl, ⟨q.unsignalled, q.coalAt, rfl⟩, [], rfl⟩
  unfold t
  split
  · exact hsame
  · split
    · obtain ⟨hdisp, hout⟩ := sendVector_spec (s.setCq (ringOf f c) { q with unsignalled := 0, coalAt := none }) f
        (getFld cfg RING_CQ_CFG.VECTOR)
      refine ⟨by rw [hdisp]; rfl, by rw [hdisp]; rfl, ⟨0, none, ?_⟩, hout⟩
      exact (CqsKept.of_disp hdisp).cq _ |>.trans (cq_setCq_self ..)
    · exact hsame

/-! ### A completion ring's entries -/

/-- R100: entries of a completion ring that the host has not consumed. -/
def unconsumed (q : CplRing) : Nat := (q.posted + 2 ^ 32 - q.head) % 2 ^ 32

/-- One entry more is one more not consumed, at most. -/
theorem unconsumed_post {p h n : Nat} (hn : n ≤ 2 ^ 31) (hroom : (p + 2 ^ 32 - h) % 2 ^ 32 < n) :
    ((p + 1) % 2 ^ 32 + 2 ^ 32 - h) % 2 ^ 32 ≤ n := by omega

theorem cqSize_le (s : State) (f c : Nat) : s.cqSize f c ≤ 2 ^ 31 :=
  Nat.pow_le_pow_right (by decide) (Nat.le_of_lt_succ (getFld_lt (s.reg (RING_CQ_CFG f c)) RING_CQ_CFG.SIZE))

/-- From `s` to `t` completion ring `c` of function `f` keeps its setup and its head, and holds no more than it has room
for. -/
structure PostsWithin (f c : Nat) (s t : State) : Prop where
  cfg : t.reg (RING_CQ_CFG f c) = s.reg (RING_CQ_CFG f c)
  head : (t.cq (ringOf f c)).head = (s.cq (ringOf f c)).head
  room : unconsumed (s.cq (ringOf f c)) ≤ s.cqSize f c → unconsumed (t.cq (ringOf f c)) ≤ s.cqSize f c

namespace PostsWithin
variable {f c : Nat} {s t u : State}

theorem cqSize (h : PostsWithin f c s t) : t.cqSize f c = s.cqSize f c := by
  rw [State.cqSize, fld_of_reg h.cfg, State.cqSize]

theorem rfl : PostsWithin f c s s := ⟨Eq.refl _, Eq.refl _, id⟩

theorem trans (h : PostsWithin f c s t) (h' : PostsWithin f c t u) : PostsWithin f c s u where
  cfg := h'.cfg.trans h.cfg
  head := h'.head.trans h.head
  room hs := h.cqSize ▸ h'.room (h.cqSize ▸ h.room hs)

/-- A step that leaves the completion ring as it is. -/
theorem of_cq (hreg : t.reg (RING_CQ_CFG f c) = s.reg (RING_CQ_CFG f c)) (hcq : t.cq (ringOf f c) = s.cq (ringOf f c)) :
    PostsWithin f c s t := ⟨hreg, congrArg CplRing.head hcq, fun h => hcq ▸ h⟩

theorem of_hepOnly (h : HepOnly s t) : PostsWithin f c s t := of_cq (h.reg _) ((CqsKept.of_disp h.disp).cq _)

end PostsWithin

theorem cqCfg_ne_jnl (f : Nat) {c a : Nat} (hc : c < 17) (ha : 0x200000 ≤ a) (ha' : a < 0x300000) : RING_CQ_CFG f c ≠ a := by
  unfold RING_CQ_CFG
  rw [Nat.add_assoc]
  exact ringPage_ne_jnl f (by omega) ha ha'

theorem dropLive_logOnly (s : State) (k : Nat) : LogOnly s (s.dropLive k) :=
  (LogOnly.of_jnl s _ rfl).trans (headRegs_logOnly _)

theorem meterUnit_regs (s : State) (u : WorkUnit) (b : Bool) : (s.meterUnit u b).regs = s.regs := by
  obtain ⟨x, hx⟩ := meterUnit_cru s u b
  rw [hx]

/-- R98: the completion ring with one entry more. -/
def cqPosted (s : State) (ck : Nat) : CplRing :=
  { s.cq ck with
    posted := ((s.cq ck).posted + 1) % 2 ^ 32
    unsignalled := (s.cq ck).unsignalled + 1
    coalAt := some ((s.cq ck).coalAt.getD s.tb) }

/-- R98: an entry goes out as one DMA write, and its completion ring counts it. -/
def slotFilled (s : State) (f c : Nat) (e : Bytes) : State :=
  (s.request f (s.slotAt f c) 32 (.dma f (s.slotAt f c) e)).setCq (ringOf f c) (s.cqPosted (ringOf f c))

/-- R94: a duplicate-marked copy leaves the unit it copies. -/
theorem postEntry_dup (s : State) (f r c a g : Nat) (e : Bytes) : ∃ x : Ring,
    s.postEntry f r c (.dup a g) e = (s.slotFilled f c e).setRing (ringOf f r) x := ⟨_, rfl⟩

/-- R98: with an entry of unit `asn` in its slot, the ring has posted that unit, which is gone. -/
def unitOut (s : State) (rk asn : Nat) (w l : List WinEntry) (m : CruState) : State :=
  ({ s.setRing rk { s.ring rk with posted := some asn, window := w, leftWindow := l } with cru := m } : State).delUnit
    (unitKey rk asn)

/-- R98, R34: the unit posted is the last one posted of its ring, and is gone with its live records. -/
theorem postEntry_unit (s : State) (f r c asn : Nat) (e : Bytes) : ∃ (w l : List WinEntry) (m : CruState),
    s.postEntry f r c (.unit asn) e =
      ((s.slotFilled f c e).unitOut (ringOf f r) asn w l m).dropLive (unitKey (ringOf f r) asn) := by
  unfold postEntry
  dsimp -zeta only
  extract_lets rk ck q s1 s2 x cp s3 s4
  have hcru : ∃ m, s4 = { s3 with cru := m } := by
    unfold s4
    split
    · exact meterUnit_cru ..
    · exact ⟨s3.cru, rfl⟩
  obtain ⟨m, hm⟩ := hcru
  rw [hm]
  exact ⟨_, _, m, rfl⟩

theorem ringOf_inj {f c d : Nat} : ringOf f c = ringOf f d ↔ c = d := by unfold ringOf; omega

theorem slotFilled_postsWithin {s : State} {f c d : Nat} (e : Bytes)
    (h : unconsumed (s.cq (ringOf f d)) < s.cqSize f d) : PostsWithin f c s (s.slotFilled f d e) := by
  have hreg : ∀ a, (s.slotFilled f d e).reg a = s.reg a := fun a =>
    (request_hepOnly s f (s.slotAt f d) 32 (.dma f (s.slotAt f d) e)).reg a
  by_cases hc : c = d
  · subst hc
    have hcq : (s.slotFilled f c e).cq (ringOf f c) = s.cqPosted (ringOf f c) := cq_setCq_self ..
    refine ⟨hreg _, by rw [hcq]; rfl, fun _ => ?_⟩
    rw [hcq]
    exact unconsumed_post (cqSize_le s f c) h
  · exact .of_cq (hreg _) (cq_setCq_ne _ _ (mt ringOf_inj.1 hc))

/-- R98, R100: an entry that finds room keeps every completion ring within its room. -/
theorem postEntry_postsWithin {s : State} {f r c d : Nat} (i : PostItem) (e : Bytes) (hc : c < 17)
    (h : unconsumed (s.cq (ringOf f d)) < s.cqSize f d) : PostsWithin f c s (s.postEntry f r d i e) := by
  refine (slotFilled_postsWithin e h).trans ?_
  cases i with
  | dup a g =>
    obtain ⟨x, hx⟩ := postEntry_dup s f r d a g e
    rw [hx]
    exact .of_cq rfl rfl
  | unit asn =>
    obtain ⟨w, l, m, hx⟩ := postEntry_unit s f r d asn e
    rw [hx]
    have hlog := dropLive_logOnly ((s.slotFilled f d e).unitOut (ringOf f r) asn w l m) (unitKey (ringOf f r) asn)
    exact .of_cq (hlog.reg _ (cqCfg_ne_jnl f hc (by decide) (by decide)) (cqCfg_ne_jnl f hc (by decide) (by decide)))
      ((CqsKept.of_disp hlog.disp).cq _)

theorem askPages_postsWithin {f c : Nat} (s : State) (g a n : Nat) : PostsWithin f c s (s.askPages g a n).pumpReads :=
  .of_hepOnly ((askPages_hepOnly ..).trans (pumpReads_hepOnly _))

/-- R100: a completion ring that is full says so, in its status register and its record. -/
theorem markFull_postsWithin {f c : Nat} (s : State) (d : Nat) : PostsWithin f c s
    (((s.setCq (ringOf f d) { s.cq (ringOf f d) with full := true }).setFld (RING_CQ_STATUS f d) RING_CQ_STATUS.STATE 2).writeCq f d) := by
  refine .trans ?_ (.of_hepOnly (writeCq_hepOnly ..))
  have hreg := reg_setFld_ne (s.setCq (ringOf f d) { s.cq (ringOf f d) with full := true }) RING_CQ_STATUS.STATE 2
    (cqCfg_ne_cqStatus f c d)
  by_cases hc : c = d
  · subst hc
    have hcq : ((s.setCq (ringOf f c) { s.cq (ringOf f c) with full := true }).setFld (RING_CQ_STATUS f c)
      RING_CQ_STATUS.STATE 2).cq (ringOf f c) = { s.cq (ringOf f c) with full := true } := cq_setCq_self ..
    exact ⟨hreg, by rw [hcq], fun h => by rw [hcq]; exact h⟩
  · exact .of_cq hreg (cq_setCq_ne _ _ (mt ringOf_inj.1 hc))

/-- R100: a ring posts only where its completion ring has room. -/
theorem postRing_postsWithin {f c : Nat} (hc : c < 17) (r n : Nat) (s : State) : PostsWithin f c s (postRing f r n s).2 := by
  induction n generalizing s with
  | zero => exact .rfl
  | succ n ih =>
    unfold postRing
    extract_lets rk x d q
    split
    · exact .rfl
    · next i x' _ =>
      split
      · exact .rfl
      · next e _ =>
        split
        · next hroom =>
          split
          · exact askPages_postsWithin ..
          · have hset : PostsWithin f c s (s.setRing rk x') := .of_cq rfl rfl
            exact (hset.trans (postEntry_postsWithin i e hc hroom)).trans (ih _)
        · split
          · exact .rfl
          · exact markFull_postsWithin ..

/-! ### A batch of entries -/

/-- R100: what the rings that post to completion ring `c` post in one go, and how much. -/
def postBatch (s : State) (f c : Nat) : Nat × State :=
  (s.postersOf f c).foldl
    (fun (p : Nat × State) r =>
      let x := p.2.ring (ringOf f r)
      let (m, s') := postRing f r (x.postOld.length + x.postQ.length) p.2
      (p.1 + m, s')) (0, s)

/-- R100: a full ring with freed space that no entry waits for is full no more. -/
def clearFull (s : State) (f c : Nat) : State :=
  if (s.cq (ringOf f c)).full && !((s.postersOf f c).any (fun r => s.holdsEntry f r)) then
    (s.setCq (ringOf f c) { s.cq (ringOf f c) with full := false }).setFld (RING_CQ_STATUS f c) RING_CQ_STATUS.STATE 1
  else s

theorem postCq_reached {s : State} {f c : Nat} (h : s.reach f (s.cqRecordAt f c) 8 = true) :
    s.postCq f c = if (s.postBatch f c).1 = 0 then (s.postBatch f c).2
      else ((((s.postBatch f c).2.clearFull f c).writeCq f c).signal f c (s.postBatch f c).1).resumeHeld := by
  unfold postCq postBatch
  rw [h, if_neg (by decide)]
  generalize List.foldl _ (0, s) (s.postersOf f c) = p
  obtain ⟨n, u⟩ := p
  cases n with
  | zero => rfl
  | succ n => rfl

end State
end Sys2Proof.Machine
end
section
/-!
R100: a completion ring posts within its room, and a completed unit that is next goes into the free slot.
-/
namespace Sys2Proof

/-- What a table lists after a write is what was written or stood there. -/
theorem Tbl.mem_set {α : Type} [DecidableEq α] {d : α} {t : Tbl α} {k : Nat} {v : α} {e : Nat × α} (h : e ∈ Tbl.set d t k v) :
    e = (k, v) ∨ e ∈ t := by
  unfold Tbl.set at h
  split at h
  · exact .inr (Tbl.mem_del h)
  · exact Tbl.mem_ins h

/-- What a table gives for a key is the default or is listed. -/
theorem Tbl.get_eq_or_mem {α : Type} (d : α) (t : Tbl α) (k : Nat) : Tbl.get d t k = d ∨ (k, Tbl.get d t k) ∈ t := by
  induction t with
  | nil => exact .inl rfl
  | cons e t ih =>
    obtain ⟨j, v⟩ := e
    unfold Tbl.get
    split
    · next h => exact .inr (h ▸ List.mem_cons_self)
    · exact ih.imp_right (List.mem_cons_of_mem _)

/-- An entry taken out is not found, and every other is found as before. -/
theorem Tbl.find?_del {α : Type} (t : Tbl α) (k j : Nat) :
    (Tbl.del t k).find? (fun e => e.1 == j) = if j = k then none else t.find? (fun e => e.1 == j) := by
  induction t with
  | nil => simp [Tbl.del]
  | cons e t ih =>
    obtain ⟨i, v⟩ := e
    unfold Tbl.del
    by_cases hi : i = k
    · rw [if_pos hi, ih]
      by_cases hj : j = k
      · rw [if_pos hj, if_pos hj]
      · rw [if_neg hj, if_neg hj, List.find?_cons_of_neg (by simp only [beq_iff_eq]; omega)]
    · rw [if_neg hi, List.find?_cons, List.find?_cons, ih]
      by_cases hij : i = j
      · simp only [hij, beq_self_eq_true]
        rw [if_neg (by omega)]
      · simp only [beq_false_of_ne hij]

end Sys2Proof

namespace Sys2Proof.Machine
open Sys2Proof

namespace State

theorem postBatch_postsWithin {f c : Nat} (hc : c < 17) (s : State) : PostsWithin f c s (s.postBatch f c).2 :=
  List.foldlRecOn (motive := fun p : Nat × State => PostsWithin f c s p.2) _ _ .rfl
    fun p hp r _ => hp.trans (postRing_postsWithin hc r _ p.2)

/-- R100: the end of being full changes nothing else of the Dispatcher. -/
theorem clearFull_spec (s : State) (f c : Nat) :
    (∃ b, (s.clearFull f c).cq (ringOf f c) = { s.cq (ringOf f c) with full := b }) ∧
      (s.clearFull f c).disp.rings = s.disp.rings ∧ (s.clearFull f c).disp.units = s.disp.units ∧
      (s.clearFull f c).hep = s.hep ∧ (s.clearFull f c).out = s.out := by
  unfold clearFull
  split
  · exact ⟨⟨false, cq_setCq_self ..⟩, rfl, rfl, rfl, rfl⟩
  · exact ⟨⟨_, rfl⟩, rfl, rfl, rfl, rfl⟩

/-- R100: what follows a batch moves neither the posted index nor the head. -/
theorem batchEnd_cq (s : State) (f c n : Nat) : ∃ (b : Bool) (k : Nat) (a : Option Nat),
    (((s.clearFull f c).writeCq f c).signal f c n).resumeHeld.cq (ringOf f c) =
      { s.cq (ringOf f c) with full := b, unsignalled := k, coalAt := a } := by
  obtain ⟨⟨b, hfull⟩, -⟩ := clearFull_spec s f c
  obtain ⟨-, -, ⟨k, a, hsignal⟩, -⟩ := signal_spec ((s.clearFull f c).writeCq f c) f c n
  refine ⟨b, k, a, ((resumeHeld_cqsKept _).cq _).trans ?_⟩
  rw [hsignal, (CqsKept.of_disp (writeCq_hepOnly (s.clearFull f c) f c).disp).cq, hfull]

/-- R100, R93: where no entry waits for a slot and every fetched descriptor is under way, what follows a batch ends FULL, and
drives the record of the completion ring and its message out. -/
theorem batchEnd_spec {s : State} {f c : Nat} (n : Nat) (hnone : ∀ q ∈ s.postersOf f c, s.holdsEntry f q = false)
    (hissued : ∀ x ∈ s.disp.rings, ∀ d ∈ x.2.fetched, d.issued.isSome = true ∨ d.dupOf.isSome = true) :
    let t := (((s.clearFull f c).writeCq f c).signal f c n).resumeHeld
    t.disp.rings = s.disp.rings ∧ t.disp.units = s.disp.units ∧
      (∃ k a, t.cq (ringOf f c) = { s.cq (ringOf f c) with full := false, unsignalled := k, coalAt := a }) ∧
      ∃ rest, t.out = rest ++ s.out := by
  have hclear : (s.clearFull f c).cq (ringOf f c) = { s.cq (ringOf f c) with full := false } := by
    have hany : (s.postersOf f c).any (fun r => s.holdsEntry f r) = false :=
      List.any_eq_false.2 fun q hq => by rw [hnone q hq]; exact Bool.false_ne_true
    unfold clearFull
    rw [hany]
    cases hfull : (s.cq (ringOf f c)).full with
    | true => exact cq_setCq_self ..
    | false =>
      rw [Bool.false_and, if_neg Bool.false_ne_true, ← hfull]
  obtain ⟨-, hrings, hunits, -, hout⟩ := clearFull_spec s f c
  have hdisp := (writeCq_hepOnly (s.clearFull f c) f c).disp
  obtain ⟨hrings', hunits', ⟨k, a, hcq⟩, rest, hout'⟩ := signal_spec ((s.clearFull f c).writeCq f c) f c n
  have hend : (((s.clearFull f c).writeCq f c).signal f c n).resumeHeld = ((s.clearFull f c).writeCq f c).signal f c n :=
    resumeHeld_of_issued (by rw [hrings', hdisp, hrings]; exact hissued)
  obtain ⟨o, hwrite⟩ : ∃ o, ((s.clearFull f c).writeCq f c).out = o :: (s.clearFull f c).out := ⟨_, rfl⟩
  rw [hend]
  refine ⟨by rw [hrings', hdisp, hrings], by rw [hunits', hdisp, hunits], ⟨k, a, ?_⟩, rest ++ [o], ?_⟩
  · rw [hcq, (CqsKept.of_disp hdisp).cq, hclear]
  · rw [hout', hwrite, hout, List.append_assoc]
    rfl

/-- R100: posting leaves at most as many entries not consumed as the ring holds, and does not move its head. -/
theorem postCq_within {s : State} {f c : Nat} (hc : c < 17) :
    ((s.postCq f c).cq (ringOf f c)).head = (s.cq (ringOf f c)).head ∧
      (unconsumed (s.cq (ringOf f c)) ≤ s.cqSize f c → unconsumed ((s.postCq f c).cq (ringOf f c)) ≤ s.cqSize f c) := by
  cases hreach : s.reach f (s.cqRecordAt f c) 8 with
  | false =>
    have hkept : PostsWithin f c s (s.postCq f c) := by
      unfold postCq
      rw [hreach, if_pos (by decide)]
      split
      · exact askPages_postsWithin ..
      · exact .rfl
    exact ⟨hkept.head, hkept.room⟩
  | true =>
    obtain ⟨-, hhead, hroom⟩ := postBatch_postsWithin (f := f) hc s
    rw [postCq_reached hreach]
    split
    · exact ⟨hhead, hroom⟩
    · obtain ⟨b, k, a, hcq⟩ := batchEnd_cq (s.postBatch f c).2 f c (s.postBatch f c).1
      rw [hcq]
      exact ⟨hhead, hroom⟩

/-- R59, R65: a function that is not active posts nothing. -/
theorem postCq_inactive {s : State} {f : Nat} (c : Nat) (h : s.fnActive f = false) : s.postCq f c = s := by
  have hnone : s.postersOf f c = [] :=
    List.filter_eq_nil_iff.2 fun r _ => by simp [mayPost, h]
  unfold postCq
  rw [hnone]
  split
  · rfl
  · rfl

/-! ### One completed unit -/

section
variable {s : State} {f r c asn : Nat} {u : WorkUnit}

/-- The entry of a completed unit (R98). -/
def unitEntry (r asn : Nat) (u : WorkUnit) : Bytes :=
  complEntry asn u.tag ⟨u.status, u.result, u.finish.getD 0, u.restarts⟩ r false

/-- The ring without what it posts next. -/
def unqueued (s : State) (rk : Nat) : State := s.setRing rk { s.ring rk with postQ := [] }

/-- R100: one entry, and nothing behind it. -/
theorem postRing_one (hcq : s.cqOf f r = c) (hold : (s.ring (ringOf f r)).postOld = [])
    (hq : (s.ring (ringOf f r)).postQ = [.unit asn]) (hu : s.unit? (unitKey (ringOf f r) asn) = some u)
    (hdone : u.phase = .completed) (hroom : unconsumed (s.cq (ringOf f c)) < s.cqSize f c)
    (hslot : s.reach f (s.slotAt f c) 32 = true) :
    postRing f r 1 s = (1, (s.unqueued (ringOf f r)).postEntry f r c (.unit asn) (unitEntry r asn u)) := by
  have hentry : s.itemEntry f r (.unit asn) = some (unitEntry r asn u) := by
    simp only [itemEntry, hu, hdone, if_true, unitEntry]
  have htry : (tryItems (s.ring (ringOf f r))).find? (fun p => (s.itemEntry f r p.1).isSome) =
      some (.unit asn, { s.ring (ringOf f r) with postQ := [] }) := by
    simp only [tryItems, hold, hq, List.nil_append, List.find?_cons, hentry, Option.isSome_some]
  unfold postRing
  dsimp only
  rw [htry]
  dsimp only
  rw [hentry, hcq]
  dsimp only
  unfold unconsumed at hroom
  rw [if_pos hroom, hslot, if_neg (by decide)]
  rfl

/-- The state after that entry. -/
def posted (s : State) (f r c asn : Nat) (u : WorkUnit) : State :=
  (s.unqueued (ringOf f r)).postEntry f r c (.unit asn) (unitEntry r asn u)

/-- R54: what a request drives out does not depend on the rings. -/
theorem unqueued_request_out (s : State) (rk f a n : Nat) (o : Output) :
    ((s.unqueued rk).request f a n o).out = (s.request f a n o).out := rfl

theorem slotFilled_out (s : State) (f c : Nat) (e : Bytes) :
    (s.slotFilled f c e).out = (s.request f (s.slotAt f c) 32 (.dma f (s.slotAt f c) e)).out := rfl

theorem unitOut_out (s : State) (rk asn : Nat) (w l : List WinEntry) (m : CruState) : (s.unitOut rk asn w l m).out = s.out := rfl

theorem dropLive_out (s : State) (k : Nat) : (s.dropLive k).out = s.out := rfl

/-- What that entry drives out: its DMA write. -/
theorem posted_out (s : State) (f r c asn : Nat) (u : WorkUnit) :
    (s.posted f r c asn u).out = (s.request f (s.slotAt f c) 32 (.dma f (s.slotAt f c) (unitEntry r asn u))).out := by
  obtain ⟨w, l, m, h⟩ := postEntry_unit (s.unqueued (ringOf f r)) f r c asn (unitEntry r asn u)
  rw [posted, h, dropLive_out, unitOut_out, slotFilled_out]
  exact unqueued_request_out ..

/-- `t` has the endpoint of `s`, the module's phase and every register outside the journal. -/
structure SetupKept (s t : State) : Prop where
  hep : t.hep = s.hep
  phase : t.phase = s.phase
  flt : t.flt = s.flt
  reg : ∀ a, a ≠ JNL_HEAD → a ≠ JNL_TAIL → t.reg a = s.reg a

theorem SetupKept.trans {s t u : State} (h : SetupKept s t) (h' : SetupKept t u) : SetupKept s u :=
  ⟨h'.hep.trans h.hep, h'.phase.trans h.phase, h'.flt.trans h.flt, fun a h1 h2 => (h'.reg a h1 h2).trans (h.reg a h1 h2)⟩

theorem unqueued_setupKept (s : State) (rk : Nat) : SetupKept s (s.unqueued rk) := ⟨rfl, rfl, rfl, fun _ _ _ => rfl⟩

theorem slotFilled_setupKept (s : State) (f c : Nat) (e : Bytes) : SetupKept s (s.slotFilled f c e) :=
  ⟨rfl, rfl, rfl, fun _ _ _ => rfl⟩

theorem unitOut_setupKept (s : State) (rk asn : Nat) (w l : List WinEntry) (m : CruState) :
    SetupKept s (s.unitOut rk asn w l m) := ⟨rfl, rfl, rfl, fun _ _ _ => rfl⟩

theorem dropLive_setupKept (s : State) (k : Nat) : SetupKept s (s.dropLive k) := ⟨rfl, rfl, rfl, (dropLive_logOnly s k).reg⟩

/-- What that entry leaves. -/
theorem posted_setupKept (s : State) (f r c asn : Nat) (u : WorkUnit) : SetupKept s (s.posted f r c asn u) := by
  obtain ⟨w, l, m, h⟩ := postEntry_unit (s.unqueued (ringOf f r)) f r c asn (unitEntry r asn u)
  rw [posted, h]
  exact (((unqueued_setupKept ..).trans (slotFilled_setupKept ..)).trans (unitOut_setupKept ..)).trans (dropLive_setupKept ..)

theorem slotFilled_disp (s : State) (f c : Nat) (e : Bytes) :
    (s.slotFilled f c e).disp = { s.disp with cqs := s.disp.cqs.set {} (ringOf f c) (s.cqPosted (ringOf f c)) } := rfl

theorem unitOut_disp (s : State) (rk asn : Nat) (w l : List WinEntry) (m : CruState) : (s.unitOut rk asn w l m).disp =
    { s.disp with
      rings := s.disp.rings.set {} rk { s.ring rk with posted := some asn, window := w, leftWindow := l }
      units := Tbl.del s.disp.units (unitKey rk asn) } := rfl

/-- What that entry makes of its completion ring, its ring and the units. -/
theorem posted_disp (s : State) (f r c asn : Nat) (u : WorkUnit) :
    (s.posted f r c asn u).cq (ringOf f c) = s.cqPosted (ringOf f c) ∧
    (∃ w l, (s.posted f r c asn u).disp.rings =
      (s.disp.rings.set {} (ringOf f r) { s.ring (ringOf f r) with postQ := [] }).set {} (ringOf f r)
        { s.ring (ringOf f r) with postQ := [], posted := some asn, window := w, leftWindow := l }) ∧
    (s.posted f r c asn u).disp.units = Tbl.del s.disp.units (unitKey (ringOf f r) asn) := by
  obtain ⟨w, l, m, h⟩ := postEntry_unit (s.unqueued (ringOf f r)) f r c asn (unitEntry r asn u)
  have hdisp : (s.posted f r c asn u).disp =
      (((s.unqueued (ringOf f r)).slotFilled f c (unitEntry r asn u)).unitOut (ringOf f r) asn w l m).disp := by
    rw [posted, h]
    exact (dropLive_logOnly ..).disp
  have hring : ((s.unqueued (ringOf f r)).slotFilled f c (unitEntry r asn u)).ring (ringOf f r) =
    { s.ring (ringOf f r) with postQ := [] } := ring_setRing_self ..
  rw [unitOut_disp, hring, slotFilled_disp] at hdisp
  rw [cq, hdisp]
  exact ⟨Tbl.get_set_self .., ⟨w, l, rfl⟩, rfl⟩

/-- R59: whether a function is active follows the endpoint and the registers outside the journal. -/
theorem SetupKept.fnActive {s t : State} (h : SetupKept s t) (f : Nat) : t.fnActive f = s.fnActive f := by
  have hfreeze := bit_of_reg (h.reg HEP_FREEZE (by decide) (by decide)) HEP_FREEZE.FROZEN
  by_cases hf : f < 1025
  · have hstate := fld_of_reg (h.reg (HEP_FN_STATE f) (by unfold HEP_FN_STATE JNL_HEAD; omega) (by unfold HEP_FN_STATE JNL_TAIL; omega))
    simp only [State.fnActive, mayRequest, maySend, inDrain, isReady, fn, h.hep, h.phase, h.flt, hfreeze, hstate]
  · simp only [State.fnActive, mayRequest, decide_eq_false hf, Bool.false_and, Bool.and_false]

theorem sqCfg_ne_jnl (f : Nat) {r a : Nat} (hr : r < 17) (ha : 0x200000 ≤ a) (ha' : a < 0x300000) : RING_SQ_CFG f r ≠ a := by
  unfold RING_SQ_CFG
  rw [Nat.add_assoc]
  exact ringPage_ne_jnl f (by omega) ha ha'

theorem SetupKept.sqReg {s t : State} (h : SetupKept s t) (f : Nat) {r : Nat} (hr : r < 17) :
    t.reg (RING_SQ_CFG f r) = s.reg (RING_SQ_CFG f r) :=
  h.reg _ (sqCfg_ne_jnl f hr (by decide) (by decide)) (sqCfg_ne_jnl f hr (by decide) (by decide))

theorem SetupKept.cqOf {s t : State} (h : SetupKept s t) (f : Nat) {r : Nat} (hr : r < 17) : t.cqOf f r = s.cqOf f r := by
  rw [State.cqOf, fld_of_reg (h.sqReg f hr), State.cqOf]

theorem cqOf_lt (s : State) (f r : Nat) : s.cqOf f r < 17 := by
  have h := getFld_lt (s.reg (RING_SQ_CFG f r)) RING_SQ_CFG.CQ
  unfold cqOf
  split
  · decide
  · exact h.trans (by decide)

/-- R100: a ring whose flags are kept may post as before. -/
theorem SetupKept.mayPost {s t : State} (h : SetupKept s t) (f : Nat) {r : Nat} (hr : r < 17)
    (hring : (t.ring (ringOf f r)).fenced = (s.ring (ringOf f r)).fenced ∧
      (t.ring (ringOf f r)).adoptedAway = (s.ring (ringOf f r)).adoptedAway ∧
      (t.ring (ringOf f r)).broken = (s.ring (ringOf f r)).broken) : t.mayPost f r = s.mayPost f r := by
  have hc := cqOf_lt s f r
  have hsq : t.sqEnabled f r = s.sqEnabled f r := bit_of_reg (h.sqReg f hr) _
  have hcq : t.cqEnabled f (s.cqOf f r) = s.cqEnabled f (s.cqOf f r) :=
    bit_of_reg (h.reg _ (cqCfg_ne_jnl f hc (by decide) (by decide)) (cqCfg_ne_jnl f hc (by decide) (by decide))) _
  obtain ⟨hfenced, haway, hbroken⟩ := hring
  simp only [State.mayPost, h.fnActive, h.cqOf f hr, hsq, hcq, hfenced, haway, hbroken]

theorem unit?_of_del {t : State} {k : Nat} (h : t.disp.units = Tbl.del s.disp.units k) :
    t.unit? k = none ∧ ∀ x, x ≠ k → t.unit? x = s.unit? x := by
  refine ⟨?_, fun x hx => ?_⟩
  · simp only [unit?, h, Tbl.find?_del, if_true, Option.map_none]
  · simp only [unit?, h, Tbl.find?_del, if_neg hx]

/-- The ring that posted, and every other ring. -/
theorem posted_ring (s : State) (f r c asn : Nat) (u : WorkUnit) :
    (∃ w l, (s.posted f r c asn u).ring (ringOf f r) =
      { s.ring (ringOf f r) with postQ := [], posted := some asn, window := w, leftWindow := l }) ∧
    ∀ k, k ≠ ringOf f r → (s.posted f r c asn u).ring k = s.ring k := by
  obtain ⟨-, ⟨w, l, hrings⟩, -⟩ := posted_disp s f r c asn u
  refine ⟨⟨w, l, ?_⟩, fun k hk => ?_⟩
  · rw [ring, hrings, Tbl.get_set_self]
  · rw [ring, hrings, Tbl.get_set_ne _ _ _ hk, Tbl.get_set_ne _ _ _ hk, ring]

/-- The fetched descriptors stay as they are. -/
theorem posted_fetched {P : Fetched → Prop} (h : ∀ x ∈ s.disp.rings, ∀ d ∈ x.2.fetched, P d) :
    ∀ x ∈ (s.posted f r c asn u).disp.rings, ∀ d ∈ x.2.fetched, P d := by
  obtain ⟨-, ⟨w, l, hrings⟩, -⟩ := posted_disp s f r c asn u
  have hring : ∀ d ∈ (s.ring (ringOf f r)).fetched, P d := by
    rcases Tbl.get_eq_or_mem {} s.disp.rings (ringOf f r) with hx | hx
    · intro d hd
      rw [ring, hx] at hd
      cases hd
    · exact h _ hx
  rw [hrings]
  intro x hx
  rcases Tbl.mem_set hx with rfl | hx
  · exact hring
  · rcases Tbl.mem_set hx with rfl | hx
    · exact hring
    · exact h x hx

section
variable (hposters : s.postersOf f c = [r])
include hposters

theorem poster_spec : r < 17 ∧ s.mayPost f r = true ∧ s.cqOf f r = c := by
  have hr : r ∈ s.postersOf f c := hposters ▸ List.mem_singleton_self r
  obtain ⟨hrange, hpost⟩ := List.mem_filter.1 hr
  rw [Bool.and_eq_true, beq_iff_eq] at hpost
  exact ⟨List.mem_range.1 hrange, hpost⟩

variable (hold : (s.ring (ringOf f r)).postOld = [])
include hold

/-- No ring holds an entry for the slot any more: the one that posts has posted all it had. -/
theorem posted_holdsNone : ∀ q ∈ (s.posted f r c asn u).postersOf f c, (s.posted f r c asn u).holdsEntry f q = false := by
  obtain ⟨⟨w, l, hring⟩, hother⟩ := posted_ring s f r c asn u
  have hkept := posted_setupKept s f r c asn u
  intro q hq
  obtain ⟨hrange, hpost⟩ := List.mem_filter.1 hq
  rw [Bool.and_eq_true, beq_iff_eq] at hpost
  have hq17 := List.mem_range.1 hrange
  have hqr : q = r := by
    by_contra hne
    have hsame := hother _ (mt ringOf_inj.1 hne)
    have hmay := hkept.mayPost f hq17 (by rw [hsame]; exact ⟨rfl, rfl, rfl⟩)
    have hmem : q ∈ s.postersOf f c := List.mem_filter.2 ⟨hrange, by
      rw [Bool.and_eq_true, beq_iff_eq]
      exact ⟨hmay ▸ hpost.1, hkept.cqOf f hq17 ▸ hpost.2⟩⟩
    rw [hposters] at hmem
    exact hne (List.mem_singleton.1 hmem)
  subst hqr
  rw [holdsEntry, hring]
  simp only [tryItems, hold, List.nil_append, List.any_nil]

variable (hq : (s.ring (ringOf f r)).postQ = [.unit asn]) (hu : s.unit? (unitKey (ringOf f r) asn) = some u)
  (hdone : u.phase = .completed) (hroom : unconsumed (s.cq (ringOf f c)) < s.cqSize f c)
  (hslot : s.reach f (s.slotAt f c) 32 = true)
include hq hu hdone hroom hslot

theorem postBatch_one : s.postBatch f c = (1, s.posted f r c asn u) := by
  obtain ⟨-, -, hcq⟩ := poster_spec hposters
  have hlength : (s.ring (ringOf f r)).postOld.length + (s.ring (ringOf f r)).postQ.length = 1 := by rw [hold, hq]; rfl
  rw [postBatch, hposters]
  dsimp only [List.foldl_cons, List.foldl_nil]
  rw [hlength, postRing_one hcq hold hq hu hdone hroom hslot]
  rfl

/-- R98, R100: the unit's entry goes into the free slot as one DMA write, the posted index advances, and the unit is gone. -/
theorem postCq_one (hrec : s.reach f (s.cqRecordAt f c) 8 = true)
    (hissued : ∀ x ∈ s.disp.rings, ∀ d ∈ x.2.fetched, d.issued.isSome = true ∨ d.dupOf.isSome = true) :
    let t := s.postCq f c
    (∃ rest, t.out = rest ++ (s.request f (s.slotAt f c) 32 (.dma f (s.slotAt f c) (unitEntry r asn u))).out) ∧
      (t.cq (ringOf f c)).posted = ((s.cq (ringOf f c)).posted + 1) % 2 ^ 32 ∧
      (t.cq (ringOf f c)).head = (s.cq (ringOf f c)).head ∧ (t.cq (ringOf f c)).full = false ∧
      (t.ring (ringOf f r)).posted = some asn ∧ (t.ring (ringOf f r)).postQ = [] ∧
      t.unit? (unitKey (ringOf f r) asn) = none ∧ ∀ x, x ≠ unitKey (ringOf f r) asn → t.unit? x = s.unit? x := by
  intro t
  obtain ⟨⟨w, l, hring⟩, -⟩ := posted_ring s f r c asn u
  obtain ⟨hcq, -, hunits⟩ := posted_disp s f r c asn u
  obtain ⟨hrings', hunits', ⟨k, a, hcq'⟩, hout⟩ := batchEnd_spec 1 (posted_holdsNone (u := u) (asn := asn) hposters hold)
    (posted_fetched hissued)
  have ht : t = ((((s.posted f r c asn u).clearFull f c).writeCq f c).signal f c 1).resumeHeld := by
    unfold t
    rw [postCq_reached hrec, postBatch_one hposters hold hq hu hdone hroom hslot]
    rfl
  have hring' : t.ring (ringOf f r) = (s.posted f r c asn u).ring (ringOf f r) := by rw [ring, ht, hrings', ring]
  rw [posted_out] at hout
  rw [hring', hring, ht, hcq', hcq]
  exact ⟨hout, rfl, rfl, rfl, rfl, rfl, unit?_of_del (hunits'.trans hunits)⟩

end

end

end State
end Sys2Proof.Machine
end
section
/-!
SUPPORT. Setup of rings (R103): what enabling, draining and disabling a submission ring, and a write to the setup of a completion
ring, leave and change; and the end of a drain (R105, R106).
-/
namespace Sys2Proof.Machine
open Sys2Proof

namespace State

/-! ### The shown state of a ring -/

theorem ringOf_div (f : Nat) {r : Nat} (hr : r < 17) : ringOf f r / 17 = f := by unfold ringOf; omega
theorem ringOf_mod (f : Nat) {r : Nat} (hr : r < 17) : ringOf f r % 17 = r := by unfold ringOf; omega

/-- R86: showing a ring changes no register but its own status register. -/
theorem showRing_reg (s : State) (f : Nat) {r a : Nat} (hr : r < 17) (h : a ≠ RING_SQ_STATUS f r) :
    (s.showRing (ringOf f r)).reg a = s.reg a := by
  unfold showRing
  rw [ringOf_div f hr, ringOf_mod f hr]
  dsimp only
  split
  · exact ((writeSq_hepOnly ..).reg a).trans (reg_setFld_ne _ _ _ h)
  · rfl

/-- R86: nor the error shown there. -/
theorem showRing_err (s : State) (f : Nat) {r : Nat} (hr : r < 17) :
    (s.showRing (ringOf f r)).fld (RING_SQ_STATUS f r) RING_SQ_STATUS.ERR = s.fld (RING_SQ_STATUS f r) RING_SQ_STATUS.ERR := by
  unfold showRing
  rw [ringOf_div f hr, ringOf_mod f hr]
  dsimp only
  split
  · exact (fld_of_reg ((writeSq_hepOnly ..).reg _) _).trans (fld_setFld_apart _ _ _ _ _ (by decide) (by decide))
  · rfl

theorem regs_foldl {α : Type} {f : State → α → State} (hf : ∀ s x, (f s x).regs = s.regs) (l : List α) (s : State) :
    (l.foldl f s).regs = s.regs :=
  List.foldlRecOn (motive := fun t : State => t.regs = s.regs) l f rfl fun t ht x _ => (hf t x).trans ht

theorem meterMem_regs (s : State) : s.meterMem.regs = s.regs := by
  unfold meterMem
  dsimp only
  split
  · rfl
  · refine (regs_foldl ?_ _ _).trans (regs_foldl ?_ _ _)
    all_goals exact fun _ _ => rfl

/-! ### Enabling a submission ring -/

/-- R103: the fields of a write that enables. -/
def sqWritten (s : State) (f r : Nat) (v : W64) : State :=
  [RING_SQ_CFG.PARTITION, RING_SQ_CFG.CQ, RING_SQ_CFG.SIZE].foldl (fun s g => s.setFld (RING_SQ_CFG f r) g (getFld v g)) s

theorem sqWritten_reg (s : State) {f r a : Nat} (v : W64) (h : a ≠ RING_SQ_CFG f r) : (s.sqWritten f r v).reg a = s.reg a :=
  ((reg_setFld_ne _ _ _ h).trans (reg_setFld_ne _ _ _ h)).trans (reg_setFld_ne _ _ _ h)

theorem sqWritten_disp (s : State) (f r : Nat) (v : W64) : (s.sqWritten f r v).disp = s.disp :=
  ((setFld_disp ..).trans (setFld_disp ..)).trans (setFld_disp ..)

theorem sqWritten_fields (s : State) (f r : Nat) (v : W64) :
    (s.sqWritten f r v).fld (RING_SQ_CFG f r) RING_SQ_CFG.SIZE = getFld v RING_SQ_CFG.SIZE ∧
      (s.sqWritten f r v).fld (RING_SQ_CFG f r) RING_SQ_CFG.PARTITION = getFld v RING_SQ_CFG.PARTITION ∧
      (s.sqWritten f r v).sqEnabled f r = s.sqEnabled f r := by
  have hlt := getFld_lt v
  refine ⟨?_, ?_, ?_⟩
  · exact (fld_setFld_self _ _ _ _ (by decide)).trans (Nat.mod_eq_of_lt (hlt _))
  · exact (fld_setFld_apart _ _ _ _ _ (by decide) (by decide)).trans ((fld_setFld_apart _ _ _ _ _ (by decide) (by decide)).trans
      ((fld_setFld_self _ _ _ _ (by decide)).trans (Nat.mod_eq_of_lt (hlt _))))
  · exact (bit_setFld_apart _ _ _ _ _ (by decide) (by decide)).trans ((bit_setFld_apart _ _ _ _ _ (by decide) (by decide)).trans
      (bit_setFld_apart _ _ _ _ _ (by decide) (by decide)))

theorem sqErr_le (s : State) (f r : Nat) : s.sqErr f r ≤ 8 := by
  have step : ∀ {c : Prop} [Decidable c] {a b : Nat}, a ≤ 8 → b ≤ 8 → (if c then a else b) ≤ 8 := fun ha hb => by
    split
    · exact ha
    · exact hb
  exact step (by decide) (step (by decide) (step (by decide) (step (by decide) (step (by decide) (step (by decide)
    (step (by decide) (step (by decide) (by decide))))))))

/-- R103: a size out of range comes first. -/
theorem sqErr_size {s : State} {f r : Nat}
    (h : s.fld (RING_SQ_CFG f r) RING_SQ_CFG.SIZE < 6 ∨ 16 < s.fld (RING_SQ_CFG f r) RING_SQ_CFG.SIZE) : s.sqErr f r = 1 :=
  if_pos h

/-- R103: then a partition that another function owns. -/
theorem sqErr_part {s : State} {f r : Nat}
    (h6 : 6 ≤ s.fld (RING_SQ_CFG f r) RING_SQ_CFG.SIZE) (h16 : s.fld (RING_SQ_CFG f r) RING_SQ_CFG.SIZE ≤ 16) (hr : r ≠ 16)
    (h : s.partFunc (s.fld (RING_SQ_CFG f r) RING_SQ_CFG.PARTITION) ≠ f) : s.sqErr f r = 2 :=
  (if_neg (by unfold fld at h6 h16; omega)).trans (if_pos ⟨hr, h⟩)

theorem sqEnable_enabled {s : State} {f r : Nat} (v : W64) (h : s.sqEnabled f r = true) : s.sqEnable f r v = s := by
  rw [sqEnable, if_pos h]

section
variable {s : State} {f r : Nat} (v : W64) (h : s.sqEnabled f r = false)
include h

/-- R103: a condition that fails is recorded, and nothing else. -/
theorem sqEnable_refused (he : (s.sqWritten f r v).sqErr f r ≠ 0) : s.sqEnable f r v =
    (s.sqWritten f r v).setFld (RING_SQ_STATUS f r) RING_SQ_STATUS.ERR ((s.sqWritten f r v).sqErr f r) := by
  rw [sqEnable, h, if_neg Bool.false_ne_true]
  exact if_pos he

/-- R101, R103: an enabled ring starts its counts at 0 and keeps its series. -/
theorem sqEnable_taken (he : (s.sqWritten f r v).sqErr f r = 0) : ∃ x : Ring,
    HepOnly ((((((s.sqWritten f r v).setFld (RING_SQ_STATUS f r) RING_SQ_STATUS.ERR ((s.sqWritten f r v).sqErr f r)).setBit
      (RING_SQ_CFG f r) RING_SQ_CFG.EN).meterMem).setRing (ringOf f r) x).showRing (ringOf f r)) (s.sqEnable f r v) ∧
      x.accepted = 0 ∧ x.tail = 0 ∧ x.exists_ = true ∧ x.nextAsn = (s.ring (ringOf f r)).nextAsn := by
  unfold sqEnable
  rw [h, if_neg Bool.false_ne_true]
  extract_lets w e w' rk x s1 s2 s3
  have he : ¬ e ≠ 0 := not_not.2 he
  rw [if_neg he]
  exact ⟨_, (writeSqOrphan_hepOnly ..).trans ((restartPoll_hepOnly ..).trans (readDoorbell_hepOnly ..)), rfl, rfl, rfl, rfl⟩

/-- R103: what a write that enables leaves in the ring's registers. -/
theorem sqEnable_regs (hr : r < 17) :
    let e := (s.sqWritten f r v).sqErr f r
    (s.sqEnable f r v).fld (RING_SQ_STATUS f r) RING_SQ_STATUS.ERR = e ∧
      (s.sqEnable f r v).fld (RING_SQ_CFG f r) RING_SQ_CFG.SIZE = getFld v RING_SQ_CFG.SIZE ∧
      (s.sqEnable f r v).fld (RING_SQ_CFG f r) RING_SQ_CFG.PARTITION = getFld v RING_SQ_CFG.PARTITION ∧
      ((s.sqEnable f r v).sqEnabled f r = true ↔ e = 0) := by
  intro e
  obtain ⟨hsize, hpart, hen⟩ := sqWritten_fields s f r v
  have hstatus := (sqCfg_ne_sqStatus f r r).symm
  have hlt : e < 256 := lt_of_le_of_lt (sqErr_le ..) (by decide)
  have herr : ((s.sqWritten f r v).setFld (RING_SQ_STATUS f r) RING_SQ_STATUS.ERR e).fld (RING_SQ_STATUS f r)
      RING_SQ_STATUS.ERR = e := (fld_setFld_self _ _ _ _ (by decide)).trans (Nat.mod_eq_of_lt hlt)
  have hcfg := reg_setFld_ne (s.sqWritten f r v) RING_SQ_STATUS.ERR e (sqCfg_ne_sqStatus f r r)
  by_cases he : e = 0
  · obtain ⟨x, hhep, -⟩ := sqEnable_taken v h he
    rw [show (s.sqWritten f r v).sqErr f r = e from rfl] at hhep
    generalize (s.sqWritten f r v).setFld (RING_SQ_STATUS f r) RING_SQ_STATUS.ERR e = w at hhep herr hcfg
    have hreg : ∀ a, a ≠ RING_SQ_STATUS f r → (s.sqEnable f r v).reg a = (w.setBit (RING_SQ_CFG f r) RING_SQ_CFG.EN).reg a :=
      fun a ha => ((hhep.reg a).trans (showRing_reg _ f hr ha)).trans (reg_of_regs (meterMem_regs _) a)
    have hcfg' := hreg _ (sqCfg_ne_sqStatus f r r)
    refine ⟨?_, ?_, ?_, ?_⟩
    · rw [fld_of_reg (hhep.reg _), showRing_err _ f hr, ← herr]
      exact (fld_of_regs (meterMem_regs _) _ _).trans (fld_setFld_ne _ _ _ _ hstatus)
    · rw [fld_of_reg hcfg', ← hsize, ← fld_of_reg hcfg]
      exact fld_setFld_apart _ _ _ _ _ (by decide) (by decide)
    · rw [fld_of_reg hcfg', ← hpart, ← fld_of_reg hcfg]
      exact fld_setFld_apart _ _ _ _ _ (by decide) (by decide)
    · rw [sqEnabled, bit_of_reg hcfg']
      exact iff_of_true (bit_setBit_self _ _ _ _ (by decide)) he
  · rw [sqEnable_refused v h he]
    refine ⟨herr, (fld_of_reg hcfg _).trans hsize, (fld_of_reg hcfg _).trans hpart, iff_of_false ?_ he⟩
    rw [sqEnabled, bit_of_reg hcfg, ← sqEnabled, hen, h]
    exact Bool.false_ne_true

/-- R103: an enabled ring, and a refused one. -/
theorem sqEnable_disp :
    ((s.sqWritten f r v).sqErr f r = 0 → ((s.sqEnable f r v).ring (ringOf f r)).accepted = 0 ∧
      ((s.sqEnable f r v).ring (ringOf f r)).tail = 0 ∧ ((s.sqEnable f r v).ring (ringOf f r)).exists_ = true ∧
      ((s.sqEnable f r v).ring (ringOf f r)).nextAsn = (s.ring (ringOf f r)).nextAsn) ∧
    ((s.sqWritten f r v).sqErr f r ≠ 0 → (s.sqEnable f r v).disp = s.disp) := by
  refine ⟨fun he => ?_, fun he => ?_⟩
  · obtain ⟨x, hhep, hx⟩ := sqEnable_taken v h he
    rw [ring_of_disp hhep.disp, showRing_ring, ring_setRing_self]
    exact hx
  · rw [sqEnable_refused v h he]
    exact (setFld_disp ..).trans (sqWritten_disp ..)

omit h in
/-- R103: the errors of a size out of range and of a partition that another function owns. -/
theorem sqWritten_err :
    (getFld v RING_SQ_CFG.SIZE < 6 ∨ 16 < getFld v RING_SQ_CFG.SIZE → (s.sqWritten f r v).sqErr f r = 1) ∧
    (6 ≤ getFld v RING_SQ_CFG.SIZE → getFld v RING_SQ_CFG.SIZE ≤ 16 → r ≠ 16 →
      s.partFunc (getFld v RING_SQ_CFG.PARTITION) ≠ f → (s.sqWritten f r v).sqErr f r = 2) := by
  obtain ⟨hsize, hpart, -⟩ := sqWritten_fields s f r v
  refine ⟨fun hout => sqErr_size (hsize ▸ hout), fun h6 h16 hr hf => sqErr_part (hsize ▸ h6) (hsize ▸ h16) hr ?_⟩
  have hne : UOW_PART_CFG (getFld v RING_SQ_CFG.PARTITION) ≠ RING_SQ_CFG f r := by
    have hlt := getFld_lt v RING_SQ_CFG.PARTITION
    unfold RING_SQ_CFG.PARTITION at hlt ⊢
    unfold UOW_PART_CFG RING_SQ_CFG ringPage
    split <;> omega
  rw [hpart, partFunc, fld_of_reg (sqWritten_reg s v hne)]
  exact hf

end

end State
end Sys2Proof.Machine
end
section
/-!
SUPPORT. Draining a submission ring (R105, R106), and a write to the setup of a completion ring (R102, R103).
-/
namespace Sys2Proof.Machine
open Sys2Proof

namespace State

/-! ### What requests leave of the functions -/

theorem request_fns (s : State) (f a n : Nat) (o : Output) : (s.request f a n o).hep.fns = s.hep.fns := rfl
theorem askPages_fns (s : State) (f a n : Nat) : (s.askPages f a n).hep.fns = s.hep.fns := rfl

theorem sendRead_fns (s : State) (q : ReadReq) : (s.sendRead q).hep.fns = s.hep.fns := by
  unfold sendRead
  dsimp only
  split <;> rfl

theorem fns_foldl {α : Type} {f : State → α → State} (hf : ∀ s x, (f s x).hep.fns = s.hep.fns) (l : List α) (s : State) :
    (l.foldl f s).hep.fns = s.hep.fns :=
  List.foldlRecOn (motive := fun t : State => t.hep.fns = s.hep.fns) l f rfl fun t ht x _ => (hf t x).trans ht

theorem pumpReads_fns (s : State) : s.pumpReads.hep.fns = s.hep.fns := by
  unfold pumpReads
  dsimp only
  refine (fns_foldl (fun s q => ?_) _ _).trans (fns_foldl (fun s q => ?_) _ _)
  · split
    · exact sendRead_fns ..
    · rfl
  · split
    · rfl
    · exact askPages_fns ..

theorem writeSq_fns (s : State) (f r : Nat) : (s.writeSq f r).hep.fns = s.hep.fns := by
  unfold writeSq
  split
  · unfold putSq
    dsimp only
    split
    · exact request_fns ..
    · exact pumpReads_fns _
  · rfl

theorem showRing_fns (s : State) (rk : Nat) : (s.showRing rk).hep.fns = s.hep.fns := by
  unfold showRing
  dsimp only
  split
  · exact writeSq_fns ..
  · rfl

/-! ### The start of a drain -/

theorem startDrain_sqEnabled (s : State) (f : Nat) {r : Nat} (hr : r < 17) (unit : Option Nat) :
    (s.startDrain f r unit).sqEnabled f r = s.sqEnabled f r := by
  refine bit_of_reg ?_ _
  unfold startDrain
  exact (showRing_reg _ f hr (sqCfg_ne_sqStatus f r r)).trans (reg_of_regs rfl _)

/-- R105: a drain keeps the descriptors whose records are issued. -/
theorem startDrain_fetched (s : State) (f r : Nat) (unit : Option Nat) :
    ∀ d ∈ ((s.startDrain f r unit).ring (ringOf f r)).fetched, d.issued.isSome = true ∨ d.dupOf.isSome = true := by
  intro d hd
  unfold startDrain at hd
  dsimp only at hd
  rw [showRing_ring, ring_setRing_self, squash] at hd
  dsimp only at hd
  rw [ring_setRing_self] at hd
  exact (Bool.or_eq_true _ _).mp (List.mem_takeWhile_imp (p := fun d : Fetched => d.issued.isSome || d.dupOf.isSome) hd)

/-! ### The setup of a completion ring -/

/-- From `s` to `t` the two registers of completion ring `c` changed, but not the fields `gs` of its configuration, and nothing
of the Dispatcher. -/
structure CqTouched (gs : List Fld) (f c : Nat) (s t : State) : Prop where
  disp : t.disp = s.disp
  cfg : ∀ g ∈ gs, t.fld (RING_CQ_CFG f c) g = s.fld (RING_CQ_CFG f c) g
  other : ∀ a, a ≠ RING_CQ_CFG f c → a ≠ RING_CQ_STATUS f c → t.reg a = s.reg a

namespace CqTouched

variable {gs : List Fld} {f c : Nat} {s t u : State}

theorem trans (h : CqTouched gs f c s t) (h' : CqTouched gs f c t u) : CqTouched gs f c s u where
  disp := h'.disp.trans h.disp
  cfg g hg := (h'.cfg g hg).trans (h.cfg g hg)
  other a hc hs := (h'.other a hc hs).trans (h.other a hc hs)

theorem setCfg (s : State) {g : Fld} (n : Nat) (hlen : g.lo + g.len ≤ 64)
    (h : ∀ x ∈ gs, x.lo + x.len ≤ g.lo ∨ g.lo + g.len ≤ x.lo) : CqTouched gs f c s (s.setFld (RING_CQ_CFG f c) g n) where
  disp := setFld_disp ..
  cfg x hx := fld_setFld_apart _ _ _ _ _ hlen (h x hx)
  other _ hc _ := reg_setFld_ne _ _ _ hc

theorem setStatus (s : State) (g : Fld) (n : Nat) : CqTouched gs f c s (s.setFld (RING_CQ_STATUS f c) g n) where
  disp := setFld_disp ..
  cfg _ _ := fld_setFld_ne _ _ _ _ (cqCfg_ne_cqStatus f c c)
  other _ _ hs := reg_setFld_ne _ _ _ hs

variable (h : CqTouched gs f c s t)
include h

theorem cqEnabled (hen : RING_CQ_CFG.EN ∈ gs) : t.cqEnabled f c = s.cqEnabled f c := by
  simp only [State.cqEnabled, bit, h.cfg _ hen]

theorem sqReg {r : Nat} (hr : r < 17) : t.reg (RING_SQ_CFG f r) = s.reg (RING_SQ_CFG f r) :=
  h.other _ (sqCfg_ne_cqCfg f c hr) (sqCfg_ne_cqStatus f r c)

/-- The submission rings that post to a completion ring are the same. -/
theorem posters : ((t.enabledSqs f).any fun r => t.cqOf f r == c) = true ↔ ∃ q ∈ s.enabledSqs f, s.cqOf f q = c := by
  have hcq : ∀ r < 17, t.cqOf f r = s.cqOf f r := fun r hr => by simp only [cqOf, fld_of_reg (h.sqReg hr)]
  have hmem : ∀ r, r ∈ t.enabledSqs f ↔ r ∈ s.enabledSqs f := fun r => by
    rw [mem_enabledSqs, mem_enabledSqs]
    exact and_congr_right fun hr => by rw [sqEnabled, bit_of_reg (h.sqReg hr), ← sqEnabled]
  simp only [List.any_eq_true, beq_iff_eq]
  exact exists_congr fun r => ⟨fun ⟨hr, he⟩ => ⟨(hmem r).1 hr, hcq r (mem_enabledSqs.1 hr).1 ▸ he⟩,
    fun ⟨hr, he⟩ => ⟨(hmem r).2 hr, (hcq r (mem_enabledSqs.1 hr).1).trans he⟩⟩

end CqTouched

theorem setCq_reg (s : State) (k : Nat) (x : CplRing) (a : Nat) : (s.setCq k x).reg a = s.reg a := rfl

theorem cqDisable_cfg (s : State) (f c : Nat) :
    (s.cqDisable f c).reg (RING_CQ_CFG f c) = (s.setBit (RING_CQ_CFG f c) RING_CQ_CFG.EN false).reg (RING_CQ_CFG f c) := by
  unfold cqDisable
  dsimp only
  rw [setCq_reg]
  exact reg_setFld_ne _ _ _ (cqCfg_ne_cqStatus f c c)

theorem cqEnabled_cqDisable (s : State) (f c : Nat) : (s.cqDisable f c).cqEnabled f c = false := by
  rw [cqEnabled, bit_of_reg (cqDisable_cfg s f c)]
  exact bit_setBit_self s _ _ _ (by decide)

theorem cqSizeFld_cqDisable (s : State) (f c : Nat) :
    (s.cqDisable f c).fld (RING_CQ_CFG f c) RING_CQ_CFG.SIZE = s.fld (RING_CQ_CFG f c) RING_CQ_CFG.SIZE := by
  rw [fld_of_reg (cqDisable_cfg s f c)]
  exact fld_setFld_apart s _ _ _ _ (by decide) (by decide)

/-- R103: a write to an enabled completion ring keeps SIZE, and disables it unless EN is 1 or a submission ring posts to it. -/
theorem cqCfgWrite_enabled {s : State} {f c : Nat} (h : s.cqEnabled f c = true) (v : W64) :
    (s.cqCfgWrite f c v).fld (RING_CQ_CFG f c) RING_CQ_CFG.SIZE = s.fld (RING_CQ_CFG f c) RING_CQ_CFG.SIZE ∧
    (getFld v RING_CQ_CFG.EN = 1 → (s.cqCfgWrite f c v).cqEnabled f c = true ∧
      (s.cqCfgWrite f c v).cq (ringOf f c) = s.cq (ringOf f c)) ∧
    (getFld v RING_CQ_CFG.EN = 0 → ((s.cqCfgWrite f c v).cqEnabled f c = true ↔ ∃ q ∈ s.enabledSqs f, s.cqOf f q = c)) := by
  unfold cqCfgWrite
  extract_lets a st vec coal w w'
  rw [if_pos h]
  have hw : CqTouched [RING_CQ_CFG.EN, RING_CQ_CFG.SIZE] f c s w :=
    (CqTouched.setCfg s _ (by decide) (by decide)).trans (CqTouched.setCfg _ _ (by decide) (by decide))
  have hw' : CqTouched [RING_CQ_CFG.EN, RING_CQ_CFG.SIZE] f c s w' := by
    refine hw.trans ?_
    unfold w'
    split
    · exact CqTouched.setCfg _ _ (by decide) (by decide)
    · exact CqTouched.setStatus ..
  clear_value w'
  have hon := (hw'.cqEnabled (by decide)).trans h
  have hsize := hw'.cfg RING_CQ_CFG.SIZE (by decide)
  split
  case isTrue hen =>
    exact ⟨hsize, fun _ => ⟨hon, (CqsKept.of_disp hw'.disp).cq _⟩, fun h0 => absurd (h0.symm.trans hen) (by decide)⟩
  case isFalse hen =>
    refine ⟨?_, fun h1 => absurd h1 hen, fun _ => ?_⟩
    all_goals split
    · exact ((CqTouched.setStatus (gs := [RING_CQ_CFG.SIZE]) w' _ _).cfg _ (by decide)).trans hsize
    · exact (cqSizeFld_cqDisable ..).trans hsize
    · next hpost =>
      exact iff_of_true (((CqTouched.setStatus (gs := [RING_CQ_CFG.EN]) w' _ _).cqEnabled (by decide)).trans hon)
        (hw'.posters.1 hpost)
    · next hpost =>
      exact iff_of_false (by rw [cqEnabled_cqDisable]; exact Bool.false_ne_true) fun hex => hpost (hw'.posters.2 hex)

/-- R102, R103: a write of 1 to EN of a disabled completion ring. -/
theorem cqCfgWrite_disabled {s : State} {f c : Nat} (hf : f < 1025) (h : s.cqEnabled f c = false) (v : W64)
    (hen : getFld v RING_CQ_CFG.EN = 1) :
    let ok := 6 ≤ getFld v RING_CQ_CFG.SIZE ∧ getFld v RING_CQ_CFG.SIZE ≤ 16 ∧ vectorOk f (getFld v RING_CQ_CFG.VECTOR) = true
    let t := s.cqCfgWrite f c v
    (ok → t.cqEnabled f c = true ∧ t.fld (RING_CQ_STATUS f c) RING_CQ_STATUS.ERR = 0 ∧ t.cq (ringOf f c) = {} ∧
      t.fld (RING_CQ_STATUS f c) RING_CQ_STATUS.STATE = if s.fnState f = 3 then 3 else 1) ∧
    (¬ ok → t.cqEnabled f c = false ∧ t.fld (RING_CQ_STATUS f c) RING_CQ_STATUS.ERR = 2) := by
  intro ok t
  unfold t cqCfgWrite
  extract_lets a st vec coal x x' w1 size w2 w3 w4
  have hw : CqTouched [RING_CQ_CFG.EN] f c s w2 :=
    (((CqTouched.setCfg s _ (by decide) (by decide)).trans (CqTouched.setCfg _ _ (by decide) (by decide))).trans
      (CqTouched.setCfg _ _ (by decide) (by decide))).trans (CqTouched.setCfg _ _ (by decide) (by decide))
  clear_value w2
  rw [h, if_neg Bool.false_ne_true, if_neg (by rw [hen]; decide)]
  split
  case isTrue hbad =>
    refine ⟨fun ⟨h6, h16, hv⟩ => ?_, fun _ => ⟨?_, ?_⟩⟩
    · rcases hbad with hb | hb | hb
      · exact absurd h6 (Nat.not_le.2 hb)
      · exact absurd h16 (Nat.not_le.2 hb)
      · rw [hv] at hb; exact absurd hb (by decide)
    · exact ((CqTouched.setStatus (gs := [RING_CQ_CFG.EN]) w2 _ _).cqEnabled (by decide)).trans ((hw.cqEnabled (by decide)).trans h)
    · exact fld_setFld_self _ _ _ _ (by decide)
  case isFalse hgood =>
    have hne : ∀ n, HEP_FN_STATE f ≠ ringPage f + n := fnReg_ne_ringPage hf f
    have hstate : w4.fld (HEP_FN_STATE f) HEP_FN_STATE.STATE = s.fld (HEP_FN_STATE f) HEP_FN_STATE.STATE := by
      unfold w4 w3
      have hcfg : HEP_FN_STATE f ≠ RING_CQ_CFG f c := by rw [RING_CQ_CFG, Nat.add_assoc]; exact hne _
      have hst : HEP_FN_STATE f ≠ RING_CQ_STATUS f c := by rw [RING_CQ_STATUS, Nat.add_assoc]; exact hne _
      rw [fld_of_reg (setCq_reg ..), fld_setFld_ne _ _ _ _ hst]
      exact (fld_setFld_ne w2 _ _ _ hcfg).trans (fld_of_reg (hw.other _ hcfg hst) _)
    rw [not_or, not_or, Nat.not_lt, Nat.not_lt] at hgood
    obtain ⟨h6, h16, hv⟩ := hgood
    refine ⟨fun _ => ⟨?_, ?_, ?_, ?_⟩, fun hno => absurd ⟨h6, h16, by simpa using hv⟩ hno⟩
    · rw [cqEnabled, bit_setFld_ne _ _ _ _ (cqCfg_ne_cqStatus f c c), bit_of_reg (setCq_reg ..),
        bit_setFld_ne _ _ _ _ (cqCfg_ne_cqStatus f c c)]
      exact bit_setBit_self w2 _ _ _ (by decide)
    · rw [fld_setFld_apart _ _ _ _ _ (by decide) (by decide), fld_of_reg (setCq_reg ..)]
      exact fld_setFld_self _ _ _ _ (by decide)
    · rw [(CqsKept.of_disp (setFld_disp ..)).cq]
      exact cq_setCq_self ..
    · rw [fld_setFld_self _ _ _ _ (by decide), hstate]
      unfold fnState
      split <;> rfl

end State
end Sys2Proof.Machine
end
section
/-!
SUPPORT. The end of a drain (R105, R106): what it leaves of the rings, of their setup, and of the units that ended.
-/
namespace Sys2Proof.Machine
open Sys2Proof

namespace State

/-- From `s` to `t` the rings and the setup of function `f`'s submission rings are kept, and every unit whose end is issued. -/
structure EndsOnly (f : Nat) (s t : State) : Prop where
  ring : ∀ j, t.ring j = s.ring j
  sqReg : ∀ r < 17, t.reg (RING_SQ_CFG f r) = s.reg (RING_SQ_CFG f r)
  unit? : ∀ k u, s.unit? k = some u → u.complIssued = true → t.unit? k = some u

namespace EndsOnly

variable {f : Nat} {s t u : State}

theorem rfl : EndsOnly f s s := ⟨fun _ => Eq.refl _, fun _ _ => Eq.refl _, fun _ _ h _ => h⟩

theorem trans (h : EndsOnly f s t) (h' : EndsOnly f t u) : EndsOnly f s u where
  ring j := (h'.ring j).trans (h.ring j)
  sqReg r hr := (h'.sqReg r hr).trans (h.sqReg r hr)
  unit? k x hk hx := h'.unit? k x (h.unit? k x hk hx) hx

theorem sqEnabled (h : EndsOnly f s t) {r : Nat} (hr : r < 17) : t.sqEnabled f r = s.sqEnabled f r :=
  bit_of_reg (h.sqReg r hr) _

end EndsOnly

/-- A unit that ends with status 0 sets no event. -/
theorem endUnit_success (s : State) {k : Nat} {u : WorkUnit} (hu : s.unit? k = some u) (hc : u.complIssued = false)
    (result : Nat) : LogOnly (s.setUnit k (s.ended u 0 result)) (s.endUnit k 0 result) := by
  unfold endUnit
  rw [hu]
  dsimp only
  rw [if_neg (by rw [hc]; exact Bool.false_ne_true)]
  exact writeRecord_logOnly ..

theorem endUnit_endsOnly (f : Nat) (s : State) (k result : Nat) : EndsOnly f s (s.endUnit k 0 result) := by
  cases hu : s.unit? k with
  | none => rw [endUnit_none s hu]; exact .rfl
  | some u =>
    cases hc : u.complIssued with
    | true => rw [endUnit_closed s hu hc]; exact .rfl
    | false =>
      have h := endUnit_success s hu hc result
      refine ⟨fun j => ring_of_disp h.disp j, fun r hr => ?_, fun j x hj hx => ?_⟩
      · exact h.reg _ (sqCfg_ne_jnl f hr (by decide) (by decide)) (sqCfg_ne_jnl f hr (by decide) (by decide))
      · have hne : j ≠ k := fun he => by
          rw [he, hu, Option.some.injEq] at hj
          rw [← hj, hc] at hx
          exact Bool.false_ne_true hx
        rw [unit?_of_disp h.disp, unit?_setUnit_ne s _ hne]
        exact hj

theorem setFn_endsOnly (f : Nat) (s : State) (g : Nat) (x : FnState) : EndsOnly f s (s.setFn g x) :=
  ⟨fun _ => rfl, fun _ _ => rfl, fun _ _ h _ => h⟩

theorem cqDisable_endsOnly (f : Nat) (s : State) (c : Nat) : EndsOnly f s (s.cqDisable f c) where
  ring j := by
    unfold cqDisable
    dsimp only
    rw [show ∀ (w : State) (k : Nat) (x : CplRing), (w.setCq k x).ring j = w.ring j from fun _ _ _ => Eq.refl _,
      ring_of_disp (setFld_disp ..)]
    exact ring_of_disp (setFld_disp ..) j
  sqReg r hr := by
    unfold cqDisable
    dsimp only
    rw [setCq_reg, reg_setFld_ne _ _ _ (sqCfg_ne_cqStatus f r c)]
    exact reg_setFld_ne s _ _ (sqCfg_ne_cqCfg f c hr)
  unit? k u hk _ := by
    unfold cqDisable
    dsimp only
    rw [show ∀ (w : State) (j : Nat) (x : CplRing), (w.setCq j x).unit? k = w.unit? k from fun _ _ _ => Eq.refl _,
      unit?_of_disp (setFld_disp ..)]
    exact (unit?_of_disp (setFld_disp ..) k).trans hk

theorem checkSetRings_endsOnly (f : Nat) (s : State) : EndsOnly f s (s.checkSetRings f) := by
  unfold checkSetRings
  dsimp only
  split
  · exact .rfl
  · split
    · exact .rfl
    · refine (EndsOnly.trans ?_ (setFn_endsOnly ..)).trans (endUnit_endsOnly ..)
      refine List.foldlRecOn (motive := fun t : State => EndsOnly f s t) _ _ .rfl fun t ht c _ => ht.trans ?_
      split
      · exact cqDisable_endsOnly ..
      · exact .rfl

theorem checkSetRings_none {s : State} {f : Nat} (h : (s.fn f).setRings = none) : s.checkSetRings f = s := by
  unfold checkSetRings
  dsimp only
  rw [h]

/-! ### The end of a drain -/

theorem setRing_reg (s : State) (k : Nat) (x : Ring) (a : Nat) : (s.setRing k x).reg a = s.reg a := rfl
theorem setRing_fns (s : State) (k : Nat) (x : Ring) : (s.setRing k x).hep.fns = s.hep.fns := rfl
theorem setFld_fns (s : State) (a : Nat) (g : Fld) (n : Nat) : (s.setFld a g n).hep.fns = s.hep.fns := rfl
theorem setRing_units (s : State) (k : Nat) (x : Ring) : (s.setRing k x).disp.units = s.disp.units := rfl

theorem setRing_disp_congr {s t : State} (h : t.disp = s.disp) (k : Nat) (x : Ring) :
    (t.setRing k x).disp = (s.setRing k x).disp := by
  simp only [setRing, h]

/-- A ring after its drain: disabled, and its series kept. -/
def drainEnded (s : State) (f r : Nat) : State :=
  ((s.setBit (RING_SQ_CFG f r) RING_SQ_CFG.EN false).setRing (ringOf f r) { s.ring (ringOf f r) with
    draining := false, drainFor := none, sleeping := false, formatHold := false }).showRing (ringOf f r)

theorem drainDone_none {s : State} {f r : Nat} (h : s.drained f r = true) (hfor : (s.ring (ringOf f r)).drainFor = none) :
    s.drainDone f r = (s.drainEnded f r).checkSetRings f := by
  unfold drainDone
  dsimp only
  rw [h, hfor, if_neg (by decide)]
  rfl

theorem drainDone_some {s : State} {f r k : Nat} (h : s.drained f r = true) (hfor : (s.ring (ringOf f r)).drainFor = some k) :
    s.drainDone f r = ((s.drainEnded f r).endUnit k 0 (s.ring (ringOf f r)).nextAsn).checkSetRings f := by
  unfold drainDone
  dsimp only
  rw [h, hfor, if_neg (by decide)]
  rfl

theorem drainEnded_disp (s : State) (f r : Nat) : (s.drainEnded f r).disp =
    (s.setRing (ringOf f r) { s.ring (ringOf f r) with
      draining := false, drainFor := none, sleeping := false, formatHold := false }).disp := by
  unfold drainEnded
  rw [showRing_disp]
  exact setRing_disp_congr (setFld_disp ..) _ _

theorem drainEnded_ring (s : State) (f r : Nat) : ((s.drainEnded f r).ring (ringOf f r)).draining = false ∧
    ((s.drainEnded f r).ring (ringOf f r)).nextAsn = (s.ring (ringOf f r)).nextAsn := by
  rw [ring_of_disp (drainEnded_disp s f r), ring_setRing_self]
  exact ⟨rfl, rfl⟩

theorem drainEnded_sqEnabled (s : State) (f : Nat) {r : Nat} (hr : r < 17) : (s.drainEnded f r).sqEnabled f r = false := by
  unfold drainEnded
  rw [sqEnabled, bit_of_reg ((showRing_reg _ f hr (sqCfg_ne_sqStatus f r r)).trans (setRing_reg ..))]
  exact bit_setBit_self s _ _ _ (by decide)

theorem drainEnded_fn (s : State) (f r g : Nat) : (s.drainEnded f r).fn g = s.fn g := by
  unfold drainEnded
  rw [fn, showRing_fns, setRing_fns, setBit, setFld_fns, ← fn]

/-- R105, R106: the end of a drain. -/
theorem drainDone_spec {s : State} {f r : Nat} (h : s.drained f r = true) :
    EndsOnly f (s.drainEnded f r) (s.drainDone f r) ∧
    ((s.fn f).setRings = none → (s.ring (ringOf f r)).drainFor = none → (s.drainDone f r).disp.units = s.disp.units) ∧
    (∀ k u, (s.ring (ringOf f r)).drainFor = some k → s.unit? k = some u → u.complIssued = false →
      ∃ v, (s.drainDone f r).unit? k = some v ∧ v.complIssued = true ∧ v.status = 0 ∧ v.result = (s.ring (ringOf f r)).nextAsn) := by
  refine ⟨?_, fun hset hfor => ?_, fun k u hfor hu hc => ?_⟩
  · cases hfor : (s.ring (ringOf f r)).drainFor with
    | none =>
      rw [drainDone_none h hfor]
      exact checkSetRings_endsOnly ..
    | some k =>
      rw [drainDone_some h hfor]
      exact (endUnit_endsOnly ..).trans (checkSetRings_endsOnly ..)
  · rw [drainDone_none h hfor, checkSetRings_none (by rw [drainEnded_fn, hset]), drainEnded_disp, setRing_units]
  · have hu' : (s.drainEnded f r).unit? k = some u := (unit?_of_disp (drainEnded_disp s f r) k).trans hu
    have hend := endUnit_success _ hu' hc (s.ring (ringOf f r)).nextAsn
    rw [drainDone_some h hfor]
    refine ⟨_, (checkSetRings_endsOnly ..).unit? k _ ((unit?_of_disp hend.disp k).trans (unit?_setUnit_self ..)) rfl, rfl, rfl, rfl⟩

end State
end Sys2Proof.Machine
end
section
/-!
R84, R88, R89, R90, R92, R100, R102, R103, R105: what the instructions of the rings do, and the settlement of O10.
-/
namespace Sys2Proof.Machine
open Sys2Proof

namespace State

/-! ### Wake pages -/

/-- R63: a discarded write is counted and logged, and does nothing else. -/
theorem mmioDiscard_spec (s : State) (g bar off : Nat) :
    (s.mmioDiscard g bar off).bit HEP_EVENT HEP_EVENT.MMIO_DISCARD = true ∧
      (s.mmioDiscard g bar off).fld HEP_MMIO_ERR HEP_MMIO_ERR.COUNT = min (s.fld HEP_MMIO_ERR HEP_MMIO_ERR.COUNT + 1) 65535 ∧
      (s.mmioDiscard g bar off).disp = s.disp ∧ (s.mmioDiscard g bar off).out = s.out := by
  have hne : HEP_EVENT ≠ HEP_MMIO_ERR := by decide
  have hcount : ((s.bumpSat HEP_MMIO_ERR HEP_MMIO_ERR.COUNT).setBit HEP_EVENT HEP_EVENT.MMIO_DISCARD).fld HEP_MMIO_ERR
      HEP_MMIO_ERR.COUNT = min (s.fld HEP_MMIO_ERR HEP_MMIO_ERR.COUNT + 1) 65535 := by
    rw [setBit, fld_setFld_ne _ _ _ _ hne.symm, bumpSat, fld_setFld_self _ _ _ _ (by decide)]
    generalize s.fld HEP_MMIO_ERR HEP_MMIO_ERR.COUNT = n
    have hlen : HEP_MMIO_ERR.COUNT.len = 16 := rfl
    rw [hlen]
    omega
  have hevent : ((s.bumpSat HEP_MMIO_ERR HEP_MMIO_ERR.COUNT).setBit HEP_EVENT HEP_EVENT.MMIO_DISCARD).bit HEP_EVENT
      HEP_EVENT.MMIO_DISCARD = true := bit_setBit_self _ _ _ _ (by decide)
  have hdisp : ((s.bumpSat HEP_MMIO_ERR HEP_MMIO_ERR.COUNT).setBit HEP_EVENT HEP_EVENT.MMIO_DISCARD).disp = s.disp := by
    rw [setBit_eq, setFld_disp, bumpSat, setFld_disp]
  have hout : ((s.bumpSat HEP_MMIO_ERR HEP_MMIO_ERR.COUNT).setBit HEP_EVENT HEP_EVENT.MMIO_DISCARD).out = s.out := by
    rw [setBit_eq, setFld_out, bumpSat, setFld_out]
  unfold mmioDiscard
  extract_lets s1 t t'
  change t.bit _ _ = _ at hevent
  change t.fld _ _ = _ at hcount
  change t.disp = _ at hdisp
  change t.out = _ at hout
  unfold t'
  clear_value t
  split
  · exact ⟨hevent, hcount, hdisp, hout⟩
  · refine ⟨?_, ?_, ?_, ?_⟩
    · rw [bit_setFld_ne _ _ _ _ hne, bit_setFld_ne _ _ _ _ hne, bit_setFld_ne _ _ _ _ hne, bit_setBit_ne _ _ _ _ hne]
      exact hevent
    · rw [fld_setFld_apart _ _ _ _ _ (by decide) (by decide), fld_setFld_apart _ _ _ _ _ (by decide) (by decide),
        fld_setFld_apart _ _ _ _ _ (by decide) (by decide), setBit_eq,
        fld_setFld_apart _ _ _ _ _ (by decide) (by decide)]
      exact hcount
    · rw [setFld_disp, setFld_disp, setFld_disp, setBit_eq, setFld_disp, hdisp]
    · rw [setFld_out, setFld_out, setFld_out, setBit_eq, setFld_out, hout]

/-- R88: an offset within a wake page of BAR2 names the page's function. -/
theorem wakePage_alias {f off : Nat} (h : off < 0x1000) : (f * 0x1000 + off) / 0x1000 = f := by omega

/-- R72: during a freeze a write that is well formed does nothing. -/
theorem wakePage_frozen {s : State} {f : Nat} {w : BarWrite} {b : Bool} (hb : b = true → s.fnPresent f = true ∧ w.offset < 0x1000)
    (hok : barWriteOk w = true) (hfrozen : s.bit HEP_FREEZE HEP_FREEZE.FROZEN = true) : s.wakePage f b w = s := by
  cases b with
  | false => simp [wakePage, hok, hfrozen]
  | true =>
    obtain ⟨hp, hoff⟩ := hb rfl
    simp [wakePage, wakePage_alias hoff, hp, hok, hfrozen]

section
variable {s : State} {f : Nat} (hf : f < 1025) {w : BarWrite} {b : Bool}
include hf

/-- R20, R63, R88: a misaligned write, and one at the alias of an absent function, is discarded. -/
theorem wakePage_discarded (hready : s.isReady = true) (hb : b = false → f ≠ 0) (hoff : w.offset < 0x1000)
    (hbad : barWriteOk w = false ∨ (b = true ∧ s.fnPresent f = false)) : ∃ g bar off, s.wakePage f b w = s.mmioDiscard g bar off := by
  cases b with
  | false =>
    have hok : barWriteOk w = false := hbad.resolve_right fun h => Bool.false_ne_true h.1
    simp [wakePage, hready, hb rfl, hok]
  | true =>
    cases hp : s.fnPresent f with
    | false => simp [wakePage, hready, wakePage_alias hoff, hp, Nat.le_of_lt_succ hf]
    | true =>
      have hok : barWriteOk w = false := hbad.resolve_right fun h => Bool.false_ne_true (hp.symm.trans h.2).symm
      simp [wakePage, hready, wakePage_alias hoff, hp, hok]

/-- R88: a well-formed write at offset 0 of the page of an active function is a wake. -/
theorem wakePage_served (hb : b = false → f ≠ 0 ∧ s.pageOpen f w.tee = true) (hp : b = true → s.fnPresent f = true)
    (hok : barWriteOk w = true) (hactive : s.fnActive f = true) (hoff : w.offset = 0) : s.wakePage f b w = s.wake f w := by
  have hfrozen := frozen_of_fnActive hactive
  have hready : s.isReady = true := by
    simp only [fnActive, mayRequest, Bool.and_eq_true] at hactive
    exact hactive.2.1.1.2
  cases b with
  | false => simp [wakePage, hready, hb rfl, hok, hfrozen, hactive, hoff, Nat.le_of_lt_succ hf]
  | true => simp [wakePage, hready, hp rfl, hok, hfrozen, hactive, hoff, Nat.le_of_lt_succ hf]

end

/-- R88: a 4-byte wake reads the Doorbell Area with every enabled ring awake. -/
theorem wake_all {s : State} {f : Nat} {w : BarWrite} (h : w.size = 4) : ∃ u : State, s.wake f w = u.readDoorbell f false ∧
    ∀ q ∈ u.enabledSqs f, (u.ring (ringOf f q)).sleeping = false ∧ (u.ring (ringOf f q)).formatHold = false := by
  refine ⟨((s.restartPoll f).enabledSqs f).foldl (fun s r => s.wakeRing f r) (s.restartPoll f), ?_, fun q hq => ?_⟩
  · rw [wake, if_pos h]
  · rw [foldl_wakeRing_enabledSqs] at hq
    exact foldl_wakeRing_awake f _ _ q hq

/-- R90: an 8-byte wake of a submission ring carries its tail. -/
theorem wake_sq {s : State} {f r : Nat} {w : BarWrite} (h : w.size = 8) (hr : r < 17) (ht : getFld w.value ⟨32, 8⟩ = r)
    (hen : s.sqEnabled f r = true) :
    s.wake f w = ((if olderTail (((s.restartPoll f).wakeRing f r).ring (ringOf f r)) (s.sqSize f r) (getFld w.value ⟨0, 32⟩)
      then (s.restartPoll f).wakeRing f r
      else ((s.restartPoll f).wakeRing f r).newTail f r (getFld w.value ⟨0, 32⟩) false).driveRing f r) := by
  have hen' : (s.restartPoll f).sqEnabled f r = true := hen
  have hsize : ((s.restartPoll f).wakeRing f r).sqSize f r = s.sqSize f r := wakeRing_sqSize ..
  unfold wake
  extract_lets s1 target count all sq
  have ht : target = r := ht
  have hsq : sq s1 r = ((if olderTail ((s1.wakeRing f r).ring (ringOf f r)) (s.sqSize f r) count then s1.wakeRing f r
      else (s1.wakeRing f r).newTail f r count false).driveRing f r) := by
    rw [← hsize]
    exact if_pos hen'
  rw [if_neg (by omega), ht]
  by_cases h16 : r < 16
  · rw [if_pos h16, hsq]
  · have h16 : r = 16 := by omega
    rw [if_neg (by omega), if_pos h16, ← hsq, h16]

/-- R90: an 8-byte wake of a completion ring carries its head. -/
theorem wake_cq {s : State} {f c : Nat} {w : BarWrite} (h : w.size = 8) (hc : c < 17) (ht : getFld w.value ⟨32, 8⟩ = 0x20 + c) :
    s.wake f w = (s.restartPoll f).newHead f c (getFld w.value ⟨0, 32⟩) := by
  unfold wake
  extract_lets s1 target count all sq
  have ht : target = 0x20 + c := ht
  rw [if_neg (by omega), ht, if_neg (by omega), if_neg (by omega)]
  by_cases h16 : c < 16
  · rw [if_pos (by omega), Nat.add_sub_cancel_left]
  · have h16 : c = 16 := by omega
    rw [if_neg (by omega), if_pos (by omega), h16]

end State

/-! ### The instructions of the rings -/

section
variable {s : State} (hl : s.live = true)
include hl

theorem exec_wakePageWrite (f : Fin 1025) (b : Bool) {w : BarWrite} (hw : w.read = false) :
    exec (.wakePageWrite f b w) s = .next (s.wakePage f.val b w) := by
  have hexec : exec (.wakePageWrite f b w) s = execWakePageWrite f b w s := rfl
  rw [hexec, execWakePageWrite, hw, if_neg Bool.false_ne_true, onLive_open hl]

/-- R62, R88: a read of a wake page returns zero. -/
theorem exec_wakePageRead (f : Fin 1025) {b : Bool} {w : BarWrite} (hw : w.read = true) (hready : s.isReady = true)
    (hb : b = false → f.val ≠ 0) : exec (.wakePageWrite f b w) s = .next
      (if b then s.readBar 0 1 false (2 ^ 23) (f.val * 0x1000 + w.offset) w.size (zeros w.size)
        else s.readBar f.val 0 w.tee s.vfBarSize w.offset w.size (zeros w.size)) := by
  have hexec : exec (.wakePageWrite f b w) s = execWakePageWrite f b w s := rfl
  have hgo : ¬ (!s.isReady ∨ (f.val = 0 ∧ !b)) := by
    rw [hready]
    rintro (h | ⟨h0, h⟩)
    · exact Bool.false_ne_true h
    · exact hb (Bool.not_eq_true' _ ▸ h) h0
  rw [hexec, execWakePageWrite, hw, if_pos rfl, onServed_open hl, if_neg hgo]

section
variable (f : Fin 1025)

theorem exec_pollIntervalExpiry : exec (.pollIntervalExpiry f) s = .next
    (if !due s (s.fn f.val).pollAt then s
    else if (s.enabledSqs f.val).all (fun r => (s.ring (ringOf f.val r)).sleeping) then
      s.setFn f.val { s.fn f.val with pollAt := none }
    else (s.readDoorbell f.val true).restartPoll f.val) := by
  have hexec : exec (.pollIntervalExpiry f) s = execPollIntervalExpiry f s := rfl
  rw [hexec, execPollIntervalExpiry, onLive_open hl]

theorem exec_pollIntervalExpiry_early (h : due s (s.fn f.val).pollAt = false) : exec (.pollIntervalExpiry f) s = .next s := by
  rw [exec_pollIntervalExpiry hl, h, if_pos (by decide)]

/-- R90: polls go on while a ring is awake. -/
theorem exec_pollIntervalExpiry_awake (h : due s (s.fn f.val).pollAt = true)
    (hq : ∃ q ∈ s.enabledSqs f.val, (s.ring (ringOf f.val q)).sleeping = false) :
    exec (.pollIntervalExpiry f) s = .next ((s.readDoorbell f.val true).restartPoll f.val) := by
  obtain ⟨q, hmem, hawake⟩ := hq
  rw [exec_pollIntervalExpiry hl, h, if_neg (by decide), if_neg]
  rw [List.all_eq_true]
  exact fun hall => Bool.false_ne_true (hawake.symm.trans (hall q hmem))

/-- R90: and end when every ring sleeps. -/
theorem exec_pollIntervalExpiry_asleep (h : due s (s.fn f.val).pollAt = true)
    (hq : ∀ q ∈ s.enabledSqs f.val, (s.ring (ringOf f.val q)).sleeping = true) :
    exec (.pollIntervalExpiry f) s = .next (s.setFn f.val { s.fn f.val with pollAt := none }) := by
  rw [exec_pollIntervalExpiry hl, h, if_neg (by decide), if_pos (List.all_eq_true.2 hq)]

variable (r c : Fin 17)

theorem exec_completionPost : exec (.completionPost f c) s = .next (s.postCq f.val c.val) := by
  have hexec : exec (.completionPost f c) s = execCompletionPost f c s := rfl
  rw [hexec, execCompletionPost, onLive_open hl]

theorem exec_coalescingTimer : exec (.coalescingTimer f c) s = .next
    (if !s.inDrain f.val ∧ s.fld (RING_CQ_CFG f.val c.val) RING_CQ_CFG.COAL_US ≠ 0 ∧ 0 < (s.cq (ringOf f.val c.val)).unsignalled ∧
        due s ((s.cq (ringOf f.val c.val)).coalAt.map (· + us (s.fld (RING_CQ_CFG f.val c.val) RING_CQ_CFG.COAL_US))) then
      (s.setCq (ringOf f.val c.val) { s.cq (ringOf f.val c.val) with unsignalled := 0, coalAt := none }).sendVector f.val
        (s.fld (RING_CQ_CFG f.val c.val) RING_CQ_CFG.VECTOR)
    else s) := by
  have hexec : exec (.coalescingTimer f c) s = execCoalescingTimer f c s := rfl
  rw [hexec, execCoalescingTimer, onLive_open hl]
  rfl

theorem exec_coalescingTimer_drain (h : s.inDrain f.val = true) : exec (.coalescingTimer f c) s = .next s := by
  rw [exec_coalescingTimer hl, if_neg]
  rw [h]
  exact fun h => Bool.false_ne_true h.1

theorem exec_coalescingTimer_idle
    (h : s.fld (RING_CQ_CFG f.val c.val) RING_CQ_CFG.COAL_US = 0 ∨ (s.cq (ringOf f.val c.val)).unsignalled = 0) :
    exec (.coalescingTimer f c) s = .next s := by
  rw [exec_coalescingTimer hl, if_neg]
  rintro ⟨-, hus, hsig, -⟩
  rcases h with h | h
  · exact hus h
  · exact hsig.ne' h

/-- R100: COAL_US after the first entry not signalled the ring's vector is sent. -/
theorem exec_coalescingTimer_due {t0 : Nat} (hdrain : s.inDrain f.val = false)
    (hus : s.fld (RING_CQ_CFG f.val c.val) RING_CQ_CFG.COAL_US ≠ 0) (hsig : 0 < (s.cq (ringOf f.val c.val)).unsignalled)
    (hat : (s.cq (ringOf f.val c.val)).coalAt = some t0)
    (hdue : t0 + 1000 * s.fld (RING_CQ_CFG f.val c.val) RING_CQ_CFG.COAL_US ≤ s.tb) :
    exec (.coalescingTimer f c) s = .next ((s.setCq (ringOf f.val c.val)
      { s.cq (ringOf f.val c.val) with unsignalled := 0, coalAt := none }).sendVector f.val
        (s.fld (RING_CQ_CFG f.val c.val) RING_CQ_CFG.VECTOR)) := by
  rw [exec_coalescingTimer hl, if_pos]
  refine ⟨by rw [hdrain]; rfl, hus, hsig, ?_⟩
  rw [hat]
  exact decide_eq_true (by rw [us, Nat.mul_comm]; exact hdue)

section
variable (hpage : s.pageOpen f.val (s.tdi f.val == 2) = true)
include hpage

theorem exec_ringSqEnable (v : BitVec 32) : exec (.ringSqEnable f r v) s = .next (s.sqEnable f.val r.val (v.setWidth 64)) := by
  have hexec : exec (.ringSqEnable f r v) s = execRingSqEnable f r v s := rfl
  rw [hexec, execRingSqEnable, onLive_open hl, if_pos hpage]

theorem exec_ringSqDisable : exec (.ringSqDisable f r) s = .next (s.sqDisable f.val r.val) := by
  have hexec : exec (.ringSqDisable f r) s = execRingSqDisable f r s := rfl
  rw [hexec, execRingSqDisable, onLive_open hl, if_pos hpage]

theorem exec_ringCqCfgWrite (v : BitVec 32) : exec (.ringCqCfgWrite f c v) s = .next (s.cqCfgWrite f.val c.val (v.setWidth 64)) := by
  have hexec : exec (.ringCqCfgWrite f c v) s = execRingCqCfgWrite f c v s := rfl
  rw [hexec, execRingCqCfgWrite, onLive_open hl, if_pos hpage]

end

theorem exec_ringSqDisable_disabled (h : s.sqEnabled f.val r.val = false) : exec (.ringSqDisable f r) s = .next s := by
  have hexec : exec (.ringSqDisable f r) s = execRingSqDisable f r s := rfl
  have hkept : s.sqDisable f.val r.val = s := by
    rw [State.sqDisable, h]
    exact if_neg fun h => Bool.false_ne_true h.1
  rw [hexec, execRingSqDisable, onLive_open hl, hkept, ite_self]

theorem exec_drainComplete : exec (.drainComplete f r) s = .next (s.drainDone f.val r.val) := by
  have hexec : exec (.drainComplete f r) s = execDrainComplete f r s := rfl
  rw [hexec, execDrainComplete, onLive_open hl]

theorem exec_drainComplete_early (h : s.drained f.val r.val = false) : exec (.drainComplete f r) s = .next s := by
  rw [exec_drainComplete hl, State.drainDone]
  dsimp only
  rw [h, if_pos (by decide)]

end

end

/-- Settles O10: each clause is the rule of one instruction. -/
theorem ringSetupAndPolling : Obligations.RingSetupAndPolling := by
  unfold Obligations.RingSetupAndPolling
  intro s f r c hl n rk ck frozen sq page
  have hf := f.isLt
  have hr := r.isLt
  have hc := c.isLt
  refine ⟨?_, ?_, ?_, fun w b hw hready hb => exec_wakePageRead hl f hw hready hb, fun t p => State.newTail_ring s n r.val t p,
    exec_pollIntervalExpiry_early hl f, exec_pollIntervalExpiry_awake hl f, exec_pollIntervalExpiry_asleep hl f,
    ⟨_, exec_completionPost hl f c, State.postCq_within hc⟩, exec_completionPost hl f c, ?_, ?_, exec_coalescingTimer_drain hl f c,
    ⟨exec_coalescingTimer_idle hl f c, ?_⟩, ?_, ?_, ?_, exec_ringSqDisable_disabled hl f r, ?_, exec_drainComplete_early hl f r, ?_⟩
  · intro w b hw hready hb hoff hbad
    obtain ⟨g, bar, off, hdiscard⟩ := State.wakePage_discarded hf hready hb hoff hbad
    exact ⟨_, (exec_wakePageWrite hl f b hw).trans (congrArg _ hdiscard), State.mmioDiscard_spec ..⟩
  · intro w b hw hb hok hfrozen
    exact (exec_wakePageWrite hl f b hw).trans (congrArg _ (State.wakePage_frozen hb hok hfrozen))
  · intro w b hw hb hp hok hactive hoff
    rw [exec_wakePageWrite hl f b hw, State.wakePage_served hf hb hp hok hactive hoff]
    refine ⟨fun h4 => ?_, fun h8 ht hen => congrArg _ (State.wake_sq h8 hr ht hen), fun h8 ht => congrArg _ (State.wake_cq h8 hc ht)⟩
    obtain ⟨u, hu, hawake⟩ := State.wake_all (s := s) (f := n) h4
    exact ⟨u, congrArg _ hu, hawake⟩
  · intro hactive
    rw [exec_completionPost hl, State.postCq_inactive _ hactive]
  · intro asn u k q slot e hposters hold hq hu hdone hroom hslot hrec hissued
    obtain ⟨⟨rest, hout⟩, hpost⟩ := State.postCq_one hposters hold hq hu hdone hroom hslot hrec hissued
    exact ⟨_, rest, exec_completionPost hl f c, hout, hpost⟩
  · intro t0 hdrain hus hsig hat hdue
    exact ⟨_, exec_coalescingTimer_due hl f c hdrain hus hsig hat hdue, rfl⟩
  · intro hpage hen v
    rw [exec_ringSqEnable hl f r hpage, State.sqEnable_enabled _ hen]
  · intro hpage hen v
    obtain ⟨herr, hsize, hpart, hon⟩ := State.sqEnable_regs (v.setWidth 64) hen hr
    obtain ⟨htaken, hrefused⟩ := State.sqEnable_disp (v.setWidth 64) hen
    obtain ⟨hbad, howned⟩ := State.sqWritten_err (s := s) (f := n) (r := r.val) (v.setWidth 64)
    refine ⟨_, exec_ringSqEnable hl f r hpage v, ?_⟩
    intro size part err
    have herr : err = (s.sqWritten n r.val (v.setWidth 64)).sqErr n r.val := herr
    rw [herr]
    exact ⟨hon, hsize, hpart, hbad, howned, htaken, hrefused⟩
  · intro hpage hen hdrain
    have hstart : s.sqDisable n r.val = s.startDrain n r.val none := by
      rw [State.sqDisable, if_pos ⟨hen, by rw [hdrain]; rfl⟩]
    have hdraining := (State.startDrain_ring s n r.val none).1
    exact ⟨_, (exec_ringSqDisable hl f r hpage).trans (congrArg _ hstart), hdraining,
      (State.startDrain_sqEnabled s n hr none).trans hen, State.mayFetch_draining hdraining,
      State.startDrain_fetched s n r.val none, State.startDrain_units ..⟩
  · intro hpage v
    refine ⟨_, exec_ringCqCfgWrite hl f c hpage v, ?_⟩
    exact ⟨fun hoff hen => State.cqCfgWrite_disabled hf hoff _ hen, fun hon => State.cqCfgWrite_enabled hon _⟩
  · intro hdrained
    obtain ⟨hends, hunits, hadmin⟩ := State.drainDone_spec hdrained
    obtain ⟨hdraining, hasn⟩ := State.drainEnded_ring s n r.val
    refine ⟨_, exec_drainComplete hl f r, (hends.sqEnabled hr).trans (State.drainEnded_sqEnabled s n hr), ?_, ?_, hunits, hadmin⟩
    · rw [hends.ring]; exact hdraining
    · rw [hends.ring]; exact hasn

end Sys2Proof.Machine
end
